-- ==== Sys2Proof/Word.lean ====
section
/-!
DEFINITION. The word types of the model and the type of a sparse table.
-/
set_option Elab.async false

namespace Sys2Proof

/-- A byte of a store, a page or a frame. -/
abbrev Byte := BitVec 8

/-- A 32-bit register, store word or accumulator. -/
abbrev W := BitVec 32

/-- Meridian time or another 64-bit count of nanoseconds (rule R8). -/
abbrev W64 := BitVec 64

/-- A sparse table: pairs of key and value, keys strictly rising, no value equal to what an unlisted key reads as. -/
abbrev FMap (α : Type) := List (Nat × α)

end Sys2Proof
end

