-- ==== Sys2Proof/Syntax.lean ====
section
/-!
DEFINITION. The commands of the block: one constructor per row of spec/opcode_table.json, with the operands its rule gives it.
-/
namespace Sys2Proof

/-- What both safety channels saw around the low pulse of one test-pulse output (R320): bit n of each word is FIOn, at the last sample
of the pulse, and 1 where the samples just before and just after it both read 1. -/
structure Pulse where
  tp : BitVec 2
  lastA : W
  lastB : W
  aroundA : W
  aroundB : W
  deriving DecidableEq, Repr

/-- The pins of one safety output as a channel's comparators read them. SQnH: 0 at or below 5 V, 1 up to 12 V, 2 above 12 V, 3 at or
above VF - 2 V. SQnL: 0 at or below 2 V, 1 up to 12 V, 2 above 12 V (R329). -/
structure SqPins where
  high : BitVec 2
  low : BitVec 2
  deriving DecidableEq, Repr

/-- A command, an event or an engine instruction (spec/opcode_table.json). -/
inductive Instr where
  /-- `REGISTER_WRITE` (R40). A host or service-port write to a register that has no row of its own is checked for size, type, range and reachability and then applied, posted or refused. -/
  | registerWrite (src : BitVec 10) (off : BitVec 28) (size : BitVec 4) (full : Bool) (data : W64)
  /-- `COUNTER_LOW_READ` (R41). A read of the low word of a live 64-bit counter latches its high word for the requesting function. -/
  | counterLowRead (src : BitVec 10) (off : BitVec 28)
  /-- `VF_FLR` (R32). A function-level reset of a VF resets its PCIe configuration, MSI-X table, ACC_ERR group and high-word latch. -/
  | vfFlr (k : BitVec 10)
  /-- `PF0_RESET` (R32). An FLR or hot reset of PF0, or a PCIe link down, resets only the endpoint state and ends PF0's grant. -/
  | pf0Reset
  /-- `PCIE_PERST` (R451). PCIE_PERST_N held low for 1 µs or more puts the PCIe endpoint into block reset. -/
  | pciePerst
  /-- `STORE_WINDOW_WRITE` (R37). A host write through PF0 BAR2 is serialised with engine and mover accesses at the store, and is refused for a live program page or a page state that forbids it. -/
  | storeWindowWrite (off : BitVec 28) (data : List Byte)
  /-- `IMAGE_WINDOW_WRITE` (R38). A VF write to the image window is applied to the partition's image, or refused when it falls beyond the allocation or the partition is absent. -/
  | imageWindowWrite (vf : BitVec 10) (off : BitVec 28) (data : List Byte)
  /-- `RWP_WRITE` (R48). A write to an RWP register of a far block is posted and sets BUSY, or is refused when BUSY is set or the block is unreachable. -/
  | rwpWrite (src : BitVec 10) (off : BitVec 28) (data : W)
  /-- `RWP_APPLIED` (R48). The far block applies a posted write and BUSY clears. -/
  | rwpApplied (inst : BitVec 8) (sub : BitVec 15) (found : BitVec 2) (dt : Nat)
  /-- `FAR_READ_COMPLETE` (R50). A non-posted read of an RWP register completes after any pending write has applied. -/
  | farReadComplete (src : BitVec 10) (off : BitVec 28) (sub : BitVec 15)
  /-- `SEQ_WRITE` (R46). A write to a status group's SEQ clears the group when the value matches and is ignored otherwise. -/
  | seqWrite (src : BitVec 10) (off : BitVec 28) (data : W)
  /-- `UPDATE_FIO` (R52). The FIO bit of GCTL_UPDATE takes a snapshot of the field-channel group's pending values. -/
  | updateFio (src : BitVec 10) (data : W)
  /-- `UPDATE_CAN` (R52). A CAN bit of GCTL_UPDATE takes a snapshot of that controller's pending configuration. -/
  | updateCan (src : BitVec 10) (n : BitVec 4) (data : W)
  /-- `UPDATE_WDG` (R52). The WDG bit of GCTL_UPDATE takes a snapshot of the watchdog group's pending periods. -/
  | updateWdg (src : BitVec 10) (data : W)
  /-- `UPDATE_RTC` (R52). The RTC bit of GCTL_UPDATE takes a snapshot of the RTC group's pending values. -/
  | updateRtc (src : BitVec 10) (data : W)
  /-- `FIO_STROBE_APPLY` (R313). The FIO snapshot applies to all 32 channels and TP0–TP3 at one F-die clock edge, including owner changes. -/
  | fioStrobeApply (dt : Nat)
  /-- `CAN_STROBE_APPLY` (R346). The CANn snapshot is checked and applies at the controller's next bus-idle point, or is refused with a CAN_CFGERR reason. -/
  | canStrobeApply (n : BitVec 4) (dt : Nat)
  /-- `WDG_STROBE_APPLY` (R399). The watchdog snapshot arms changed periods at one CLK_PER edge. -/
  | wdgStrobeApply (dt : Nat)
  /-- `RTC_STROBE_APPLY` (R292). The RTC snapshot of trim, measurement configuration and alarms applies at the next 32.768 kHz edge. -/
  | rtcStrobeApply (dt : Nat)
  /-- `SURVEY` (R57). GCTL_SURVEY.GO captures every L-die counter at one CLK_FAB edge into its holding copy. -/
  | survey (src : BitVec 10)
  /-- `SURVEY_FDIE_CAPTURE` (R58). The F-die counters are captured at the first F-die edge after the command arrives, and BUSY clears. -/
  | surveyFdieCapture (dt : Nat)
  /-- `ALIAS_WRITE` (R60). A bit-alias write changes one bit as an indivisible read-modify-write, or is refused for WS, WO and RWP bits. -/
  | aliasWrite (src : BitVec 10) (off : BitVec 28) (bit : Bool)
  /-- `LD` (R72). LD loads a bit into LR. -/
  | opLd (e : BitVec 7) (mode : BitVec 2) (s : BitVec 6) (w1 : BitVec 14)
  /-- `LDN` (R72). LDN loads the complement of a bit into LR. -/
  | opLdn (e : BitVec 7) (mode : BitVec 2) (s : BitVec 6) (w1 : BitVec 14)
  /-- `AND` (R72). AND combines LR with a bit. -/
  | opAnd (e : BitVec 7) (mode : BitVec 2) (s : BitVec 6) (w1 : BitVec 14)
  /-- `ANDN` (R72). ANDN combines LR with the complement of a bit. -/
  | opAndn (e : BitVec 7) (mode : BitVec 2) (s : BitVec 6) (w1 : BitVec 14)
  /-- `OR` (R72). OR combines LR with a bit. -/
  | opOr (e : BitVec 7) (mode : BitVec 2) (s : BitVec 6) (w1 : BitVec 14)
  /-- `ORN` (R72). ORN combines LR with the complement of a bit. -/
  | opOrn (e : BitVec 7) (mode : BitVec 2) (s : BitVec 6) (w1 : BitVec 14)
  /-- `XOR` (R72). XOR combines LR with a bit. -/
  | opXor (e : BitVec 7) (mode : BitVec 2) (s : BitVec 6) (w1 : BitVec 14)
  /-- `XORN` (R72). XORN combines LR with the complement of a bit. -/
  | opXorn (e : BitVec 7) (mode : BitVec 2) (s : BitVec 6) (w1 : BitVec 14)
  /-- `ST` (R70). ST stores LR into a bit by a read-modify-write of its word. -/
  | opSt (e : BitVec 7) (mode : BitVec 2) (s : BitVec 6) (w1 : BitVec 14)
  /-- `STN` (R70). STN stores the complement of LR into a bit. -/
  | opStn (e : BitVec 7) (mode : BitVec 2) (s : BitVec 6) (w1 : BitVec 14)
  /-- `SET` (R70). SET sets a bit when LR is 1. -/
  | opSet (e : BitVec 7) (mode : BitVec 2) (s : BitVec 6) (w1 : BitVec 14)
  /-- `RST` (R70). RST clears a bit when LR is 1. -/
  | opRst (e : BitVec 7) (mode : BitVec 2) (s : BitVec 6) (w1 : BitVec 14)
  /-- `NOT` (R93). NOT complements LR. -/
  | opNot (e : BitVec 7)
  /-- `SETL` (R93). SETL sets LR to 1. -/
  | opSetl (e : BitVec 7)
  /-- `CLRL` (R93). CLRL sets LR to 0. -/
  | opClrl (e : BitVec 7)
  /-- `BPSH` (R76). BPSH pushes LR on the branch stack, or traps at depth 16. -/
  | opBpsh (e : BitVec 7)
  /-- `BRD` (R76). BRD reads the branch-stack top into LR. -/
  | opBrd (e : BitVec 7)
  /-- `BRDA` (R76). BRDA ANDs the branch-stack top into LR. -/
  | opBrda (e : BitVec 7)
  /-- `BRDO` (R76). BRDO ORs the branch-stack top into LR. -/
  | opBrdo (e : BitVec 7)
  /-- `BPOP` (R76). BPOP pops the branch stack into LR. -/
  | opBpop (e : BitVec 7)
  /-- `BPPA` (R76). BPPA pops the branch stack and ANDs it into LR. -/
  | opBppa (e : BitVec 7)
  /-- `BPPO` (R76). BPPO pops the branch stack and ORs it into LR. -/
  | opBppo (e : BitVec 7)
  /-- `BDRP` (R76). BDRP discards the branch-stack top. -/
  | opBdrp (e : BitVec 7)
  /-- `LRA` (R93). LRA copies LR into A zero-extended. -/
  | opLra (e : BitVec 7)
  /-- `ALR` (R93). ALR sets LR to whether A is non-zero. -/
  | opAlr (e : BitVec 7)
  /-- `EDP` (R80). EDP detects a rising edge of LR against its memory bit. -/
  | opEdp (e : BitVec 7) (mode : BitVec 2) (s : BitVec 6) (w1 : BitVec 14)
  /-- `EDN` (R80). EDN detects a falling edge of LR against its memory bit. -/
  | opEdn (e : BitVec 7) (mode : BitVec 2) (s : BitVec 6) (w1 : BitVec 14)
  /-- `TON` (R80). TON evaluates an on-delay timer block with the step of R78. -/
  | opTon (e : BitVec 7) (mode : BitVec 2) (s : BitVec 6) (w1 : BitVec 14)
  /-- `TOF` (R80). TOF evaluates an off-delay timer block. -/
  | opTof (e : BitVec 7) (mode : BitVec 2) (s : BitVec 6) (w1 : BitVec 14)
  /-- `TP` (R80). TP evaluates a pulse timer block. -/
  | opTp (e : BitVec 7) (mode : BitVec 2) (s : BitVec 6) (w1 : BitVec 14)
  /-- `TRS` (R80). TRS resets a timer block when LR is 1. -/
  | opTrs (e : BitVec 7) (mode : BitVec 2) (s : BitVec 6) (w1 : BitVec 14)
  /-- `CTU` (R80). CTU counts up on a rising LR. -/
  | opCtu (e : BitVec 7) (mode : BitVec 2) (s : BitVec 6) (w1 : BitVec 14)
  /-- `CTD` (R80). CTD counts down on a rising LR. -/
  | opCtd (e : BitVec 7) (mode : BitVec 2) (s : BitVec 6) (w1 : BitVec 14)
  /-- `CRS` (R80). CRS resets a counter to zero when LR is 1. -/
  | opCrs (e : BitVec 7) (mode : BitVec 2) (s : BitVec 6) (w1 : BitVec 14)
  /-- `CLD` (R80). CLD loads a counter with its preset when LR is 1. -/
  | opCld (e : BitVec 7) (mode : BitVec 2) (s : BitVec 6) (w1 : BitVec 14)
  /-- `ADD` (R81). ADD adds a word to A and sets the flags. -/
  | opAdd (e : BitVec 7) (mode : BitVec 2) (s : BitVec 6) (w1 : BitVec 14)
  /-- `SUB` (R81). SUB subtracts a word from A and sets the flags. -/
  | opSub (e : BitVec 7) (mode : BitVec 2) (s : BitVec 6) (w1 : BitVec 14)
  /-- `ADC` (R81). ADC adds a word and carry to A. -/
  | opAdc (e : BitVec 7) (mode : BitVec 2) (s : BitVec 6) (w1 : BitVec 14)
  /-- `SBC` (R81). SBC subtracts a word and borrow from A. -/
  | opSbc (e : BitVec 7) (mode : BitVec 2) (s : BitVec 6) (w1 : BitVec 14)
  /-- `MUL` (R81). MUL multiplies A by a word, keeping the low 32 bits. -/
  | opMul (e : BitVec 7) (mode : BitVec 2) (s : BitVec 6) (w1 : BitVec 14)
  /-- `DIV` (R82). DIV divides A by a word, with the zero-divisor results or trap 0x0A. -/
  | opDiv (e : BitVec 7) (mode : BitVec 2) (s : BitVec 6) (w1 : BitVec 14)
  /-- `MOD` (R82). MOD forms the remainder of A by a word. -/
  | opMod (e : BitVec 7) (mode : BitVec 2) (s : BitVec 6) (w1 : BitVec 14)
  /-- `ANDW` (R81). ANDW ANDs a word into A. -/
  | opAndw (e : BitVec 7) (mode : BitVec 2) (s : BitVec 6) (w1 : BitVec 14)
  /-- `ORW` (R81). ORW ORs a word into A. -/
  | opOrw (e : BitVec 7) (mode : BitVec 2) (s : BitVec 6) (w1 : BitVec 14)
  /-- `XORW` (R81). XORW exclusive-ORs a word into A. -/
  | opXorw (e : BitVec 7) (mode : BitVec 2) (s : BitVec 6) (w1 : BitVec 14)
  /-- `NEG` (R81). NEG negates A. -/
  | opNeg (e : BitVec 7)
  /-- `CPL` (R81). CPL complements A. -/
  | opCpl (e : BitVec 7)
  /-- `ADDK` (R81). ADDK adds a sign-extended immediate to A. -/
  | opAddk (e : BitVec 7) (imm : BitVec 14)
  /-- `ANDK` (R81). ANDK ANDs a zero-extended immediate into A. -/
  | opAndk (e : BitVec 7) (imm : BitVec 14)
  /-- `ORK` (R81). ORK ORs a zero-extended immediate into A. -/
  | opOrk (e : BitVec 7) (imm : BitVec 14)
  /-- `XORK` (R81). XORK exclusive-ORs a zero-extended immediate into A. -/
  | opXork (e : BitVec 7) (imm : BitVec 14)
  /-- `CLRS` (R97). CLRS clears the sticky flags when its result lands. -/
  | opClrs (e : BitVec 7)
  /-- `SHL` (R83). SHL shifts A left by a word's count. -/
  | opShl (e : BitVec 7) (mode : BitVec 2) (s : BitVec 6) (w1 : BitVec 14)
  /-- `SHR` (R83). SHR shifts A right with zero fill. -/
  | opShr (e : BitVec 7) (mode : BitVec 2) (s : BitVec 6) (w1 : BitVec 14)
  /-- `SAR` (R83). SAR shifts A right with sign fill. -/
  | opSar (e : BitVec 7) (mode : BitVec 2) (s : BitVec 6) (w1 : BitVec 14)
  /-- `ROL` (R83). ROL rotates A left. -/
  | opRol (e : BitVec 7) (mode : BitVec 2) (s : BitVec 6) (w1 : BitVec 14)
  /-- `ROR` (R83). ROR rotates A right. -/
  | opRor (e : BitVec 7) (mode : BitVec 2) (s : BitVec 6) (w1 : BitVec 14)
  /-- `SHLK` (R83). SHLK shifts A left by an immediate count. -/
  | opShlk (e : BitVec 7) (imm : BitVec 14)
  /-- `SHRK` (R83). SHRK shifts A right with zero fill by an immediate count. -/
  | opShrk (e : BitVec 7) (imm : BitVec 14)
  /-- `SARK` (R83). SARK shifts A right with sign fill by an immediate count. -/
  | opSark (e : BitVec 7) (imm : BitVec 14)
  /-- `ROLK` (R83). ROLK rotates A left by an immediate count. -/
  | opRolk (e : BitVec 7) (imm : BitVec 14)
  /-- `RORK` (R83). RORK rotates A right by an immediate count. -/
  | opRork (e : BitVec 7) (imm : BitVec 14)
  /-- `FADD` (R84). FADD adds a binary32 word to A. -/
  | opFadd (e : BitVec 7) (mode : BitVec 2) (s : BitVec 6) (w1 : BitVec 14)
  /-- `FSUB` (R84). FSUB subtracts a binary32 word from A. -/
  | opFsub (e : BitVec 7) (mode : BitVec 2) (s : BitVec 6) (w1 : BitVec 14)
  /-- `FMUL` (R84). FMUL multiplies A by a binary32 word. -/
  | opFmul (e : BitVec 7) (mode : BitVec 2) (s : BitVec 6) (w1 : BitVec 14)
  /-- `FDIV` (R84). FDIV divides A by a binary32 word. -/
  | opFdiv (e : BitVec 7) (mode : BitVec 2) (s : BitVec 6) (w1 : BitVec 14)
  /-- `FCMP` (R85). FCMP compares A with a binary32 word and sets one of Z, N, C and OV. -/
  | opFcmp (e : BitVec 7) (mode : BitVec 2) (s : BitVec 6) (w1 : BitVec 14)
  /-- `ITOF` (R84). ITOF converts A from integer to binary32. -/
  | opItof (e : BitVec 7)
  /-- `FTOI` (R84). FTOI converts A from binary32 to a saturated integer. -/
  | opFtoi (e : BitVec 7)
  /-- `FNEG` (R84). FNEG flips the sign bit of A. -/
  | opFneg (e : BitVec 7)
  /-- `FABS` (R84). FABS clears the sign bit of A. -/
  | opFabs (e : BitVec 7)
  /-- `CMP` (R86). CMP sets the flags of A minus a word without writing A. -/
  | opCmp (e : BitVec 7) (mode : BitVec 2) (s : BitVec 6) (w1 : BitVec 14)
  /-- `CMPK` (R86). CMPK sets the flags of A minus an immediate. -/
  | opCmpk (e : BitVec 7) (imm : BitVec 14)
  /-- `CND` (R93). CND copies a condition of F into LR. -/
  | opCnd (e : BitVec 7) (cc : BitVec 4)
  /-- `TOS` (R93). TOS copies OS into LR. -/
  | opTos (e : BitVec 7)
  /-- `TDZ` (R93). TDZ copies DZ into LR. -/
  | opTdz (e : BitVec 7)
  /-- `TNV` (R93). TNV copies NV into LR. -/
  | opTnv (e : BitVec 7)
  /-- `TNX` (R93). TNX copies NX into LR. -/
  | opTnx (e : BitVec 7)
  /-- `JMP` (R87). JMP jumps to a target after its delay slot. -/
  | opJmp (e : BitVec 7) (mode : BitVec 2) (s : BitVec 6) (w1 : BitVec 14)
  /-- `JC` (R87). JC jumps when LR is 1, after its delay slot. -/
  | opJc (e : BitVec 7) (mode : BitVec 2) (s : BitVec 6) (w1 : BitVec 14)
  /-- `CALL` (R470). CALL pushes the return address and jumps after its delay slot. -/
  | opCall (e : BitVec 7) (mode : BitVec 2) (s : BitVec 6) (w1 : BitVec 14)
  /-- `RET` (R470). RET pops the return address and jumps after its delay slot. -/
  | opRet (e : BitVec 7)
  /-- `JMPX` (R87). JMPX jumps to X after its delay slot. -/
  | opJmpx (e : BitVec 7)
  /-- `CALLX` (R87). CALLX calls the address in X after its delay slot. -/
  | opCallx (e : BitVec 7)
  /-- `END` (R89). END ends the pass once every result in flight has landed. -/
  | opEnd (e : BitVec 7)
  /-- `NOP` (R93). NOP does nothing for one clock. -/
  | opNop (e : BitVec 7)
  /-- `LDA` (R72). LDA loads a word into A. -/
  | opLda (e : BitVec 7) (mode : BitVec 2) (s : BitVec 6) (w1 : BitVec 14)
  /-- `STA` (R98). STA stores A into a word. -/
  | opSta (e : BitVec 7) (mode : BitVec 2) (s : BitVec 6) (w1 : BitVec 14)
  /-- `LDI` (R72). LDI loads an image word into A. -/
  | opLdi (e : BitVec 7) (mode : BitVec 2) (s : BitVec 6) (w1 : BitVec 14)
  /-- `STI` (R90). STI stores A into an image word. -/
  | opSti (e : BitVec 7) (mode : BitVec 2) (s : BitVec 6) (w1 : BitVec 14)
  /-- `LDX` (R72). LDX loads X from a word. -/
  | opLdx (e : BitVec 7) (mode : BitVec 2) (s : BitVec 6) (w1 : BitVec 14)
  /-- `STX` (R98). STX stores X into a word. -/
  | opStx (e : BitVec 7) (mode : BitVec 2) (s : BitVec 6) (w1 : BitVec 14)
  /-- `LDY` (R72). LDY loads Y from a word. -/
  | opLdy (e : BitVec 7) (mode : BitVec 2) (s : BitVec 6) (w1 : BitVec 14)
  /-- `STY` (R98). STY stores Y into a word. -/
  | opSty (e : BitVec 7) (mode : BitVec 2) (s : BitVec 6) (w1 : BitVec 14)
  /-- `TAX` (R96). TAX copies A into X. -/
  | opTax (e : BitVec 7)
  /-- `TXA` (R96). TXA copies X into A. -/
  | opTxa (e : BitVec 7)
  /-- `TAY` (R96). TAY copies A into Y. -/
  | opTay (e : BitVec 7)
  /-- `TYA` (R96). TYA copies Y into A. -/
  | opTya (e : BitVec 7)
  /-- `TXY` (R96). TXY copies X into Y. -/
  | opTxy (e : BitVec 7)
  /-- `TYX` (R96). TYX copies Y into X. -/
  | opTyx (e : BitVec 7)
  /-- `INX` (R96). INX increments X. -/
  | opInx (e : BitVec 7)
  /-- `DEX` (R96). DEX decrements X. -/
  | opDex (e : BitVec 7)
  /-- `INY` (R96). INY increments Y. -/
  | opIny (e : BitVec 7)
  /-- `DEY` (R96). DEY decrements Y. -/
  | opDey (e : BitVec 7)
  /-- `LDK` (R96). LDK loads a sign-extended immediate into A. -/
  | opLdk (e : BitVec 7) (imm : BitVec 14)
  /-- `LDKS` (R96). LDKS shifts A left by 14 bits and adds an immediate. -/
  | opLdks (e : BitVec 7) (imm : BitVec 14)
  /-- `LXK` (R96). LXK loads an immediate into X. -/
  | opLxk (e : BitVec 7) (imm : BitVec 14)
  /-- `LXKS` (R96). LXKS shifts X and adds an immediate. -/
  | opLxks (e : BitVec 7) (imm : BitVec 14)
  /-- `AXK` (R96). AXK adds a sign-extended immediate to X. -/
  | opAxk (e : BitVec 7) (imm : BitVec 14)
  /-- `LYK` (R96). LYK loads an immediate into Y. -/
  | opLyk (e : BitVec 7) (imm : BitVec 14)
  /-- `LYKS` (R96). LYKS shifts Y and adds an immediate. -/
  | opLyks (e : BitVec 7) (imm : BitVec 14)
  /-- `AYK` (R96). AYK adds a sign-extended immediate to Y. -/
  | opAyk (e : BitVec 7) (imm : BitVec 14)
  /-- `TREL` (R127). TREL returns the pass's release stamp in µs. -/
  | opTrel (e : BitVec 7)
  /-- `TMERL` (R91). TMERL returns Meridian bits 31–0 and latches the high word. -/
  | opTmerl (e : BitVec 7)
  /-- `TMERH` (R91). TMERH returns the high word latched by the task's last TMERL in the pass. -/
  | opTmerh (e : BitVec 7)
  /-- `TCYC` (R91). TCYC returns the length of the task's previous pass. -/
  | opTcyc (e : BitVec 7)
  /-- `CANRD` (R352). CANRD copies a received CAN object into a buffer and clears its FRESH and REPL. -/
  | opCanrd (e : BitVec 7)
  /-- `CANTX` (R355). CANTX loads a transmit mailbox and requests transmission. -/
  | opCantx (e : BitVec 7)
  /-- `CANST` (R360). CANST returns a controller's status word. -/
  | opCanst (e : BitVec 7)
  /-- `CADRD` (R409). CADRD reads a word of the partition's caddy allocation. -/
  | opCadrd (e : BitVec 7)
  /-- `CADWR` (R409). CADWR writes a word of the partition's caddy allocation. -/
  | opCadwr (e : BitVec 7)
  /-- `EVREC` (R416). EVREC asks the event recorder to admit a partition record. -/
  | opEvrec (e : BitVec 7)
  /-- `IMGRQ` (R91). IMGRQ copies a module slot's newest block into the input image. -/
  | opImgrq (e : BitVec 7)
  /-- `IMGWR` (R91). IMGWR builds and queues a block of an OUT descriptor from the output image. -/
  | opImgwr (e : BitVec 7)
  /-- `IRQ` (R39). IRQ raises VF vector 4 to 7 of the partition. -/
  | opIrq (e : BitVec 7)
  /-- `SFRD` (R339). SFRD returns the states of the safety functions assigned to the partition. -/
  | opSfrd (e : BitVec 7)
  /-- `SFRST` (R340). SFRST passes a reset request for an assigned safety function. -/
  | opSfrst (e : BitVec 7)
  /-- `BRK` (R148). BRK puts the partition into Hold when Hold is permitted. -/
  | opBrk (e : BitVec 7)
  /-- `CUSTOMER_INSTRUCTION` (R108). A page-0x3F instruction runs its decode-table entry's micro-operations and commits all its writes in its last clock. -/
  | opCustomer (e : BitVec 7) (mode : BitVec 2) (s : BitVec 6) (w1 : BitVec 14)
  /-- `ILLEGAL_INSTRUCTION` (R73). A word 0 with an unassigned opcode, page, selector or MODE raises trap 0x05. -/
  | opIllegal (e : BitVec 7) (w0 : BitVec 14)
  /-- `PREEMPTION` (R132). A Ready task that outranks the running task takes its engine at the next permitted boundary. -/
  | preemption (e : BitVec 7)
  /-- `TASK_SWITCH_DONE` (R133). After 40 engine clocks the incoming task's context is restored and it issues. -/
  | taskSwitchDone (e : BitVec 7)
  /-- `DT_SWITCH` (R117). DT_SWITCH.GO checks the idle decode-table bank and sets PENDING or refuses. -/
  | dtSwitch (src : BitVec 10)
  /-- `DT_SWITCH_APPLY` (R118). At the next Graticule tick the conflict check is repeated and the idle bank becomes active. -/
  | dtSwitchApply (dt : Nat)
  /-- `TASK_RELEASE` (R124). At the Graticule tick of a grid instant a periodic task is released, stamped, and its input copy starts. -/
  | taskRelease (p : BitVec 9) (t : BitVec 3) (dt : Nat)
  /-- `INPUT_COPY_COMPLETE` (R137). The mover finishes copying a task's subscribed slots and the task becomes Ready. -/
  | inputCopyComplete (p : BitVec 9) (t : BitVec 4) (steps : Nat) (dt : Nat)
  /-- `OUTPUT_COPY_COMPLETE` (R138). The mover has built and queued the task's outgoing blocks and passed its channel commands, completing the pass. -/
  | outputCopyComplete (p : BitVec 9) (t : BitVec 4) (steps : Nat) (dt : Nat)
  /-- `DEADLINE_OVERRUN` (R153). A pass not complete when partition time reaches its stamp plus deadline stops the whole partition. -/
  | deadlineOverrun (p : BitVec 9) (t : BitVec 4) (dt : Nat)
  /-- `PD_RUN` (R145). The Run command is checked and waits for pending decode-table and edit commits. -/
  | pdRun (src : BitVec 10) (p : BitVec 9)
  /-- `RUN_APPLY` (R145). At the next Graticule tick the partition enters Run and its tasks are released afresh. -/
  | runApply (p : BitVec 9) (dt : Nat)
  /-- `PD_STOP` (R146). The Stop command makes each task stop at its next permitted boundary. -/
  | pdStop (src : BitVec 10) (p : BitVec 9)
  /-- `STOP_COMPLETE` (R147). When the last task is Off, the mover passes stop values or safe states to the partition's channels and starts stop sending. -/
  | stopComplete (p : BitVec 9) (dt : Nat)
  /-- `STOP_SENDING` (R147). At each grid instant of its bound task, a stopped partition's outgoing block is sent with stop or safe contents. -/
  | stopSending (p : BitVec 9) (t : BitVec 3) (dt : Nat)
  /-- `PD_HOLD` (R148). The Hold command freezes partition time and every task at its next permitted boundary, or is refused. -/
  | pdHold (src : BitVec 10) (p : BitVec 9)
  /-- `HELD_SENDING` (R149). At each grid instant of its bound task, a held partition's block is resent with the held flag. -/
  | heldSending (p : BitVec 9) (t : BitVec 3) (dt : Nat)
  /-- `BREAKPOINT_HIT` (R149). A task reaching an armed breakpoint freezes before the instruction and the partition enters Hold. -/
  | breakpointHit (e : BitVec 7)
  /-- `PD_RESUME` (R151). The Resume command is checked and waits for the next Graticule tick. -/
  | pdResume (src : BitVec 10) (p : BitVec 9)
  /-- `RESUME_APPLY` (R151). At the Graticule tick each Held task returns to the state it left and partition time resumes. -/
  | resumeApply (p : BitVec 9) (dt : Nat)
  /-- `PD_STEP` (R150). The Step command issues a held task's instructions up to its next permitted boundary, or releases it from Idle. -/
  | pdStep (src : BitVec 10) (p : BitVec 9) (arg : BitVec 8)
  /-- `PD_OPT_WRITE` (R143). A write of PD_OPT applies only while the partition is in Stop. -/
  | pdOptWrite (src : BitVec 10) (p : BitVec 9) (data : W)
  /-- `DISPATCHER_COMMIT_GO` (R55). DSP_COMMIT.GO marks all pending task tables for commit. -/
  | dispatcherCommitGo (src : BitVec 10)
  /-- `DISPATCHER_COMMIT_APPLY` (R129). At the next Graticule tick all pending task tables are checked and applied together, or refused. -/
  | dispatcherCommitApply (dt : Nat)
  /-- `EDIT_COMMIT_GO` (R156). PD_COMMIT.GO sets PENDING and the edit is checked within 10 µs. -/
  | editCommitGo (src : BitVec 10) (p : BitVec 9)
  /-- `EDIT_BOUNDARY` (R157). At the first tick with every task idle the boundary pause starts, applying maps, descriptors, header and migration. -/
  | editBoundary (p : BitVec 9) (dt : Nat)
  /-- `BOUNDARY_PAUSE_END` (R159). The boundary pause ends, PD_EDIT_PAUSE records its length and releases delayed by it are made. -/
  | boundaryPauseEnd (p : BitVec 9) (dt : Nat)
  /-- `EDIT_TIMEOUT` (R156). No edit boundary within 1 s of time in Run refuses the commit with REASON 0x01. -/
  | editTimeout (p : BitVec 9) (dt : Nat)
  /-- `CREATE` (R178). CREATE puts an Absent partition into Stop with cleared maps and tables. -/
  | create (src : BitVec 10)
  /-- `REMOVE` (R178). REMOVE zeroes or retires a stopped partition's pages, passes its resources to the device and makes it Absent. -/
  | remove (src : BitVec 10)
  /-- `STAGE` (R178). STAGE makes the lowest-numbered Free pages Staged for a partition. -/
  | stage (src : BitVec 10)
  /-- `UNSTAGE` (R178). UNSTAGE sends a partition's unused Staged pages to Zeroing. -/
  | unstage (src : BitVec 10)
  /-- `RETCLR` (R178). RETCLR returns an authorised Retired page to Zeroing. -/
  | retclr (src : BitVec 10)
  /-- `PAGE_ZEROED` (R166). The bulk unit finishes zeroing a page in 64 clocks and it becomes Free. -/
  | pageZeroed (dt : Nat)
  /-- `TR_ENTRY_WRITE` (R175). A write of a pending translation entry is accepted or refused by page state. -/
  | trEntryWrite (src : BitVec 10) (idx : BitVec 12) (data : W)
  /-- `PD_MOV_RANGE_WRITE` (R179). A write of PD_MOV_RANGE is refused when it overflows or overlaps another range. -/
  | pdMovRangeWrite (src : BitVec 10) (p : BitVec 9) (data : W)
  /-- `SCRUB` (R174). The scrubber reads and repairs store words and translation entries on its interval. -/
  | scrub (a : BitVec 28) (found : BitVec 2)
  /-- `PAGE_RETIREMENT` (R192). When its partition is in Stop and a page is Free, the bulk unit starts copying an Owned page with RETP set. -/
  | pageRetirement (k : BitVec 2) (n : BitVec 14) (dt : Nat)
  /-- `RETIREMENT_COPY_DONE` (R192). The retirement copy completes, the entry switches to the copy and the old page is Retired. -/
  | retirementCopyDone (dt : Nat)
  /-- `LN_MODE_WRITE` (R196). A write of LN_MODE changes the lane's mode and takes its port down. -/
  | lnModeWrite (src : BitVec 10) (lane : BitVec 7) (data : W)
  /-- `LANE_LINK_UP` (R196). A lane completes training and alignment and begins carrying frames. -/
  | laneLinkUp (lane : BitVec 7)
  /-- `LANE_SIGNAL_LOSS` (R199). A lane losing signal or alignment takes its port down and its queues are discarded. -/
  | laneSignalLoss (lane : BitVec 7) (cause : BitVec 8)
  /-- `PORT_REFORM` (R200). A degradable native port re-forms on its largest healthy lane set within 100 µs. -/
  | portReform (port : BitVec 7)
  /-- `PREEMPT_VERIFIED` (R203). IEEE 802.3br verification succeeds and PACT becomes 1. -/
  | preemptVerified (port : BitVec 7)
  /-- `PORT_TRANSMIT` (R202). An idle port starts the next frame from its highest open class, preempting bulk for control when active. -/
  | portTransmit (port : BitVec 7) (dt : Nat)
  /-- `GATE_ENTRY_CHANGE` (R204). A gate control list entry's interval ends and the next gate state applies. -/
  | gateEntryChange (port : BitVec 7) (dt : Nat)
  /-- `FRAME_HEADER_RECEIVED` (R220). A received frame's header is parsed, looked up, policed and forwarded cut-through. -/
  | frameHeaderReceived (port : BitVec 7) (head : List Byte) (dt : Nat)
  /-- `FRAME_END_RECEIVED` (R220). At the frame's last byte the FCS is checked and the fence, duplicate window and local delivery run. -/
  | frameEndReceived (port : BitVec 7) (tail : List Byte) (ahead : Nat) (dt : Nat)
  /-- `HELD_SLOT_WRITE` (R227). A block held back by a reader's buffer hold is written when the hold ends. -/
  | heldSlotWrite (n : BitVec 14) (dt : Nat)
  /-- `STREAM_WINDOW_TIMEOUT` (R224). A stream with no accepted frame for STO × 10 µs returns its window to INIT = 0. -/
  | streamWindowTimeout (stream : BitVec 16) (dt : Nat)
  /-- `SWITCH_COMMIT_GO` (R55). SW_COMMIT.GO marks the switch tables for commit. -/
  | switchCommitGo (src : BitVec 10)
  /-- `SWITCH_COMMIT_APPLY` (R230). The switch tables are checked and applied at the next Graticule tick, or refused. -/
  | switchCommitApply (dt : Nat)
  /-- `GATE_LIST_APPLY` (R230). A port's new gate list applies at the start of its first gate cycle after the commit tick. -/
  | gateListApply (port : BitVec 7) (dt : Nat)
  /-- `QUEUE_COMMIT_GO` (R55). QM_COMMIT.GO marks the queue allocation for commit. -/
  | queueCommitGo (src : BitVec 10)
  /-- `QUEUE_COMMIT_APPLY` (R210). The queue allocation applies at the next Graticule tick. -/
  | queueCommitApply (dt : Nat)
  /-- `MOVER_COMMIT_GO` (R55). MOV_COMMIT.GO marks the station configuration for commit. -/
  | moverCommitGo (src : BitVec 10)
  /-- `MOVER_COMMIT_APPLY` (R231). The device range, station image and groups apply at the next Graticule tick, or the commit fails. -/
  | moverCommitApply (dt : Nat)
  /-- `MOV_DEV_RANGE_WRITE` (R231). A write of MOV_DEV_RANGE is refused when the range would pass descriptor 61,439. -/
  | movDevRangeWrite (src : BitVec 10) (data : W)
  /-- `STATION_TICK` (R232). A station group ticks: it collects inputs, packs and queues its blocks, and applies slot commands. -/
  | stationTick (g : BitVec 4) (dt : Nat)
  /-- `HEARTBEAT_SEND` (R236). Every 100 µs the station unit sends the heartbeat to the F-die. -/
  | heartbeatSend (dt : Nat)
  /-- `RU_COMMIT_GO` (R55). RU_COMMIT.GO marks the redundancy configuration for commit. -/
  | ruCommitGo (src : BitVec 10)
  /-- `RU_COMMIT_APPLY` (R237). The redundancy configuration is checked and applied at the next Graticule tick. -/
  | ruCommitApply (dt : Nat)
  /-- `LEASE_RENEWAL` (R244). An ACTIVE member sends REQUEST to every witness every L/5. -/
  | leaseRenewal (dt : Nat)
  /-- `LEASE_EXPIRY` (R245). The member's own lease stops being valid and it leaves ACTIVE. -/
  | leaseExpiry (dt : Nat)
  /-- `WITNESS_REQUEST` (R246). A witness extends the holder's grant on REQUEST or denies it. -/
  | witnessRequest (member : Bool) (pair epoch rnum len : BitVec 16) (dt : Nat)
  /-- `WITNESS_CLAIM` (R246). A witness grants or denies a CLAIM by epoch and guard. -/
  | witnessClaim (member : Bool) (pair epoch rnum len : BitVec 16) (dt : Nat)
  /-- `WITNESS_RELEASE` (R246). A witness clears the holder on RELEASE from it. -/
  | witnessRelease (member : Bool) (pair epoch rnum len : BitVec 16) (dt : Nat)
  /-- `WITNESS_HANDOVER` (R246). A witness moves the grant to the successor and sends it an unsolicited GRANT. -/
  | witnessHandover (member succ : Bool) (pair epoch rnum len : BitVec 16) (dt : Nat)
  /-- `WITNESS_QUIET_END` (R247). A witness entry's 2,100 µs quiet period ends. -/
  | witnessQuietEnd (k : BitVec 4) (dt : Nat)
  /-- `GRANT` (R250). A member receiving a GRANT counts it toward its own or the partner's lease and becomes ACTIVE at M grants. -/
  | grant (widx : BitVec 3) (member : Bool) (pair epoch rnum high : BitVec 16) (dt : Nat)
  /-- `DENY` (R249). A claiming member receiving a DENY retries or raises its claimed epoch. -/
  | deny (widx : BitVec 3) (member : Bool) (reason : BitVec 4) (pair epoch high : BitVec 16) (dt : Nat)
  /-- `PARTNER_LEASE_LAPSE` (R248). The partner's observed lease lapses and a SYNC or STANDBY member goes to WAIT. -/
  | partnerLeaseLapse (dt : Nat)
  /-- `CLAIM` (R249). A member in WAIT whose claim conditions hold sends CLAIM with a newer epoch. -/
  | claim (dt : Nat)
  /-- `CLAIM_RETRY` (R249). Every 10 µs under DENY 0x1 the member repeats its CLAIM. -/
  | claimRetry (dt : Nat)
  /-- `CLAIM_ROUND_TIMEOUT` (R249). Without M grants within 50 µs of the first, the member releases and backs off. -/
  | claimRoundTimeout (dt : Nat)
  /-- `MIRROR_CAPTURE_END` (R254). The capture ends and any release delayed by it is made. -/
  | mirrorCaptureEnd (p : BitVec 9) (t : BitVec 3) (dt : Nat)
  /-- `INVEC` (R257). A received INVEC lets the standby start the shadow pass's input copy. -/
  | invec (p : BitVec 9) (t : BitVec 3) (stamp : W) (entries : List W) (dt : Nat)
  /-- `DATA` (R260). A received DATA frame's lines are held for the pass. -/
  | data (p : BitVec 9) (t : BitVec 3) (stamp : W) (lines : List (W × List Byte)) (dt : Nat)
  /-- `RESULT` (R262). A received RESULT completes the pass: the standby compares, sends VERDICT and writes the lines. -/
  | result (p : BitVec 9) (t : BitVec 3) (stamp : W) (crc : W64) (lines : W) (outcome cause : Byte) (flags : BitVec 16) (dt : Nat)
  /-- `MODE` (R256). A received MODE frame applies the active's partition mode on the standby. -/
  | modeFrame (p : BitVec 9) (mode : BitVec 3) (cause : Byte) (tick : W64) (dt : Nat)
  /-- `EDIT` (R266). A received EDIT frame releases the standby's pending commit, or sends it to LEFT. -/
  | editFrame (p : BitVec 9) (stamp version : W) (dt : Nat)
  /-- `SWAP` (R271). A received SWAP makes the member wait for handover grants of the new epoch. -/
  | swapFrame (boundary : W64) (epoch : BitVec 16) (dt : Nat)
  /-- `RESYNC` (R264). A received RESYNC makes the active send PTIME and mark the partition's lines dirty. -/
  | resyncFrame (part : BitVec 10) (dt : Nat)
  /-- `VERDICT` (R265). A received VERDICT decides whether the faulted active hands over. -/
  | verdict (p : BitVec 9) (t : BitVec 3) (stamp : W) (result outcome cause flags : Byte) (dt : Nat)
  /-- `STATE` (R266). A received STATE frame updates PEER and checks the configuration digest. -/
  | stateFrame (role epoch : BitVec 16) (digest : W) (dt : Nat)
  /-- `STATE_SEND` (R266). Every 1 ms a member sends its STATE frame. -/
  | stateSend (dt : Nat)
  /-- `PTIME` (R264). A received PTIME sets the standby's partition time and mode. -/
  | ptimeFrame (p : BitVec 9) (ptime mer : W64) (mode : Byte) (dt : Nat)
  /-- `STANDBY_BLOCK_WAIT_END` (R258). A standby input copy waiting for block m takes it or gives up after 50 µs. -/
  | standbyBlockWaitEnd (p : BitVec 9) (t : BitVec 3) (dt : Nat)
  /-- `PASS_INCOMPLETE` (R261). A shadow pass whose frames have not arrived by the next grid instant is counted incomplete. -/
  | passIncomplete (p : BitVec 9) (t : BitVec 3) (dt : Nat)
  /-- `VERDICT_TIMEOUT` (R265). No VERDICT within the task's period leaves the faulted active in its role. -/
  | verdictTimeout (dt : Nat)
  /-- `SWAP_TIMER` (R270). The swap timer reaches SWAPMIN and starts a periodic swap, retried every 60 s when refused. -/
  | swapTimer (dt : Nat)
  /-- `SWAP_BOUNDARY` (R270). At the swap boundary the active stops queuing, sends SWAP and HANDOVER, and goes to STANDBY. -/
  | swapBoundary (dt : Nat)
  /-- `SWAP_BOUNDARY_TIMEOUT` (R270). No swap boundary within 1 s refuses the swap with REASON 0x03. -/
  | swapBoundaryTimeout (dt : Nat)
  /-- `SWAP_ACTIVE_TIMEOUT` (R271). A successor not ACTIVE within L of the boundary ends the swap with REASON 0x06. -/
  | swapActiveTimeout (dt : Nat)
  /-- `RU_SWAP` (R270). The SWAP command starts a planned role swap. -/
  | ruSwap (src : BitVec 10)
  /-- `RU_RESYNC` (R264). The RESYNC command starts resynchronisation. -/
  | ruResync (src : BitVec 10)
  /-- `REJOIN` (R252). The REJOIN command takes a LEFT member to WAIT. -/
  | rejoin (src : BitVec 10)
  /-- `LEAVE` (R252). The LEAVE command releases the active role or takes a standby to LEFT. -/
  | leaveCmd (src : BitVec 10)
  /-- `TAKE` (R249). The TAKE command permits member 1 to claim in commissioning. -/
  | takeCmd (src : BitVec 10)
  /-- `MERIDIAN_SEED` (R276). At the first RTC second boundary after release Meridian is seeded from the calendar. -/
  | meridianSeed (dt : Nat)
  /-- `MER_STEP` (R277). The STEP command adds a signed step to Meridian time. -/
  | merStep (src : BitVec 10)
  /-- `MER_SEED` (R276). The SEED command repeats the seed from the RTC. -/
  | merSeed (src : BitVec 10)
  /-- `MER_FRAC_WRITE` (R275). A write of MER_FRAC changes the rate, or is refused out of range or on a slave. -/
  | merFracWrite (src : BitVec 10) (data : W)
  /-- `SYNC` (R279). A received SYNC is ranked, sets the offset and LOCK, and is forwarded by a slave. -/
  | sync (port : BitVec 7) (prio : Byte) (master : BitVec 16) (steps : Byte) (valid ppsl : Bool) (t1 : W64) (dt : Nat)
  /-- `SYNC_SEND` (R280). A master sends SYNC at each SYNCINT instant. -/
  | syncSend (dt : Nat)
  /-- `DREQ` (R281). A received DREQ is answered with a DRESP. -/
  | dreq (port : BitVec 7) (seq : BitVec 16) (dt : Nat)
  /-- `DRESP` (R281). A received DRESP updates the link delay mean. -/
  | dresp (port : BitVec 7) (rseq : BitVec 16) (t1 t2 : W64) (dt : Nat)
  /-- `DREQ_SEND` (R281). Each participating port sends a DREQ once per second. -/
  | dreqSend (port : BitVec 7) (dt : Nat)
  /-- `SYNC_TIMEOUT` (R281). No SYNC for 3 × SYNCINT clears LOCK and ages the candidate. -/
  | syncTimeout (dt : Nat)
  /-- `PPS_OUT_RISE` (R283). PPS_OUT rises at each whole Meridian second. -/
  | ppsOutRise (dt : Nat)
  /-- `PPS_OUT_FALL` (R283). PPS_OUT falls WIDTH ms after its second. -/
  | ppsOutFall (dt : Nat)
  /-- `PPS_IN_EDGE` (R284). A rising PPS_IN edge is captured in Meridian time. -/
  | ppsInEdge (dt : Nat)
  /-- `RTC_SECOND_BOUNDARY` (R295). At each second boundary alarms are compared and pending DST commands apply. -/
  | rtcSecondBoundary (dt : Nat)
  /-- `RTC_SET` (R288). The SET command loads the calendar at the next tick. -/
  | rtcSet (src : BitVec 10)
  /-- `CORR` (R289). The CORR command starts a slew or steps the calendar. -/
  | corr (src : BitVec 10) (sub : BitVec 15)
  /-- `DSTFWD` (R294). The DSTFWD command moves the calendar forward an hour at the next second boundary. -/
  | dstfwd (src : BitVec 10)
  /-- `DSTBACK` (R294). The DSTBACK command moves the calendar back an hour and sets FOLD. -/
  | dstback (src : BitVec 10)
  /-- `MEAS` (R293). The MEAS command starts a rate measurement against Meridian or mains. -/
  | measCmd (src : BitVec 10)
  /-- `MEASSTOP` (R293). The MEASSTOP command aborts a measurement. -/
  | measstop (src : BitVec 10)
  /-- `MEAS_COMPLETE` (R293). The measurement window ends and ERR is stored. -/
  | measComplete (dt : Nat)
  /-- `MAINS_CROSSING` (R293). A rising mains crossing is counted by a running measurement. -/
  | mainsCrossing (e : Nat) (dt : Nat)
  /-- `MAINS_TIMEOUT` (R293). No mains crossing for 100 ms aborts the measurement. -/
  | mainsTimeout (dt : Nat)
  /-- `SLEW_STEP` (R289). Every 2,000 crystal ticks a slew inserts or drops one tick. -/
  | slewStep (sub : BitVec 15)
  /-- `CRYSTAL_STOP` (R287). The crystal stopping for more than 1 ms sets OSCF and invalidates the calendar. -/
  | crystalStop
  /-- `CRYSTAL_RESUME` (R287). The crystal running again restarts the calendar at 2000-01-01. -/
  | crystalResume
  /-- `FIO_INPUT_SETTLED` (R301). A channel's filter count completes and the new state enters the field image. -/
  | fioInputSettled (ch : BitVec 5) (level : Bool) (samples : Nat) (dt : Nat)
  /-- `FIO_OUTPUT_COMMAND` (R298). An output command arrives at the F-die and is applied or recorded. -/
  | fioOutputCommand (dt : Nat)
  /-- `FIO_HOSTCMD_WRITE` (R298). A write of FIO_HOSTCMD commands device-owned outputs not bound to an SFOUT. -/
  | fioHostcmdWrite (src : BitVec 10) (data : W)
  /-- `CURRENT_LIMIT` (R304). An output reaching its current limit limits the current and sets ILIM. -/
  | currentLimit (ch : BitVec 5) (on : Bool)
  /-- `OVERLOAD_TRIP` (R304). After 5 ms in limit the switch turns off and sets OVL. -/
  | overloadTrip (ch : BitVec 5)
  /-- `THERMAL_SHUTDOWN` (R304). A switch reaching its shutdown temperature turns off and sets THERM. -/
  | thermalShutdown (ch : BitVec 5)
  /-- `OUTPUT_RESTART` (R304). After 100 ms and 15 K cooling an auto-restart output turns on again. -/
  | outputRestart (ch : BitVec 5)
  /-- `OPEN_LOAD` (R305). Load current below 6 mA for 20 ms sets OL. -/
  | openLoad (ch : BitVec 5)
  /-- `SHORT_TO_SUPPLY` (R305). An off output's pin above 12 V for 20 ms sets SCV. -/
  | shortToSupply (ch : BitVec 5)
  /-- `GROUP_UNDERVOLTAGE` (R306). VFg below 18.0 V for 1 ms sets UV. -/
  | groupUndervoltage (g : BitVec 2) (meas : W)
  /-- `GROUP_OVERVOLTAGE` (R306). VFg above 32 V for 10 µs sets OV and turns the group's outputs off. -/
  | groupOvervoltage (g : BitVec 2) (meas : W)
  /-- `GROUP_OVERCURRENT` (R306). Group current above the trip level for 10 ms turns its outputs off with OVL. -/
  | groupOvercurrent (g : BitVec 2) (meas : W)
  /-- `GROUP_CONDITION_END` (R306). A group supervision condition ends and its outputs take their commands. -/
  | groupConditionEnd (g : BitVec 2) (bit : BitVec 2) (meas : W)
  /-- `TP_PULSE_START` (R307). A test-pulse output begins its low pulse. -/
  | tpPulseStart (n : BitVec 2) (dt : Nat)
  /-- `TP_PULSE_END` (R307). A test pulse ends and the F-die checks it for a short. -/
  | tpPulseEnd (n : BitVec 2) (high : Bool) (dt : Nat)
  /-- `CROSS_SHORT_CHECK` (R303). 20 µs before a pulse ends the F-die checks fed inputs and sets or clears XS. -/
  | crossShortCheck (n : BitVec 2) (pins : W) (dt : Nat)
  /-- `TP_OVERLOAD` (R307). A TP current above 0.15 A turns it off and sets OVL. -/
  | tpOverload (n : BitVec 2)
  /-- `TP_RETRY` (R307). An overloaded TP retries every 100 ms. -/
  | tpRetry (n : BitVec 2)
  /-- `HEARTBEAT_RECEIVED` (R310). A heartbeat reaches the F-die, ends the HB cause and may clear forcing by AUTOREC. -/
  | heartbeatReceived (dt : Nat)
  /-- `HEARTBEAT_TIMEOUT` (R308). No heartbeat for HBTO sets HB and FORCED. -/
  | heartbeatTimeout (dt : Nat)
  /-- `FIO_RECOVER` (R310). RECOVER clears FORCED when no cause is present. -/
  | fioRecover (src : BitVec 10)
  /-- `DCLR` (R304). DCLR clears the latched diagnostics of the named channels. -/
  | dclr (src : BitVec 10)
  /-- `SQL_ENABLE_LOST` (R13). An SQnL switch whose enable stops toggling opens within 5 µs. -/
  | sqlEnableLost (n : BitVec 3)
  /-- `FATAL_LINE_ASSERTED` (R14). The F-die reaction path forces FIO safe states and opens every SQ. -/
  | fatalLineAsserted
  /-- `ALIVE_LINE_TIMEOUT` (R15). No alive edge for 1 µs forces outputs, asserts FAULT_N and records L-die clock lost. -/
  | aliveLineTimeout
  /-- `ROOT_PLL_LOSS` (R19). Loss of root PLL lock stops all L-die clocks. -/
  | rootPllLoss
  /-- `LANE_PLL_LOSS` (R20). A lane PLL losing lock takes down only its lane. -/
  | lanePllLoss (lane : BitVec 7)
  /-- `SUPERVISOR_LOCKSTEP_FAIL` (R28). A lockstep mismatch holds both supervisor cores in reset as a contained fault. -/
  | supervisorLockstepFail
  /-- `SAFETY_EVALUATION` (R315). At each 50 µs evaluation instant each channel filters, evaluates functions, exchanges vectors and commands SQ outputs. -/
  | safetyEvaluation (sa : List W) (sb : List W) (pinsA : List SqPins) (pinsB : List SqPins) (pulses : List Pulse) (dt : Nat)
  /-- `SAMPLE_INTERVAL_FAULT` (R316). A sample interval out of tolerance or missing for 20 µs opens every SQnL and raises a fatal fault. -/
  | sampleIntervalFault
  /-- `CHANNEL_A_LOST` (R318). No vector from channel A for 2 periods opens every SQnH and trips every function. -/
  | channelALost
  /-- `DARK_TEST_HIGH` (R330). Channel B opens SQnH for DTW and checks the pin. -/
  | darkTestHigh (n : BitVec 3)
  /-- `DARK_TEST_LOW` (R330). Channel A stops the SQnL enable for DTW and checks the pin. -/
  | darkTestLow (n : BitVec 3)
  /-- `DARK_TEST_END` (R330). A dark test ends, its verdict is taken and the switch recloses. -/
  | darkTestEnd (n : BitVec 3) (pinsA : SqPins) (pinsB : SqPins)
  /-- `SQ_OVERLOAD` (R329). An SQ output 5 ms in current limit turns off as OFAULT. -/
  | sqOverload (n : BitVec 3) (thermal : Bool)
  /-- `SF_START` (R338). START makes the safety unit ACTIVE and every used function TRIP. -/
  | sfStart (src : BitVec 10)
  /-- `SF_STOP` (R336). STOP stops every function and opens every SQ. -/
  | sfStopCmd (src : BitVec 10)
  /-- `APPLY` (R334). APPLY checks the staged set's CRC in both channels and writes it to NV. -/
  | sfApply (src : BitVec 10)
  /-- `SET_TAKES_EFFECT` (R336). The applied safety set takes effect at one evaluation instant. -/
  | setTakesEffect (nvOk : Bool) (dt : Nat)
  /-- `SF_RESET` (R325). RESET requests a reset of a function in READY. -/
  | sfReset (src : BitVec 10)
  /-- `OCLR` (R330). OCLR returns an OFAULT output to Off. -/
  | sfOclr (src : BitVec 10)
  /-- `CAN_RECOVER` (R357). RECOVER starts bus-off recovery. -/
  | canRecover (src : BitVec 10) (n : BitVec 4)
  /-- `CAN_ACK` (R351). ACK clears an object's FRESH and REPL. -/
  | canAck (src : BitVec 10) (n : BitVec 4) (k : BitVec 9)
  /-- `REQ` (R355). REQ makes a mailbox pending, or arms a triggered one. -/
  | reqCmd (src : BitVec 10) (n : BitVec 4) (m : BitVec 9)
  /-- `CANCEL` (R356). CANCEL clears a mailbox's request unless its frame is on the bus. -/
  | cancelCmd (src : BitVec 10) (n : BitVec 4) (m : BitVec 9)
  /-- `CAN_FRAME_RECEIVED` (R349). A validated frame is written into its matching object or waits in the receive hold. -/
  | canFrameReceived (n : BitVec 4) (id : W) (ctl : W) (data : List Byte) (ago : Nat) (dt : Nat)
  /-- `HELD_FRAME_WRITE` (R350). A frame held during an object copy is written when the copy ends. -/
  | heldFrameWrite (n : BitVec 4) (dt : Nat)
  /-- `CAN_TRANSMIT_START` (R353). The controller starts the highest-priority pending mailbox. -/
  | canTransmitStart (n : BitVec 4) (delay : BitVec 8) (dt : Nat)
  /-- `CAN_TRANSMIT_DONE` (R354). A frame completes without error, PEND clears and TXCNT advances. -/
  | canTransmitDone (n : BitVec 4) (ago : Nat) (dt : Nat)
  /-- `CAN_BUS_ERROR` (R357). A detected bus error updates the error counters and may enter passive or bus-off. -/
  | canBusError (n : BitVec 4) (code : BitVec 4) (tecUp : BitVec 8) (recUp : BitVec 8) (dt : Nat)
  /-- `BUS_OFF_RECOVERY_DONE` (R357). After 128 idle sequences the controller is error active again. -/
  | busOffRecoveryDone (n : BitVec 4)
  /-- `REFERENCE_MESSAGE_DUE` (R358). A time master requests its reference message at its grid instant or after its backoff. -/
  | referenceMessageDue (n : BitVec 4) (dt : Nat)
  /-- `TT_SYNC_LOSS` (R358). No reference message for 2 × CYCLE clears SYNC. -/
  | ttSyncLoss (n : BitVec 4) (dt : Nat)
  /-- `TRIGGER_FIRE` (R359). An armed triggered mailbox becomes pending at its cycle offset. -/
  | triggerFire (n : BitVec 4) (m : BitVec 5) (dt : Nat)
  /-- `TRIGGER_WINDOW_END` (R359). A triggered frame not started by OFFSET + WIN ends with ERR 0x3. -/
  | triggerWindowEnd (n : BitVec 4) (m : BitVec 5) (dt : Nat)
  /-- `FAULT_EVENT` (R363). An error line asserting or rising in class updates the fault group and routes the reaction. -/
  | faultEvent (src : BitVec 6) (cls : BitVec 2) (code : BitVec 8) (unit : BitVec 16) (item : BitVec 17) (nth : Nat) (same : Bool)
  /-- `COLLECTOR_STATE_MESSAGE` (R372). The collector sends its state to the F-die at each change and every 100 µs, driving FAULT_N. -/
  | collectorStateMessage
  /-- `DUMP_SEQUENCER_DONE` (R373). The dump sequencer finishes its minimum set and passes the dump page to the F-die. -/
  | dumpSequencerDone
  /-- `DUMP_PAGE_WRITTEN` (R373). The F-die finishes writing the dump page and erases the other dump area. -/
  | dumpPageWritten
  /-- `DUMP_COMPLETE` (R374). Firmware finishes the dump and sets STATE 0x04, triggering the warm reset. -/
  | dumpComplete (sec6 : List Byte) (last : Bool)
  /-- `FATAL_RESET_TIMEOUT` (R370). 100 ms after the first fatal event a warm reset follows. -/
  | fatalResetTimeout
  /-- `RC_OSCILLATOR_FAIL` (R376). The crystal-clocked monitor switches off every FIO and SQnH when the RC oscillator fails. -/
  | rcOscillatorFail
  /-- `DIE_LINK_DOWN` (R365). The die link down for 2 µs raises a fatal event. -/
  | dieLinkDown
  /-- `SUPPLY_OUT_OF_RANGE` (R448). An L-die supply outside its range for 1 µs raises the SUPPLY fatal event. -/
  | supplyOutOfRange
  /-- `ENGINE_BIST` (R378). ENG_TEST.GO starts a logic BIST or is refused while a task is bound. -/
  | engineBist (src : BitVec 10) (e : BitVec 7)
  /-- `BIST_DONE` (R378). The BIST ends with pass or fail and a failed engine stays out of use. -/
  | bistDone (e : BitVec 7) (pass : Bool)
  /-- `VAO_POWER_ON` (R379). VAO power-on starts a cold reset. -/
  | vaoPowerOn (vbat : Bool)
  /-- `VAO_BROWNOUT` (R379). VAO below 2.9 V for 10 µs starts a cold reset. -/
  | vaoBrownout
  /-- `RESET_N` (R379). RESET_N low for 1 µs starts a cold reset. -/
  | resetN (ns : Nat)
  /-- `LDIE_POWER_GOOD` (R447). All five L-die supplies in range for 100 µs gives power-good. -/
  | ldiePowerGood (dt : Nat)
  /-- `LDIE_POWER_GOOD_LOSS` (R448). An L-die supply below 90 % for 1 µs withdraws power-good and starts a warm reset. -/
  | ldiePowerGoodLoss
  /-- `COLD` (R387). The COLD command starts an authorised cold reset. -/
  | cold (src : BitVec 10)
  /-- `WARM` (R387). The WARM command starts an authorised warm reset. -/
  | warm (src : BitVec 10)
  /-- `ENGINE` (R387). The ENGINE command resets one engine. -/
  | engineCmd (src : BitVec 10) (arg : BitVec 10)
  /-- `BLOCK` (R387). The BLOCK command resets one wrapped block. -/
  | blockCmd (src : BitVec 10) (arg : BitVec 10)
  /-- `BLOCKHOLD` (R387). The BLOCKHOLD command holds a block in reset. -/
  | blockhold (src : BitVec 10) (arg : BitVec 10)
  /-- `BLOCKREL` (R387). The BLOCKREL command releases a held block. -/
  | blockrel (src : BitVec 10) (arg : BitVec 10)
  /-- `PARTITION` (R386). The PARTITION command stops a partition and clears its context and counters. -/
  | partitionCmd (src : BitVec 10) (arg : BitVec 10)
  /-- `ENGINE_RESET_RELEASE` (R381). An engine reset releases 10 µs after its last source. -/
  | engineResetRelease (e : BitVec 7) (dt : Nat)
  /-- `BLOCK_RESET_RELEASE` (R381). A block reset releases 4 µs after its last source and the block restarts. -/
  | blockResetRelease (code : BitVec 10) (dt : Nat)
  /-- `FDIE_POR_RELEASE` (R379). Phase F1: the F-die power-on reset releases with its oscillator settled. -/
  | fdiePorRelease
  /-- `NV_RECALL_DONE` (R402). Phase F2 ends: NV recalled and F-die firmware copied. -/
  | nvRecallDone
  /-- `OPTION_BYTES_READ` (R390). Phase F3 selects the option-byte copy. -/
  | optionBytesRead
  /-- `FDIE_BOOT_COMPLETE` (R338). Phase F4: the F-die core runs, counters and caddy are restored and the safety set reloaded. -/
  | fdieBootComplete
  /-- `ROOT_PLL_LOCKED` (R381). The root PLL locks and the L-die domains are released in order. -/
  | rootPllLocked (us : W)
  /-- `RESET_TIME_TESTS_DONE` (R388). Phase 6 tests pass, or the L-die boot restarts. -/
  | resetTimeTestsDone (pass : Bool) (us : W)
  /-- `FIRMWARE_LOADED` (R441). Phase 8: the supervisor chooses and checks its image and runs. -/
  | firmwareLoaded (us7 : W) (us8 : W) (dt : Nat)
  /-- `WATCHDOG_WINDOW_OPEN` (R396). A channel's open window begins and an E channel sends its engine a service request. -/
  | watchdogWindowOpen (ch : BitVec 8) (dt : Nat)
  /-- `ENGINE_WATCHDOG_ANSWER` (R396). The engine answers at its next permitted boundary as the service. -/
  | engineWatchdogAnswer (e : BitVec 7) (dt : Nat)
  /-- `WDG_SSVC` (R397). A write of WDG_SSVC services an S channel or is an expiry. -/
  | wdgSsvc (n : BitVec 1) (key : BitVec 16) (p : W) (dt : Nat)
  /-- `WATCHDOG_EXPIRY` (R398). A channel expires, traps the supervisor or stops the engine, and starts the hard timer. -/
  | watchdogExpiry (ch : BitVec 8) (p : W) (dt : Nat)
  /-- `HARD_TIMER_EXPIRY` (R398). 1 ms after expiry the hard timer asserts the channel's reset. -/
  | hardTimerExpiry (ch : BitVec 8) (dt : Nat)
  /-- `NV_READ` (R405). The READ command reads an NV page into NV_BUF. -/
  | nvRead (src : BitVec 10) (found : BitVec 2)
  /-- `NV_WRITE` (R405). The WRITE command writes NV_BUF to an NV page. -/
  | nvWrite (src : BitVec 10)
  /-- `CADSAVE` (R411). The CADSAVE command starts a caddy save. -/
  | cadsave (src : BitVec 10)
  /-- `NV_PAGE_WRITE_DONE` (R401). An NV page write finishes, is verified and retried once. -/
  | nvPageWriteDone (ok : Bool)
  /-- `OPERATING_HOUR` (R407). At each whole operating hour the counters are written to NV. -/
  | operatingHour (dt : Nat)
  /-- `AUTOSAVE` (R411). Every AUTOSV minutes a caddy save starts. -/
  | autosave (dt : Nat)
  /-- `CADDY_SAVE_DONE` (R411). A caddy save writes its header and the other area is erased. -/
  | caddySaveDone (dt : Nat)
  /-- `POWER_FAIL` (R412). PWRFAIL_N low starts the block-write power-fail save. -/
  | powerFail
  /-- `POWER_FAIL_WITHDRAWN` (R413). PWRFAIL_N high again resumes caddy, NV and recorder and records 0x1403. -/
  | powerFailWithdrawn
  /-- `CAD_ALLOC_WRITE` (R410). A write of CAD_ALLOC applies and zeroes words, or is refused. -/
  | cadAllocWrite (src : BitVec 10) (p : BitVec 9) (data : W)
  /-- `EVENT_ADMISSION` (R416). A record is rate-limited and admitted to staging. -/
  | eventAdmission
  /-- `TOKEN_REFILL` (R416). Every 250 ms a code's bucket gains a token. -/
  | tokenRefill (code : BitVec 16)
  /-- `EVENT_PAGE_WRITE` (R417). The writer places records in the page buffer and writes it when full or due. -/
  | eventPageWrite
  /-- `EVENT_BUFFER_TIMEOUT` (R417). 1 s after the first record entered, the page buffer is written. -/
  | eventBufferTimeout
  /-- `EVR_FREEZE` (R419). FREEZE makes the requester holder once the page write ends. -/
  | evrFreeze (src : BitVec 10)
  /-- `UNFREEZE` (R419). UNFREEZE ends the freeze and staging drains. -/
  | evrUnfreeze (src : BitVec 10)
  /-- `EVR_CLEAR` (R421). CLEAR removes every record and writes the clear record. -/
  | evrClear (src : BitVec 10)
  /-- `FREEZE_TIMEOUT` (R419). 30 s without window access ends the freeze. -/
  | freezeTimeout (dt : Nat)
  /-- `EVR_RD_IDX_WRITE` (R420). Writing EVR_RD_IDX loads record k into the read window. -/
  | evrRdIdxWrite (src : BitVec 10) (data : W)
  /-- `IDENTIFY` (R423). IDENTIFY returns the device identity without a session. -/
  | identify
  /-- `OPEN` (R424). OPEN starts a service session. -/
  | openSession (peer : BitVec 48)
  /-- `CLOSE` (R424). CLOSE ends the session. -/
  | closeSession (sess : BitVec 16) (seq : BitVec 16)
  /-- `SESSION_TIMEOUT` (R424). 60 s without a request ends the session. -/
  | sessionTimeout (dt : Nat)
  /-- `SP_CHALLENGE` (R430). CHALLENGE through the service port opens an exchange. -/
  | spChallenge (sess : BitVec 16) (seq : BitVec 16) (slot : Byte) (rights : BitVec 16)
  /-- `SP_RESPONSE` (R430). RESPONSE through the service port completes the exchange. -/
  | spResponse (sess : BitVec 16) (seq : BitVec 16) (mac : BitVec 128)
  /-- `SP_RELINQUISH` (R431). RELINQUISH ends the port's grant. -/
  | spRelinquish (sess : BitVec 16) (seq : BitVec 16)
  /-- `SP_READ` (R427). READ reads a space through the service port. -/
  | spRead (sess : BitVec 16) (seq : BitVec 16) (space : Byte) (fn : BitVec 16) (off : W) (count : BitVec 16)
  /-- `SP_WRITE` (R427). WRITE writes a space through the service port. -/
  | spWrite (sess : BitVec 16) (seq : BitVec 16) (space : Byte) (fn : BitVec 16) (off : W) (data : List Byte)
  /-- `XBEGIN` (R437). XBEGIN erases the inactive slot to start a transfer. -/
  | xbegin (sess : BitVec 16) (seq : BitVec 16) (kind : Byte) (cart : List Byte)
  /-- `XDATA` (R437). XDATA writes body bytes in order. -/
  | xdata (sess : BitVec 16) (seq : BitVec 16) (off : W) (data : List Byte)
  /-- `XEND` (R437). XEND checks the image under R435. -/
  | xend (sess : BitVec 16) (seq : BitVec 16)
  /-- `ACTIVATE` (R438). ACTIVATE writes the boot record and restarts on the new image. -/
  | activate (sess : BitVec 16) (seq : BitVec 16) (kind : Byte)
  /-- `CONFIRM` (R440). CONFIRM ends steeping with the new image. -/
  | confirm (sess : BitVec 16) (seq : BitVec 16) (kind : Byte)
  /-- `FALLBACK` (R440). FALLBACK returns to the previous image. -/
  | fallback (sess : BitVec 16) (seq : BitVec 16) (kind : Byte)
  /-- `OPTWR` (R391). OPTWR writes both option-byte copies. -/
  | optwr (sess : BitVec 16) (seq : BitVec 16) (w8 : W) (wc : W) (w10 : W)
  /-- `EVFREEZE` (R429). EVFREEZE freezes the event store for the port. -/
  | evfreeze (sess : BitVec 16) (seq : BitVec 16)
  /-- `EVREAD` (R429). EVREAD returns record k. -/
  | evread (sess : BitVec 16) (seq : BitVec 16) (k : BitVec 16)
  /-- `EVUNFREEZE` (R429). EVUNFREEZE ends the port's freeze. -/
  | evunfreeze (sess : BitVec 16) (seq : BitVec 16)
  /-- `EVCLEAR` (R429). EVCLEAR clears the event store. -/
  | evclear (sess : BitVec 16) (seq : BitVec 16)
  /-- `DUMPREAD` (R429). DUMPREAD reads the dump area or dump page. -/
  | dumpread (sess : BitVec 16) (seq : BitVec 16) (source : Byte) (off : W) (count : BitVec 16)
  /-- `SP_HOLD` (R429). HOLD puts a partition into Hold. -/
  | spHold (sess : BitVec 16) (seq : BitVec 16) (part : BitVec 16)
  /-- `SP_RESUME` (R429). RESUME resumes a held partition. -/
  | spResume (sess : BitVec 16) (seq : BitVec 16) (part : BitVec 16)
  /-- `SP_STEP` (R429). STEP steps a held task. -/
  | spStep (sess : BitVec 16) (seq : BitVec 16) (part : BitVec 16) (task : Byte)
  /-- `BRKSET` (R429). BRKSET arms a breakpoint. -/
  | brkset (sess : BitVec 16) (seq : BitVec 16) (part : BitVec 16) (index : Byte) (addr : BitVec 24)
  /-- `BRKCLR` (R429). BRKCLR removes a breakpoint. -/
  | brkclr (sess : BitVec 16) (seq : BitVec 16) (part : BitVec 16) (index : Byte)
  /-- `AU_CHALLENGE` (R430). CHALLENGE from PF0 opens an exchange and returns a nonce. -/
  | auChallenge
  /-- `AU_RESPONSE` (R430). RESPONSE from PF0 grants rights or counts a failure. -/
  | auResponse
  /-- `AU_RELINQUISH` (R431). RELINQUISH ends PF0's grant. -/
  | auRelinquish
  /-- `KEYSET` (R434). KEYSET stores an operator key and rights. -/
  | keyset (src : BitVec 10)
  /-- `KEYCLR` (R434). KEYCLR empties an operator key slot. -/
  | keyclr (src : BitVec 10)
  /-- `EXCHANGE_TIMEOUT` (R432). An exchange with no RESPONSE for 10 s closes without a failure. -/
  | exchangeTimeout (dt : Nat)
  /-- `GRANT_EXPIRY` (R431). A grant ends 600 s after it was given. -/
  | grantExpiry (sp : Bool) (dt : Nat)
  /-- `LOCKOUT_END` (R433). The authorisation lockout time runs out. -/
  | lockoutEnd (dt : Nat)
  /-- `MANAGEMENT_PAUSE_END` (R438). New firmware serves commands again, and held commands are served. -/
  | managementPauseEnd (dt : Nat)
  /-- `SETTINGS_CONVERSION_DONE` (R439). The converted settings bank is written and CONV clears. -/
  | settingsConversionDone (dt : Nat)
  /-- `FDIE_UPDATE_PAUSE_END` (R443). The F-die core restarts from its new slot and recorded commands apply. -/
  | fdieUpdatePauseEnd (dt : Nat)
  /-- `FCORE_RESTART_DONE` (R402). The F-die core finishes restarting after an FCORE fault and NV access resumes. -/
  | fcoreRestartDone
  /-- `SP_CFG_WRITE` (R422). A write of SP_CFG retrains the service port link. -/
  | spCfgWrite (src : BitVec 10) (data : W) (up : Bool)
  /-- `SP_MAC_WRITE` (R423). A write of SP_MAC changes the port address and ends the session. -/
  | spMacWrite (src : BitVec 10) (hi : Bool) (data : W)
  /-- `REGISTER_READ` (R42). A host read of a register, a store window or the VF image window is checked against R40 and R42, and is served, or refused with a zero result and recorded in GCTL_ACC_ERR. -/
  | registerRead (src : BitVec 10) (bar2 : Bool) (off : BitVec 28) (len : BitVec 13)
  /-- `CONFIGURATION_REQUEST` (R451). A PCIe configuration request is answered with Configuration Request Retry Status until the endpoint is ready, and is served after that. -/
  | configurationRequest (fn : BitVec 10) (ready : Bool) (msix : BitVec 2) (vec : BitVec 11) (mask : Bool)
  /-- `DIE_LINK_RESTORED` (R468). The die link comes up again, UNREACH clears for the F-die blocks, and a held RWS snapshot applies at its group's apply instant. -/
  | dieLinkRestored
  /-- `SP_FRAME_DISCARD` (R423). A frame at the service port that is not a valid service frame for SP_MAC is discarded and counted in SP_CNT_DISC. -/
  | spFrameDiscard
  deriving DecidableEq, Repr

end Sys2Proof
end

