-- ==== Sys2Proof/Decode.lean ====
section
/-!
DEFINITION. The decoder of the command table. No row of spec/opcode_table.json gives bits, so no word spells a command of the
table; the 14-bit words of the scan engines are decoded in Machine/EngCode.lean (R72, R73).
-/
namespace Sys2Proof

/-- The command that a word of `nbits` bits spells by the bits of the table: none, since the table gives none. -/
def decodeTableWord (_nbits _w : Nat) : Option Instr := none

end Sys2Proof
end

