-- ==== Sys2Proof/Config.lean ====
section
/-!
DEFINITION. The values the spec leaves open, as constants without a body: nothing in Lean can evaluate them, so whatever
is proved holds for every value of them. Each is applied to the counter `fresh` of the state, or to the operands it
depends on.
-/
namespace Sys2Proof

/-- The CLK_FAB clocks that pass until a boundary pause ends early at a faulting migration entry (R159 records them and
gives no figure). DESIGN CHOICE (log 88). -/
opaque Config.earlyPause : Nat → BitVec 16

/-- Whether the copy of a slot meets the uncorrectable word of the slot's page (the placement of buffers in a page is not fixed, R26). DESIGN CHOICE (log 181). -/
opaque Config.bufferBad : Nat → Bool

/-- Byte `i` of "last contents" where a descriptor has built no block yet (R147 names the last contents and none stand). DESIGN CHOICE (log 77). -/
opaque Config.noLast : Nat → Nat → Byte

/-- Whether the copy of a receive object still runs when a frame is validated for it (R350: at most 200 ns, not fixed). DESIGN CHOICE (log 182). -/
opaque Config.objectHeld : Nat → Bool

/-- What a receive error counter above 127 becomes after a good frame, as an offset above 119 (ISO 11898-1 gives the range
119 to 127; R357 names the counters alone). PRESUMED (log 45). -/
opaque Config.recDrop : Nat → BitVec 3

/-- The addend that the firmware servo of a Meridian slave writes after a SYNC (R281 names the means and no law); taken modulo the
width of the range that `MER_FRAC` accepts. DESIGN CHOICE (log 100). -/
opaque Config.servoFrac : Nat → BitVec 32

/-- ERR of a rate measurement whose result lies outside 32 bits, or whose reference interval is 0 (R293 states none). DESIGN CHOICE (log 105). -/
opaque Config.measErr : Nat → BitVec 32

/-- Byte `i` of an NV page whose layout the spec does not give (counters and retirement lists, R404). DESIGN CHOICE (log 116). -/
opaque Config.nvByte : Nat → Nat → Byte

/-- Whether a `RESET_N` pulse between 0.5 µs and 1 µs is taken (R379 leaves it open). DESIGN CHOICE (log 183). -/
opaque Config.resetTaken : Nat → Bool

/-- Byte `i` of offsets 0x020 to 0x03B of the dump page (table "Dump page" puts nine words into 28 bytes and gives no packing). DESIGN CHOICE (log 133). -/
opaque Config.dumpPart : List W → Nat → Byte

/-- Bytes of section 5 of the dump for the Survey copies that it holds, whose layout the spec does not give (table "Dump area"; log 134). -/
opaque Config.dumpSurvey : List (Nat × W) → Nat → Byte
/-- Byte `i` of offsets 0x018 to 0x01F of the dump header: operating hours, fraction and power cycles, whose packing the table does not
give. DESIGN CHOICE (log 133). -/
opaque Config.dumpStamp : Nat → Nat → Nat → Nat → Byte

/-- Byte `i` of the nonce of an exchange: the hardware random source (R430). DESIGN CHOICE (log 184). -/
opaque Config.nonce : Nat → Nat → Byte

/-- The number of a new session, unpredictable (R424); zero is not taken. DESIGN CHOICE (log 147, 184). -/
opaque Config.session : Nat → BitVec 16

/-- Byte `i` of the device key in F-die OTP (R430); no requester can ever read it. DESIGN CHOICE (log 184). -/
opaque Config.deviceKey : Nat → Byte

/-- The REASON of a KEYSET or KEYCLR that names no operator slot (R434 gives none). DESIGN CHOICE (log 140). -/
opaque Config.keyReason : BitVec 4 → Byte

/-- Whether a signature, r then s, is Ndohan's ECDSA P-256 signature over the first 64 bytes of a Cartouche (R435; the public key is
not given). DESIGN CHOICE (log 184). -/
opaque Config.sigOk : List Byte → List Byte → Bool

/-- The version of the Benchmark image, which R442 does not state. DESIGN CHOICE (log 152). -/
opaque Config.benchVersion : BitVec 32


/-- What a host reads at a BAR2 offset in a page of module slots (the placement of buffers in a page is not fixed, R26). DESIGN CHOICE (log 23). -/
opaque Config.slotWord : Nat → Nat → BitVec 32

end Sys2Proof
end

