-- ==== Sys2Proof/Machine/Bits.lean ====
section
/-!
DEFINITION. Bit fields of registers, byte order (rule R466: little-endian) and saturating counts.
-/
namespace Sys2Proof.Machine

/-- The mask of bits `hi` down to `lo`. -/
def fieldMask (hi lo : Nat) : W := BitVec.ofNat 32 ((2 ^ (hi + 1 - lo) - 1) * 2 ^ lo)

/-- Field `[hi:lo]` of a word, as a number. -/
def fld (w : W) (hi lo : Nat) : Nat := (w.toNat / 2 ^ lo) % 2 ^ (hi + 1 - lo)

/-- The word with field `[hi:lo]` replaced by `v`. -/
def putFld (w : W) (hi lo v : Nat) : W :=
  (w &&& ~~~(fieldMask hi lo)) ||| (BitVec.ofNat 32 (v % 2 ^ (hi + 1 - lo) * 2 ^ lo))

/-- Bit `b` of a word. -/
def bitAt (w : W) (b : Nat) : Bool := w.getLsbD b

/-- The word with bit `b` set to `v`. -/
def putBit (w : W) (b : Nat) (v : Bool) : W := putFld w b b v.toNat

/-- Bits `m` of `w` replaced by those of `v`. -/
def mergeBits (w m v : W) : W := (w &&& ~~~m) ||| (v &&& m)

/-- A saturating 32-bit count, one higher. -/
def satInc (w : W) : W := if w = BitVec.allOnes 32 then w else w + 1

/-- A saturating 32-bit count, `n` higher. -/
def satAdd (w : W) (n : Nat) : W := BitVec.ofNat 32 (min (w.toNat + n) 0xffffffff)

/-- Byte `i` (0 to 3) of a word (R466). -/
def byteOf (w : W) (i : Nat) : Byte := BitVec.ofNat 8 (w.toNat / 2 ^ (8 * i))

/-- The word of four bytes, the lowest first (R466). -/
def wordOfBytes (b0 b1 b2 b3 : Byte) : W := b3 ++ b2 ++ b1 ++ b0

/-- The low and the high word of a 64-bit value. -/
def lo32 (t : W64) : W := t.truncate 32
/-- The high word of a 64-bit value. -/
def hi32 (t : W64) : W := (t >>> 32).truncate 32
/-- A 64-bit value of its high and low words. -/
def join64 (hi lo : W) : W64 := hi ++ lo

/-- The four bytes of a word, lowest first. -/
def bytesOf (w : W) : List Byte := [byteOf w 0, byteOf w 1, byteOf w 2, byteOf w 3]

end Sys2Proof.Machine
end

