-- ==== Sys2Proof/Machine/Crc.lean ====
section
/-!
DEFINITION. The CRCs and digests the spec names: CRC-32 with the IEEE 802.3 polynomial, CRC-8 with polynomial 0x2F
(R327), CRC-64 (R255), SHA-256 and HMAC-SHA-256 (R430, R435).
-/
namespace Sys2Proof.Machine

/-- One bit of a reflected CRC: shift right, and take the polynomial where a 1 falls out. -/
def crcRBit {n : Nat} (poly c : BitVec n) : BitVec n := if c.getLsbD 0 then (c >>> 1) ^^^ poly else c >>> 1

/-- `k` bits of a reflected CRC. -/
def crcRBits {n : Nat} (poly : BitVec n) : Nat → BitVec n → BitVec n
  | 0, c => c
  | k + 1, c => crcRBits poly k (crcRBit poly c)

/-- One byte of a reflected CRC. -/
def crcRByte {n : Nat} (poly c : BitVec n) (b : Byte) : BitVec n := crcRBits poly 8 (c ^^^ b.setWidth n)

/-- CRC-32 of IEEE 802.3 over a list of bytes: reflected polynomial 0xEDB8_8320, initial and final complement. -/
def crc32 (bs : List Byte) : W := ~~~(bs.foldl (crcRByte (0xEDB88320 : W)) (BitVec.allOnes 32))

/-- One bit of a CRC taken most significant bit first. -/
def crcMBit {n : Nat} (poly c : BitVec n) : BitVec n := if c.getLsbD (n - 1) then (c <<< 1) ^^^ poly else c <<< 1

/-- `k` bits of a CRC taken most significant bit first. -/
def crcMBits {n : Nat} (poly : BitVec n) : Nat → BitVec n → BitVec n
  | 0, c => c
  | k + 1, c => crcMBits poly k (crcMBit poly c)

/-- CRC-8 with polynomial 0x2F, initial value 0xFF and final exclusive-or 0xFF (R327). -/
def crc8 (bs : List Byte) : Byte := (bs.foldl (fun c b => crcMBits (0x2F : Byte) 8 (c ^^^ b)) 0xFF) ^^^ 0xFF

/-- CRC-64 of R259: polynomial 0x42F0_E1EB_A9EA_3693 reflected, initial value and final exclusive-or all ones. -/
def crc64 (bs : List Byte) : W64 := ~~~(bs.foldl (crcRByte (0xC96C5795D7870F42 : W64)) (BitVec.allOnes 64))

/-! ### SHA-256 (FIPS 180-4) and HMAC (FIPS 198-1) -/

/-- Bit by bit from bit `n` down, the largest `r` with `f r ≤ m` that extends `acc`. -/
def rootBits (f : Nat → Nat) (m : Nat) : Nat → Nat → Nat
  | 0, acc => acc
  | n + 1, acc => rootBits f m n (if f (acc + 2 ^ n) ≤ m then acc + 2 ^ n else acc)
/-- The primes up to 311, the 64 that FIPS 180-4 takes its constants from. -/
def shaPrimes : List Nat := (List.range 312).filter (fun p => decide (2 ≤ p) && ((List.range 18).drop 2).all (fun d => p == d || p % d != 0))
/-- FIPS 180-4, 4.2.2: the first 32 bits of the fractional parts of the cube roots of those primes. -/
def shaCubes : List W := shaPrimes.map (fun p => BitVec.ofNat 32 (rootBits (fun r => r * r * r) (p * 2 ^ 96) 36 0))
/-- FIPS 180-4, 5.3.3: the first 32 bits of the fractional parts of the square roots of the first eight primes. -/
def shaStart : List W := (shaPrimes.take 8).map (fun p => BitVec.ofNat 32 (rootBits (fun r => r * r) (p * 2 ^ 64) 37 0))

/-- Rotations of a word by each amount of a list, and its shift by `sh` (none: 0), added modulo 2: the Σ and σ functions of FIPS 180-4. -/
def sigma (rots : List Nat) (sh : Option Nat) (w : W) : W :=
  (rots.map w.rotateRight).foldl (· ^^^ ·) (match sh with | some n => w >>> n | none => 0)
/-- One round (FIPS 180-4, 6.2.2 step 3) on the working variables, oldest names first: a to h in one list. -/
def shaStep (v : List W) (kw : W) : List W :=
  let x (i : Nat) : W := v.getD i 0
  let t := x 7 + sigma [6, 11, 25] none (x 4) + (x 6 ^^^ (x 4 &&& (x 5 ^^^ x 6))) + kw
  let u := sigma [2, 13, 22] none (x 0) + ((x 0 &&& (x 1 ||| x 2)) ||| (x 1 &&& x 2))
  (t + u) :: ((v.take 7).set 3 (x 3 + t))
/-- The message schedule (6.2.2 step 1), `n` words beyond those given, newest first. -/
def shaSchedule : Nat → List W → List W
  | 0, w => w
  | n + 1, w =>
    shaSchedule n ((sigma [17, 19] (some 10) (w.getD 1 0) + w.getD 6 0 + sigma [7, 18] (some 3) (w.getD 14 0) + w.getD 15 0) :: w)
/-- The hash after one more block of 16 words. -/
def shaBlock (h block : List W) : List W :=
  let kws := (shaCubes.zip (shaSchedule 48 block.reverse).reverse).map (fun e => e.1 + e.2)
  List.zipWith (· + ·) h (kws.foldl shaStep h)

/-- Big-endian words of a byte list, four bytes each. -/
def beWords : List Byte → List W
  | b0 :: b1 :: b2 :: b3 :: rest => (b0 ++ b1 ++ b2 ++ b3) :: beWords rest
  | _ => []

/-- Hash `n` blocks of 16 words each. -/
def shaBlocks : Nat → List W → List W → List W
  | 0, _, h => h
  | n + 1, ws, h => shaBlocks n (ws.drop 16) (shaBlock h (ws.take 16))

/-- The bytes of a number, `n` of them, most significant first. -/
def beBytes : Nat → Nat → List Byte
  | 0, _ => []
  | n + 1, v => BitVec.ofNat 8 (v / 2 ^ (8 * n)) :: beBytes n v

/-- The bytes of a number, `n` of them, least significant first. -/
def leBytes : Nat → Nat → List Byte
  | 0, _ => []
  | n + 1, v => BitVec.ofNat 8 v :: leBytes n (v / 256)

/-- The number that little-endian bytes spell. -/
def leVal : List Byte → Nat
  | [] => 0
  | b :: bs => b.toNat + 256 * leVal bs

/-- The number that big-endian bytes spell. -/
def beVal (bs : List Byte) : Nat := bs.foldl (fun v b => v * 256 + b.toNat) 0

/-- SHA-256 of a list of bytes, 32 bytes. -/
def sha256 (bs : List Byte) : List Byte :=
  let padded := bs ++ (0x80 : Byte) :: (List.replicate ((119 - bs.length % 64) % 64) (0 : Byte) ++ beBytes 8 (8 * bs.length))
  (shaBlocks (padded.length / 64) (beWords padded) shaStart).flatMap (fun w => beBytes 4 w.toNat)

/-- HMAC-SHA-256 of a message under a key of at most 64 bytes. -/
def hmacSha256 (key msg : List Byte) : List Byte :=
  let k := key ++ List.replicate (64 - key.length) (0 : Byte)
  sha256 (k.map (· ^^^ 0x5C) ++ sha256 (k.map (· ^^^ 0x36) ++ msg))

end Sys2Proof.Machine
end

