-- ==== Sys2Proof/Machine/FMap.lean ====
section
/-!
DEFINITION. Sparse tables in one canonical form: keys strictly rising, and no entry equal to what an unlisted key
reads as (the default `d`). Memory, the register file and every indexed family of units are held this way.
-/
namespace Sys2Proof.Machine

/-- The entry at `k`, if listed. -/
def FMap.find? {α : Type} : FMap α → Nat → Option α
  | [], _ => none
  | (k', v) :: m, k => if k' = k then some v else FMap.find? m k

/-- The value at `k`: the entry, or the default. -/
def FMap.get {α : Type} (d : Nat → α) (m : FMap α) (k : Nat) : α := (FMap.find? m k).getD (d k)

/-- Remove the entry at `k`. -/
def FMap.erase {α : Type} : FMap α → Nat → FMap α
  | [], _ => []
  | (k', v) :: m, k => if k' = k then m else if k < k' then (k', v) :: m else (k', v) :: FMap.erase m k

/-- Put the entry at `k` in its place. -/
def FMap.insert {α : Type} : FMap α → Nat → α → FMap α
  | [], k, v => [(k, v)]
  | (k', v') :: m, k, v =>
    if k' = k then (k, v) :: m else if k < k' then (k, v) :: (k', v') :: m else (k', v') :: FMap.insert m k v

/-- Set the value at `k`, keeping the canonical form: the default value removes the entry. -/
def FMap.set {α : Type} [DecidableEq α] (d : Nat → α) (m : FMap α) (k : Nat) (v : α) : FMap α :=
  if v = d k then FMap.erase m k else FMap.insert m k v

/-- Change every listed value; what becomes the default leaves the table. -/
def FMap.mapV {α : Type} [DecidableEq α] (d : Nat → α) (f : α → α) (m : FMap α) : FMap α :=
  (m.map (fun e => (e.1, f e.2))).filter (fun e => decide (e.2 ≠ d e.1))

/-- Forget every entry whose key satisfies `p`: those keys read as the default again. -/
def FMap.forget {α : Type} (p : Nat → Bool) (m : FMap α) : FMap α := m.filter (fun e => !p e.1)

/-- Every key of the table lies above `k`. -/
def FMap.above {α : Type} (k : Nat) (m : FMap α) : Bool := m.all (fun e => decide (k < e.1))

/-- The canonical form: keys strictly rising, no default entry. -/
def FMap.wf {α : Type} [DecidableEq α] (d : Nat → α) : FMap α → Bool
  | [] => true
  | (k, v) :: m => decide (v ≠ d k) && FMap.above k m && FMap.wf d m

end Sys2Proof.Machine
end

