-- ==== Sys2Proof/Machine/RegMap.lean ====
section
/-!
DEFINITION. The register map of PF0 BAR0 (rule R35, the register tables of spec/02 to spec/16).
One address function per register (a group of registers takes its index, outer index first) and one table of rows
that gives each register its reset value and, for each access type of rule R469, the mask of its bits of that type.
A register the spec calls RO, or a reserved field, appears in no mask.
-/
namespace Sys2Proof.Machine

/-- `GCTL_ACC_ERR_SEQ` (spec/02, R469). -/
def aGCTL_ACC_ERR_SEQ : Nat := 0x10020
/-- `GCTL_ACC_ERR` (spec/02, R469). -/
def aGCTL_ACC_ERR : Nat := 0x10024
/-- `GCTL_ACC_ERR_ADDR` (spec/02, R469). -/
def aGCTL_ACC_ERR_ADDR : Nat := 0x10028
/-- `GCTL_ACC_ERR_CNT` (spec/02, R469). -/
def aGCTL_ACC_ERR_CNT : Nat := 0x1002c
/-- `GCTL_UPDATE` (spec/02, R468). -/
def aGCTL_UPDATE : Nat := 0x10000
/-- `GCTL_UPDATE_STAT` (spec/02, R468). -/
def aGCTL_UPDATE_STAT : Nat := 0x10004
/-- `LEG_ID` (spec/02, R63). -/
def aLEG_ID : Nat := 0x0
/-- `LEG_UNITS0` (spec/02, R63). -/
def aLEG_UNITS0 : Nat := 0x4
/-- `LEG_UNITS1` (spec/02, R63). -/
def aLEG_UNITS1 : Nat := 0x8
/-- `LEG_FIELD` (spec/02, R63). -/
def aLEG_FIELD : Nat := 0xc
/-- `LEG_ROLES` (spec/02, R63). -/
def aLEG_ROLES : Nat := 0x10
/-- `LEG_LANE_MAP` (spec/02, R63). -/
def aLEG_LANE_MAP (i : Nat) : Nat := 0x20 + 4 * i
/-- `LEG_ENG_MAP` (spec/02, R63). -/
def aLEG_ENG_MAP (i : Nat) : Nat := 0x30 + 4 * i
/-- `LEG_PART_MAP` (spec/02, R63). -/
def aLEG_PART_MAP (i : Nat) : Nat := 0x40 + 4 * i
/-- `LEG_CAN_MAP` (spec/02, R63). -/
def aLEG_CAN_MAP : Nat := 0x80
/-- `LEG_PROG_KW` (spec/02, R63). -/
def aLEG_PROG_KW : Nat := 0x90
/-- `LEG_DATA_KIB` (spec/02, R63). -/
def aLEG_DATA_KIB : Nat := 0x94
/-- `LEG_IMAGE_KIB` (spec/02, R63). -/
def aLEG_IMAGE_KIB : Nat := 0x98
/-- `LEG_PKTBUF_KIB` (spec/02, R63). -/
def aLEG_PKTBUF_KIB : Nat := 0x9c
/-- `LEG_TRANS_KIB` (spec/02, R63). -/
def aLEG_TRANS_KIB : Nat := 0xa0
/-- `LEG_NV_KIB` (spec/02, R63). -/
def aLEG_NV_KIB : Nat := 0xa4
/-- `LEG_SLOTS` (spec/02, R63). -/
def aLEG_SLOTS : Nat := 0xa8
/-- `GAZ_LOT_LO` (spec/02, R63). -/
def aGAZ_LOT_LO (i : Nat) : Nat := 0x8000 + 16 * i
/-- `GAZ_LOT_HI` (spec/02, R63). -/
def aGAZ_LOT_HI (i : Nat) : Nat := 0x8004 + 16 * i
/-- `GAZ_POS` (spec/02, R63). -/
def aGAZ_POS (i : Nat) : Nat := 0x8008 + 16 * i
/-- `GAZ_PART` (spec/02, R63). -/
def aGAZ_PART : Nat := 0x8020
/-- `GAZ_CRC` (spec/02, R63). -/
def aGAZ_CRC : Nat := 0x8024
/-- `GAZ_MAC_LO` (spec/02, R63). -/
def aGAZ_MAC_LO : Nat := 0x8028
/-- `GAZ_MAC_HI` (spec/02, R63). -/
def aGAZ_MAC_HI : Nat := 0x802c
/-- `ENG_TRAP_SEQ` (spec/03, R75). -/
def aENG_TRAP_SEQ (i : Nat) : Nat := 0x200040 + 8192 * i
/-- `ENG_TRAP` (spec/03, R75). -/
def aENG_TRAP (i : Nat) : Nat := 0x200044 + 8192 * i
/-- `ENG_TRAP_P` (spec/03, R75). -/
def aENG_TRAP_P (i : Nat) : Nat := 0x200048 + 8192 * i
/-- `ENG_TRAP_ADDR` (spec/03, R75). -/
def aENG_TRAP_ADDR (i : Nat) : Nat := 0x20004c + 8192 * i
/-- `ENT_HDR` (spec/04, R112). -/
def aENT_HDR (i : Nat) (j : Nat) : Nat := 0x610000 + 65536 * i + 256 * j
/-- `UOP` (spec/04, R112). -/
def aUOP (i : Nat) (j : Nat) (k : Nat) : Nat := 0x610080 + 65536 * i + 256 * j + 4 * k
/-- `DT_STAT` (spec/04, R114). -/
def aDT_STAT : Nat := 0x600000
/-- `DT_ACTIVE_ID` (spec/04, R114). -/
def aDT_ACTIVE_ID : Nat := 0x600004
/-- `DT_SWITCH` (spec/04, R114). -/
def aDT_SWITCH : Nat := 0x600008
/-- `DT_ID0` (spec/04, R114). -/
def aDT_ID0 : Nat := 0x600010
/-- `DT_CRC0` (spec/04, R114). -/
def aDT_CRC0 : Nat := 0x600014
/-- `DT_ID1` (spec/04, R114). -/
def aDT_ID1 : Nat := 0x600018
/-- `DT_CRC1` (spec/04, R114). -/
def aDT_CRC1 : Nat := 0x60001c
/-- `DT_CONFLICT_LO` (spec/04, R114). -/
def aDT_CONFLICT_LO : Nat := 0x600020
/-- `DT_CONFLICT_HI` (spec/04, R114). -/
def aDT_CONFLICT_HI : Nat := 0x600024
/-- `DT_CONFLICT_PART` (spec/04, R114). -/
def aDT_CONFLICT_PART : Nat := 0x600028
/-- `DT_BAD_ENTRY` (spec/04, R114). -/
def aDT_BAD_ENTRY : Nat := 0x60002c
/-- `PD_PTIME_LO` (spec/05, R127). -/
def aPD_PTIME_LO (i : Nat) : Nat := 0x300040 + 2048 * i
/-- `PD_PTIME_HI` (spec/05, R127). -/
def aPD_PTIME_HI (i : Nat) : Nat := 0x300044 + 2048 * i
/-- `PD_OFFSET_LO` (spec/05, R127). -/
def aPD_OFFSET_LO (i : Nat) : Nat := 0x300048 + 2048 * i
/-- `PD_OFFSET_HI` (spec/05, R127). -/
def aPD_OFFSET_HI (i : Nat) : Nat := 0x30004c + 2048 * i
/-- `TT_CTL` (spec/05, R127). -/
def aTT_CTL (i : Nat) (j : Nat) : Nat := 0x300200 + 2048 * i + 16 * j
/-- `TT_PERIOD` (spec/05, R127). -/
def aTT_PERIOD (i : Nat) (j : Nat) : Nat := 0x300204 + 2048 * i + 16 * j
/-- `TT_PHASE` (spec/05, R127). -/
def aTT_PHASE (i : Nat) (j : Nat) : Nat := 0x300208 + 2048 * i + 16 * j
/-- `TT_DEADLINE` (spec/05, R127). -/
def aTT_DEADLINE (i : Nat) (j : Nat) : Nat := 0x30020c + 2048 * i + 16 * j
/-- `DSP_COMMIT` (spec/05, R129). -/
def aDSP_COMMIT : Nat := 0x100000
/-- `DSP_STAT` (spec/05, R129). -/
def aDSP_STAT : Nat := 0x100004
/-- `PD_MODE` (spec/05, R142). -/
def aPD_MODE (i : Nat) : Nat := 0x300000 + 2048 * i
/-- `PD_CMD` (spec/05, R142). -/
def aPD_CMD (i : Nat) : Nat := 0x300004 + 2048 * i
/-- `PD_CMD_STAT` (spec/05, R142). -/
def aPD_CMD_STAT (i : Nat) : Nat := 0x300008 + 2048 * i
/-- `PD_OPT` (spec/05, R142). -/
def aPD_OPT (i : Nat) : Nat := 0x300030 + 2048 * i
/-- `PD_TSTAT` (spec/05, R153). -/
def aPD_TSTAT (i : Nat) (j : Nat) : Nat := 0x300100 + 2048 * i + 16 * j
/-- `PD_TPASS` (spec/05, R153). -/
def aPD_TPASS (i : Nat) (j : Nat) : Nat := 0x300104 + 2048 * i + 16 * j
/-- `PD_TLAST` (spec/05, R153). -/
def aPD_TLAST (i : Nat) (j : Nat) : Nat := 0x300108 + 2048 * i + 16 * j
/-- `PD_TMAX` (spec/05, R153). -/
def aPD_TMAX (i : Nat) (j : Nat) : Nat := 0x30010c + 2048 * i + 16 * j
/-- `PD_EVT_SEQ` (spec/05, R153). -/
def aPD_EVT_SEQ (i : Nat) : Nat := 0x300010 + 2048 * i
/-- `PD_EVT` (spec/05, R153). -/
def aPD_EVT (i : Nat) : Nat := 0x300014 + 2048 * i
/-- `PD_EVT_EN` (spec/05, R153). -/
def aPD_EVT_EN (i : Nat) : Nat := 0x300018 + 2048 * i
/-- `PD_EVT_VEC` (spec/05, R153). -/
def aPD_EVT_VEC (i : Nat) : Nat := 0x30001c + 2048 * i
/-- `HDR_TABLE_ID` (spec/05, R153). -/
def aHDR_TABLE_ID (i : Nat) : Nat := 0x300300 + 2048 * i
/-- `HDR_USED_LO` (spec/05, R153). -/
def aHDR_USED_LO (i : Nat) : Nat := 0x300304 + 2048 * i
/-- `HDR_USED_HI` (spec/05, R153). -/
def aHDR_USED_HI (i : Nat) : Nat := 0x300308 + 2048 * i
/-- `HDR_VERSION` (spec/05, R153). -/
def aHDR_VERSION (i : Nat) : Nat := 0x30030c + 2048 * i
/-- `HDR_ENTRY` (spec/05, R153). -/
def aHDR_ENTRY (i : Nat) (j : Nat) : Nat := 0x300310 + 2048 * i + 4 * j
/-- `HDR_MIG` (spec/05, R153). -/
def aHDR_MIG (i : Nat) : Nat := 0x300334 + 2048 * i
/-- `PD_COMMIT` (spec/05, R153). -/
def aPD_COMMIT (i : Nat) : Nat := 0x300060 + 2048 * i
/-- `PD_EDIT_STAT` (spec/05, R153). -/
def aPD_EDIT_STAT (i : Nat) : Nat := 0x300064 + 2048 * i
/-- `PD_EDIT_PAUSE` (spec/05, R153). -/
def aPD_EDIT_PAUSE (i : Nat) : Nat := 0x300068 + 2048 * i
/-- `TR_OWN_PROG` (spec/06, R171). -/
def aTR_OWN_PROG (i : Nat) : Nat := 0x420000 + 4 * i
/-- `TR_OWN_DATA` (spec/06, R171). -/
def aTR_OWN_DATA (i : Nat) : Nat := 0x428000 + 4 * i
/-- `TR_OWN_IMG` (spec/06, R171). -/
def aTR_OWN_IMG (i : Nat) : Nat := 0x438000 + 4 * i
/-- `TR_CMD` (spec/06, R174). -/
def aTR_CMD : Nat := 0x400000
/-- `TR_ARG0` (spec/06, R174). -/
def aTR_ARG0 : Nat := 0x400004
/-- `TR_ARG1` (spec/06, R174). -/
def aTR_ARG1 : Nat := 0x400008
/-- `TR_CMD_STAT` (spec/06, R174). -/
def aTR_CMD_STAT : Nat := 0x40000c
/-- `TR_RESULT` (spec/06, R174). -/
def aTR_RESULT : Nat := 0x400010
/-- `TR_PSEL` (spec/06, R174). -/
def aTR_PSEL : Nat := 0x400014
/-- `TR_FREE_PROG` (spec/06, R174). -/
def aTR_FREE_PROG : Nat := 0x400018
/-- `TR_FREE_DATA` (spec/06, R174). -/
def aTR_FREE_DATA : Nat := 0x40001c
/-- `TR_FREE_IMG` (spec/06, R174). -/
def aTR_FREE_IMG : Nat := 0x400020
/-- `TR_ERR_SEQ` (spec/06, R174). -/
def aTR_ERR_SEQ : Nat := 0x400030
/-- `TR_ERR` (spec/06, R174). -/
def aTR_ERR : Nat := 0x400034
/-- `TR_ERR_CNT` (spec/06, R174). -/
def aTR_ERR_CNT : Nat := 0x400038
/-- `TR_ENT` (spec/06, R174). -/
def aTR_ENT (i : Nat) : Nat := 0x410000 + 4 * i
/-- `PD_TR_BASE` (spec/06, R178). -/
def aPD_TR_BASE (i : Nat) : Nat := 0x300380 + 2048 * i
/-- `PD_PAGES_PD` (spec/06, R178). -/
def aPD_PAGES_PD (i : Nat) : Nat := 0x300384 + 2048 * i
/-- `PD_PAGES_IMG` (spec/06, R178). -/
def aPD_PAGES_IMG (i : Nat) : Nat := 0x300388 + 2048 * i
/-- `PD_CTX_BASE` (spec/06, R178). -/
def aPD_CTX_BASE (i : Nat) : Nat := 0x300390 + 2048 * i
/-- `PD_MOV_RANGE` (spec/06, R178). -/
def aPD_MOV_RANGE (i : Nat) : Nat := 0x300394 + 2048 * i
/-- `PD_RES` (spec/06, R178). -/
def aPD_RES (i : Nat) : Nat := 0x300398 + 2048 * i
/-- `PD_FIO` (spec/06, R178). -/
def aPD_FIO (i : Nat) : Nat := 0x30039c + 2048 * i
/-- `PD_MOVFLT_SEQ` (spec/06, R178). -/
def aPD_MOVFLT_SEQ (i : Nat) : Nat := 0x3003b0 + 2048 * i
/-- `PD_MOVFLT` (spec/06, R178). -/
def aPD_MOVFLT (i : Nat) : Nat := 0x3003b4 + 2048 * i
/-- `PD_MOVFLT_CNT` (spec/06, R178). -/
def aPD_MOVFLT_CNT (i : Nat) : Nat := 0x3003b8 + 2048 * i
/-- `MD_0` (spec/06, R183). -/
def aMD_0 (i : Nat) : Nat := 0x510000 + 16 * i
/-- `LN_MODE` (spec/07, R197). -/
def aLN_MODE (i : Nat) : Nat := 0xc00010 + 16384 * i
/-- `LN_STAT` (spec/07, R197). -/
def aLN_STAT (i : Nat) : Nat := 0xc00014 + 16384 * i
/-- `SW_PORT_CFG` (spec/07, R206). -/
def aSW_PORT_CFG (i : Nat) : Nat := 0x810000 + 256 * i
/-- `SW_PORT_TC` (spec/07, R206). -/
def aSW_PORT_TC (i : Nat) : Nat := 0x810004 + 256 * i
/-- `SW_GATE_BASE_LO` (spec/07, R206). -/
def aSW_GATE_BASE_LO (i : Nat) : Nat := 0x810008 + 256 * i
/-- `SW_GATE_BASE_HI` (spec/07, R206). -/
def aSW_GATE_BASE_HI (i : Nat) : Nat := 0x81000c + 256 * i
/-- `SW_GATE_CYCLE` (spec/07, R206). -/
def aSW_GATE_CYCLE (i : Nat) : Nat := 0x810010 + 256 * i
/-- `SW_GATE_CNT` (spec/07, R206). -/
def aSW_GATE_CNT (i : Nat) : Nat := 0x810014 + 256 * i
/-- `SW_PORT_STAT` (spec/07, R206). -/
def aSW_PORT_STAT (i : Nat) : Nat := 0x810020 + 256 * i
/-- `QM_Q0` (spec/07, R209). -/
def aQM_Q0 (i : Nat) : Nat := 0xf00000 + 16 * i
/-- `QM_Q1` (spec/07, R209). -/
def aQM_Q1 (i : Nat) : Nat := 0xf00004 + 16 * i
/-- `QM_Q2` (spec/07, R209). -/
def aQM_Q2 (i : Nat) : Nat := 0xf00008 + 16 * i
/-- `QM_Q3` (spec/07, R209). -/
def aQM_Q3 (i : Nat) : Nat := 0xf0000c + 16 * i
/-- `SW_ST0` (spec/07, R471). -/
def aSW_ST0 (i : Nat) : Nat := 0xa00000 + 32 * i
/-- `SW_ST1` (spec/07, R471). -/
def aSW_ST1 (i : Nat) : Nat := 0xa00004 + 32 * i
/-- `SW_ST2` (spec/07, R471). -/
def aSW_ST2 (i : Nat) : Nat := 0xa00008 + 32 * i
/-- `SW_ST3` (spec/07, R471). -/
def aSW_ST3 (i : Nat) : Nat := 0xa0000c + 32 * i
/-- `SW_ST4` (spec/07, R471). -/
def aSW_ST4 (i : Nat) : Nat := 0xa00010 + 32 * i
/-- `SW_ST5` (spec/07, R471). -/
def aSW_ST5 (i : Nat) : Nat := 0xa00014 + 32 * i
/-- `SW_ST6` (spec/07, R471). -/
def aSW_ST6 (i : Nat) : Nat := 0xa00018 + 32 * i
/-- `SW_ST7` (spec/07, R471). -/
def aSW_ST7 (i : Nat) : Nat := 0xa0001c + 32 * i
/-- `SW_SLOT0` (spec/07, R224). -/
def aSW_SLOT0 (i : Nat) : Nat := 0x900000 + 16 * i
/-- `SW_SLOT1` (spec/07, R224). -/
def aSW_SLOT1 (i : Nat) : Nat := 0x900004 + 16 * i
/-- `SW_SLOT2` (spec/07, R224). -/
def aSW_SLOT2 (i : Nat) : Nat := 0x900008 + 16 * i
/-- `SW_SLOT3` (spec/07, R224). -/
def aSW_SLOT3 (i : Nat) : Nat := 0x90000c + 16 * i
/-- `SW_COMMIT` (spec/07, R229). -/
def aSW_COMMIT : Nat := 0x800000
/-- `SW_COMMIT_STAT` (spec/07, R229). -/
def aSW_COMMIT_STAT : Nat := 0x800004
/-- `SW_ETYPE` (spec/07, R229). -/
def aSW_ETYPE : Nat := 0x800010
/-- `SW_SPAN_DA_LO` (spec/07, R229). -/
def aSW_SPAN_DA_LO : Nat := 0x800014
/-- `SW_SPAN_DA_HI` (spec/07, R229). -/
def aSW_SPAN_DA_HI : Nat := 0x800018
/-- `SW_EVT_SEQ` (spec/07, R229). -/
def aSW_EVT_SEQ : Nat := 0x800020
/-- `SW_EVT` (spec/07, R229). -/
def aSW_EVT : Nat := 0x800024
/-- `SW_EVT_EN` (spec/07, R229). -/
def aSW_EVT_EN : Nat := 0x800028
/-- `SW_EVT_VEC` (spec/07, R229). -/
def aSW_EVT_VEC : Nat := 0x80002c
/-- `MOV_COMMIT` (spec/07, R230). -/
def aMOV_COMMIT : Nat := 0x500000
/-- `MOV_DEV_RANGE` (spec/07, R230). -/
def aMOV_DEV_RANGE : Nat := 0x500004
/-- `MOV_STI` (spec/07, R230). -/
def aMOV_STI : Nat := 0x500008
/-- `MOV_STAT` (spec/07, R230). -/
def aMOV_STAT : Nat := 0x50000c
/-- `SG_PERIOD` (spec/07, R230). -/
def aSG_PERIOD (i : Nat) : Nat := 0x500100 + 32 * i
/-- `SG_PHASE` (spec/07, R230). -/
def aSG_PHASE (i : Nat) : Nat := 0x500104 + 32 * i
/-- `SG_TIMEOUT` (spec/07, R230). -/
def aSG_TIMEOUT (i : Nat) : Nat := 0x500108 + 32 * i
/-- `SG_TICKS` (spec/07, R230). -/
def aSG_TICKS (i : Nat) : Nat := 0x50010c + 32 * i
/-- `RU_COMMIT` (spec/08, R242). -/
def aRU_COMMIT : Nat := 0xd0000
/-- `RU_CFG` (spec/08, R242). -/
def aRU_CFG : Nat := 0xd0004
/-- `RU_TIMING` (spec/08, R242). -/
def aRU_TIMING : Nat := 0xd0008
/-- `RU_SYNC` (spec/08, R242). -/
def aRU_SYNC : Nat := 0xd000c
/-- `RU_REQ` (spec/08, R242). -/
def aRU_REQ : Nat := 0xd0010
/-- `RU_WIT` (spec/08, R242). -/
def aRU_WIT (i : Nat) : Nat := 0xd0020 + 4 * i
/-- `RU_PARTS` (spec/08, R242). -/
def aRU_PARTS (i : Nat) : Nat := 0xd0040 + 4 * i
/-- `RU_STAT` (spec/08, R242). -/
def aRU_STAT : Nat := 0xd0120
/-- `RU_MR0` (spec/08, R254). -/
def aRU_MR0 (i : Nat) (j : Nat) : Nat := 0xd8000 + 64 * i + 8 * j
/-- `RU_MR1` (spec/08, R254). -/
def aRU_MR1 (i : Nat) (j : Nat) : Nat := 0xd8004 + 64 * i + 8 * j
/-- `RU_CMD` (spec/08, R273). -/
def aRU_CMD : Nat := 0xd0014
/-- `RU_CMD_STAT` (spec/08, R273). -/
def aRU_CMD_STAT : Nat := 0xd0018
/-- `RU_ROLE` (spec/08, R273). -/
def aRU_ROLE : Nat := 0xd0100
/-- `RU_LEASE` (spec/08, R273). -/
def aRU_LEASE : Nat := 0xd0104
/-- `RU_HIGH` (spec/08, R273). -/
def aRU_HIGH : Nat := 0xd0108
/-- `RU_EVT_SEQ` (spec/08, R273). -/
def aRU_EVT_SEQ : Nat := 0xd0110
/-- `RU_EVT` (spec/08, R273). -/
def aRU_EVT : Nat := 0xd0114
/-- `RU_EVT_EN` (spec/08, R273). -/
def aRU_EVT_EN : Nat := 0xd0118
/-- `RU_EVT_VEC` (spec/08, R273). -/
def aRU_EVT_VEC : Nat := 0xd011c
/-- `RU_PSTEP` (spec/08, R273). -/
def aRU_PSTEP (i : Nat) : Nat := 0xd0800 + 4 * i
/-- `WT_0` (spec/08, R274). -/
def aWT_0 (i : Nat) : Nat := 0xd0200 + 16 * i
/-- `WT_1` (spec/08, R274). -/
def aWT_1 (i : Nat) : Nat := 0xd0204 + 16 * i
/-- `WT_2` (spec/08, R274). -/
def aWT_2 (i : Nat) : Nat := 0xd0208 + 16 * i
/-- `WT_3` (spec/08, R274). -/
def aWT_3 (i : Nat) : Nat := 0xd020c + 16 * i
/-- `MER_TIME_LO` (spec/09, R277). -/
def aMER_TIME_LO : Nat := 0x50000
/-- `MER_TIME_HI` (spec/09, R277). -/
def aMER_TIME_HI : Nat := 0x50004
/-- `MER_FRAC` (spec/09, R277). -/
def aMER_FRAC : Nat := 0x50008
/-- `MER_CMD` (spec/09, R277). -/
def aMER_CMD : Nat := 0x5000c
/-- `MER_STEP_LO` (spec/09, R277). -/
def aMER_STEP_LO : Nat := 0x50010
/-- `MER_STEP_HI` (spec/09, R277). -/
def aMER_STEP_HI : Nat := 0x50014
/-- `MER_STAT` (spec/09, R277). -/
def aMER_STAT : Nat := 0x50018
/-- `MER_OFFS` (spec/09, R277). -/
def aMER_OFFS : Nat := 0x5001c
/-- `MER_CFG` (spec/09, R277). -/
def aMER_CFG : Nat := 0x50020
/-- `MER_CFG2` (spec/09, R277). -/
def aMER_CFG2 : Nat := 0x50024
/-- `MER_PPS` (spec/09, R277). -/
def aMER_PPS : Nat := 0x50028
/-- `MER_EVT_SEQ` (spec/09, R277). -/
def aMER_EVT_SEQ : Nat := 0x50030
/-- `MER_EVT` (spec/09, R277). -/
def aMER_EVT : Nat := 0x50034
/-- `MER_PPSIN_LO` (spec/09, R277). -/
def aMER_PPSIN_LO : Nat := 0x50038
/-- `MER_PPSIN_HI` (spec/09, R277). -/
def aMER_PPSIN_HI : Nat := 0x5003c
/-- `MER_EVT_EN` (spec/09, R277). -/
def aMER_EVT_EN : Nat := 0x50040
/-- `MER_EVT_VEC` (spec/09, R277). -/
def aMER_EVT_VEC : Nat := 0x50044
/-- `MER_CNT_SYNC` (spec/09, R277). -/
def aMER_CNT_SYNC : Nat := 0x50048
/-- `MER_CNT_DISC` (spec/09, R277). -/
def aMER_CNT_DISC : Nat := 0x5004c
/-- `MER_PEN` (spec/09, R277). -/
def aMER_PEN (i : Nat) : Nat := 0x51000 + 16 * i
/-- `MER_PDLY` (spec/09, R277). -/
def aMER_PDLY (i : Nat) : Nat := 0x51004 + 16 * i
/-- `MER_PASYM` (spec/09, R277). -/
def aMER_PASYM (i : Nat) : Nat := 0x51008 + 16 * i
/-- `RTC_TIME0` (spec/09, R295). -/
def aRTC_TIME0 : Nat := 0x60010
/-- `RTC_TIME1` (spec/09, R295). -/
def aRTC_TIME1 : Nat := 0x60014
/-- `RTC_STAT` (spec/09, R295). -/
def aRTC_STAT : Nat := 0x60018
/-- `RTC_SLEWREM` (spec/09, R295). -/
def aRTC_SLEWREM : Nat := 0x6001c
/-- `RTC_SET0` (spec/09, R295). -/
def aRTC_SET0 : Nat := 0x60020
/-- `RTC_SET1` (spec/09, R295). -/
def aRTC_SET1 : Nat := 0x60024
/-- `RTC_CORR` (spec/09, R295). -/
def aRTC_CORR : Nat := 0x60028
/-- `RTC_CMD` (spec/09, R295). -/
def aRTC_CMD : Nat := 0x6002c
/-- `RTC_CMD_STAT` (spec/09, R295). -/
def aRTC_CMD_STAT : Nat := 0x60030
/-- `RTC_ZONE` (spec/09, R295). -/
def aRTC_ZONE : Nat := 0x60034
/-- `RTC_TAIOFF` (spec/09, R295). -/
def aRTC_TAIOFF : Nat := 0x60038
/-- `RTC_TRIM` (spec/09, R295). -/
def aRTC_TRIM : Nat := 0x60040
/-- `RTC_MEASCFG` (spec/09, R295). -/
def aRTC_MEASCFG : Nat := 0x60044
/-- `RTC_MEAS_ERR` (spec/09, R295). -/
def aRTC_MEAS_ERR : Nat := 0x60048
/-- `RTC_MEAS_STAT` (spec/09, R295). -/
def aRTC_MEAS_STAT : Nat := 0x6004c
/-- `RTC_ALM_T0` (spec/09, R295). -/
def aRTC_ALM_T0 (i : Nat) : Nat := 0x60060 + 16 * i
/-- `RTC_ALM_T1` (spec/09, R295). -/
def aRTC_ALM_T1 (i : Nat) : Nat := 0x60064 + 16 * i
/-- `RTC_ALM_MASK` (spec/09, R295). -/
def aRTC_ALM_MASK (i : Nat) : Nat := 0x60068 + 16 * i
/-- `RTC_EVT_SEQ` (spec/09, R295). -/
def aRTC_EVT_SEQ : Nat := 0x60080
/-- `RTC_EVT` (spec/09, R295). -/
def aRTC_EVT : Nat := 0x60084
/-- `RTC_EVT_EN` (spec/09, R295). -/
def aRTC_EVT_EN : Nat := 0x60088
/-- `RTC_EVT_VEC` (spec/09, R295). -/
def aRTC_EVT_VEC : Nat := 0x6008c
/-- `FIO_IN` (spec/10, R313). -/
def aFIO_IN : Nat := 0xb0010
/-- `FIO_OUTST` (spec/10, R313). -/
def aFIO_OUTST : Nat := 0xb0014
/-- `FIO_FORCE` (spec/10, R313). -/
def aFIO_FORCE : Nat := 0xb0018
/-- `FIO_GSTAT` (spec/10, R313). -/
def aFIO_GSTAT : Nat := 0xb001c
/-- `FIO_TPST` (spec/10, R313). -/
def aFIO_TPST : Nat := 0xb0020
/-- `FIO_GMEAS` (spec/10, R313). -/
def aFIO_GMEAS (i : Nat) : Nat := 0xb0040 + 4 * i
/-- `FIO_CMD` (spec/10, R313). -/
def aFIO_CMD : Nat := 0xb0050
/-- `FIO_ARG` (spec/10, R313). -/
def aFIO_ARG : Nat := 0xb0054
/-- `FIO_CMD_STAT` (spec/10, R313). -/
def aFIO_CMD_STAT : Nat := 0xb0058
/-- `FIO_HOSTCMD` (spec/10, R313). -/
def aFIO_HOSTCMD : Nat := 0xb005c
/-- `FIO_HB` (spec/10, R313). -/
def aFIO_HB : Nat := 0xb0060
/-- `TP_PERIOD` (spec/10, R313). -/
def aTP_PERIOD : Nat := 0xb0064
/-- `TP_CFG` (spec/10, R313). -/
def aTP_CFG (i : Nat) : Nat := 0xb0068 + 4 * i
/-- `FIO_EVT_SEQ` (spec/10, R313). -/
def aFIO_EVT_SEQ : Nat := 0xb0080
/-- `FIO_EVT` (spec/10, R313). -/
def aFIO_EVT : Nat := 0xb0084
/-- `FIO_EVT_EN` (spec/10, R313). -/
def aFIO_EVT_EN : Nat := 0xb0088
/-- `FIO_EVT_VEC` (spec/10, R313). -/
def aFIO_EVT_VEC : Nat := 0xb008c
/-- `FIO_CFG` (spec/10, R313). -/
def aFIO_CFG (i : Nat) : Nat := 0xb0100 + 16 * i
/-- `FIO_OWN` (spec/10, R313). -/
def aFIO_OWN (i : Nat) : Nat := 0xb0104 + 16 * i
/-- `FIO_DIAG` (spec/10, R313). -/
def aFIO_DIAG (i : Nat) : Nat := 0xb0108 + 16 * i
/-- `FIO_DCNT` (spec/10, R313). -/
def aFIO_DCNT (i : Nat) : Nat := 0xb010c + 16 * i
/-- `SF_STATE` (spec/11, R340). -/
def aSF_STATE : Nat := 0xc0010
/-- `SF_UNIT` (spec/11, R340). -/
def aSF_UNIT : Nat := 0xc0014
/-- `SF_ACT_ID` (spec/11, R340). -/
def aSF_ACT_ID : Nat := 0xc0018
/-- `SF_ACT_CRC` (spec/11, R340). -/
def aSF_ACT_CRC : Nat := 0xc001c
/-- `SF_CMD` (spec/11, R340). -/
def aSF_CMD : Nat := 0xc0020
/-- `SF_ARG` (spec/11, R340). -/
def aSF_ARG : Nat := 0xc0024
/-- `SF_CMD_STAT` (spec/11, R340). -/
def aSF_CMD_STAT : Nat := 0xc0028
/-- `SF_NETERR` (spec/11, R340). -/
def aSF_NETERR : Nat := 0xc0030
/-- `SF_EVT_SEQ` (spec/11, R340). -/
def aSF_EVT_SEQ : Nat := 0xc0080
/-- `SF_EVT` (spec/11, R340). -/
def aSF_EVT : Nat := 0xc0084
/-- `SF_EVT_EN` (spec/11, R340). -/
def aSF_EVT_EN : Nat := 0xc0088
/-- `SF_EVT_VEC` (spec/11, R340). -/
def aSF_EVT_VEC : Nat := 0xc008c
/-- `SF_FSTAT` (spec/11, R340). -/
def aSF_FSTAT (i : Nat) : Nat := 0xc0100 + 8 * i
/-- `SF_FTRIPS` (spec/11, R340). -/
def aSF_FTRIPS (i : Nat) : Nat := 0xc0104 + 8 * i
/-- `SQ_STAT` (spec/11, R340). -/
def aSQ_STAT (i : Nat) : Nat := 0xc0200 + 4 * i
/-- `SFP_CFG` (spec/11, R340). -/
def aSFP_CFG (i : Nat) : Nat := 0xc1000 + 32 * i
/-- `SFP_IN` (spec/11, R340). -/
def aSFP_IN (i : Nat) : Nat := 0xc1004 + 32 * i
/-- `SFP_TP` (spec/11, R340). -/
def aSFP_TP (i : Nat) : Nat := 0xc1008 + 32 * i
/-- `SFP_RST` (spec/11, R340). -/
def aSFP_RST (i : Nat) : Nat := 0xc100c + 32 * i
/-- `SFP_NET0` (spec/11, R340). -/
def aSFP_NET0 (i : Nat) : Nat := 0xc1010 + 32 * i
/-- `SFP_NET1` (spec/11, R340). -/
def aSFP_NET1 (i : Nat) : Nat := 0xc1014 + 32 * i
/-- `SQP_CFG` (spec/11, R340). -/
def aSQP_CFG (i : Nat) : Nat := 0xc1200 + 8 * i
/-- `SQP_DT` (spec/11, R340). -/
def aSQP_DT (i : Nat) : Nat := 0xc1204 + 8 * i
/-- `SFP_SET_ID` (spec/11, R340). -/
def aSFP_SET_ID : Nat := 0xc1240
/-- `SFP_SRCID` (spec/11, R340). -/
def aSFP_SRCID : Nat := 0xc1244
/-- `SFP_TPPER` (spec/11, R340). -/
def aSFP_TPPER : Nat := 0xc1248
/-- `SFP_TPW` (spec/11, R340). -/
def aSFP_TPW : Nat := 0xc124c
/-- `SFP_CRC` (spec/11, R340). -/
def aSFP_CRC : Nat := 0xc125c
/-- `CAN_CTL` (spec/12, R361). -/
def aCAN_CTL (i : Nat) : Nat := 0x1000010 + 65536 * i
/-- `CAN_NBT` (spec/12, R361). -/
def aCAN_NBT (i : Nat) : Nat := 0x1000014 + 65536 * i
/-- `CAN_DBT` (spec/12, R361). -/
def aCAN_DBT (i : Nat) : Nat := 0x1000018 + 65536 * i
/-- `CAN_SSP` (spec/12, R361). -/
def aCAN_SSP (i : Nat) : Nat := 0x100001c + 65536 * i
/-- `CAN_TTREF` (spec/12, R361). -/
def aCAN_TTREF (i : Nat) : Nat := 0x1000020 + 65536 * i
/-- `CAN_TTCYC` (spec/12, R361). -/
def aCAN_TTCYC (i : Nat) : Nat := 0x1000024 + 65536 * i
/-- `CAN_TTPH` (spec/12, R361). -/
def aCAN_TTPH (i : Nat) : Nat := 0x1000028 + 65536 * i
/-- `CAN_STAT` (spec/12, R361). -/
def aCAN_STAT (i : Nat) : Nat := 0x1000030 + 65536 * i
/-- `CAN_CFGERR` (spec/12, R361). -/
def aCAN_CFGERR (i : Nat) : Nat := 0x1000034 + 65536 * i
/-- `CAN_CFGOBJ` (spec/12, R361). -/
def aCAN_CFGOBJ (i : Nat) : Nat := 0x1000038 + 65536 * i
/-- `CAN_LOOPD` (spec/12, R361). -/
def aCAN_LOOPD (i : Nat) : Nat := 0x100003c + 65536 * i
/-- `CAN_CMD` (spec/12, R361). -/
def aCAN_CMD (i : Nat) : Nat := 0x1000040 + 65536 * i
/-- `CAN_CMD_STAT` (spec/12, R361). -/
def aCAN_CMD_STAT (i : Nat) : Nat := 0x1000044 + 65536 * i
/-- `CAN_TTSTAT` (spec/12, R361). -/
def aCAN_TTSTAT (i : Nat) : Nat := 0x1000048 + 65536 * i
/-- `CAN_EVT_SEQ` (spec/12, R361). -/
def aCAN_EVT_SEQ (i : Nat) : Nat := 0x1000080 + 65536 * i
/-- `CAN_EVT` (spec/12, R361). -/
def aCAN_EVT (i : Nat) : Nat := 0x1000084 + 65536 * i
/-- `CAN_EVT_EN` (spec/12, R361). -/
def aCAN_EVT_EN (i : Nat) : Nat := 0x1000088 + 65536 * i
/-- `CAN_EVT_VEC` (spec/12, R361). -/
def aCAN_EVT_VEC (i : Nat) : Nat := 0x100008c + 65536 * i
/-- `OBJ_CFG` (spec/12, R361). -/
def aOBJ_CFG (i : Nat) (j : Nat) : Nat := 0x1001000 + 65536 * i + 8 * j
/-- `OBJ_OWN` (spec/12, R361). -/
def aOBJ_OWN (i : Nat) (j : Nat) : Nat := 0x1001004 + 65536 * i + 8 * j
/-- `MB_STAT` (spec/12, R361). -/
def aMB_STAT (i : Nat) (j : Nat) : Nat := 0x1002000 + 65536 * i + 128 * j
/-- `MB_OWN` (spec/12, R361). -/
def aMB_OWN (i : Nat) (j : Nat) : Nat := 0x1002004 + 65536 * i + 128 * j
/-- `MB_TRIG` (spec/12, R361). -/
def aMB_TRIG (i : Nat) (j : Nat) : Nat := 0x1002008 + 65536 * i + 128 * j
/-- `MB_WIN` (spec/12, R361). -/
def aMB_WIN (i : Nat) (j : Nat) : Nat := 0x100200c + 65536 * i + 128 * j
/-- `MB_ID` (spec/12, R361). -/
def aMB_ID (i : Nat) (j : Nat) : Nat := 0x1002010 + 65536 * i + 128 * j
/-- `MB_DATA` (spec/12, R361). -/
def aMB_DATA (i : Nat) (j : Nat) (k : Nat) : Nat := 0x1002014 + 65536 * i + 128 * j + 4 * k
/-- `OBJ_STAT` (spec/12, R361). -/
def aOBJ_STAT (i : Nat) (j : Nat) : Nat := 0x1004000 + 65536 * i + 96 * j
/-- `OBJ_REC` (spec/12, R361). -/
def aOBJ_REC (i : Nat) (j : Nat) (k : Nat) : Nat := 0x1004004 + 65536 * i + 96 * j + 4 * k
/-- `FLT_SEQ` (spec/13, R364). -/
def aFLT_SEQ : Nat := 0x20000
/-- `FLT_STAT_LO` (spec/13, R364). -/
def aFLT_STAT_LO : Nat := 0x20008
/-- `FLT_STAT_HI` (spec/13, R364). -/
def aFLT_STAT_HI : Nat := 0x2000c
/-- `FLT_CLASS` (spec/13, R364). -/
def aFLT_CLASS (i : Nat) : Nat := 0x20010 + 4 * i
/-- `FLT_FATAL_LO` (spec/13, R364). -/
def aFLT_FATAL_LO : Nat := 0x20020
/-- `FLT_FATAL_HI` (spec/13, R364). -/
def aFLT_FATAL_HI : Nat := 0x20024
/-- `FLT_FIRST` (spec/13, R364). -/
def aFLT_FIRST : Nat := 0x20028
/-- `FLT_PREV` (spec/13, R364). -/
def aFLT_PREV : Nat := 0x2002c
/-- `FLT_FIRST_T_LO` (spec/13, R364). -/
def aFLT_FIRST_T_LO : Nat := 0x20030
/-- `FLT_FIRST_T_HI` (spec/13, R364). -/
def aFLT_FIRST_T_HI : Nat := 0x20034
/-- `FLT_CFG` (spec/13, R364). -/
def aFLT_CFG : Nat := 0x20040
/-- `FLT_EN` (spec/13, R364). -/
def aFLT_EN : Nat := 0x20044
/-- `FLT_VEC` (spec/13, R364). -/
def aFLT_VEC : Nat := 0x20048
/-- `FLT_DUMP` (spec/13, R364). -/
def aFLT_DUMP : Nat := 0x20050
/-- `FLT_DREG` (spec/13, R364). -/
def aFLT_DREG (i : Nat) : Nat := 0x20080 + 8 * i
/-- `FLT_DREG_CNT` (spec/13, R364). -/
def aFLT_DREG_CNT (i : Nat) : Nat := 0x20084 + 8 * i
/-- `FLT_DET` (spec/13, R364). -/
def aFLT_DET (i : Nat) : Nat := 0x20100 + 4 * i
/-- `FLT_CNT` (spec/13, R364). -/
def aFLT_CNT (i : Nat) : Nat := 0x20200 + 4 * i
/-- `ENG_TEST` (spec/13, R378). -/
def aENG_TEST (i : Nat) : Nat := 0x200080 + 8192 * i
/-- `RST_CAUSE_SEQ` (spec/14, R387). -/
def aRST_CAUSE_SEQ : Nat := 0x30000
/-- `RST_CAUSE` (spec/14, R387). -/
def aRST_CAUSE : Nat := 0x30004
/-- `RST_ENG_MAP` (spec/14, R387). -/
def aRST_ENG_MAP (i : Nat) : Nat := 0x30010 + 4 * i
/-- `RST_BLK_MAP_LO` (spec/14, R387). -/
def aRST_BLK_MAP_LO : Nat := 0x30020
/-- `RST_BLK_MAP_HI` (spec/14, R387). -/
def aRST_BLK_MAP_HI : Nat := 0x30024
/-- `RST_LASTPART` (spec/14, R387). -/
def aRST_LASTPART : Nat := 0x30028
/-- `RST_CMD` (spec/14, R387). -/
def aRST_CMD : Nat := 0x30040
/-- `RST_CMD_STAT` (spec/14, R387). -/
def aRST_CMD_STAT : Nat := 0x30044
/-- `RST_HELD_LO` (spec/14, R387). -/
def aRST_HELD_LO : Nat := 0x30048
/-- `RST_HELD_HI` (spec/14, R387). -/
def aRST_HELD_HI : Nat := 0x3004c
/-- `RST_BOOTPH` (spec/14, R387). -/
def aRST_BOOTPH : Nat := 0x30050
/-- `RST_BOOTT` (spec/14, R387). -/
def aRST_BOOTT (i : Nat) : Nat := 0x30060 + 4 * i
/-- `WDG_EVT_SEQ` (spec/14, R399). -/
def aWDG_EVT_SEQ : Nat := 0x40000
/-- `WDG_EVT` (spec/14, R399). -/
def aWDG_EVT : Nat := 0x40004
/-- `WDG_EVT_EN` (spec/14, R399). -/
def aWDG_EVT_EN : Nat := 0x40008
/-- `WDG_EVT_VEC` (spec/14, R399). -/
def aWDG_EVT_VEC : Nat := 0x4000c
/-- `WDG_SPER` (spec/14, R399). -/
def aWDG_SPER (i : Nat) : Nat := 0x40100 + 64 * i
/-- `WDG_SSVC` (spec/14, R399). -/
def aWDG_SSVC (i : Nat) : Nat := 0x40104 + 64 * i
/-- `WDG_SSTAT` (spec/14, R399). -/
def aWDG_SSTAT (i : Nat) : Nat := 0x40108 + 64 * i
/-- `WDG_SCAP_P` (spec/14, R399). -/
def aWDG_SCAP_P (i : Nat) : Nat := 0x40110 + 64 * i
/-- `WDG_SCAP_T_LO` (spec/14, R399). -/
def aWDG_SCAP_T_LO (i : Nat) : Nat := 0x40118 + 64 * i
/-- `WDG_SCAP_T_HI` (spec/14, R399). -/
def aWDG_SCAP_T_HI (i : Nat) : Nat := 0x4011c + 64 * i
/-- `WDG_SCNT` (spec/14, R399). -/
def aWDG_SCNT (i : Nat) : Nat := 0x40120 + 64 * i
/-- `WDG_EPER` (spec/14, R399). -/
def aWDG_EPER (i : Nat) : Nat := 0x41000 + 16 * i
/-- `WDG_ESTAT` (spec/14, R399). -/
def aWDG_ESTAT (i : Nat) : Nat := 0x41004 + 16 * i
/-- `WDG_ECNT` (spec/14, R399). -/
def aWDG_ECNT (i : Nat) : Nat := 0x41008 + 16 * i
/-- `NV_STAT` (spec/15, R421). -/
def aNV_STAT : Nat := 0x70010
/-- `NV_CMD` (spec/15, R421). -/
def aNV_CMD : Nat := 0x70014
/-- `NV_PAGE` (spec/15, R421). -/
def aNV_PAGE : Nat := 0x70018
/-- `NV_OPH` (spec/15, R421). -/
def aNV_OPH : Nat := 0x7001c
/-- `NV_OPHF` (spec/15, R421). -/
def aNV_OPHF : Nat := 0x70020
/-- `NV_PCC` (spec/15, R421). -/
def aNV_PCC : Nat := 0x70024
/-- `NV_DUMPNO` (spec/15, R421). -/
def aNV_DUMPNO : Nat := 0x70028
/-- `NV_CADCFG` (spec/15, R421). -/
def aNV_CADCFG : Nat := 0x7002c
/-- `NV_CADGEN` (spec/15, R421). -/
def aNV_CADGEN : Nat := 0x70030
/-- `NV_CNT_CORR` (spec/15, R421). -/
def aNV_CNT_CORR : Nat := 0x70034
/-- `NV_CNT_UNCORR` (spec/15, R421). -/
def aNV_CNT_UNCORR : Nat := 0x70038
/-- `NV_BUF` (spec/15, R421). -/
def aNV_BUF (i : Nat) : Nat := 0x70100 + 4 * i
/-- `CAD_ALLOC` (spec/15, R421). -/
def aCAD_ALLOC (i : Nat) : Nat := 0x71000 + 4 * i
/-- `CAD_WIN` (spec/15, R421). -/
def aCAD_WIN (i : Nat) : Nat := 0x72000 + 4 * i
/-- `EVR_STAT` (spec/15, R421). -/
def aEVR_STAT : Nat := 0x80010
/-- `EVR_CMD` (spec/15, R421). -/
def aEVR_CMD : Nat := 0x80014
/-- `EVR_COUNT` (spec/15, R421). -/
def aEVR_COUNT : Nat := 0x80018
/-- `EVR_BYTES` (spec/15, R421). -/
def aEVR_BYTES : Nat := 0x8001c
/-- `EVR_CNT_SUPP` (spec/15, R421). -/
def aEVR_CNT_SUPP : Nat := 0x80020
/-- `EVR_CNT_DROP` (spec/15, R421). -/
def aEVR_CNT_DROP : Nat := 0x80024
/-- `EVR_CNT_STGOVF` (spec/15, R421). -/
def aEVR_CNT_STGOVF : Nat := 0x80028
/-- `EVR_CNT_NOBKT` (spec/15, R421). -/
def aEVR_CNT_NOBKT : Nat := 0x8002c
/-- `EVR_CNT_LOST` (spec/15, R421). -/
def aEVR_CNT_LOST : Nat := 0x80030
/-- `EVR_RD_IDX` (spec/15, R421). -/
def aEVR_RD_IDX : Nat := 0x80040
/-- `EVR_RD_HDR` (spec/15, R421). -/
def aEVR_RD_HDR (i : Nat) : Nat := 0x80044 + 4 * i
/-- `EVR_EVT_SEQ` (spec/15, R421). -/
def aEVR_EVT_SEQ : Nat := 0x80080
/-- `EVR_EVT` (spec/15, R421). -/
def aEVR_EVT : Nat := 0x80084
/-- `EVR_EVT_EN` (spec/15, R421). -/
def aEVR_EVT_EN : Nat := 0x80088
/-- `EVR_EVT_VEC` (spec/15, R421). -/
def aEVR_EVT_VEC : Nat := 0x8008c
/-- `EVR_RD_BODY` (spec/15, R421). -/
def aEVR_RD_BODY (i : Nat) : Nat := 0x80100 + 4 * i
/-- `AU_CMD` (spec/16, R434). -/
def aAU_CMD : Nat := 0x90010
/-- `AU_ARG` (spec/16, R434). -/
def aAU_ARG : Nat := 0x90014
/-- `AU_STAT` (spec/16, R434). -/
def aAU_STAT : Nat := 0x90018
/-- `AU_GRANT` (spec/16, R434). -/
def aAU_GRANT : Nat := 0x9001c
/-- `AU_LOCKREM` (spec/16, R434). -/
def aAU_LOCKREM : Nat := 0x90020
/-- `AU_NONCE` (spec/16, R434). -/
def aAU_NONCE (i : Nat) : Nat := 0x90030 + 4 * i
/-- `AU_MAC` (spec/16, R434). -/
def aAU_MAC (i : Nat) : Nat := 0x90040 + 4 * i
/-- `AU_RIGHTS` (spec/16, R434). -/
def aAU_RIGHTS (i : Nat) : Nat := 0x90060 + 4 * i
/-- `AU_KEYBUF` (spec/16, R434). -/
def aAU_KEYBUF (i : Nat) : Nat := 0x90100 + 4 * i
/-- `UPD_STAT` (spec/16, R443). -/
def aUPD_STAT : Nat := 0xa0010
/-- `UPD_VER_RUN` (spec/16, R443). -/
def aUPD_VER_RUN : Nat := 0xa0014
/-- `UPD_VER_A` (spec/16, R443). -/
def aUPD_VER_A : Nat := 0xa0018
/-- `UPD_VER_B` (spec/16, R443). -/
def aUPD_VER_B : Nat := 0xa001c
/-- `UPD_FVER` (spec/16, R443). -/
def aUPD_FVER : Nat := 0xa0020
/-- `UPD_SETGEN` (spec/16, R443). -/
def aUPD_SETGEN : Nat := 0xa0024
/-- `SP_STAT` (spec/16, R443). -/
def aSP_STAT : Nat := 0xa0030
/-- `SP_MAC_LO` (spec/16, R443). -/
def aSP_MAC_LO : Nat := 0xa0034
/-- `SP_MAC_HI` (spec/16, R443). -/
def aSP_MAC_HI : Nat := 0xa0038
/-- `SP_CFG` (spec/16, R443). -/
def aSP_CFG : Nat := 0xa003c
/-- `SP_CNT_DISC` (spec/16, R443). -/
def aSP_CNT_DISC : Nat := 0xa0040
/-- `GCTL_SURVEY` (spec/02, R57). -/
def aGCTL_SURVEY : Nat := 0x10010
/-- `GCTL_SURVEY_STAT` (spec/02, R58). -/
def aGCTL_SURVEY_STAT : Nat := 0x10014
/-- `GCTL_SURVEY_TIME_LO` (spec/02, R57). -/
def aGCTL_SURVEY_TIME_LO : Nat := 0x10018
/-- `GCTL_SURVEY_TIME_HI` (spec/02, R57). -/
def aGCTL_SURVEY_TIME_HI : Nat := 0x1001c
/-- `LN_FEC_CORR_LO` (spec/07, R197). -/
def aLN_FEC_CORR_LO (i : Nat) : Nat := 0xc00020 + 16384 * i
/-- `LN_FEC_CORR_HI` (spec/07, R197). -/
def aLN_FEC_CORR_HI (i : Nat) : Nat := 0xc00024 + 16384 * i
/-- `LN_FEC_UNCORR` (spec/07, R197). -/
def aLN_FEC_UNCORR (i : Nat) : Nat := 0xc00028 + 16384 * i
/-- `LN_PRBS_ERR` (spec/07, R197). -/
def aLN_PRBS_ERR (i : Nat) : Nat := 0xc0002c + 16384 * i
/-- `LN_BSTAT` (spec/07, R48). -/
def aLN_BSTAT (i : Nat) : Nat := 0xc00000 + 16384 * i
/-- `RTC_BSTAT` (spec/09, R48). -/
def aRTC_BSTAT : Nat := 0x60000
/-- `NV_BSTAT` (spec/15, R48). -/
def aNV_BSTAT : Nat := 0x70000
/-- `EVR_BSTAT` (spec/15, R48). -/
def aEVR_BSTAT : Nat := 0x80000
/-- `AU_BSTAT` (spec/16, R48). -/
def aAU_BSTAT : Nat := 0x90000
/-- `FIO_BSTAT` (spec/10, R48). -/
def aFIO_BSTAT : Nat := 0xb0000
/-- `SF_BSTAT` (spec/11, R48). -/
def aSF_BSTAT : Nat := 0xc0000
/-- `CAN_BSTAT` (spec/12, R48). -/
def aCAN_BSTAT (i : Nat) : Nat := 0x1000000 + 65536 * i
/-- `QM_COMMIT` (spec/07, R209). -/
def aQM_COMMIT : Nat := 0xe00000
/-- `QM_POOL` (spec/07, R209). -/
def aQM_POOL : Nat := 0xe00010
/-- `QM_STAT` (spec/07, R209). -/
def aQM_STAT : Nat := 0xe00014
/-- `QM_DEPTH` (spec/07, R209). -/
def aQM_DEPTH (i : Nat) : Nat := 0xf80000 + 16 * i
/-- `QM_FRAMES` (spec/07, R209). -/
def aQM_FRAMES (i : Nat) : Nat := 0xf80004 + 16 * i
/-- `QM_DROPS` (spec/07, R209). -/
def aQM_DROPS (i : Nat) : Nat := 0xf80008 + 16 * i
/-- `QM_BYTES` (spec/07, R209). -/
def aQM_BYTES (i : Nat) : Nat := 0xf8000c + 16 * i
/-- `SW_GATE0` (spec/07, R204). -/
def aSW_GATE0 (i : Nat) (j : Nat) : Nat := 0x840000 + 512 * i + 8 * j
/-- `SW_GATE1` (spec/07, R204). -/
def aSW_GATE1 (i : Nat) (j : Nat) : Nat := 0x840004 + 512 * i + 8 * j
/-- `SW_VLAN0` (spec/07, R221). -/
def aSW_VLAN0 (i : Nat) : Nat := 0x880000 + 16 * i
/-- `SW_VLAN1` (spec/07, R221). -/
def aSW_VLAN1 (i : Nat) : Nat := 0x880004 + 16 * i
/-- `SW_VLAN2` (spec/07, R221). -/
def aSW_VLAN2 (i : Nat) : Nat := 0x880008 + 16 * i
/-- `SW_VLAN3` (spec/07, R221). -/
def aSW_VLAN3 (i : Nat) : Nat := 0x88000c + 16 * i
/-- `SW_FENCE0` (spec/07, R222). -/
def aSW_FENCE0 (i : Nat) : Nat := 0x870000 + 8 * i
/-- `SW_FENCE1` (spec/07, R222). -/
def aSW_FENCE1 (i : Nat) : Nat := 0x870004 + 8 * i
/-- `MD_1` (spec/06, R184). -/
def aMD_1 (i : Nat) : Nat := 0x510004 + 16 * i
/-- `MD_2` (spec/06, R184). -/
def aMD_2 (i : Nat) : Nat := 0x510008 + 16 * i
/-- `MD_3` (spec/06, R184). -/
def aMD_3 (i : Nat) : Nat := 0x51000c + 16 * i
/-- `SW_CNT_BADHDR` (spec/07, R229). -/
def aSW_CNT_BADHDR : Nat := 0x800040
/-- `SW_CNT_NOSTREAM` (spec/07, R229). -/
def aSW_CNT_NOSTREAM : Nat := 0x800044
/-- `SW_CNT_POLICED` (spec/07, R229). -/
def aSW_CNT_POLICED : Nat := 0x800048
/-- `SW_CNT_STOMP` (spec/07, R229). -/
def aSW_CNT_STOMP : Nat := 0x80004c
/-- `SW_CNT_FENCED` (spec/07, R229). -/
def aSW_CNT_FENCED : Nat := 0x800050
/-- `SW_CNT_DUP` (spec/07, R229). -/
def aSW_CNT_DUP : Nat := 0x800054
/-- `SW_CNT_OLD` (spec/07, R229). -/
def aSW_CNT_OLD : Nat := 0x800058
/-- `SW_CNT_LOST` (spec/07, R229). -/
def aSW_CNT_LOST : Nat := 0x80005c
/-- `SW_CNT_BADBLK` (spec/07, R229). -/
def aSW_CNT_BADBLK : Nat := 0x800060
/-- `SW_CNT_OLDBLK` (spec/07, R229). -/
def aSW_CNT_OLDBLK : Nat := 0x800064
/-- `SW_CNT_BDROP` (spec/07, R229). -/
def aSW_CNT_BDROP : Nat := 0x800068
/-- `SW_CNT_CDROP` (spec/07, R229). -/
def aSW_CNT_CDROP : Nat := 0x80006c
/-- `MOV_DEVFLT_CNT` (spec/07, R232). -/
def aMOV_DEVFLT_CNT : Nat := 0x500010
/-- `RU_CNT_CMP` (spec/08, R274). -/
def aRU_CNT_CMP : Nat := 0xd0140
/-- `RU_CNT_MISMATCH` (spec/08, R274). -/
def aRU_CNT_MISMATCH : Nat := 0xd0144
/-- `RU_CNT_DIVERGE` (spec/08, R274). -/
def aRU_CNT_DIVERGE : Nat := 0xd0148
/-- `RU_CNT_INCOMPL` (spec/08, R274). -/
def aRU_CNT_INCOMPL : Nat := 0xd014c
/-- `RU_CNT_CLAIM` (spec/08, R274). -/
def aRU_CNT_CLAIM : Nat := 0xd0150
/-- `RU_CNT_SWAP` (spec/08, R274). -/
def aRU_CNT_SWAP : Nat := 0xd0154
/-- `RU_CNT_LAPSE` (spec/08, R274). -/
def aRU_CNT_LAPSE : Nat := 0xd0158
/-- `RU_CNT_LINES` (spec/08, R274). -/
def aRU_CNT_LINES : Nat := 0xd015c
/-- `CAN_CNT_RX` (spec/12, R361). -/
def aCAN_CNT_RX (i : Nat) : Nat := 0x10000a0 + 65536 * i
/-- `CAN_CNT_TX` (spec/12, R361). -/
def aCAN_CNT_TX (i : Nat) : Nat := 0x10000a4 + 65536 * i
/-- `CAN_CNT_NOMATCH` (spec/12, R361). -/
def aCAN_CNT_NOMATCH (i : Nat) : Nat := 0x10000a8 + 65536 * i
/-- `CAN_CNT_ERR` (spec/12, R361). -/
def aCAN_CNT_ERR (i : Nat) : Nat := 0x10000ac + 65536 * i
/-- `CAN_CNT_BOFF` (spec/12, R361). -/
def aCAN_CNT_BOFF (i : Nat) : Nat := 0x10000b0 + 65536 * i
/-- `ENG_SAVE` (spec/06, R190). -/
def aENG_SAVE (i : Nat) (j : Nat) : Nat := 0x200100 + 8192 * i + 4 * j
/-- `PD_ACC_SEQ` (spec/02, R38). -/
def aPD_ACC_SEQ (i : Nat) : Nat := 0x300020 + 2048 * i
/-- `PD_ACC` (spec/02, R38). -/
def aPD_ACC (i : Nat) : Nat := 0x300024 + 2048 * i
/-- `PD_ACC_ADDR` (spec/02, R38). -/
def aPD_ACC_ADDR (i : Nat) : Nat := 0x300028 + 2048 * i
/-- `PD_ACC_CNT` (spec/02, R38). -/
def aPD_ACC_CNT (i : Nat) : Nat := 0x30002c + 2048 * i
/-- `DT_RSVD` (spec/04, R112). -/
def aDT_RSVD (i : Nat) (j : Nat) (k : Nat) : Nat := 0x610004 + 65536 * i + 256 * j + 4 * k

/-- One row of the register map: base offset, the index dimensions (stride, count) outermost first, the reset value
and the masks of the bits of type RW, RWS or RWN, RWP, WO and WS; `cnt` marks a counter that a Survey captures. -/
structure RegRow where
  base : Nat
  dims : List (Nat × Nat)
  reset : Nat
  rw : Nat
  pend : Nat
  rwp : Nat
  wo : Nat
  ws : Nat
  cnt : Bool
  deriving DecidableEq, Repr

/-- The rows of PF0 BAR0 offsets 0x0 to 0xffff. -/
def rowsLeg : List RegRow := [
  ⟨0x0, [], 0x4e440100, 0x0, 0x0, 0x0, 0x0, 0x0, false⟩,
  ⟨0x4, [], 0x0, 0x0, 0x0, 0x0, 0x0, 0x0, false⟩,
  ⟨0x8, [], 0x0, 0x0, 0x0, 0x0, 0x0, 0x0, false⟩,
  ⟨0xc, [], 0x0, 0x0, 0x0, 0x0, 0x0, 0x0, false⟩,
  ⟨0x10, [], 0x1, 0x0, 0x0, 0x0, 0x0, 0x0, false⟩,
  ⟨0x20, [(4, 4)], 0x0, 0x0, 0x0, 0x0, 0x0, 0x0, false⟩,
  ⟨0x30, [(4, 4)], 0x0, 0x0, 0x0, 0x0, 0x0, 0x0, false⟩,
  ⟨0x40, [(4, 16)], 0x0, 0x0, 0x0, 0x0, 0x0, 0x0, false⟩,
  ⟨0x80, [], 0x0, 0x0, 0x0, 0x0, 0x0, 0x0, false⟩,
  ⟨0x90, [], 0x8000, 0x0, 0x0, 0x0, 0x0, 0x0, false⟩,
  ⟨0x94, [], 0x10000, 0x0, 0x0, 0x0, 0x0, 0x0, false⟩,
  ⟨0x98, [], 0x4000, 0x0, 0x0, 0x0, 0x0, 0x0, false⟩,
  ⟨0x9c, [], 0xc000, 0x0, 0x0, 0x0, 0x0, 0x0, false⟩,
  ⟨0xa0, [], 0x1000, 0x0, 0x0, 0x0, 0x0, 0x0, false⟩,
  ⟨0xa4, [], 0x200, 0x0, 0x0, 0x0, 0x0, 0x0, false⟩,
  ⟨0xa8, [], 0x4000, 0x0, 0x0, 0x0, 0x0, 0x0, false⟩,
  ⟨0x8000, [(16, 2)], 0x0, 0x0, 0x0, 0x0, 0x0, 0x0, false⟩,
  ⟨0x8004, [(16, 2)], 0x0, 0x0, 0x0, 0x0, 0x0, 0x0, false⟩,
  ⟨0x8008, [(16, 2)], 0x0, 0x0, 0x0, 0x0, 0x0, 0x0, false⟩,
  ⟨0x8020, [], 0x21, 0x0, 0x0, 0x0, 0x0, 0x0, false⟩,
  ⟨0x8024, [], 0x0, 0x0, 0x0, 0x0, 0x0, 0x0, false⟩,
  ⟨0x8028, [], 0x0, 0x0, 0x0, 0x0, 0x0, 0x0, false⟩,
  ⟨0x802c, [], 0x0, 0x0, 0x0, 0x0, 0x0, 0x0, false⟩]
/-- The rows of PF0 BAR0 offsets 0x10000 to 0x1ffff. -/
def rowsGctl : List RegRow := [
  ⟨0x10000, [], 0x0, 0x0, 0x0, 0x0, 0x7ffff, 0x0, false⟩,
  ⟨0x10004, [], 0x0, 0x0, 0x0, 0x0, 0x0, 0x0, false⟩,
  ⟨0x10010, [], 0x0, 0x0, 0x0, 0x0, 0xffffffff, 0x0, false⟩,
  ⟨0x10014, [], 0x0, 0x0, 0x0, 0x0, 0x0, 0x0, false⟩,
  ⟨0x10018, [], 0x0, 0x0, 0x0, 0x0, 0x0, 0x0, false⟩,
  ⟨0x1001c, [], 0x0, 0x0, 0x0, 0x0, 0x0, 0x0, false⟩,
  ⟨0x10020, [], 0x0, 0x0, 0x0, 0x0, 0x0, 0xffffffff, false⟩,
  ⟨0x10024, [], 0x0, 0x0, 0x0, 0x0, 0x0, 0x0, false⟩,
  ⟨0x10028, [], 0x0, 0x0, 0x0, 0x0, 0x0, 0x0, false⟩,
  ⟨0x1002c, [], 0x0, 0x0, 0x0, 0x0, 0x0, 0x0, true⟩]
/-- The rows of PF0 BAR0 offsets 0x20000 to 0x2ffff. -/
def rowsFlt : List RegRow := [
  ⟨0x20000, [], 0x0, 0x0, 0x0, 0x0, 0x0, 0xffffffff, false⟩,
  ⟨0x20008, [], 0x0, 0x0, 0x0, 0x0, 0x0, 0x0, false⟩,
  ⟨0x2000c, [], 0x0, 0x0, 0x0, 0x0, 0x0, 0x0, false⟩,
  ⟨0x20010, [(4, 4)], 0x0, 0x0, 0x0, 0x0, 0x0, 0x0, false⟩,
  ⟨0x20020, [], 0x0, 0x0, 0x0, 0x0, 0x0, 0x0, false⟩,
  ⟨0x20024, [], 0x0, 0x0, 0x0, 0x0, 0x0, 0x0, false⟩,
  ⟨0x20028, [], 0x0, 0x0, 0x0, 0x0, 0x0, 0x0, false⟩,
  ⟨0x2002c, [], 0x0, 0x0, 0x0, 0x0, 0x0, 0x0, false⟩,
  ⟨0x20030, [], 0x0, 0x0, 0x0, 0x0, 0x0, 0x0, false⟩,
  ⟨0x20034, [], 0x0, 0x0, 0x0, 0x0, 0x0, 0x0, false⟩,
  ⟨0x20040, [], 0x2, 0x3, 0x0, 0x0, 0x0, 0x0, false⟩,
  ⟨0x20044, [], 0x0, 0x7, 0x0, 0x0, 0x0, 0x0, false⟩,
  ⟨0x20048, [], 0x0, 0x7ff, 0x0, 0x0, 0x0, 0x0, false⟩,
  ⟨0x20050, [], 0x0, 0x0, 0x0, 0x0, 0x0, 0x0, false⟩,
  ⟨0x20080, [(8, 8)], 0x0, 0xc0003fff, 0x0, 0x0, 0x0, 0x0, false⟩,
  ⟨0x20084, [(8, 8)], 0x0, 0x7ff, 0x0, 0x0, 0x0, 0x0, false⟩,
  ⟨0x20100, [(4, 64)], 0x0, 0x0, 0x0, 0x0, 0x0, 0x0, false⟩,
  ⟨0x20200, [(4, 64)], 0x0, 0x0, 0x0, 0x0, 0x0, 0x0, true⟩]
/-- The rows of PF0 BAR0 offsets 0x30000 to 0x3ffff. -/
def rowsRst : List RegRow := [
  ⟨0x30000, [], 0x0, 0x0, 0x0, 0x0, 0x0, 0xffffffff, false⟩,
  ⟨0x30004, [], 0x0, 0x0, 0x0, 0x0, 0x0, 0x0, false⟩,
  ⟨0x30010, [(4, 4)], 0x0, 0x0, 0x0, 0x0, 0x0, 0x0, false⟩,
  ⟨0x30020, [], 0x0, 0x0, 0x0, 0x0, 0x0, 0x0, false⟩,
  ⟨0x30024, [], 0x0, 0x0, 0x0, 0x0, 0x0, 0x0, false⟩,
  ⟨0x30028, [], 0x0, 0x0, 0x0, 0x0, 0x0, 0x0, false⟩,
  ⟨0x30040, [], 0x0, 0x0, 0x0, 0x0, 0x3ff000f, 0x0, false⟩,
  ⟨0x30044, [], 0x0, 0x0, 0x0, 0x0, 0x0, 0x0, false⟩,
  ⟨0x30048, [], 0x0, 0x0, 0x0, 0x0, 0x0, 0x0, false⟩,
  ⟨0x3004c, [], 0x0, 0x0, 0x0, 0x0, 0x0, 0x0, false⟩,
  ⟨0x30050, [], 0x0, 0x0, 0x0, 0x0, 0x0, 0x0, false⟩,
  ⟨0x30060, [(4, 10)], 0x0, 0x0, 0x0, 0x0, 0x0, 0x0, false⟩]
/-- The rows of PF0 BAR0 offsets 0x40000 to 0x4ffff. -/
def rowsWdg : List RegRow := [
  ⟨0x40000, [], 0x0, 0x0, 0x0, 0x0, 0x0, 0xffffffff, false⟩,
  ⟨0x40004, [], 0x0, 0x0, 0x0, 0x0, 0x0, 0x0, false⟩,
  ⟨0x40008, [], 0x0, 0x3, 0x0, 0x0, 0x0, 0x0, false⟩,
  ⟨0x4000c, [], 0x0, 0x7ff, 0x0, 0x0, 0x0, 0x0, false⟩,
  ⟨0x40100, [(64, 2)], 0x0, 0x0, 0x3ff, 0x0, 0x0, 0x0, false⟩,
  ⟨0x40104, [(64, 2)], 0x0, 0x0, 0x0, 0x0, 0xffff, 0x0, false⟩,
  ⟨0x40108, [(64, 2)], 0x0, 0x0, 0x0, 0x0, 0x0, 0x0, false⟩,
  ⟨0x40110, [(64, 2)], 0x0, 0x0, 0x0, 0x0, 0x0, 0x0, false⟩,
  ⟨0x40118, [(64, 2)], 0x0, 0x0, 0x0, 0x0, 0x0, 0x0, false⟩,
  ⟨0x4011c, [(64, 2)], 0x0, 0x0, 0x0, 0x0, 0x0, 0x0, false⟩,
  ⟨0x40120, [(64, 2)], 0x0, 0x0, 0x0, 0x0, 0x0, 0x0, true⟩,
  ⟨0x41000, [(16, 128)], 0x0, 0x0, 0x3ff, 0x0, 0x0, 0x0, false⟩,
  ⟨0x41004, [(16, 128)], 0x0, 0x0, 0x0, 0x0, 0x0, 0x0, false⟩,
  ⟨0x41008, [(16, 128)], 0x0, 0x0, 0x0, 0x0, 0x0, 0x0, true⟩]
/-- The rows of PF0 BAR0 offsets 0x50000 to 0x5ffff. -/
def rowsMer : List RegRow := [
  ⟨0x50000, [], 0x0, 0x0, 0x0, 0x0, 0x0, 0x0, false⟩,
  ⟨0x50004, [], 0x0, 0x0, 0x0, 0x0, 0x0, 0x0, false⟩,
  ⟨0x50008, [], 0x40000000, 0xffffffff, 0x0, 0x0, 0x0, 0x0, false⟩,
  ⟨0x5000c, [], 0x0, 0x0, 0x0, 0x0, 0xf, 0x0, false⟩,
  ⟨0x50010, [], 0x0, 0xffffffff, 0x0, 0x0, 0x0, 0x0, false⟩,
  ⟨0x50014, [], 0x0, 0xffffffff, 0x0, 0x0, 0x0, 0x0, false⟩,
  ⟨0x50018, [], 0x0, 0x0, 0x0, 0x0, 0x0, 0x0, false⟩,
  ⟨0x5001c, [], 0x0, 0x0, 0x0, 0x0, 0x0, 0x0, false⟩,
  ⟨0x50020, [], 0xff0000, 0x80ffffff, 0x0, 0x0, 0x0, 0x0, false⟩,
  ⟨0x50024, [], 0xa, 0x800003ff, 0x0, 0x0, 0x0, 0x0, false⟩,
  ⟨0x50028, [], 0x64, 0xc00001ff, 0x0, 0x0, 0x0, 0x0, false⟩,
  ⟨0x50030, [], 0x0, 0x0, 0x0, 0x0, 0x0, 0xffffffff, false⟩,
  ⟨0x50034, [], 0x0, 0x0, 0x0, 0x0, 0x0, 0x0, false⟩,
  ⟨0x50038, [], 0x0, 0x0, 0x0, 0x0, 0x0, 0x0, false⟩,
  ⟨0x5003c, [], 0x0, 0x0, 0x0, 0x0, 0x0, 0x0, false⟩,
  ⟨0x50040, [], 0x0, 0xf, 0x0, 0x0, 0x0, 0x0, false⟩,
  ⟨0x50044, [], 0x0, 0x7ff, 0x0, 0x0, 0x0, 0x0, false⟩,
  ⟨0x50048, [], 0x0, 0x0, 0x0, 0x0, 0x0, 0x0, true⟩,
  ⟨0x5004c, [], 0x0, 0x0, 0x0, 0x0, 0x0, 0x0, true⟩,
  ⟨0x51000, [(16, 128)], 0x0, 0x80000000, 0x0, 0x0, 0x0, 0x0, false⟩,
  ⟨0x51004, [(16, 128)], 0x0, 0x0, 0x0, 0x0, 0x0, 0x0, false⟩,
  ⟨0x51008, [(16, 128)], 0x0, 0xffffffff, 0x0, 0x0, 0x0, 0x0, false⟩]
/-- The rows of PF0 BAR0 offsets 0x60000 to 0x6ffff. -/
def rowsRtc : List RegRow := [
  ⟨0x60000, [], 0x0, 0x0, 0x0, 0x0, 0x0, 0x0, false⟩,
  ⟨0x60010, [], 0x0, 0x0, 0x0, 0x0, 0x0, 0x0, false⟩,
  ⟨0x60014, [], 0x7d010e00, 0x0, 0x0, 0x0, 0x0, 0x0, false⟩,
  ⟨0x60018, [], 0x0, 0x0, 0x0, 0x0, 0x0, 0x0, false⟩,
  ⟨0x6001c, [], 0x0, 0x0, 0x0, 0x0, 0x0, 0x0, false⟩,
  ⟨0x60020, [], 0x0, 0x0, 0x0, 0xffffffff, 0x0, 0x0, false⟩,
  ⟨0x60024, [], 0x0, 0x0, 0x0, 0xffffffff, 0x0, 0x0, false⟩,
  ⟨0x60028, [], 0x0, 0x0, 0x0, 0xffffffff, 0x0, 0x0, false⟩,
  ⟨0x6002c, [], 0x0, 0x0, 0x0, 0xf, 0x0, 0x0, false⟩,
  ⟨0x60030, [], 0x0, 0x0, 0x0, 0x0, 0x0, 0x0, false⟩,
  ⟨0x60034, [], 0x0, 0x0, 0x0, 0xffffffff, 0x0, 0x0, false⟩,
  ⟨0x60038, [], 0x0, 0x0, 0x0, 0xffff, 0x0, 0x0, false⟩,
  ⟨0x60040, [], 0x0, 0x0, 0xffffffff, 0x0, 0x0, 0x0, false⟩,
  ⟨0x60044, [], 0x0, 0x0, 0xe0003fff, 0x0, 0x0, 0x0, false⟩,
  ⟨0x60048, [], 0x0, 0x0, 0x0, 0x0, 0x0, 0x0, false⟩,
  ⟨0x6004c, [], 0x0, 0x0, 0x0, 0x0, 0x0, 0x0, false⟩,
  ⟨0x60060, [(16, 2)], 0x0, 0x0, 0xc001ffff, 0x0, 0x0, 0x0, false⟩,
  ⟨0x60064, [(16, 2)], 0x0, 0x0, 0xffffff00, 0x0, 0x0, 0x0, false⟩,
  ⟨0x60068, [(16, 2)], 0x0, 0x0, 0x7f, 0x0, 0x0, 0x0, false⟩,
  ⟨0x60080, [], 0x0, 0x0, 0x0, 0x0, 0x0, 0xffffffff, false⟩,
  ⟨0x60084, [], 0x0, 0x0, 0x0, 0x0, 0x0, 0x0, false⟩,
  ⟨0x60088, [], 0x0, 0x0, 0x0, 0x1f, 0x0, 0x0, false⟩,
  ⟨0x6008c, [], 0x0, 0x0, 0x0, 0x7ff, 0x0, 0x0, false⟩]
/-- The rows of PF0 BAR0 offsets 0x70000 to 0x7ffff. -/
def rowsNv : List RegRow := [
  ⟨0x70000, [], 0x0, 0x0, 0x0, 0x0, 0x0, 0x0, false⟩,
  ⟨0x70010, [], 0x0, 0x0, 0x0, 0x0, 0x0, 0x0, false⟩,
  ⟨0x70014, [], 0x0, 0x0, 0x0, 0xf, 0x0, 0x0, false⟩,
  ⟨0x70018, [], 0x0, 0x0, 0x0, 0x7ff, 0x0, 0x0, false⟩,
  ⟨0x7001c, [], 0x0, 0x0, 0x0, 0x0, 0x0, 0x0, true⟩,
  ⟨0x70020, [], 0x0, 0x0, 0x0, 0x0, 0x0, 0x0, true⟩,
  ⟨0x70024, [], 0x0, 0x0, 0x0, 0x0, 0x0, 0x0, true⟩,
  ⟨0x70028, [], 0x0, 0x0, 0x0, 0x0, 0x0, 0x0, true⟩,
  ⟨0x7002c, [], 0x0, 0x0, 0x0, 0x7ff, 0x0, 0x0, false⟩,
  ⟨0x70030, [], 0x0, 0x0, 0x0, 0x0, 0x0, 0x0, false⟩,
  ⟨0x70034, [], 0x0, 0x0, 0x0, 0x0, 0x0, 0x0, true⟩,
  ⟨0x70038, [], 0x0, 0x0, 0x0, 0x0, 0x0, 0x0, true⟩,
  ⟨0x70100, [(4, 64)], 0x0, 0x0, 0x0, 0xffffffff, 0x0, 0x0, false⟩,
  ⟨0x71000, [(4, 512)], 0x0, 0x0, 0x0, 0xfff07ff, 0x0, 0x0, false⟩,
  ⟨0x72000, [(4, 2048)], 0x0, 0x0, 0x0, 0xffffffff, 0x0, 0x0, false⟩]
/-- The rows of PF0 BAR0 offsets 0x80000 to 0x8ffff. -/
def rowsEvr : List RegRow := [
  ⟨0x80000, [], 0x0, 0x0, 0x0, 0x0, 0x0, 0x0, false⟩,
  ⟨0x80010, [], 0x0, 0x0, 0x0, 0x0, 0x0, 0x0, false⟩,
  ⟨0x80014, [], 0x0, 0x0, 0x0, 0xf, 0x0, 0x0, false⟩,
  ⟨0x80018, [], 0x0, 0x0, 0x0, 0x0, 0x0, 0x0, false⟩,
  ⟨0x8001c, [], 0x0, 0x0, 0x0, 0x0, 0x0, 0x0, false⟩,
  ⟨0x80020, [], 0x0, 0x0, 0x0, 0x0, 0x0, 0x0, true⟩,
  ⟨0x80024, [], 0x0, 0x0, 0x0, 0x0, 0x0, 0x0, true⟩,
  ⟨0x80028, [], 0x0, 0x0, 0x0, 0x0, 0x0, 0x0, true⟩,
  ⟨0x8002c, [], 0x0, 0x0, 0x0, 0x0, 0x0, 0x0, true⟩,
  ⟨0x80030, [], 0x0, 0x0, 0x0, 0x0, 0x0, 0x0, true⟩,
  ⟨0x80040, [], 0x0, 0x0, 0x0, 0x3fff, 0x0, 0x0, false⟩,
  ⟨0x80044, [(4, 4)], 0x0, 0x0, 0x0, 0x0, 0x0, 0x0, false⟩,
  ⟨0x80080, [], 0x0, 0x0, 0x0, 0x0, 0x0, 0xffffffff, false⟩,
  ⟨0x80084, [], 0x0, 0x0, 0x0, 0x0, 0x0, 0x0, false⟩,
  ⟨0x80088, [], 0x0, 0x0, 0x0, 0xf, 0x0, 0x0, false⟩,
  ⟨0x8008c, [], 0x0, 0x0, 0x0, 0x7ff, 0x0, 0x0, false⟩,
  ⟨0x80100, [(4, 62)], 0x0, 0x0, 0x0, 0x0, 0x0, 0x0, false⟩]
/-- The rows of PF0 BAR0 offsets 0x90000 to 0x9ffff. -/
def rowsAu : List RegRow := [
  ⟨0x90000, [], 0x0, 0x0, 0x0, 0x0, 0x0, 0x0, false⟩,
  ⟨0x90010, [], 0x0, 0x0, 0x0, 0xf, 0x0, 0x0, false⟩,
  ⟨0x90014, [], 0x0, 0x0, 0x0, 0xfffff, 0x0, 0x0, false⟩,
  ⟨0x90018, [], 0x0, 0x0, 0x0, 0x0, 0x0, 0x0, false⟩,
  ⟨0x9001c, [], 0x0, 0x0, 0x0, 0x0, 0x0, 0x0, false⟩,
  ⟨0x90020, [], 0x0, 0x0, 0x0, 0x0, 0x0, 0x0, false⟩,
  ⟨0x90030, [(4, 4)], 0x0, 0x0, 0x0, 0x0, 0x0, 0x0, false⟩,
  ⟨0x90040, [(4, 4)], 0x0, 0x0, 0x0, 0xffffffff, 0x0, 0x0, false⟩,
  ⟨0x90060, [(4, 8)], 0x0, 0x0, 0x0, 0x0, 0x0, 0x0, false⟩,
  ⟨0x90100, [(4, 8)], 0x0, 0x0, 0x0, 0x0, 0xffffffff, 0x0, false⟩]
/-- The rows of PF0 BAR0 offsets 0xa0000 to 0xaffff. -/
def rowsSp : List RegRow := [
  ⟨0xa0010, [], 0x0, 0x0, 0x0, 0x0, 0x0, 0x0, false⟩,
  ⟨0xa0014, [], 0x0, 0x0, 0x0, 0x0, 0x0, 0x0, false⟩,
  ⟨0xa0018, [], 0x0, 0x0, 0x0, 0x0, 0x0, 0x0, false⟩,
  ⟨0xa001c, [], 0x0, 0x0, 0x0, 0x0, 0x0, 0x0, false⟩,
  ⟨0xa0020, [], 0x0, 0x0, 0x0, 0x0, 0x0, 0x0, false⟩,
  ⟨0xa0024, [], 0x0, 0x0, 0x0, 0x0, 0x0, 0x0, false⟩,
  ⟨0xa0030, [], 0x0, 0x0, 0x0, 0x0, 0x0, 0x0, false⟩,
  ⟨0xa0034, [], 0x0, 0xffffffff, 0x0, 0x0, 0x0, 0x0, false⟩,
  ⟨0xa0038, [], 0x0, 0xffff, 0x0, 0x0, 0x0, 0x0, false⟩,
  ⟨0xa003c, [], 0x2, 0x3, 0x0, 0x0, 0x0, 0x0, false⟩,
  ⟨0xa0040, [], 0x0, 0x0, 0x0, 0x0, 0x0, 0x0, true⟩]
/-- The rows of PF0 BAR0 offsets 0xb0000 to 0xbffff. -/
def rowsFio : List RegRow := [
  ⟨0xb0000, [], 0x0, 0x0, 0x0, 0x0, 0x0, 0x0, false⟩,
  ⟨0xb0010, [], 0x0, 0x0, 0x0, 0x0, 0x0, 0x0, false⟩,
  ⟨0xb0014, [], 0x0, 0x0, 0x0, 0x0, 0x0, 0x0, false⟩,
  ⟨0xb0018, [], 0x108, 0x0, 0x0, 0x0, 0x0, 0x0, false⟩,
  ⟨0xb001c, [], 0x0, 0x0, 0x0, 0x0, 0x0, 0x0, false⟩,
  ⟨0xb0020, [], 0x0, 0x0, 0x0, 0x0, 0x0, 0x0, false⟩,
  ⟨0xb0040, [(4, 4)], 0x0, 0x0, 0x0, 0x0, 0x0, 0x0, false⟩,
  ⟨0xb0050, [], 0x0, 0x0, 0x0, 0xf, 0x0, 0x0, false⟩,
  ⟨0xb0054, [], 0x0, 0x0, 0x0, 0xffffffff, 0x0, 0x0, false⟩,
  ⟨0xb0058, [], 0x0, 0x0, 0x0, 0x0, 0x0, 0x0, false⟩,
  ⟨0xb005c, [], 0x0, 0x0, 0x0, 0xffffffff, 0x0, 0x0, false⟩,
  ⟨0xb0060, [], 0x14, 0x0, 0x800003ff, 0x0, 0x0, 0x0, false⟩,
  ⟨0xb0064, [], 0x64, 0x0, 0x3ff, 0x0, 0x0, 0x0, false⟩,
  ⟨0xb0068, [(4, 4)], 0x4, 0x0, 0x8000000f, 0x0, 0x0, 0x0, false⟩,
  ⟨0xb0080, [], 0x0, 0x0, 0x0, 0x0, 0x0, 0xffffffff, false⟩,
  ⟨0xb0084, [], 0x0, 0x0, 0x0, 0x0, 0x0, 0x0, false⟩,
  ⟨0xb0088, [], 0x0, 0x0, 0x0, 0xf, 0x0, 0x0, false⟩,
  ⟨0xb008c, [], 0x0, 0x0, 0x0, 0x7ff, 0x0, 0x0, false⟩,
  ⟨0xb0100, [(16, 32)], 0xa, 0x0, 0xffe000ff, 0x0, 0x0, 0x0, false⟩,
  ⟨0xb0104, [(16, 32)], 0x80000000, 0x0, 0x800003ff, 0x0, 0x0, 0x0, false⟩,
  ⟨0xb0108, [(16, 32)], 0x0, 0x0, 0x0, 0x0, 0x0, 0x0, false⟩,
  ⟨0xb010c, [(16, 32)], 0x0, 0x0, 0x0, 0x0, 0x0, 0x0, true⟩]
/-- The rows of PF0 BAR0 offsets 0xc0000 to 0xcffff. -/
def rowsSf : List RegRow := [
  ⟨0xc0000, [], 0x0, 0x0, 0x0, 0x0, 0x0, 0x0, false⟩,
  ⟨0xc0010, [], 0x0, 0x0, 0x0, 0x0, 0x0, 0x0, false⟩,
  ⟨0xc0014, [], 0x0, 0x0, 0x0, 0x0, 0x0, 0x0, false⟩,
  ⟨0xc0018, [], 0x0, 0x0, 0x0, 0x0, 0x0, 0x0, false⟩,
  ⟨0xc001c, [], 0x0, 0x0, 0x0, 0x0, 0x0, 0x0, false⟩,
  ⟨0xc0020, [], 0x0, 0x0, 0x0, 0xf, 0x0, 0x0, false⟩,
  ⟨0xc0024, [], 0x0, 0x0, 0x0, 0xf, 0x0, 0x0, false⟩,
  ⟨0xc0028, [], 0x0, 0x0, 0x0, 0x0, 0x0, 0x0, false⟩,
  ⟨0xc0030, [], 0x0, 0x0, 0x0, 0x0, 0x0, 0x0, true⟩,
  ⟨0xc0080, [], 0x0, 0x0, 0x0, 0x0, 0x0, 0xffffffff, false⟩,
  ⟨0xc0084, [], 0x0, 0x0, 0x0, 0x0, 0x0, 0x0, false⟩,
  ⟨0xc0088, [], 0x0, 0x0, 0x0, 0x1f, 0x0, 0x0, false⟩,
  ⟨0xc008c, [], 0x0, 0x0, 0x0, 0x7ff, 0x0, 0x0, false⟩,
  ⟨0xc0100, [(8, 16)], 0x0, 0x0, 0x0, 0x0, 0x0, 0x0, false⟩,
  ⟨0xc0104, [(8, 16)], 0x0, 0x0, 0x0, 0x0, 0x0, 0x0, true⟩,
  ⟨0xc0200, [(4, 8)], 0x0, 0x0, 0x0, 0x0, 0x0, 0x0, false⟩,
  ⟨0xc1000, [(32, 16)], 0x0, 0xff80ff00, 0x0, 0x0, 0x0, 0x0, false⟩,
  ⟨0xc1004, [(32, 16)], 0x0, 0xffffffff, 0x0, 0x0, 0x0, 0x0, false⟩,
  ⟨0xc1008, [(32, 16)], 0x0, 0xffffffff, 0x0, 0x0, 0x0, 0x0, false⟩,
  ⟨0xc100c, [(32, 16)], 0x0, 0x9f0007ff, 0x0, 0x0, 0x0, 0x0, false⟩,
  ⟨0xc1010, [(32, 16)], 0x0, 0xffff3fff, 0x0, 0x0, 0x0, 0x0, false⟩,
  ⟨0xc1014, [(32, 16)], 0x0, 0xff000f7f, 0x0, 0x0, 0x0, 0x0, false⟩,
  ⟨0xc1200, [(8, 8)], 0x0, 0x8000ffff, 0x0, 0x0, 0x0, 0x0, false⟩,
  ⟨0xc1204, [(8, 8)], 0x0, 0xffff003f, 0x0, 0x0, 0x0, 0x0, false⟩,
  ⟨0xc1240, [], 0x0, 0xffffffff, 0x0, 0x0, 0x0, 0x0, false⟩,
  ⟨0xc1244, [], 0x0, 0xffff, 0x0, 0x0, 0x0, 0x0, false⟩,
  ⟨0xc1248, [], 0x0, 0x3ff, 0x0, 0x0, 0x0, 0x0, false⟩,
  ⟨0xc124c, [], 0x0, 0xffff, 0x0, 0x0, 0x0, 0x0, false⟩,
  ⟨0xc125c, [], 0x0, 0xffffffff, 0x0, 0x0, 0x0, 0x0, false⟩]
/-- The rows of PF0 BAR0 offsets 0xd0000 to 0xdffff. -/
def rowsRu : List RegRow := [
  ⟨0xd0000, [], 0x0, 0x0, 0x0, 0x0, 0x1, 0x0, false⟩,
  ⟨0xd0004, [], 0x0, 0x0, 0xe007ffff, 0x0, 0x0, 0x0, false⟩,
  ⟨0xd0008, [], 0x276001f4, 0x0, 0xffff07ff, 0x0, 0x0, 0x0, false⟩,
  ⟨0xd000c, [], 0x0, 0x0, 0xffffffff, 0x0, 0x0, 0x0, false⟩,
  ⟨0xd0010, [], 0x0, 0x0, 0xfffff, 0x0, 0x0, 0x0, false⟩,
  ⟨0xd0014, [], 0x0, 0x0, 0x0, 0x0, 0xf, 0x0, false⟩,
  ⟨0xd0018, [], 0x0, 0x0, 0x0, 0x0, 0x0, 0x0, false⟩,
  ⟨0xd0020, [(4, 7)], 0x0, 0x0, 0x800fffff, 0x0, 0x0, 0x0, false⟩,
  ⟨0xd0040, [(4, 16)], 0x0, 0x0, 0xffffffff, 0x0, 0x0, 0x0, false⟩,
  ⟨0xd0100, [], 0x100, 0x0, 0x0, 0x0, 0x0, 0x0, false⟩,
  ⟨0xd0104, [], 0x0, 0x0, 0x0, 0x0, 0x0, 0x0, false⟩,
  ⟨0xd0108, [], 0x0, 0x0, 0x0, 0x0, 0x0, 0x0, false⟩,
  ⟨0xd0110, [], 0x0, 0x0, 0x0, 0x0, 0x0, 0xffffffff, false⟩,
  ⟨0xd0114, [], 0x0, 0x0, 0x0, 0x0, 0x0, 0x0, false⟩,
  ⟨0xd0118, [], 0x0, 0xff, 0x0, 0x0, 0x0, 0x0, false⟩,
  ⟨0xd011c, [], 0x0, 0x7ff, 0x0, 0x0, 0x0, 0x0, false⟩,
  ⟨0xd0120, [], 0x0, 0x0, 0x0, 0x0, 0x0, 0x0, false⟩,
  ⟨0xd0140, [], 0x0, 0x0, 0x0, 0x0, 0x0, 0x0, true⟩,
  ⟨0xd0144, [], 0x0, 0x0, 0x0, 0x0, 0x0, 0x0, true⟩,
  ⟨0xd0148, [], 0x0, 0x0, 0x0, 0x0, 0x0, 0x0, true⟩,
  ⟨0xd014c, [], 0x0, 0x0, 0x0, 0x0, 0x0, 0x0, true⟩,
  ⟨0xd0150, [], 0x0, 0x0, 0x0, 0x0, 0x0, 0x0, true⟩,
  ⟨0xd0154, [], 0x0, 0x0, 0x0, 0x0, 0x0, 0x0, true⟩,
  ⟨0xd0158, [], 0x0, 0x0, 0x0, 0x0, 0x0, 0x0, true⟩,
  ⟨0xd015c, [], 0x0, 0x0, 0x0, 0x0, 0x0, 0x0, true⟩,
  ⟨0xd0200, [(16, 16)], 0x0, 0x0, 0x8700ffff, 0x0, 0x0, 0x0, false⟩,
  ⟨0xd0204, [(16, 16)], 0x0, 0x0, 0xfffff, 0x0, 0x0, 0x0, false⟩,
  ⟨0xd0208, [(16, 16)], 0x0, 0x0, 0x0, 0x0, 0x0, 0x0, false⟩,
  ⟨0xd020c, [(16, 16)], 0x0, 0x0, 0x0, 0x0, 0x0, 0x0, false⟩,
  ⟨0xd0800, [(4, 512)], 0x0, 0x0, 0x0, 0x0, 0x0, 0x0, false⟩,
  ⟨0xd8000, [(64, 512), (8, 8)], 0x0, 0x0, 0xcf1fffff, 0x0, 0x0, 0x0, false⟩,
  ⟨0xd8004, [(64, 512), (8, 8)], 0x0, 0x0, 0x3fffff, 0x0, 0x0, 0x0, false⟩]
/-- The rows of PF0 BAR0 offsets 0x100000 to 0x1fffff. -/
def rowsDsp : List RegRow := [
  ⟨0x100000, [], 0x0, 0x0, 0x0, 0x0, 0x1, 0x0, false⟩,
  ⟨0x100004, [], 0x0, 0x0, 0x0, 0x0, 0x0, 0x0, false⟩]
/-- The rows of PF0 BAR0 offsets 0x200000 to 0x2fffff. -/
def rowsEng : List RegRow := [
  ⟨0x200040, [(8192, 128)], 0x0, 0x0, 0x0, 0x0, 0x0, 0xffffffff, false⟩,
  ⟨0x200044, [(8192, 128)], 0x0, 0x0, 0x0, 0x0, 0x0, 0x0, false⟩,
  ⟨0x200048, [(8192, 128)], 0x0, 0x0, 0x0, 0x0, 0x0, 0x0, false⟩,
  ⟨0x20004c, [(8192, 128)], 0x0, 0x0, 0x0, 0x0, 0x0, 0x0, false⟩,
  ⟨0x200080, [(8192, 128)], 0x0, 0x0, 0x0, 0x0, 0x1, 0x0, false⟩,
  ⟨0x200100, [(8192, 128), (4, 24)], 0x0, 0x0, 0x0, 0x0, 0x0, 0x0, false⟩]
/-- The rows of PF0 BAR0 offsets 0x300000 to 0x3fffff. -/
def rowsPd : List RegRow := [
  ⟨0x300000, [(2048, 512)], 0x0, 0x0, 0x0, 0x0, 0x0, 0x0, false⟩,
  ⟨0x300004, [(2048, 512)], 0x0, 0x0, 0x0, 0x0, 0xff0f, 0x0, false⟩,
  ⟨0x300008, [(2048, 512)], 0x0, 0x0, 0x0, 0x0, 0x0, 0x0, false⟩,
  ⟨0x300010, [(2048, 512)], 0x0, 0x0, 0x0, 0x0, 0x0, 0xffffffff, false⟩,
  ⟨0x300014, [(2048, 512)], 0x0, 0x0, 0x0, 0x0, 0x0, 0x0, false⟩,
  ⟨0x300018, [(2048, 512)], 0x0, 0x7f, 0x0, 0x0, 0x0, 0x0, false⟩,
  ⟨0x30001c, [(2048, 512)], 0x0, 0x7ff, 0x0, 0x0, 0x0, 0x0, false⟩,
  ⟨0x300020, [(2048, 512)], 0x0, 0x0, 0x0, 0x0, 0x0, 0xffffffff, false⟩,
  ⟨0x300024, [(2048, 512)], 0x0, 0x0, 0x0, 0x0, 0x0, 0x0, false⟩,
  ⟨0x300028, [(2048, 512)], 0x0, 0x0, 0x0, 0x0, 0x0, 0x0, false⟩,
  ⟨0x30002c, [(2048, 512)], 0x0, 0x0, 0x0, 0x0, 0x0, 0x0, true⟩,
  ⟨0x300030, [(2048, 512)], 0x0, 0x6, 0x0, 0x0, 0x0, 0x0, false⟩,
  ⟨0x300040, [(2048, 512)], 0x0, 0x0, 0x0, 0x0, 0x0, 0x0, false⟩,
  ⟨0x300044, [(2048, 512)], 0x0, 0x0, 0x0, 0x0, 0x0, 0x0, false⟩,
  ⟨0x300048, [(2048, 512)], 0x0, 0x0, 0x0, 0x0, 0x0, 0x0, false⟩,
  ⟨0x30004c, [(2048, 512)], 0x0, 0x0, 0x0, 0x0, 0x0, 0x0, false⟩,
  ⟨0x300060, [(2048, 512)], 0x0, 0x0, 0x0, 0x0, 0x1, 0x0, false⟩,
  ⟨0x300064, [(2048, 512)], 0x0, 0x0, 0x0, 0x0, 0x0, 0x0, false⟩,
  ⟨0x300068, [(2048, 512)], 0x0, 0x0, 0x0, 0x0, 0x0, 0x0, false⟩,
  ⟨0x300100, [(2048, 512), (16, 9)], 0x0, 0x0, 0x0, 0x0, 0x0, 0x0, false⟩,
  ⟨0x300104, [(2048, 512), (16, 9)], 0x0, 0x0, 0x0, 0x0, 0x0, 0x0, true⟩,
  ⟨0x300108, [(2048, 512), (16, 9)], 0x0, 0x0, 0x0, 0x0, 0x0, 0x0, false⟩,
  ⟨0x30010c, [(2048, 512), (16, 9)], 0x0, 0xffffffff, 0x0, 0x0, 0x0, 0x0, false⟩,
  ⟨0x300200, [(2048, 512), (16, 9)], 0x0, 0x0, 0x80003f7f, 0x0, 0x0, 0x0, false⟩,
  ⟨0x300204, [(2048, 512), (16, 9)], 0x0, 0x0, 0xffffff, 0x0, 0x0, 0x0, false⟩,
  ⟨0x300208, [(2048, 512), (16, 9)], 0x0, 0x0, 0xffffff, 0x0, 0x0, 0x0, false⟩,
  ⟨0x30020c, [(2048, 512), (16, 9)], 0x0, 0x0, 0xffffff, 0x0, 0x0, 0x0, false⟩,
  ⟨0x300300, [(2048, 512)], 0x0, 0x0, 0xffffffff, 0x0, 0x0, 0x0, false⟩,
  ⟨0x300304, [(2048, 512)], 0x0, 0x0, 0xffffffff, 0x0, 0x0, 0x0, false⟩,
  ⟨0x300308, [(2048, 512)], 0x0, 0x0, 0xffffffff, 0x0, 0x0, 0x0, false⟩,
  ⟨0x30030c, [(2048, 512)], 0x0, 0x0, 0xffffffff, 0x0, 0x0, 0x0, false⟩,
  ⟨0x300310, [(2048, 512), (4, 9)], 0x0, 0x0, 0xfffff, 0x0, 0x0, 0x0, false⟩,
  ⟨0x300334, [(2048, 512)], 0x0, 0x0, 0xff1fffff, 0x0, 0x0, 0x0, false⟩,
  ⟨0x300380, [(2048, 512)], 0x0, 0x0, 0x0, 0x0, 0x0, 0x0, false⟩,
  ⟨0x300384, [(2048, 512)], 0x0, 0x0, 0x0, 0x0, 0x0, 0x0, false⟩,
  ⟨0x300388, [(2048, 512)], 0x0, 0x0, 0x0, 0x0, 0x0, 0x0, false⟩,
  ⟨0x300390, [(2048, 512)], 0x0, 0x0, 0x1ffe00, 0x0, 0x0, 0x0, false⟩,
  ⟨0x300394, [(2048, 512)], 0x0, 0x0, 0xffffffff, 0x0, 0x0, 0x0, false⟩,
  ⟨0x300398, [(2048, 512)], 0x0, 0x0, 0x0, 0x0, 0x0, 0x0, false⟩,
  ⟨0x30039c, [(2048, 512)], 0x0, 0x0, 0x0, 0x0, 0x0, 0x0, false⟩,
  ⟨0x3003b0, [(2048, 512)], 0x0, 0x0, 0x0, 0x0, 0x0, 0xffffffff, false⟩,
  ⟨0x3003b4, [(2048, 512)], 0x0, 0x0, 0x0, 0x0, 0x0, 0x0, false⟩,
  ⟨0x3003b8, [(2048, 512)], 0x0, 0x0, 0x0, 0x0, 0x0, 0x0, true⟩]
/-- The rows of PF0 BAR0 offsets 0x400000 to 0x4fffff. -/
def rowsTr : List RegRow := [
  ⟨0x400000, [], 0x0, 0x0, 0x0, 0x0, 0xf, 0x0, false⟩,
  ⟨0x400004, [], 0x0, 0xc3ff3fff, 0x0, 0x0, 0x0, 0x0, false⟩,
  ⟨0x400008, [], 0x0, 0x7fff, 0x0, 0x0, 0x0, 0x0, false⟩,
  ⟨0x40000c, [], 0x0, 0x0, 0x0, 0x0, 0x0, 0x0, false⟩,
  ⟨0x400010, [], 0x0, 0x0, 0x0, 0x0, 0x0, 0x0, false⟩,
  ⟨0x400014, [], 0x0, 0x3ff, 0x0, 0x0, 0x0, 0x0, false⟩,
  ⟨0x400018, [], 0x0, 0x0, 0x0, 0x0, 0x0, 0x0, false⟩,
  ⟨0x40001c, [], 0x0, 0x0, 0x0, 0x0, 0x0, 0x0, false⟩,
  ⟨0x400020, [], 0x0, 0x0, 0x0, 0x0, 0x0, 0x0, false⟩,
  ⟨0x400030, [], 0x0, 0x0, 0x0, 0x0, 0x0, 0xffffffff, false⟩,
  ⟨0x400034, [], 0x0, 0x0, 0x0, 0x0, 0x0, 0x0, false⟩,
  ⟨0x400038, [], 0x0, 0x0, 0x0, 0x0, 0x0, 0x0, true⟩,
  ⟨0x410000, [(4, 2432)], 0x0, 0x0, 0x80003fff, 0x0, 0x0, 0x0, false⟩,
  ⟨0x420000, [(4, 8192)], 0x0, 0x0, 0x0, 0x0, 0x0, 0x0, false⟩,
  ⟨0x428000, [(4, 16384)], 0x0, 0x0, 0x0, 0x0, 0x0, 0x0, false⟩,
  ⟨0x438000, [(4, 4096)], 0x0, 0x0, 0x0, 0x0, 0x0, 0x0, false⟩]
/-- The rows of PF0 BAR0 offsets 0x500000 to 0x5fffff. -/
def rowsMov : List RegRow := [
  ⟨0x500000, [], 0x0, 0x0, 0x0, 0x0, 0x1, 0x0, false⟩,
  ⟨0x500004, [], 0x0, 0x0, 0xffffffff, 0x0, 0x0, 0x0, false⟩,
  ⟨0x500008, [], 0x0, 0x0, 0x1f, 0x0, 0x0, 0x0, false⟩,
  ⟨0x50000c, [], 0x0, 0x0, 0x0, 0x0, 0x0, 0x0, false⟩,
  ⟨0x500010, [], 0x0, 0x0, 0x0, 0x0, 0x0, 0x0, true⟩,
  ⟨0x500100, [(32, 16)], 0x0, 0x0, 0x80ffffff, 0x0, 0x0, 0x0, false⟩,
  ⟨0x500104, [(32, 16)], 0x0, 0x0, 0xffffff, 0x0, 0x0, 0x0, false⟩,
  ⟨0x500108, [(32, 16)], 0x7d0, 0x0, 0xfffff, 0x0, 0x0, 0x0, false⟩,
  ⟨0x50010c, [(32, 16)], 0x0, 0x0, 0x0, 0x0, 0x0, 0x0, true⟩,
  ⟨0x510000, [(16, 61440)], 0x0, 0x0, 0xf0ffffff, 0x0, 0x0, 0x0, false⟩,
  ⟨0x510004, [(16, 61440)], 0x0, 0x0, 0xffffffff, 0x0, 0x0, 0x0, false⟩,
  ⟨0x510008, [(16, 61440)], 0x0, 0x0, 0xffffffff, 0x0, 0x0, 0x0, false⟩,
  ⟨0x51000c, [(16, 61440)], 0x0, 0x0, 0xffffffff, 0x0, 0x0, 0x0, false⟩]
/-- The rows of PF0 BAR0 offsets 0x600000 to 0x63ffff. -/
def rowsDt : List RegRow := [
  ⟨0x600000, [], 0x0, 0x0, 0x0, 0x0, 0x0, 0x0, false⟩,
  ⟨0x600004, [], 0x0, 0x0, 0x0, 0x0, 0x0, 0x0, false⟩,
  ⟨0x600008, [], 0x0, 0x0, 0x0, 0x0, 0x1, 0x0, false⟩,
  ⟨0x600010, [], 0x0, 0xffffffff, 0x0, 0x0, 0x0, 0x0, false⟩,
  ⟨0x600014, [], 0x0, 0xffffffff, 0x0, 0x0, 0x0, 0x0, false⟩,
  ⟨0x600018, [], 0x0, 0xffffffff, 0x0, 0x0, 0x0, 0x0, false⟩,
  ⟨0x60001c, [], 0x0, 0xffffffff, 0x0, 0x0, 0x0, 0x0, false⟩,
  ⟨0x600020, [], 0x0, 0x0, 0x0, 0x0, 0x0, 0x0, false⟩,
  ⟨0x600024, [], 0x0, 0x0, 0x0, 0x0, 0x0, 0x0, false⟩,
  ⟨0x600028, [], 0x0, 0x0, 0x0, 0x0, 0x0, 0x0, false⟩,
  ⟨0x60002c, [], 0x0, 0x0, 0x0, 0x0, 0x0, 0x0, false⟩,
  ⟨0x610000, [(65536, 2), (256, 64)], 0x0, 0xff1fff00, 0x0, 0x0, 0x0, 0x0, false⟩,
  ⟨0x610004, [(65536, 2), (256, 64), (4, 31)], 0x0, 0xffffffff, 0x0, 0x0, 0x0, 0x0, false⟩,
  ⟨0x610080, [(65536, 2), (256, 64), (4, 32)], 0x0, 0xfff00fff, 0x0, 0x0, 0x0, 0x0, false⟩]
/-- The rows of PF0 BAR0 offsets 0x800000 to 0xbfffff. -/
def rowsSw : List RegRow := [
  ⟨0x800000, [], 0x0, 0x0, 0x0, 0x0, 0x1, 0x0, false⟩,
  ⟨0x800004, [], 0x0, 0x0, 0x0, 0x0, 0x0, 0x0, false⟩,
  ⟨0x800010, [], 0x88b5, 0x0, 0xffff, 0x0, 0x0, 0x0, false⟩,
  ⟨0x800014, [], 0x44535001, 0x0, 0xffffffff, 0x0, 0x0, 0x0, false⟩,
  ⟨0x800018, [], 0x34e, 0x0, 0xffff, 0x0, 0x0, 0x0, false⟩,
  ⟨0x800020, [], 0x0, 0x0, 0x0, 0x0, 0x0, 0xffffffff, false⟩,
  ⟨0x800024, [], 0x0, 0x0, 0x0, 0x0, 0x0, 0x0, false⟩,
  ⟨0x800028, [], 0x0, 0xf, 0x0, 0x0, 0x0, 0x0, false⟩,
  ⟨0x80002c, [], 0x0, 0x7ff, 0x0, 0x0, 0x0, 0x0, false⟩,
  ⟨0x800040, [], 0x0, 0x0, 0x0, 0x0, 0x0, 0x0, true⟩,
  ⟨0x800044, [], 0x0, 0x0, 0x0, 0x0, 0x0, 0x0, true⟩,
  ⟨0x800048, [], 0x0, 0x0, 0x0, 0x0, 0x0, 0x0, true⟩,
  ⟨0x80004c, [], 0x0, 0x0, 0x0, 0x0, 0x0, 0x0, true⟩,
  ⟨0x800050, [], 0x0, 0x0, 0x0, 0x0, 0x0, 0x0, true⟩,
  ⟨0x800054, [], 0x0, 0x0, 0x0, 0x0, 0x0, 0x0, true⟩,
  ⟨0x800058, [], 0x0, 0x0, 0x0, 0x0, 0x0, 0x0, true⟩,
  ⟨0x80005c, [], 0x0, 0x0, 0x0, 0x0, 0x0, 0x0, true⟩,
  ⟨0x800060, [], 0x0, 0x0, 0x0, 0x0, 0x0, 0x0, true⟩,
  ⟨0x800064, [], 0x0, 0x0, 0x0, 0x0, 0x0, 0x0, true⟩,
  ⟨0x800068, [], 0x0, 0x0, 0x0, 0x0, 0x0, 0x0, true⟩,
  ⟨0x80006c, [], 0x0, 0x0, 0x0, 0x0, 0x0, 0x0, true⟩,
  ⟨0x810000, [(256, 128)], 0x5ee, 0x0, 0xfc003fff, 0x0, 0x0, 0x0, false⟩,
  ⟨0x810004, [(256, 128)], 0x1c0, 0x0, 0xfffff, 0x0, 0x0, 0x0, false⟩,
  ⟨0x810008, [(256, 128)], 0x0, 0x0, 0xffffffff, 0x0, 0x0, 0x0, false⟩,
  ⟨0x81000c, [(256, 128)], 0x0, 0x0, 0xffffffff, 0x0, 0x0, 0x0, false⟩,
  ⟨0x810010, [(256, 128)], 0x0, 0x0, 0xffffff, 0x0, 0x0, 0x0, false⟩,
  ⟨0x810014, [(256, 128)], 0x0, 0x0, 0x7f, 0x0, 0x0, 0x0, false⟩,
  ⟨0x810020, [(256, 128)], 0x100, 0x0, 0x0, 0x0, 0x0, 0x0, false⟩,
  ⟨0x840000, [(512, 128), (8, 64)], 0x0, 0x0, 0xffffffff, 0x0, 0x0, 0x0, false⟩,
  ⟨0x840004, [(512, 128), (8, 64)], 0x0, 0x0, 0xffffffff, 0x0, 0x0, 0x0, false⟩,
  ⟨0x870000, [(8, 64)], 0x0, 0x0, 0xffffffff, 0x0, 0x0, 0x0, false⟩,
  ⟨0x870004, [(8, 64)], 0x0, 0x0, 0x0, 0x0, 0x0, 0x0, false⟩,
  ⟨0x880000, [(16, 4096)], 0x0, 0x0, 0x80000000, 0x0, 0x0, 0x0, false⟩,
  ⟨0x880004, [(16, 4096)], 0x0, 0x0, 0xffffffff, 0x0, 0x0, 0x0, false⟩,
  ⟨0x880008, [(16, 4096)], 0x0, 0x0, 0xffffffff, 0x0, 0x0, 0x0, false⟩,
  ⟨0x88000c, [(16, 4096)], 0x0, 0x0, 0x0, 0x0, 0x0, 0x0, false⟩,
  ⟨0x900000, [(16, 16384)], 0x0, 0x0, 0x800007ff, 0x0, 0x0, 0x0, false⟩,
  ⟨0x900004, [(16, 16384)], 0x0, 0x0, 0x0, 0x0, 0x0, 0x0, false⟩,
  ⟨0x900008, [(16, 16384)], 0x0, 0x0, 0xffff0000, 0x0, 0x0, 0x0, false⟩,
  ⟨0x90000c, [(16, 16384)], 0x0, 0x0, 0x0, 0x0, 0x0, 0x0, false⟩,
  ⟨0xa00000, [(32, 65536)], 0x0, 0x0, 0xfffffe3f, 0x0, 0x0, 0x0, false⟩,
  ⟨0xa00004, [(32, 65536)], 0x0, 0x0, 0xffffffff, 0x0, 0x0, 0x0, false⟩,
  ⟨0xa00008, [(32, 65536)], 0x0, 0x0, 0xffffffff, 0x0, 0x0, 0x0, false⟩,
  ⟨0xa0000c, [(32, 65536)], 0x0, 0x0, 0xffffffff, 0x0, 0x0, 0x0, false⟩,
  ⟨0xa00010, [(32, 65536)], 0x5ee, 0x0, 0xffffffff, 0x0, 0x0, 0x0, false⟩,
  ⟨0xa00014, [(32, 65536)], 0x0, 0x0, 0xffff3fff, 0x0, 0x0, 0x0, false⟩,
  ⟨0xa00018, [(32, 65536)], 0x0, 0x0, 0xffff3fff, 0x0, 0x0, 0x0, false⟩,
  ⟨0xa0001c, [(32, 65536)], 0x0, 0x0, 0xff, 0x0, 0x0, 0x0, false⟩]
/-- The rows of PF0 BAR0 offsets 0xc00000 to 0xdfffff. -/
def rowsLn : List RegRow := [
  ⟨0xc00000, [(16384, 128)], 0x0, 0x0, 0x0, 0x0, 0x0, 0x0, false⟩,
  ⟨0xc00010, [(16384, 128)], 0x0, 0x0, 0x0, 0xf38f, 0x0, 0x0, false⟩,
  ⟨0xc00014, [(16384, 128)], 0x0, 0x0, 0x0, 0x0, 0x0, 0x0, false⟩,
  ⟨0xc00020, [(16384, 128)], 0x0, 0x0, 0x0, 0x0, 0x0, 0x0, true⟩,
  ⟨0xc00024, [(16384, 128)], 0x0, 0x0, 0x0, 0x0, 0x0, 0x0, true⟩,
  ⟨0xc00028, [(16384, 128)], 0x0, 0x0, 0x0, 0x0, 0x0, 0x0, true⟩,
  ⟨0xc0002c, [(16384, 128)], 0x0, 0x0, 0x0, 0x0, 0x0, 0x0, true⟩]
/-- The rows of PF0 BAR0 offsets 0xe00000 to 0xffffff. -/
def rowsQm : List RegRow := [
  ⟨0xe00000, [], 0x0, 0x0, 0x0, 0x0, 0x1, 0x0, false⟩,
  ⟨0xe00010, [], 0x0, 0x0, 0x0, 0x0, 0x0, 0x0, false⟩,
  ⟨0xe00014, [], 0x0, 0x0, 0x0, 0x0, 0x0, 0x0, false⟩,
  ⟨0xf00000, [(16, 32768)], 0x0, 0x0, 0xfffffc00, 0x0, 0x0, 0x0, false⟩,
  ⟨0xf00004, [(16, 32768)], 0x0, 0x0, 0x3ffff, 0x0, 0x0, 0x0, false⟩,
  ⟨0xf00008, [(16, 32768)], 0x1000, 0x0, 0x3ffff, 0x0, 0x0, 0x0, false⟩,
  ⟨0xf0000c, [(16, 32768)], 0x0, 0x0, 0x0, 0x0, 0x0, 0x0, false⟩,
  ⟨0xf80000, [(16, 32768)], 0x0, 0x0, 0x0, 0x0, 0x0, 0x0, true⟩,
  ⟨0xf80004, [(16, 32768)], 0x0, 0x0, 0x0, 0x0, 0x0, 0x0, true⟩,
  ⟨0xf80008, [(16, 32768)], 0x0, 0x0, 0x0, 0x0, 0x0, 0x0, true⟩,
  ⟨0xf8000c, [(16, 32768)], 0x0, 0x0, 0x0, 0x0, 0x0, 0x0, true⟩]
/-- The rows of PF0 BAR0 offsets 0x1000000 to 0x10fffff. -/
def rowsCan : List RegRow := [
  ⟨0x1000000, [(65536, 16)], 0x0, 0x0, 0x0, 0x0, 0x0, 0x0, false⟩,
  ⟨0x1000010, [(65536, 16)], 0x10, 0x0, 0xff, 0x0, 0x0, 0x0, false⟩,
  ⟨0x1000014, [(65536, 16)], 0x0, 0x0, 0xfffffffc, 0x0, 0x0, 0x0, false⟩,
  ⟨0x1000018, [(65536, 16)], 0x0, 0x0, 0xff1f0f0f, 0x0, 0x0, 0x0, false⟩,
  ⟨0x100001c, [(65536, 16)], 0x0, 0x0, 0x7f, 0x0, 0x0, 0x0, false⟩,
  ⟨0x1000020, [(65536, 16)], 0x0, 0x0, 0xffffffff, 0x0, 0x0, 0x0, false⟩,
  ⟨0x1000024, [(65536, 16)], 0x0, 0x0, 0xfc0fffff, 0x0, 0x0, 0x0, false⟩,
  ⟨0x1000028, [(65536, 16)], 0x0, 0x0, 0xfffff, 0x0, 0x0, 0x0, false⟩,
  ⟨0x1000030, [(65536, 16)], 0x0, 0x0, 0x0, 0x0, 0x0, 0x0, false⟩,
  ⟨0x1000034, [(65536, 16)], 0x0, 0x0, 0x0, 0x0, 0x0, 0x0, false⟩,
  ⟨0x1000038, [(65536, 16)], 0x0, 0x0, 0x0, 0x0, 0x0, 0x0, false⟩,
  ⟨0x100003c, [(65536, 16)], 0x0, 0x0, 0x0, 0x0, 0x0, 0x0, false⟩,
  ⟨0x1000040, [(65536, 16)], 0x0, 0x0, 0x0, 0x1ff000f, 0x0, 0x0, false⟩,
  ⟨0x1000044, [(65536, 16)], 0x0, 0x0, 0x0, 0x0, 0x0, 0x0, false⟩,
  ⟨0x1000048, [(65536, 16)], 0x0, 0x0, 0x0, 0x0, 0x0, 0x0, false⟩,
  ⟨0x1000080, [(65536, 16)], 0x0, 0x0, 0x0, 0x0, 0x0, 0xffffffff, false⟩,
  ⟨0x1000084, [(65536, 16)], 0x0, 0x0, 0x0, 0x0, 0x0, 0x0, false⟩,
  ⟨0x1000088, [(65536, 16)], 0x0, 0x0, 0x0, 0x3f, 0x0, 0x0, false⟩,
  ⟨0x100008c, [(65536, 16)], 0x0, 0x0, 0x0, 0x7ff, 0x0, 0x0, false⟩,
  ⟨0x10000a0, [(65536, 16)], 0x0, 0x0, 0x0, 0x0, 0x0, 0x0, true⟩,
  ⟨0x10000a4, [(65536, 16)], 0x0, 0x0, 0x0, 0x0, 0x0, 0x0, true⟩,
  ⟨0x10000a8, [(65536, 16)], 0x0, 0x0, 0x0, 0x0, 0x0, 0x0, true⟩,
  ⟨0x10000ac, [(65536, 16)], 0x0, 0x0, 0x0, 0x0, 0x0, 0x0, true⟩,
  ⟨0x10000b0, [(65536, 16)], 0x0, 0x0, 0x0, 0x0, 0x0, 0x0, true⟩,
  ⟨0x1001000, [(65536, 16), (8, 512)], 0x0, 0x0, 0xffffffff, 0x0, 0x0, 0x0, false⟩,
  ⟨0x1001004, [(65536, 16), (8, 512)], 0x80000000, 0x0, 0x800003ff, 0x0, 0x0, 0x0, false⟩,
  ⟨0x1002000, [(65536, 16), (128, 32)], 0x0, 0x0, 0x0, 0x0, 0x0, 0x0, false⟩,
  ⟨0x1002004, [(65536, 16), (128, 32)], 0x80000000, 0x0, 0x800003ff, 0x0, 0x0, 0x0, false⟩,
  ⟨0x1002008, [(65536, 16), (128, 32)], 0x0, 0x0, 0xbfffffff, 0x0, 0x0, 0x0, false⟩,
  ⟨0x100200c, [(65536, 16), (128, 32)], 0x0, 0x0, 0xffff, 0x0, 0x0, 0x0, false⟩,
  ⟨0x1002010, [(65536, 16), (128, 32)], 0x0, 0x0, 0x0, 0xffffffff, 0x0, 0x0, false⟩,
  ⟨0x1002014, [(65536, 16), (128, 32), (4, 17)], 0x0, 0x0, 0x0, 0xffffffff, 0x0, 0x0, false⟩,
  ⟨0x1004000, [(65536, 16), (96, 512)], 0x0, 0x0, 0x0, 0x0, 0x0, 0x0, false⟩,
  ⟨0x1004004, [(65536, 16), (96, 512), (4, 17)], 0x0, 0x0, 0x0, 0x0, 0x0, 0x0, false⟩]

/-- The blocks of PF0 BAR0 (table "PF0 BAR0 map"): lower bound, upper bound, rows. -/
def regBlocks : List (Nat × Nat × List RegRow) := [
  (0x0, 0x10000, rowsLeg),
  (0x10000, 0x20000, rowsGctl),
  (0x20000, 0x30000, rowsFlt),
  (0x30000, 0x40000, rowsRst),
  (0x40000, 0x50000, rowsWdg),
  (0x50000, 0x60000, rowsMer),
  (0x60000, 0x70000, rowsRtc),
  (0x70000, 0x80000, rowsNv),
  (0x80000, 0x90000, rowsEvr),
  (0x90000, 0xa0000, rowsAu),
  (0xa0000, 0xb0000, rowsSp),
  (0xb0000, 0xc0000, rowsFio),
  (0xc0000, 0xd0000, rowsSf),
  (0xd0000, 0xe0000, rowsRu),
  (0x100000, 0x200000, rowsDsp),
  (0x200000, 0x300000, rowsEng),
  (0x300000, 0x400000, rowsPd),
  (0x400000, 0x500000, rowsTr),
  (0x500000, 0x600000, rowsMov),
  (0x600000, 0x640000, rowsDt),
  (0x800000, 0xc00000, rowsSw),
  (0xc00000, 0xe00000, rowsLn),
  (0xe00000, 0x1000000, rowsQm),
  (0x1000000, 0x1100000, rowsCan)]

/-- Whether the distance `d` from a row's base is one of its registers. -/
def dimsHit : List (Nat × Nat) → Nat → Bool
  | [], d => d == 0
  | (s, n) :: rest, d => decide (d / s < n) && dimsHit rest (d % s)

/-- The row among `rows` that holds offset `a`. -/
def findRow : List RegRow → Nat → Option RegRow
  | [], _ => none
  | r :: rest, a => if r.base ≤ a ∧ dimsHit r.dims (a - r.base) then some r else findRow rest a

/-- The row of the block list that holds offset `a`; none where no register is documented there (R4). -/
def findReg : List (Nat × Nat × List RegRow) → Nat → Option RegRow
  | [], _ => none
  | (lo, hi, rows) :: rest, a => if lo ≤ a ∧ a < hi then findRow rows a else findReg rest a

/-- The register at PF0 BAR0 offset `a`. -/
def regRow (a : Nat) : Option RegRow := findReg regBlocks a

end Sys2Proof.Machine
end

