-- ==== Sys2Proof/Machine/State.lean ====
section
/-!
DEFINITION. The state of the T512 as plain data, the outcomes of a step and the state at reset.

Registers the spec places in the register map live in `regs` under their PF0 BAR0 offset (one home each); the other
fields hold what no register shows. A sparse table (`FMap`) lists only what differs from its reset value.
-/
namespace Sys2Proof.Machine

/-- The reasons a run of the block can stop with a fault. No meaning of this model answers one: every command the spec
describes leaves a next state (a refused access, a trap and a fault report are effects on the state). Safe. -/
inductive Fault where
  /-- A command of a unit that the model's own bookkeeping forbids; raised by no meaning. Safe. -/
  | unreachable
  deriving DecidableEq, Repr

/-- The reasons a command can be refused by the model. -/
inductive Refusal where
  /-- Raised by an arm of `exec` whose command has no meaning yet. Safe: the run stops. -/
  | notModelled (mnemonic : String)
  deriving DecidableEq, Repr

/-- What the block puts out. -/
inductive Output where
  /-- An MSI-X message: function (0 PF0, k VFk) and vector (R39). -/
  | msix (fn vec : Nat)
  /-- The completion of a read by a requester: its bytes, lowest address first (R42). -/
  | readData (src : Nat) (data : List Byte)
  /-- A frame sent on a port, from its destination address to its frame check sequence. -/
  | frame (port : Nat) (data : List Byte)
  /-- A reply of the service port: OP, STATUS and payload (R425, R426). -/
  | spReply (op status : Nat) (data : List Byte)
  /-- A frame sent on the bus of a CAN FD controller: identifier word, control word and data words. -/
  | canFrame (ctl : Nat) (words : List W)
  /-- The acknowledgement that a CAN FD controller in NORMAL mode drives (R347). -/
  | canAck (ctl : Nat)
  /-- The error frame that a CAN FD controller in NORMAL mode drives, active or passive (R347). -/
  | canErrorFrame (ctl : Nat) (passive : Bool)
  /-- A configuration request was answered: Configuration Request Retry Status or served (R451); for PF0 with TotalVFs, NumVFs and VF Enable of
  the SR-IOV capability (R31). -/
  | config (fn : Nat) (retry : Bool) (sriov : List Nat)
  deriving DecidableEq, Repr

/-- The four variants (rule R1, table "Variants and their unit counts"). -/
inductive Variant where
  | t512f | t512n | t256f | t64s
  deriving DecidableEq, Repr

/-- What is fused before the L-die leaves reset (R63, R64): variant, lot and position of both dies, base MAC address. DESIGN CHOICE (log 1). -/
structure Fuse where
  variant : Variant
  lotL : BitVec 48
  lotF : BitVec 48
  posL : W
  posF : W
  mac : BitVec 48
  deriving DecidableEq, Repr

/-- A store's words as they stood when the last instruction issued (R98, R101): image or word space, pairs of word
address and contents, and whether the next instruction lies at distance 1. -/
structure StoreRec where
  image : Bool
  words : List (Nat × W)
  next : Bool
  deriving DecidableEq, Repr

/-- A set (`true`) or clear (`false`) of sticky flags still in flight: its mask over F and its remaining distance. -/
structure Sticky where
  isSet : Bool
  mask : BitVec 8
  left : Nat
  deriving DecidableEq, Repr

/-- One task context (table "Task context registers") with its pipeline record (R95 to R102). `x` and `y` are read as
data, `xa` and `ya` are what addressing reads (one clock later). `slot` is `some t` while the next instruction sits in
a delay slot, `t` being the target of a taken jump. -/
structure Ctx where
  lr : Bool
  bs : BitVec 16
  bsd : Nat
  a : W
  x : BitVec 24
  y : BitVec 24
  xa : BitVec 24
  ya : BitVec 24
  p : BitVec 20
  f : BitVec 8
  csd : Nat
  tmerh : W
  inA : Option (W × Nat)
  inX : Option (BitVec 24 × Nat)
  inY : Option (BitVec 24 × Nat)
  inF : Option (BitVec 4 × Nat)
  stk : List Sticky
  srec : Option StoreRec
  slot : Option (Option (BitVec 20))
  deriving DecidableEq, Repr

/-- A context with every register cleared and nothing in flight. -/
def Ctx.zero : Ctx :=
  { lr := false, bs := 0, bsd := 0, a := 0, x := 0, y := 0, xa := 0, ya := 0, p := 0, f := 0, csd := 0, tmerh := 0,
    inA := none, inX := none, inY := none, inF := none, stk := [], srec := none, slot := none }

/-- What the device keeps of one task beside its registers: context, release stamp in partition time and release
instant in Meridian time (R127, R131), the PRIO and engine of the pass and the partition time its deadline falls on, the instant before which no grid
instant releases it (R130, R145, R151), the state it was held from (R134, R150), a hold waiting for its boundary, a step
in progress (R150), whether the breakpoint at its next instruction was already taken, whether a saved store took one
clock (R102), and a release put off by a boundary pause (R160). -/
structure Task where
  ctx : Ctx
  stamp : W64
  relAt : W64
  prio : Nat
  eng : Nat
  limit : Option W64
  notBefore : W64
  held : Nat
  heldMid : Bool
  toHold : Bool
  stepping : Bool
  passBrk : Bool
  oneClk : Bool
  deferred : Option W64
  deriving DecidableEq, Repr

/-- A task that has never run. -/
def Task.zero : Task :=
  { ctx := Ctx.zero, stamp := 0, relAt := 0, prio := 0, eng := 0, limit := none, notBefore := 0, held := 0, heldMid := false,
    toHold := false, stepping := false, passBrk := false, oneClk := false, deferred := none }

/-- A scan engine: the task that runs on it and the task a switch in progress brings in (both as partition × 16 + task),
the partition whose TB ran last (R131), and the task that ran last (R373). -/
structure Eng where
  run : Option Nat
  sw : Option Nat
  lastTb : Nat
  last : Option Nat
  deriving DecidableEq, Repr

/-- An idle engine. -/
def Eng.zero : Eng := { run := none, sw := none, lastTb := 511, last := none }

/-- A command of `PD_CMD` that has been accepted and not yet applied (R144). -/
inductive PdCmd where
  | run | stop | hold | resume | step (t : Nat)
  deriving DecidableEq, Repr

/-- What a stopped or held partition's outgoing blocks carry (R147, R149). -/
inductive Sending where
  | none | stop | safe | held
  deriving DecidableEq, Repr

/-- A boundary pause in progress: its start in CLK_FAB clocks, its length (R159) and whether its migration faulted. -/
structure Pause where
  start : Nat
  len : Nat
  fault : Bool
  deriving DecidableEq, Repr

/-- What the device keeps of one partition beside its descriptor: the accepted command that waits, a stop that is still
taking effect, what its blocks carry, an edit whose checks have passed with the partition time its 1 s began, the
boundary pause, and the breakpoints set through the service port. -/
structure Part where
  cmd : Option PdCmd
  stopping : Bool
  sending : Sending
  edit : Option W64
  pause : Option Pause
  brk : List (BitVec 3 × BitVec 20)
  deriving DecidableEq, Repr

/-- A partition with nothing in progress. -/
def Part.zero : Part := { cmd := none, stopping := false, sending := .none, edit := none, pause := none, brk := [] }

/-- An event record on its way to the recorder (R366, R414): source, code, severity, body and the Meridian time it was raised. -/
structure EvRec where
  code : BitVec 16
  sev : BitVec 3
  body : List W
  time : W64
  deriving DecidableEq, Repr

/-- A frame in an egress queue: its bytes from the destination address to the last byte before the frame check sequence,
the ingress port while its last byte has not arrived, whether the copy ends with the complement of the check sequence
(R206), the largest length of its stream (R205), the cells it holds, and whether its stream has ORIG = 1 (R368). -/
structure QFrame where
  data : List Byte
  from_ : Option Nat
  stomp : Bool
  maxLen : Nat
  cells : Nat
  own : Bool
  deriving DecidableEq, Repr

/-- An egress port's transmitter: the CLK_FAB counts at which the express and the bulk frame on the wire end, the class of
that bulk frame, the clocks left of a preempted bulk frame (R203), the ingress port and queue of an unfinished frame that
is being sent cut-through, and whether the port re-forms (R200). -/
structure Port where
  expEnd : Nat
  blkEnd : Nat
  blkCls : Nat
  susp : Option Nat
  cut : Option (Nat × Nat)
  reform : Bool
  deriving DecidableEq, Repr

/-- A port with nothing on its wire. -/
def Port.zero : Port := { expEnd := 0, blkEnd := 0, blkCls := 0, susp := none, cut := none, reform := false }

/-- What the receive path keeps of a frame whose header has been processed (R220): the bytes so far, whether it is a span
frame and where its span header lies, its TYPE, stream entry and words 0, 5 and 6 of that entry as they stood then (R230),
whether steps 1 to 6 discarded it, the two words of its fence entry as they stood then, the slots that a commit has changed since, and
whether one has written its stream entry (R230). DESIGN CHOICE (log 193). -/
structure Rx where
  head : List Byte
  span : Bool
  hdrAt : Nat
  ty : Nat
  stream : Nat
  w0 : W
  w5 : W
  w6 : W
  drop : Bool
  f0 : W
  f1 : W
  gone : List Nat
  late : Bool
  deriving DecidableEq, Repr

/-- A module block (table "Module block"). -/
structure Block where
  modid : Nat
  mseq : Nat
  status : Nat
  data : List Byte
  deriving DecidableEq, Repr

/-- A copy of the image mover's cycle unit (R136): an output copy or an input copy, its task, the CLK_FAB edge that triggered it, whether the
unit has begun it, the descriptors still to take, the words of the block in progress that are still to write (store offsets, R140), the
INVEC that selects a standby's blocks, the module sequences an active pass has copied, whether an input diverged (R258), and the blocks
built so far with their stream entries (R138); `hold` names the slot buffer that the block in progress reads (2 × slot + buffer, R227),
and `undo` holds what the words of that block's destination held before it (R385). DEDUCED (log 21). -/
structure CuJob where
  out : Bool
  p : Nat
  t : Nat
  edge : Nat
  begun : Bool
  todo : List Nat
  cur : List (Nat × W)
  want : Option (List (Option Nat))
  vec : List (Option Nat)
  div : Bool
  built : List (Nat × Block)
  hold : Option Nat
  undo : List (Nat × W)
  deriving DecidableEq, Repr

/-- What the F-die keeps of one field channel beside its registers: the level its output is driven to, whether a command was
recorded since forcing began (R310), whether protection holds it off and its restart condition is met or a DCLR named it
(R304), the settled input state behind XS and test-pulse faults (R301, R303), the consecutive checks that read high or low, and the
consecutive samples that differ from the settled state (R301). -/
structure Fio where
  drive : Bool
  since : Bool
  prot : Bool
  cool : Bool
  dclr : Bool
  level : Bool
  high : Nat
  low : Nat
  cnt : Nat
  deriving DecidableEq, Repr

/-- A channel after a cold reset. -/
def Fio.zero : Fio :=
  { drive := false, since := false, prot := false, cool := false, dclr := false, level := false, high := 0, low := 0, cnt := 0 }

/-- What a CAN FD controller keeps beside its registers: the mailbox whose frame is on the bus (32: the reference message),
whether that frame is not to be retried (R356), a frame in the receive hold with its object (R350), the Ref_Mark in Meridian
time and whether a reference message was seen (R358), the cycle count of a reference message it has
requested, whether a higher-priority master has taken its next one, the identifier, control and data words of the frame on the bus
(R356), and the CLK_FAB count since which it integrates on the bus (R342, R346, R361). -/
structure Can where
  bus : Option Nat
  noRetry : Bool
  hold : Option (Nat × List W)
  mark : W64
  seen : Bool
  refReq : Option Nat
  ceded : Bool
  frame : List W
  integ : Option Nat
  deriving DecidableEq, Repr

/-- A controller at rest. -/
def Can.zero : Can :=
  { bus := none, noRetry := false, hold := none, mark := 0, seen := false, refReq := none, ceded := false, frame := [], integ := none }

/-- What a RESULT frame says of a pass (table "MIRROR kinds"). -/
structure PassRes where
  crc : W64
  lines : Nat
  outcome : Nat
  cause : Nat
  flags : Nat
  deriving DecidableEq, Repr

/-- What the redundancy unit keeps of one pair task: the CLK_FAB count at which its pass began and the pass's stamp in µs; the INVEC
frames in hand (stamp and the module sequence of each IN descriptor, none for an empty slot): the active's own pass, or received on
the standby; a grid instant that passed without its INVEC; whether the pass's input diverged; the CLK_FAB count since which
its input copy waits for a block; the CRC-64, OUTCOME and trap CAUSE of the standby's finished pass and the blocks it built; the
received lines (stamp, address word of a DATA entry, 64 B) and RESULTs by stamp; consecutive incomplete passes; and whether the pass in hand
follows an INVEC (R257). DEDUCED (log 76). -/
structure Shadow where
  began : Nat
  stamp : W
  vecs : List (W × List (Option Nat))
  due : Option W64
  div : Bool
  waits : Option Nat
  own : Option (W64 × Nat × Nat)
  blocks : List (Nat × Block)
  lines : List (W × W × List Byte)
  ress : List (W × PassRes)
  miss : Nat
  follows : Bool
  deriving DecidableEq, Repr

/-- A task with no pass in hand. -/
def Shadow.zero : Shadow :=
  { began := 0, stamp := 0, vecs := [], due := none, div := false, waits := none, own := none, blocks := [], lines := [],
    ress := [], miss := 0, follows := false }

/-- What a pair member keeps beside its registers. Instants are CLK_FAB counts (R243). RNUM of the next LEASE frame; the REQUEST
and CLAIM frames sent (RNUM, epoch, instant); for each witness the instant of the member's newest granted frame plus one, the
epoch of an unsolicited GRANT plus one, and the instant of the last GRANT to the partner plus one; since when it is in WAIT after a
reset or commit, when it last stopped observing the partner's lease and whether it was in SYNC or STANDBY then; the claimed
epoch, whether the claim repeats (DENY 0x1), the first GRANT of the round and the end of a back-off; an accepted TAKE; a SWAP that
waits for its boundary (start) or for its successor (boundary instant); a SWAP received (epoch, instant); the last change of holder
and the last refused periodic swap; consecutive differing STATE digests; a faulted pass that waits for its VERDICT (partition × 16 +
task, instant); the passes that have no VERDICT yet (partition × 16 + task, stamp, LOCALF sent); when TAKE was accepted; and the instant of
the partner's last STATE plus one. DEDUCED (log 83). -/
structure Ru where
  rnum : Nat
  sent : List (Nat × Nat × Nat)
  ownG : FMap Nat
  unsol : FMap Nat
  peerG : FMap Nat
  waitAt : Nat
  lostAt : Nat
  fromSync : Bool
  claim : Option Nat
  retry : Bool
  firstG : Option Nat
  backoff : Nat
  take : Bool
  swapFrom : Option Nat
  swapTo : Option Nat
  swapIn : Option (Nat × Nat)
  holdAt : Nat
  swapTry : Nat
  diff : Nat
  verdict : Option (Nat × Nat)
  open_ : List (Nat × W × Bool)
  takeAt : Nat
  stateAt : Nat
  deriving DecidableEq, Repr

/-- A member with nothing in progress. -/
def Ru.zero : Ru :=
  { rnum := 0, sent := [], ownG := [], unsol := [], peerG := [], waitAt := 0, lostAt := 0, fromSync := false, claim := none,
    retry := false, firstG := none, backoff := 0, take := false, swapFrom := none, swapTo := none, swapIn := none,
    holdAt := 0, swapTry := 0, diff := 0, verdict := none, open_ := [], takeAt := 0, stateAt := 0 }

/-- The latest SYNC of a port: priority, clock ID and steps of its sender, VALID, PPSL, and the CLK_FAB count of its arrival (R279). -/
structure Cand where
  prio : Nat
  master : Nat
  steps : Nat
  valid : Bool
  ppsl : Bool
  at_ : Nat
  deriving DecidableEq, Repr

/-- A running rate measurement: its source (MAINS_REF, or else Meridian), window in s, 60 Hz nominal, the Meridian time of the boundary
it began at and of the latest one, the seconds measured, the mains periods and the RTC time between crossings in units of 62.5 ns; a
mains measurement counts from its first crossing on. -/
structure Meas where
  mains : Bool
  win : Nat
  hz60 : Bool
  start : Option W64
  last : W64
  secs : Nat
  n : Nat
  e : Nat
  deriving DecidableEq, Repr

/-- What one safety channel keeps of one function: its state and cause, a pending startup, the filtered levels of CH0 to CH3 and the
consecutive samples that differ from them (R315), for each discrepancy pair whose second input is awaited the evaluations since its first
input changed, with the kind of change and that input (R323), for each hand the evaluations since it was actuated and those with equal contacts (R326), for each input and test
pulse the consecutive failed checks (R320), and of a NETIN function the base, the armed mark, the watchdog's evaluations, the level
and the consecutive rejections (R327). -/
structure SfChan where
  st : Nat
  cause : Nat
  startup : Bool
  lvl : BitVec 4
  run : List Nat
  disc : List (Option (Nat × Nat))
  acts : List (Option Nat)
  eq : List Nat
  cs : List Nat
  base : Nat
  armed : Bool
  wd : Nat
  level : Bool
  rej : Nat
  deriving DecidableEq, Repr

/-- A stopped function. -/
def SfChan.zero : SfChan :=
  { st := 0, cause := 0, startup := false, lvl := 0, run := [], disc := [], acts := [], eq := [], cs := [], base := 0, armed := false,
    wd := 1000, level := false, rej := 0 }

/-- What the safety unit keeps of one output: its two switches, each channel's command, the evaluations since switch-on, the consecutive
failed readbacks of each channel, and the dark test in progress (1 high side, 2 low side). -/
structure Sq where
  hi : Bool
  lo : Bool
  cmdA : Bool
  cmdB : Bool
  onFor : Nat
  badA : Nat
  badB : Nat
  dark : Nat
  deriving DecidableEq, Repr

/-- An open output. -/
def Sq.zero : Sq := { hi := false, lo := false, cmdA := false, cmdB := false, onFor := 0, badA := 0, badB := 0, dark := 0 }

/-- A record of the event recorder (table "Event record header"): the four header words and the body. -/
structure EvStored where
  hdr : List W
  body : List W
  deriving DecidableEq, Repr

/-- The option bytes in use (table "Option-byte copy"): the periods of the watchdog channels in ms, the xSPI clock, AUTORUN, FRST, the
generation, and whether copy B was used. -/
structure Opt where
  eper : Nat
  sper : Nat
  dtr : Bool
  xmhz : Nat
  autorun : Bool
  frst : Bool
  gen : Nat
  copyB : Bool
  deriving DecidableEq, Repr

/-- The factory defaults. -/
def Opt.factory : Opt :=
  { eper := 10, sper := 200, dtr := true, xmhz := 100, autorun := false, frst := true, gen := 0, copyB := false }

/-- An open exchange of the authorisation unit (R430, R432): its requester (0 PF0, 1 service port), SLOT, RIGHTS, NONCE, and the CLK_FAB
count at which it was opened. -/
structure Exch where
  req : Nat
  slot : Nat
  rights : Nat
  nonce : List Byte
  at_ : Nat
  deriving DecidableEq, Repr

/-- A firmware image: its Cartouche and its body (R435). -/
structure Img where
  cart : List Byte
  body : List Byte
  deriving DecidableEq, Repr

/-- The boot record (R436): ACT and PREV slot, whether ACT is steeping, TRIES, and the settings generation of each bank, 0 for none. -/
structure BootRec where
  act : Nat
  prev : Nat
  steep : Bool
  tries : Nat
  set0 : Nat
  set1 : Nat
  deriving DecidableEq, Repr

/-- The slot records of the F-die (R436, R443): running slot, whether it is steeping, and the slot it replaced. -/
structure FRec where
  slot : Nat
  steep : Bool
  deriving DecidableEq, Repr

/-- A reply of the service port that a repeated request receives again (R425): OP, STATUS and body. -/
structure SpReply where
  op : Nat
  status : Nat
  body : List Byte
  deriving DecidableEq, Repr

set_option maxRecDepth 8192 in
/-- The state of one device. DESIGN CHOICE (log 188). -/
structure State where
  /-- Fused values (R63, R64); the model takes a T512F (DESIGN CHOICE, log 1). -/
  fuse : Fuse
  /-- The program, data and image stores by PF0 BAR2 byte offset (R36, R466). -/
  mem : FMap Byte
  /-- Store words (by BAR2 offset) that hold an uncorrectable error (R174, R191). -/
  bad : FMap Bool
  /-- Every register of PF0 BAR0 by its offset, applied value (R35). -/
  regs : FMap W
  /-- Pending values of RWS and RWN registers by offset (R55, R468). -/
  pend : FMap W
  /-- Survey holding copies by counter offset (R57). -/
  survey : FMap W
  /-- The service port's own copies of registers held separately per requester, by offset. -/
  spRegs : FMap W
  /-- High-word latches of R41 per function (0 PF0, k VFk, 0x3FE service port): the counter's low offset plus one, and the word. -/
  latch : FMap (Nat × W)
  /-- Applied translation entries, partition × 2,432 + index (R173). -/
  trA : FMap W
  /-- Pending translation entries (R175). -/
  trP : FMap W
  /-- Translation entries that hold an uncorrectable error (R174). -/
  trBad : FMap Bool
  /-- Tasks, partition × 16 + entry (0 to 7, TB 8). -/
  tasks : FMap Task
  /-- Partitions. -/
  parts : FMap Part
  /-- Scan engines. -/
  engs : FMap Eng
  /-- Pages in Zeroing in the order they entered it: store (0 program, 1 data, 2 image) and page (R166). -/
  zeroQ : List (Nat × Nat)
  /-- Meridian time: 64 bits of nanoseconds, 32 bits of fraction (R275). -/
  mer : BitVec 96
  /-- CLK_FAB clocks passed since reset (the model's own count of time). -/
  fab : Nat
  /-- Event records passed to the recorder and not yet admitted (R366, R416). -/
  evPass : List EvRec
  /-- What the block has sent (the model's own field): MSI-X messages, read data, frames, replies; newest first. -/
  outbox : List Output
  /-- The model's own counter, which the free values of Config are applied to (DESIGN CHOICE, log 2). -/
  fresh : Nat
  /-- MSI-X function mask of each function (R39). -/
  fnMask : FMap Bool
  /-- MSI-X vector masks, function × 2,048 + vector (R39). -/
  vecMask : FMap Bool
  /-- MSI-X pending bits (R39). -/
  vecPend : FMap Bool
  /-- Decode-table entries (bank × 64 + entry) that hold an uncorrectable error (R110, R117). -/
  dtBad : FMap Bool
  /-- Dirty marks of the 64 B lines of the stores, by BAR2 offset / 64 (R254). -/
  dirty : FMap Bool
  /-- The supervisor runs its firmware: neither failed nor in reset (R28, R34, R441). -/
  supRun : Bool
  /-- A management pause of an Activate is in progress (R34, R438). -/
  mgmt : Bool
  /-- Commands held by a management pause, in arrival order: `RU_CMD` (true) with its code, `TR_CMD` with requester × 16 + code (R34, R438). -/
  held : List (Bool × Nat)
  /-- The copies of the mover's cycle unit in the order it takes them (R136). -/
  cu : List CuJob
  /-- VF Enable of PF0's SR-IOV capability (R31, R32). -/
  vfEnable : Bool
  /-- NumVFs of PF0's SR-IOV capability (R31, R32). -/
  numVfs : Nat
  /-- A retirement copy in progress: store, old page, new page, partition (R192). -/
  retCopy : Option (Nat × Nat × Nat × Nat)
  /-- Tasks (partition × 16 + task) whose mirror capture is in progress (R254). -/
  ruCap : List Nat
  /-- Pending values written since the last commit of their block, by offset (R186, R216, R222). -/
  touched : FMap Bool
  /-- Committed values of queue entries and owner fields that wait for an owner's apply point (R169, R170), by offset. -/
  ownWait : FMap (Option W)
  /-- Frames in each egress queue, oldest first. -/
  queues : FMap (List QFrame)
  /-- Per port × 8 + class: one more than the queue last served (R202). -/
  qTurn : FMap Nat
  /-- Transmitters of the ports. -/
  ports : FMap Port
  /-- The frame each port is receiving. -/
  rx : FMap (Option Rx)
  /-- Committed gate lists that wait for their port's first gate cycle (R230), by offset. -/
  gateNew : FMap (Option W)
  /-- Duplicate windows W of the streams (R223). -/
  win : FMap (BitVec 128)
  /-- CLK_FAB count at the last accepted frame of each stream (R224). -/
  accepted : FMap Nat
  /-- Policers: what the token bucket of each stream lacks, in units of 1/4,000,000 bit, and the CLK_FAB count it holds at (R219). -/
  bucket : FMap (Nat × Nat)
  /-- Next SEQ of each originated stream (R216). -/
  seqs : FMap Nat
  /-- Next MSEQ of each descriptor (R216). -/
  mseqs : FMap Nat
  /-- Data of the block each OUT descriptor last built in an output copy (R147, R149). -/
  lastOut : FMap (List Byte)
  /-- Buffers of the module slots, slot × 2 + buffer. -/
  slotBuf : FMap (List Byte)
  /-- Module sequence, data length and status of each slot's other buffer (R258). -/
  slotOld : FMap (Option (Nat × Nat × Nat))
  /-- CLK_FAB count at each slot's last switch or its allocation (R226). -/
  slotT : FMap Nat
  /-- A block whose write waits for a reader's hold (R227). -/
  slotWait : FMap (Option Block)
  /-- Image page that holds each allocated slot's buffers, plus one. -/
  slotPage : FMap Nat
  /-- Image pages of the station image, in order. -/
  stiPages : List Nat
  /-- CLK_FAB count at each station group's previous tick (R233). -/
  sgTick : FMap Nat
  /-- Output commands of field channels on the die link, oldest first (R298). -/
  fioLink : List (Nat × Bool)
  /-- Next SEQ of MIRROR frames (R255). -/
  mirSeq : Nat
  /-- Sync port whose turn is next (R253). -/
  mirTurn : Nat
  /-- Snapshots of strobe groups that have not applied (R52, R468), by offset. -/
  snap : FMap (Option W)
  /-- Field channels on the F-die. -/
  fio : FMap Fio
  /-- Forcing causes recorded since FORCED was set (R310): LRST after a cold reset (R311). -/
  forceHist : BitVec 4
  /-- Consecutive heartbeats received (R310). -/
  hbRun : Nat
  /-- CLK_FAB count at the last heartbeat (R308). -/
  lastHb : Nat
  /-- Test-pulse outputs in their low pulse (R307). -/
  tpLow : BitVec 4
  /-- CLK_FAB counts at which the latest low pulse of each test-pulse output began and ended (R303, R307). -/
  tpWin : FMap (Option (Nat × Nat))
  /-- The test-pulse output whose low pulse began last, and the CLK_FAB count of its start (R307). -/
  tpLast : Option (Nat × Nat)
  /-- The field-channel update pause of an F-die activation runs (R443). -/
  fPause : Bool
  /-- NV, caddy and event-recorder accesses are refused: NV recall, or the F-die core restarts (R402, R443). -/
  nvBlock : Bool
  /-- CAN FD controllers. -/
  cans : FMap Can
  /-- Meridian time at which the window of a fired triggered mailbox ends (R359), controller × 32 + mailbox. -/
  trigEnd : FMap W64
  /-- CLK_FAB count at which the last copy of a receive object began (R350), controller × 512 + object. -/
  objCopy : FMap (Option Nat)
  /-- The pair member. -/
  ru : Ru
  /-- Pair tasks, partition × 16 + task. -/
  shadow : FMap Shadow
  /-- CLK_FAB count at the last uncorrected fault in a resource of each partition, plus one (LOCALF of R255). -/
  localF : FMap Nat
  /-- Lines that a resynchronisation marked dirty and that have not been sent since (R264), by BAR2 offset / 64. -/
  ruForced : FMap Bool
  /-- Pair partitions whose resynchronisation has not ended on the active (R264). -/
  ruResync : List Nat
  /-- STAMP of the EDIT frame that released a standby's commit (R266), by partition. -/
  ruEdit : FMap (Option W)
  /-- CLK_FAB count at which each witness entry's grant runs out (R246). -/
  witX : FMap Nat
  /-- CLK_FAB count until which each witness entry is quiet (R247). -/
  witQuiet : FMap Nat
  /-- A received MODE frame that waits for passes stamped before its tick (R256): mode, STOPCAUSE and tick, by partition. -/
  modeWait : FMap (Option (Nat × Nat × W64))
  /-- Blocks in block reset, by block code (table "Blocks with isolation wrappers"). -/
  blkRst : FMap Bool
  /-- The safety state word that the L-die holds (table "Safety state word"). -/
  sfWord : W
  /-- Heartbeats on the die link (R236). -/
  hbLink : Nat
  /-- CLK_FAB count at which the station unit sent its last heartbeat (R236). -/
  hbSent : Option Nat
  /-- Pages in the retirement list of F-die NV (R195), store × 16,384 + page. -/
  retList : FMap Bool
  /-- The latest SYNC that each port delivered (R279). -/
  merCand : FMap (Option Cand)
  /-- Consecutive SYNC frames (or PPS_IN edges) with an offset within ±100 ns (R281). -/
  merLock : Nat
  /-- Next SEQ of MERIDIAN frames, port × 4 + KIND ("Distribution over the network"). -/
  merSeq : FMap Nat
  /-- The DREQ that each port has sent: SEQ and egress time (R281). -/
  merReq : FMap (Option (Nat × W64))
  /-- Delays of the last 16 accepted exchanges of each port in ps, newest first (R281). -/
  merDly : FMap (List Int)
  /-- The automatic seed waits for the first RTC second boundary after the release (R276). -/
  seedDue : Bool
  /-- A SEED command waits for the next RTC second boundary (R276). -/
  seedCmd : Bool
  /-- The time that the last step of Meridian time put in: no instant before it acts any more (R277). -/
  merMark : W64
  /-- Level of PPS_OUT (R283). -/
  ppsOut : Bool
  /-- The whole second whose pulse PPS_OUT carries (R283). -/
  ppsSec : Nat
  /-- CLK_FAB count at the last captured PPS_IN edge (R284). -/
  ppsAt : Option Nat
  /-- The calendar in seconds since 2000-01-01 00:00:00 (R285). -/
  rtcSec : Nat
  /-- Ticks within the second at the last RTC event (R285). -/
  rtcSub : Nat
  /-- Ticks since 2000-01-01 at which the fold ends (R291). -/
  rtcFold : Option Nat
  /-- A DST command that waits for its second boundary: forward or back (R294). -/
  rtcDst : Option Bool
  /-- A SET that waits for the crystal's next tick (R288). -/
  rtcSetDue : Bool
  /-- The crystal runs (R287). -/
  rtcRun : Bool
  /-- A running rate measurement (R293). -/
  meas : Option Meas
  /-- Pages of the NV array by number: 256 B and their completion mark, or none (R400, R403). -/
  nv : FMap (Option (List Byte))
  /-- NV pages that hold an uncorrectable word (R403). -/
  nvBad : FMap Bool
  /-- Safety functions by number × 2, channel A at 0, channel B at 1 (R322). -/
  sf : FMap SfChan
  /-- Safety outputs (R329). -/
  sq : FMap Sq
  /-- The applied parameter set by its staging offset less 0x1000 (R336). -/
  sfSet : FMap W
  /-- Evaluation count of the safety state word (table "Safety state word"). -/
  sfScnt : Nat
  /-- Consecutive evaluations at which the cross-check vectors differed (R317). -/
  sfDiff : Nat
  /-- Reset requests that wait for the next evaluation instant (R325). -/
  sfReq : BitVec 16
  /-- Evaluations for which each function's reset input has read 1, function × 2 + channel (R325). -/
  sfPress : FMap Nat
  /-- The unit was stopped by command; kept in NV (R338). -/
  sfStop : Bool
  /-- Page writes on the array, the one in progress first: page, data, and 0 for a host WRITE, 1 and 2 for the first and second copy of the
  option bytes, 3 for a page of the event store, which gives the records it completes in place of a page number (R401, R391, R373). -/
  nvQ : List (Nat × List Byte × Nat)
  /-- What NV holds of the counters (R407): operating hours in units of 1/4096 h, power cycles, DUMPNO. -/
  cntSaved : Nat × Nat × Nat
  /-- CLK_FAB count at which NV_OPHF held its register's value (R406). -/
  opAt : Nat
  /-- A caddy save in progress (R411): 0 CADSAVE, 1 autosave, 2 power-fail save, and its snapshot. -/
  cadSaving : Option (Nat × FMap W)
  /-- The newest good caddy save: GEN, the words and LOST (R408, R411). -/
  cadSaved : Option (Nat × FMap W × Nat)
  /-- CLK_FAB count at the last completed save (R411). -/
  cadLast : Option Nat
  /-- PWRFAIL_N is low (R412). -/
  pfLow : Bool
  /-- A power-fail save holds off the caddy, the NV commands and the recorder (R413). -/
  pfHold : Bool
  /-- Buckets of the recorder by code: tokens and suppressed records (R416). -/
  evBkt : FMap (Nat × Nat)
  /-- Records in staging, oldest first (R416). -/
  evStage : List EvStored
  /-- The event store, the page buffer included, oldest first (R417, R418). -/
  evStore : List EvStored
  /-- Bytes in the page buffer (R417). -/
  evBuf : Nat
  /-- Newest records of the store that are not wholly written to pages (R412, R417). -/
  evUnw : Nat
  /-- LOST: records admitted and then discarded, until a record carries the count (R412, R416). -/
  evLost : Nat
  /-- CLK_FAB count at the holder's last access to the read window (R419). -/
  evAccess : Nat
  /-- Key slot of the grant of PF0 (0) and of the service port (1): 0 to 7, or 15 for the device key (R421). -/
  auSlot : FMap Nat
  /-- Field channels that a fault holds in their safe state (R365, R376). -/
  fioHeld : FMap Bool
  /-- Engines in engine reset, or stopped by their watchdog channel (R381, R398). -/
  engRst : FMap Bool
  /-- L-die supply power-good (R389, R447). -/
  lpg : Bool
  /-- Phase of the F-die boot reached, F0 to F4 (table "Boot of the F-die"). -/
  fPh : Nat
  /-- A cold reset whose L-die domains have not been released yet (R383). -/
  coldRst : Bool
  /-- The option bytes in use (R390). -/
  opt : Opt
  /-- CODE of a fault of source BOOT that waits for the collector (R390). -/
  bootFault : Option Nat
  /-- Consecutive boots with a failed reset-time test (R388). -/
  bootFails : Nat
  /-- The event record of the latest cold or warm reset is due (R383). -/
  rstNote : Bool
  /-- The alive line has stopped (R15). -/
  aliveStop : Bool
  /-- The L-die clocks have stopped (R19). -/
  clkStop : Bool
  /-- The collector has sent its state since the last release of the L-die domains (R372). -/
  colSent : Bool
  /-- The collector's state as last sent to the F-die (R372). -/
  fltMsg : List W
  /-- Error lines that stand asserted, with their class (R362). -/
  lines : FMap Nat
  /-- The record in FLT_FIRST is of the latest clock with an event (R363). -/
  fltNew : Bool
  /-- The source of the first fatal event (R371). -/
  fatalSrc : Nat
  /-- The F-die sees the fatal line asserted (R364, R372). -/
  fatalLine : Bool
  /-- Survey copies taken at the first fatal event, by register (section 5, R374). -/
  fatalRegs : FMap W
  /-- The pages that FLT_DREG names, as they stood at the first fatal event (section 7, R374). -/
  fatalPages : List Byte
  /-- CLK_FAB count at which the period of each watchdog channel began (R395), E0 to E127 and S0, S1 at 0xF0, 0xF1. -/
  wdgAt : FMap Nat
  /-- Service requests sent to engines and not answered (R396). -/
  wdgReq : FMap Bool
  /-- CLK_FAB count at which each channel expired, plus one, while its hard timer runs (R398). -/
  wdgExp : FMap Nat
  /-- Meridian time of the last accepted service of S0 and S1 (R398). -/
  wdgSvc : FMap W64
  /-- A dump page on its way to NV: its first page and its bytes (R373). -/
  dumpPend : Option (Nat × List Byte)
  /-- First page of the NV dump area that holds the newest dump (R373). -/
  dumpNew : Option Nat
  /-- FAILS (R433). -/
  auFails : Nat
  /-- LEVEL (R433). -/
  auLevel : Nat
  /-- A lockout in force (R433): the CLK_FAB count at which it ends and its length in s. -/
  auLock : Option (Nat × Nat)
  /-- The open exchange (R432). -/
  auExch : Option Exch
  /-- CLK_FAB count at which the grant of PF0 (0) and of the service port (1) ends (R431). -/
  auEnd : FMap Nat
  /-- Operator slots (R434): key and rights. -/
  auKeys : FMap (Option (List Byte × Nat))
  /-- Writes of each key store slot (R434). -/
  auWrites : FMap Nat
  /-- Images that passed XEND or were there before: supervisor slots A (0) and B (1) in flash, F-die slots A (2) and B (3) in NV (R436). -/
  slots : FMap (Option Img)
  /-- An open image transfer (R437): KIND, Cartouche and the body written so far. -/
  xfer : Option (Nat × List Byte × List Byte)
  /-- The boot record in flash (R436). -/
  bootRec : BootRec
  /-- The slot records of the F-die (R443). -/
  fRec : FRec
  /-- Source address of the open session (R424). -/
  spPeer : Nat
  /-- Last executed SEQ of the session (R425). -/
  spLast : Nat
  /-- CLK_FAB count at the session's last request (R424). -/
  spAt : Nat
  /-- The stored reply (R425). -/
  spReply : Option SpReply
  /-- Posted writes that a far instance has not applied, by the offset of its BSTAT: requester, register offset and data (R48). -/
  posted : FMap (Option (Nat × Nat × W))
  /-- Commands waiting, first in, first out (the model's own field). -/
  pending : List Instr
  deriving DecidableEq, Repr

/-- The machine right after reset: every register at its reset value, every store, queue and buffer empty, every unit idle. DESIGN CHOICE (log 1, 3, 127). -/
def State.reset : State where
  fuse := { variant := .t512f, lotL := 0, lotF := 0, posL := 0x01000000, posF := 0x01000000, mac := 0 }
  mem := []
  bad := []
  regs := []
  pend := []
  survey := []
  spRegs := []
  latch := []
  trA := []
  trP := []
  trBad := []
  tasks := []
  parts := []
  engs := []
  zeroQ := []
  mer := 0
  fab := 0
  evPass := []
  outbox := []
  fresh := 0
  fnMask := []
  vecMask := []
  vecPend := []
  dtBad := []
  dirty := []
  supRun := false
  mgmt := false
  held := []
  cu := []
  vfEnable := false
  numVfs := 0
  retCopy := none
  ruCap := []
  touched := []
  ownWait := []
  queues := []
  qTurn := []
  ports := []
  rx := []
  gateNew := []
  win := []
  accepted := []
  bucket := []
  seqs := []
  mseqs := []
  lastOut := []
  slotBuf := []
  slotOld := []
  slotT := []
  slotWait := []
  slotPage := []
  stiPages := []
  sgTick := []
  fioLink := []
  mirSeq := 0
  mirTurn := 0
  snap := []
  fio := []
  forceHist := 8
  hbRun := 0
  lastHb := 0
  tpLow := 0
  tpWin := []
  tpLast := none
  fPause := false
  nvBlock := true
  cans := []
  trigEnd := []
  objCopy := []
  ru := Ru.zero
  shadow := []
  localF := []
  ruForced := []
  ruResync := []
  ruEdit := []
  witX := []
  witQuiet := []
  modeWait := []
  blkRst := []
  sfWord := 0
  hbLink := 0
  hbSent := none
  retList := []
  merCand := []
  merLock := 0
  merSeq := []
  merReq := []
  merDly := []
  seedDue := false
  seedCmd := false
  merMark := 0
  ppsOut := false
  ppsSec := 0
  ppsAt := none
  rtcSec := 0
  rtcSub := 0
  rtcFold := none
  rtcDst := none
  rtcSetDue := false
  rtcRun := true
  meas := none
  nv := []
  nvBad := []
  sf := []
  sq := []
  sfSet := []
  sfScnt := 0
  sfDiff := 0
  sfReq := 0
  sfPress := []
  sfStop := false
  nvQ := []
  cntSaved := (0, 0, 0)
  opAt := 0
  cadSaving := none
  cadSaved := none
  cadLast := none
  pfLow := false
  pfHold := false
  evBkt := []
  evStage := []
  evStore := []
  evBuf := 0
  evUnw := 0
  evLost := 0
  evAccess := 0
  auSlot := []
  fioHeld := []
  engRst := []
  lpg := false
  fPh := 0
  coldRst := true
  opt := Opt.factory
  bootFault := none
  bootFails := 0
  rstNote := true
  aliveStop := false
  clkStop := false
  colSent := false
  fltMsg := []
  lines := []
  fltNew := false
  fatalSrc := 0
  fatalLine := false
  fatalRegs := []
  fatalPages := []
  wdgAt := []
  wdgReq := []
  wdgExp := []
  wdgSvc := []
  dumpPend := none
  dumpNew := none
  auFails := 0
  auLevel := 0
  auLock := none
  auExch := none
  auEnd := []
  auKeys := []
  auWrites := []
  slots := []
  xfer := none
  bootRec := { act := 0, prev := 0, steep := false, tries := 0, set0 := 0, set1 := 0 }
  fRec := { slot := 0, steep := false }
  spPeer := 0
  spLast := 0
  spAt := 0
  spReply := none
  posted := []
  pending := []

end Sys2Proof.Machine
end

