-- ==== Sys2Proof/Machine/Ops.lean ====
section
/-!
DEFINITION. The named operations over the state that every family shares: registers and their fields, stores,
Meridian time, status groups, MSI-X, refused accesses and free values.
-/
namespace Sys2Proof.Machine

/-! ### The Legend (R63; spec/00, table "Variants and their unit counts") -/

/-- `LEG_ID.VARIANT`. -/
def Fuse.code (fu : Fuse) : Nat :=
  match fu.variant with | .t512f => 1 | .t512n => 2 | .t256f => 3 | .t64s => 4
/-- Lanes present. -/
def Fuse.lanes (fu : Fuse) : Nat :=
  match fu.variant with | .t512f => 128 | .t512n => 128 | .t256f => 64 | .t64s => 16
/-- Scan engines present. -/
def Fuse.engines (fu : Fuse) : Nat := fu.lanes
/-- Partitions present. -/
def Fuse.partitions (fu : Fuse) : Nat :=
  match fu.variant with | .t512f => 512 | .t512n => 512 | .t256f => 256 | .t64s => 64
/-- Queues present. -/
def Fuse.queues (fu : Fuse) : Nat :=
  match fu.variant with | .t512f => 32768 | .t512n => 32768 | .t256f => 16384 | .t64s => 4096
/-- CAN FD controllers present. -/
def Fuse.cans (fu : Fuse) : Nat :=
  match fu.variant with | .t512f => 16 | .t512n => 16 | .t256f => 8 | .t64s => 4
/-- Whether field channels, test pulses, SQ outputs and the safety unit are present. -/
def Fuse.field (fu : Fuse) : Bool :=
  match fu.variant with | .t512n => false | _ => true
/-- Whether the device may hold the active or the standby role. -/
def Fuse.pair (fu : Fuse) : Bool :=
  match fu.variant with | .t64s => false | _ => true

/-- Word `w` of a presence map of `n` units. -/
def presenceWord (n w : Nat) : W := BitVec.ofNat 32 (2 ^ (min (n - 32 * w) 32) - 1)

/-- The Legend register at offset `a` below 0x100. -/
def legend (fu : Fuse) (a : Nat) : W :=
  if a = 0x00 then BitVec.ofNat 32 (0x4E440100 + fu.code)
  else if a = 0x04 then BitVec.ofNat 32 (fu.partitions * 65536 + fu.engines * 256 + fu.lanes)
  else if a = 0x08 then BitVec.ofNat 32 (fu.queues * 65536 + fu.cans)
  else if a = 0x0C then (if fu.field then 0x01080420 else 0)
  else if a = 0x10 then (if fu.pair then 7 else 1)
  else if 0x20 ≤ a ∧ a < 0x30 then presenceWord fu.lanes ((a - 0x20) / 4)
  else if 0x30 ≤ a ∧ a < 0x40 then presenceWord fu.engines ((a - 0x30) / 4)
  else if 0x40 ≤ a ∧ a < 0x80 then presenceWord fu.partitions ((a - 0x40) / 4)
  else if a = 0x80 then presenceWord fu.cans 0
  else if a = 0x90 then 32768
  else if a = 0x94 then 65536
  else if a = 0x98 then 16384
  else if a = 0x9C then 49152
  else if a = 0xA0 then 4096
  else if a = 0xA4 then 512
  else if a = 0xA8 then 16384
  else 0

/-- The Gazetteer register at offset `a`, its CRC apart. -/
def gazetteerWord (fu : Fuse) (a : Nat) : W :=
  if a = 0x8000 then fu.lotL.truncate 32
  else if a = 0x8004 then (fu.lotL >>> 32).truncate 32
  else if a = 0x8008 then fu.posL &&& 0xFF00FFFF
  else if a = 0x8010 then fu.lotF.truncate 32
  else if a = 0x8014 then (fu.lotF >>> 32).truncate 32
  else if a = 0x8018 then fu.posF &&& 0xFF00FFFF
  else if a = 0x8020 then BitVec.ofNat 32 (fu.code * 256 + 0x21)
  else if a = 0x8028 then fu.mac.truncate 32
  else if a = 0x802C then (fu.mac >>> 32).truncate 32
  else 0

/-- `GAZ_CRC`: CRC-32 over bytes 0x8000 to 0x8023 and 0x8028 to 0x802F (R63, R466). -/
def gazCrc (fu : Fuse) : W :=
  crc32 (((List.range 9).map (fun i => 0x8000 + 4 * i) ++ [0x8028, 0x802C]).flatMap
    (fun a => bytesOf (gazetteerWord fu a)))

/-- The Gazetteer register at offset `a`. -/
def gazetteer (fu : Fuse) (a : Nat) : W := if a = 0x8024 then gazCrc fu else gazetteerWord fu a

/-- Word 0 of queue entry `q` after a cold or warm reset (R209). -/
def queueReset (fu : Fuse) (q : Nat) : W :=
  if q < 8 * fu.lanes then BitVec.ofNat 32 (0x80000000 + q / 8 * 2 ^ 24 + q % 8 * 2 ^ 21 + 2 ^ 20)
  else if q < 8 * fu.lanes + 48 * fu.partitions then BitVec.ofNat 32 ((q - 8 * fu.lanes) / 48 * 1024)
  else BitVec.ofNat 32 (2 ^ 20)

/-- Whether offset `a` of PF0 BAR0 lies in a unit the Legend reports present (R4). -/
def addrPresent (fu : Fuse) (a : Nat) : Bool :=
  if a < 0xB0000 then
    (if 0x41000 ≤ a ∧ a < 0x42000 then decide ((a - 0x41000) / 16 < fu.engines)
     else if 0x51000 ≤ a ∧ a < 0x51800 then decide ((a - 0x51000) / 16 < fu.lanes)
     else if 0x71000 ≤ a ∧ a < 0x71800 then decide ((a - 0x71000) / 4 < fu.partitions) else true)
  else if a < 0xD0000 then fu.field
  else if 0xD0800 ≤ a ∧ a < 0xD1000 then decide ((a - 0xD0800) / 4 < fu.partitions)
  else if 0xD8000 ≤ a ∧ a < 0xE0000 then decide ((a - 0xD8000) / 64 < fu.partitions)
  else if 0x200000 ≤ a ∧ a < 0x300000 then decide ((a - 0x200000) / 0x2000 < fu.engines)
  else if 0x300000 ≤ a ∧ a < 0x400000 then decide ((a - 0x300000) / 0x800 < fu.partitions)
  else if 0x810000 ≤ a ∧ a < 0x818000 then decide ((a - 0x810000) / 256 < fu.lanes)
  else if 0x840000 ≤ a ∧ a < 0x850000 then decide ((a - 0x840000) / 512 < fu.lanes)
  else if 0xC00000 ≤ a ∧ a < 0xE00000 then decide ((a - 0xC00000) / 0x4000 < fu.lanes)
  else if 0xF00000 ≤ a ∧ a < 0xF80000 then decide ((a - 0xF00000) / 16 < fu.queues)
  else if 0xF80000 ≤ a ∧ a < 0x1000000 then decide ((a - 0xF80000) / 16 < fu.queues)
  else if 0x1000000 ≤ a ∧ a < 0x1100000 then decide ((a - 0x1000000) / 0x10000 < fu.cans)
  else true

/-- The reset value of the register at PF0 BAR0 offset `a`: the value the register tables give, and for the rows
whose reset is a formula or a fused value that formula (R63, R64, R168, R178, R209). Where the tables give none the
model takes zero (log 3). DESIGN CHOICE (log 1). -/
def regReset (fu : Fuse) (a : Nat) : W :=
  if a < 0x100 then legend fu a
  else if 0x8000 ≤ a ∧ a < 0x8030 then gazetteer fu a
  else if addrPresent fu a = false then 0
  else if 0x300000 ≤ a ∧ a < 0x400000 ∧ a % 0x800 = 0x380 then BitVec.ofNat 32 ((a - 0x300000) / 0x800 * 2432)
  else if aTR_OWN_DATA 14336 ≤ a ∧ a < aTR_OWN_IMG 0 then 0x80000000
  else if 0xF00000 ≤ a ∧ a < 0xF80000 ∧ a % 16 = 0 then queueReset fu ((a - 0xF00000) / 16)
  else if a = aQM_POOL then 196608
  else if a = aSP_MAC_LO then fu.mac.truncate 32 ||| 0x80
  else if a = aSP_MAC_HI then (fu.mac >>> 32).truncate 32
  else if a = aTR_FREE_PROG then 8192
  else if a = aTR_FREE_DATA then 14336
  else if a = aTR_FREE_IMG then 4096
  else match regRow a with
    | some r => BitVec.ofNat 32 r.reset
    | none => 0

/-! ### Registers -/

/-- The applied value of the register at offset `a`. -/
def State.reg (s : State) (a : Nat) : W := FMap.get (regReset s.fuse) s.regs a
/-- Set the applied value of the register at offset `a`. -/
def State.setReg (s : State) (a : Nat) (v : W) : State := { s with regs := FMap.set (regReset s.fuse) s.regs a v }
/-- Field `[hi:lo]` of the register at offset `a`. -/
def State.rf (s : State) (a hi lo : Nat) : Nat := fld (s.reg a) hi lo
/-- Set field `[hi:lo]` of the register at offset `a`. -/
def State.setRf (s : State) (a hi lo v : Nat) : State := s.setReg a (putFld (s.reg a) hi lo v)
/-- Bit `b` of the register at offset `a`. -/
def State.rb (s : State) (a b : Nat) : Bool := bitAt (s.reg a) b
/-- The pending value of the RWS or RWN register at offset `a`. -/
def State.pnd (s : State) (a : Nat) : W := FMap.get (regReset s.fuse) s.pend a
/-- Set the pending value at offset `a`. -/
def State.setPnd (s : State) (a : Nat) (v : W) : State := { s with pend := FMap.set (regReset s.fuse) s.pend a v }
/-- A 64-bit value held in two registers, the low word at `a`. -/
def State.reg64 (s : State) (a : Nat) : W64 := join64 (s.reg (a + 4)) (s.reg a)
/-- Set a 64-bit value held in two registers. -/
def State.setReg64 (s : State) (a : Nat) (v : W64) : State := (s.setReg a (lo32 v)).setReg (a + 4) (hi32 v)
/-- A saturating counter counts one more event. -/
def State.count (s : State) (a : Nat) : State := s.setReg a (satInc (s.reg a))
/-- A counter modulo 2^32 advances by one. -/
def State.advance (s : State) (a : Nat) : State := s.setReg a (s.reg a + 1)
/-- The RWS or RWN bits of the register at offset `a`. -/
def pendMask (a : Nat) : W := match regRow a with | some r => BitVec.ofNat 32 r.pend | none => 0
/-- Apply the pending value of the register at offset `a`; its RO bits stay. -/
def State.applyPnd (s : State) (a : Nat) : State := s.setReg a (mergeBits (s.reg a) (pendMask a) (s.pnd a))
/-- Apply the pending values of `n` registers from `a`, `stride` apart. -/
def State.applyMany (s : State) (a stride : Nat) : Nat → State
  | 0 => s
  | n + 1 => (s.applyMany a stride n).applyPnd (a + stride * n)
/-- The offsets from `lo` up to `hi` at which an applied or a pending value is listed. -/
def State.listed (s : State) (lo hi : Nat) : List Nat :=
  ((s.pend.map (·.1)) ++ (s.regs.map (·.1))).filter (fun a => decide (lo ≤ a ∧ a < hi))
/-- Whether the pending value at `a` differs from the applied one. -/
def State.differs (s : State) (a : Nat) : Bool := decide ((s.pnd a ^^^ s.reg a) &&& pendMask a ≠ 0)
/-- Apply every pending value from `lo` up to `hi`. -/
def State.applyRange (s : State) (lo hi : Nat) : State := (s.listed lo hi).foldl (fun s a => s.applyPnd a) s
/-- Whether the pending value at `a` was written since the last commit of its block. -/
def State.wasTouched (s : State) (a : Nat) : Bool := FMap.get (fun _ => false) s.touched a
/-- The written marks from `lo` up to `hi` are cleared. -/
def State.untouch (s : State) (lo hi : Nat) : State :=
  { s with touched := FMap.forget (fun a => decide (lo ≤ a ∧ a < hi)) s.touched }
/-- Set the registers at the listed offsets to zero. -/
def State.zeroRegs (s : State) (as : List Nat) : State := as.foldl (fun s a => s.setReg a 0) s

/-! ### Registers held separately for PF0 and the service port -/

/-- The copy of the register at offset `a` that requester `src` sees, where PF0 and the service port hold one each. -/
def State.regFor (s : State) (src a : Nat) : W :=
  if src = 0x3FE then FMap.get (regReset s.fuse) s.spRegs a else s.reg a
/-- Set the copy of requester `src`. -/
def State.setRegFor (s : State) (src a : Nat) (v : W) : State :=
  if src = 0x3FE then { s with spRegs := FMap.set (regReset s.fuse) s.spRegs a v } else s.setReg a v
/-- Whether requester `src` holds a grant with right `r` (table "Rights"): 0 SAFETY, 1 RESET, 2 UPDATE, 3 EVCLR, 4 PAGES, 5 MEM, 6 DEBUG,
7 KEYS (R428). -/
def State.granted (s : State) (src r : Nat) : Bool := bitAt (s.regFor src aAU_GRANT) r

/-! ### Indexed families -/

/-- Task `t` (entry 0 to 8) of partition `p`. -/
def State.task (s : State) (p t : Nat) : Task := FMap.get (fun _ => Task.zero) s.tasks (p * 16 + t)
/-- Set task `t` of partition `p`. -/
def State.setTask (s : State) (p t : Nat) (v : Task) : State :=
  { s with tasks := FMap.set (fun _ => Task.zero) s.tasks (p * 16 + t) v }
/-- Partition `p`'s bookkeeping. -/
def State.part (s : State) (p : Nat) : Part := FMap.get (fun _ => Part.zero) s.parts p
/-- Set partition `p`'s bookkeeping. -/
def State.setPart (s : State) (p : Nat) (v : Part) : State :=
  { s with parts := FMap.set (fun _ => Part.zero) s.parts p v }
/-- Engine `e`. -/
def State.eng (s : State) (e : Nat) : Eng := FMap.get (fun _ => Eng.zero) s.engs e
/-- Set engine `e`. -/
def State.setEng (s : State) (e : Nat) (v : Eng) : State := { s with engs := FMap.set (fun _ => Eng.zero) s.engs e v }

/-! ### Time (R123, R125, R275) -/

/-- Meridian time in nanoseconds. -/
def State.now (s : State) : W64 := (s.mer >>> 32).truncate 64
/-- `n` CLK_FAB clocks pass: each adds 1 ns and the addend `MER_FRAC` / 2^32 ns (R275); while the L-die clocks stand, Meridian time stands
too (R19). DESIGN CHOICE (log 4, 7, 132). -/
def State.elapse (s : State) (n : Nat) : State :=
  { s with mer := if s.clkStop then s.mer else s.mer + BitVec.ofNat 96 (n * (2 ^ 32 + (s.reg aMER_FRAC).toNat)), fab := s.fab + n }
/-- The Graticule instant of the present tick: the last whole microsecond of Meridian time (R123). -/
def State.grid (s : State) : W64 := BitVec.ofNat 64 (s.now.toNat / 1000 * 1000)

/-- Whether the present CLK_FAB edge is a Graticule tick: Meridian time has reached or passed a whole microsecond that it had not reached
one clock earlier (R123); none comes while the L-die clocks stand (R19). DESIGN CHOICE (log 132). -/
def State.onTick (s : State) : Bool :=
  let before := ((s.mer - BitVec.ofNat 96 (2 ^ 32 + (s.reg aMER_FRAC).toNat)) >>> 32).truncate 64
  !s.clkStop && decide (s.now.toNat / 1000 ≠ (before : W64).toNat / 1000)

/-! ### Modes and partition time (R125) -/

/-- `PD_MODE.MODE`: 0 Absent, 1 Stop, 2 Run, 3 Hold. -/
def State.mode (s : State) (p : Nat) : Nat := s.rf (aPD_MODE p) 2 0
/-- Partition time: Meridian time less the offset while in Run, the frozen value otherwise. -/
def State.ptime (s : State) (p : Nat) : W64 :=
  if s.mode p = 2 then s.now - s.reg64 (aPD_OFFSET_LO p) else s.reg64 (aPD_PTIME_LO p)

/-! ### MSI-X (R39) -/

/-- Whether function `f` is enabled: PF0 and the requesters that are no function always, VF k once software has enabled it in the SR-IOV capability
(R31, R32). PRESUMED (log 173). -/
def State.fnOn (s : State) (f : Nat) : Bool := decide (f = 0 ∨ 512 < f) || (s.vfEnable && decide (f ≤ s.numVfs))
/-- Send vector `v` of function `f` (0 PF0, k VFk): nothing while the function is disabled, else a message, or the pending bit while the function or the vector is masked. PRESUMED (log 18). -/
def State.sendVec (s : State) (f v : Nat) : State :=
  if s.fnOn f = false then s
  else if FMap.get (fun _ => false) s.fnMask f || FMap.get (fun _ => true) s.vecMask (f * 2048 + v) then
    { s with vecPend := FMap.set (fun _ => false) s.vecPend (f * 2048 + v) true }
  else { s with outbox := .msix f v :: s.outbox }

/-- Send `v` where the enable is set. -/
def State.sendIf (s : State) (c : Bool) (f v : Nat) : State := if c then s.sendVec f v else s

/-- An event of a group with registers SEQ at `g`, status at `st`, enable at `en` and vector at `vec` (PF0): the bits
`bits` are set, SEQ advances by one and the vector is sent when any of the bits is enabled (R39, R45). -/
def State.groupEvent (s : State) (seq st en vec : Nat) (bits : W) : State :=
  (((s.advance seq).setReg st (s.reg st ||| bits))).sendIf (decide (s.reg en &&& bits ≠ 0)) 0 (s.rf vec 10 0)

/-- `t`, which one clock's events made of `s`: the group with SEQ at `seq` counts them as one (R45). -/
def State.oneEvent (s : State) (seq : Nat) (t : State) : State :=
  if t.reg seq = s.reg seq then t else t.setReg seq (s.reg seq + 1)

/-! ### Refused accesses (R42) -/

/-- Record a refusal in the four registers of an `ACC_ERR` group whose SEQ lies at `g`. A group whose table has no enable and no vector
register (`GCTL_ACC_ERR`, `TR_ERR`, `ENG_TRAP`, `RST_CAUSE`, `PD_MOVFLT`) sends no PF0 vector. DESIGN CHOICE (log 191). -/
def State.recordRefusal (s : State) (g src space off cause : Nat) : State :=
  let s1 := (s.advance g).count (g + 12)
  if s.rb (g + 4) 0 then s1
  else (s1.setReg (g + 4) (BitVec.ofNat 32 (src * 2 ^ 20 + cause * 256 + 1))).setReg (g + 8)
    (BitVec.ofNat 32 (off / 4 * 4 + space))

/-- Refuse an access of `src` (0 PF0, 1 to 512 VF, 0x3FE service port) at offset `off` of `space`: nothing but the
record changes (R42). A VF's refusal also stands in its own group and sends its vector 3 (R39). -/
def State.refuse (s : State) (src space off cause : Nat) : State :=
  let s1 := s.recordRefusal aGCTL_ACC_ERR_SEQ src space off cause
  if 1 ≤ src ∧ src ≤ 512 then (s1.recordRefusal (aPD_ACC_SEQ (src - 1)) src space off cause).sendVec src 3 else s1

/-! ### Blocks in reset (R384, R385) -/

/-- Whether the block with code `b` is in block reset. -/
def State.inReset (s : State) (b : Nat) : Bool := FMap.get (fun _ => false) s.blkRst b
/-- Whether the image mover works: it is not in block reset and its clocks run (R19). -/
def State.moverUp (s : State) : Bool := !s.inReset 0x10 && !s.clkStop

/-! ### The fatal state -/

/-- Whether any bit of `FLT_FATAL` is 1: the fatal line is asserted (R364). -/
def State.fatal (s : State) : Bool := decide (s.reg aFLT_FATAL_LO ≠ 0 ∨ s.reg aFLT_FATAL_HI ≠ 0)
/-- Whether the switch has stopped all forwarding: a fatal source is SWITCH, PBUF, QM or FCOL (R369). -/
def State.switchOff (s : State) : Bool := decide (s.reg aFLT_FATAL_LO &&& 0x7004 ≠ 0)

/-! ### Outputs, free values and event records -/

/-- Put an output in the box. -/
def State.emit (s : State) (o : Output) : State := { s with outbox := o :: s.outbox }
/-- The next free value's number is used up. DESIGN CHOICE (log 2). -/
def State.useFresh (s : State) : State := { s with fresh := s.fresh + 1 }
/-- Pass an event record to the recorder (R366). DEDUCED (log 138). -/
def State.passEvent (s : State) (code sev : Nat) (body : List W) : State :=
  { s with evPass := s.evPass ++ [{ code := BitVec.ofNat 16 code, sev := BitVec.ofNat 3 sev, body := body, time := s.now }] }

end Sys2Proof.Machine
end

