-- ==== Sys2Proof/Machine/Store.lean ====
section
/-!
DEFINITION. The stores, their pages and their owners, and the translation of partition addresses
(spec/02 R36, R37; spec/06 R163 to R168, R172 to R175).
-/
namespace Sys2Proof.Machine

/-! ### Bytes and words of the stores -/

/-- What a store byte that nothing has written reads as: zero, since every page is zeroed after reset (R168). DESIGN CHOICE (log 189). -/
def memDefault : Nat → Byte := fun _ => 0

/-- The canonical form of the stores' contents. -/
def Memory.wf (m : FMap Byte) : Bool := FMap.wf memDefault m

/-- The byte at BAR2 offset `a`. -/
def State.rdByte (s : State) (a : Nat) : Byte := FMap.get memDefault s.mem a
/-- Write the byte at BAR2 offset `a`. -/
def State.wrByte (s : State) (a : Nat) (v : Byte) : State := { s with mem := FMap.set memDefault s.mem a v }
/-- Write bytes from BAR2 offset `a` upwards. -/
def State.wrBytes (s : State) (a : Nat) : List Byte → State
  | [] => s
  | b :: bs => (s.wrByte a b).wrBytes (a + 1) bs
/-- `n` bytes from BAR2 offset `a` upwards. -/
def State.rdBytes (s : State) (a n : Nat) : List Byte := (List.range n).map (fun i => s.rdByte (a + i))
/-- The word at BAR2 offset `a` (a multiple of 4), little-endian (R466). -/
def State.rdMem (s : State) (a : Nat) : W :=
  wordOfBytes (s.rdByte a) (s.rdByte (a + 1)) (s.rdByte (a + 2)) (s.rdByte (a + 3))
/-- Whether the word at BAR2 offset `a` holds an uncorrectable error. -/
def State.isBad (s : State) (a : Nat) : Bool := FMap.get (fun _ => false) s.bad a
/-- Mark or unmark the word at BAR2 offset `a`. -/
def State.setBad (s : State) (a : Nat) (v : Bool) : State := { s with bad := FMap.set (fun _ => false) s.bad a v }
/-- Mark the 64 B line that holds BAR2 offset `a` dirty for the pair's mirror; only a pair member tracks lines (R254). -/
def State.markLine (s : State) (a : Nat) : State :=
  if s.rb aRU_CFG 31 then { s with dirty := FMap.set (fun _ => false) s.dirty (a / 64) true } else s
/-- Write the word at BAR2 offset `a` with fresh check bits. -/
def State.wrMem (s : State) (a : Nat) (w : W) : State := ((s.wrBytes a (bytesOf w)).setBad a false).markLine a

/-! ### Pages (table "Page states") -/

/-- The page states, coded as `TR_OWN_*.STATE`. -/
def pgFree : Nat := 0
/-- Zeroing. -/
def pgZeroing : Nat := 1
/-- Staged. -/
def pgStaged : Nat := 2
/-- Owned. -/
def pgOwned : Nat := 3
/-- Device. -/
def pgDevice : Nat := 4
/-- Retired. -/
def pgRetired : Nat := 5

/-- Pages of store `k` (0 program, 1 data, 2 image). -/
def pageCount (k : Nat) : Nat := if k = 0 then 8192 else if k = 1 then 16384 else 4096
/-- BAR2 bytes of one page of store `k`: 4 Ki program words take 16 KiB of containers. -/
def pageBytes (k : Nat) : Nat := if k = 0 then 0x4000 else 0x1000
/-- BAR2 offset of page `n` of store `k` (table "PF0 BAR2 store windows"). -/
def pageBase (k n : Nat) : Nat :=
  if k = 0 then n * 0x4000 else if k = 1 then 0x8000000 + n * 0x1000 else 0xC000000 + n * 0x1000
/-- The ownership word of page `n` of store `k`. -/
def ownAddr (k n : Nat) : Nat := if k = 0 then aTR_OWN_PROG n else if k = 1 then aTR_OWN_DATA n else aTR_OWN_IMG n
/-- `TR_FREE_*` of store `k`. -/
def freeAddr (k : Nat) : Nat := if k = 0 then aTR_FREE_PROG else if k = 1 then aTR_FREE_DATA else aTR_FREE_IMG

/-- State of page `n` of store `k`. -/
def State.pgState (s : State) (k n : Nat) : Nat := s.rf (ownAddr k n) 31 29
/-- Owner of page `n` of store `k` while it is Staged or Owned. -/
def State.pgPart (s : State) (k n : Nat) : Nat := s.rf (ownAddr k n) 25 16
/-- Whether retirement of the page is pending. -/
def State.pgRetp (s : State) (k n : Nat) : Bool := s.rb (ownAddr k n) 28

/-- Count a page in or out of `TR_FREE_*` by the state it leaves and the state it enters. -/
def State.countPage (s : State) (k old new : Nat) : State :=
  let z := s.rf (freeAddr k) 31 16 + (if new = pgZeroing then 1 else 0) - (if old = pgZeroing then 1 else 0)
  let f := s.rf (freeAddr k) 15 0 + (if new = pgFree then 1 else 0) - (if old = pgFree then 1 else 0)
  s.setReg (freeAddr k) (BitVec.ofNat 32 (z * 65536 + f))

/-- Whether a page in state `st` keeps a pending retirement: Staged, Owned or Device (R191 to R193). -/
def keepsRetp (st : Nat) : Bool := decide (pgStaged ≤ st ∧ st ≤ pgDevice)
/-- Page `n` of store `k` enters state `st` with owner `p`; RETP stays while the page is Staged, Owned or Device, and clears otherwise. -/
def State.setPage (s : State) (k n st p : Nat) : State :=
  (s.countPage k (s.pgState k n) st).setReg (ownAddr k n)
    (BitVec.ofNat 32 (st * 2 ^ 29 + (s.pgRetp k n && keepsRetp st).toNat * 2 ^ 28 + p * 2 ^ 16))

/-- A page leaves its owner: it enters Zeroing, at the end of the bulk unit's queue (R165, R166). -/
def State.toZeroing (s : State) (k n : Nat) : State :=
  { s.setPage k n pgZeroing 0 with zeroQ := s.zeroQ ++ [(k, n)] }

/-- The key of page `n` of store `k` in the retirement list. -/
def retKey (k n : Nat) : Nat := k * 16384 + n
/-- Whether the retirement list names page `n` of store `k`. -/
def State.listedRet (s : State) (k n : Nat) : Bool := FMap.get (fun _ => false) s.retList (retKey k n)
/-- Pages of store `k` in the retirement list. -/
def State.retCount (s : State) (k : Nat) : Nat := (s.retList.filter (fun e => e.1 / 16384 == k)).length
/-- A page is Retired and enters the retirement list, which holds 256 pages of each store (R195). -/
def State.retireNow (s : State) (k n : Nat) : State :=
  let s1 := s.setPage k n pgRetired 0
  if s1.retCount k < 256 then { s1 with retList := FMap.set (fun _ => false) s1.retList (retKey k n) true } else s1

/-- A page leaves its owner by R176, R178 or R192: Retired where RETP is 1, Zeroing otherwise. -/
def State.leaveOwner (s : State) (k n : Nat) : State :=
  if s.pgRetp k n then s.retireNow k n else s.toZeroing k n

/-- The retirement copy in progress for partition `p` is abandoned; the page it was made into leaves (R192, table "Faults at each
point"). DEDUCED (log 95). -/
def State.abandonCopy (s : State) (p : Nat) : State :=
  match s.retCopy with
  | some (k, _, f, q) => if q = p then { s.toZeroing k f with retCopy := none } else s
  | none => s

/-- Set RETP of the page that holds BAR2 offset `a` (R191). -/
def pageOf (a : Nat) : Nat × Nat :=
  if a < 0x8000000 then (0, a / 0x4000) else if a < 0xC000000 then (1, (a - 0x8000000) / 0x1000)
  else (2, (a - 0xC000000) / 0x1000)
/-- Set RETP of the page that holds BAR2 offset `a` (R191). -/
def State.markRetp (s : State) (a : Nat) : State :=
  s.setRf (ownAddr (pageOf a).1 (pageOf a).2) 28 28 1

/-- Clear every byte and error of a page (R165). -/
def State.clearPage (s : State) (k n : Nat) : State :=
  let b := pageBase k n
  { s with mem := FMap.forget (fun a => decide (b ≤ a ∧ a < b + pageBytes k)) s.mem,
           bad := FMap.forget (fun a => decide (b ≤ a ∧ a < b + pageBytes k)) s.bad }

/-- The pages of store `k` in ascending order that satisfy `q`, from page `i` on, at most `n` looked at. -/
def pagesWhere (q : Nat → Bool) : Nat → Nat → List Nat
  | 0, _ => []
  | n + 1, i => if q i then i :: pagesWhere q n (i + 1) else pagesWhere q n (i + 1)

/-! ### Translation (R172 to R174) -/

/-- Entries of one partition. -/
def entriesPerPart : Nat := 2432
/-- First entry of store `k` among a partition's entries. -/
def entryBase (k : Nat) : Nat := if k = 0 then 0 else if k = 1 then 256 else 2304
/-- Virtual pages of store `k`. -/
def entryCount (k : Nat) : Nat := if k = 0 then 256 else if k = 1 then 2048 else 128
/-- The key of partition `p`'s entry for virtual page `v` of store `k`. -/
def entryKey (p k v : Nat) : Nat := p * entriesPerPart + entryBase k + v
/-- The store whose entries hold index `i` of a partition. -/
def entryKind (i : Nat) : Nat := if i < 256 then 0 else if i < 2304 then 1 else 2

/-- Applied entry. -/
def State.entA (s : State) (key : Nat) : W := FMap.get (fun _ => 0) s.trA key
/-- Pending entry. -/
def State.entP (s : State) (key : Nat) : W := FMap.get (fun _ => 0) s.trP key
/-- Set an applied entry. -/
def State.setEntA (s : State) (key : Nat) (w : W) : State := { s with trA := FMap.set (fun _ => 0) s.trA key w }
/-- Set a pending entry. -/
def State.setEntP (s : State) (key : Nat) (w : W) : State := { s with trP := FMap.set (fun _ => 0) s.trP key w }
/-- Whether an entry maps its page. -/
def entV (w : W) : Bool := bitAt w 31
/-- The physical page an entry names. -/
def entPPN (w : W) : Nat := fld w 13 0

/-- What a lookup gives: the BAR2 offset, no mapping, or an entry with an uncorrectable error. A word beyond the space has no mapping. -/
inductive Loc where
  | at (a : Nat) | unmapped | corrupt (key : Nat)
  deriving DecidableEq, Repr

/-- Words of one page of store `k`. -/
def pageWords (k : Nat) : Nat := if k = 0 then 4096 else 1024

/-- Look up word `w` of store `k` of partition `p` in the map `ent` (R173: one lookup, nothing else). -/
def State.lookIn (s : State) (ent : Nat → W) (p k w : Nat) : Loc :=
  let key := entryKey p k (w / pageWords k)
  if entryCount k ≤ w / pageWords k then .unmapped
  else if FMap.get (fun _ => false) s.trBad key then .corrupt key
  else if entV (ent key) then .at (pageBase k (entPPN (ent key)) + w % pageWords k * 4)
  else .unmapped

/-- Look up word `w` of store `k` of partition `p` in its applied map. -/
def State.look (s : State) (p k w : Nat) : Loc := s.lookIn s.entA p k w

/-- Word `w` of word space (`img` false) or image space of partition `p`, as the store holds it; none where the page is
not mapped or the word has an uncorrectable error. -/
def State.peek (s : State) (p : Nat) (img : Bool) (w : Nat) : Option W :=
  match s.look p (if img then 2 else 1) w with
  | .at a => if s.isBad a then none else some (s.rdMem a)
  | _ => none

/-- `n` words from `w` in word space of partition `p`, wrapping at 2^21; none where any of them cannot be read. -/
def State.peekWords (s : State) (p w : Nat) : Nat → Option (List W)
  | 0 => some []
  | n + 1 =>
    match s.peek p false (w % 2 ^ 21), s.peekWords p (w + 1) n with
    | some x, some xs => some (x :: xs)
    | _, _ => none

/-- Write a word of word or image space of partition `p`; unchanged where it is not mapped. -/
def State.poke (s : State) (p : Nat) (img : Bool) (w : Nat) (v : W) : State :=
  match s.look p (if img then 2 else 1) w with
  | .at a => s.wrMem a v
  | _ => s

/-- Write words from `w` in word space of partition `p`. -/
def State.pokeWords (s : State) (p w : Nat) : List W → State
  | [] => s
  | v :: vs => (s.poke p false (w % 2 ^ 21) v).pokeWords p (w + 1) vs

/-- Whether `n` words from `w` of word space of partition `p` are all mapped. -/
def State.mapped (s : State) (p w : Nat) : Nat → Bool
  | 0 => true
  | n + 1 => (match s.look p 1 (w % 2 ^ 21) with | .at _ => true | _ => false) && s.mapped p (w + 1) n

end Sys2Proof.Machine
end

