-- ==== Sys2Proof/Machine/Context.lean ====
section
/-!
DEFINITION. A task's context: how results in flight land clock by clock (spec/04 R93 to R98) and how the context area
holds the registers and the pipeline record (spec/06, table "Context area of one task", R180, R181).
-/
namespace Sys2Proof.Machine

/-! ### F -/

/-- Z of F. -/
def fZ : BitVec 8 := 0x01
/-- N of F. -/
def fN : BitVec 8 := 0x02
/-- C of F. -/
def fC : BitVec 8 := 0x04
/-- OV of F. -/
def fOV : BitVec 8 := 0x08
/-- OS of F. -/
def fOS : BitVec 8 := 0x10
/-- DZ of F. -/
def fDZ : BitVec 8 := 0x20
/-- NV of F. -/
def fNV : BitVec 8 := 0x40
/-- NX of F. -/
def fNX : BitVec 8 := 0x80
/-- The four sticky flags. -/
def fSticky : BitVec 8 := 0xF0

/-! ### Landing -/

/-- A register that a write in flight reaches when its distance runs out, and the write's remaining distance. DEDUCED (log 26). -/
def landOne {α : Type} (old : α) : Option (α × Nat) → α × Option (α × Nat)
  | none => (old, none)
  | some (v, r) => if r ≤ 1 then (v, none) else (old, some (v, r - 1))

/-- The sticky flags after one clock: clears that land, then sets that land (a set wins, R97). -/
def landSticky (f : BitVec 8) (l : List Sticky) : BitVec 8 :=
  let due := l.filter (fun k => decide (k.left ≤ 1))
  let f1 := (due.filter (fun k => !k.isSet)).foldl (fun f k => f &&& ~~~k.mask) f
  (due.filter (fun k => k.isSet)).foldl (fun f k => f ||| k.mask) f1

/-- One issue clock passes: every write in flight comes one clock nearer, and those whose distance is reached land. The
value addressing reads follows the landed X and Y one clock later. DEDUCED (log 26). -/
def Ctx.clock (c : Ctx) : Ctx :=
  let ra := landOne c.a c.inA
  let rx := landOne c.x c.inX
  let ry := landOne c.y c.inY
  let rf := landOne (c.f.truncate 4) c.inF
  { c with
    a := ra.1, inA := ra.2
    x := rx.1, inX := rx.2, xa := c.x
    y := ry.1, inY := ry.2, ya := c.y
    f := landSticky ((c.f &&& fSticky) ||| rf.1.setWidth 8) c.stk
    inF := rf.2
    stk := (c.stk.filter (fun k => decide (1 < k.left))).map (fun k => { k with left := k.left - 1 }) }

/-- `n` issue clocks pass. DESIGN CHOICE (log 7). -/
def Ctx.clocks : Nat → Ctx → Ctx
  | 0, c => c
  | n + 1, c => Ctx.clocks n c.clock

/-- Every result in flight lands (R100): no remaining distance exceeds 34. -/
def Ctx.drain (c : Ctx) : Ctx := { Ctx.clocks 35 c with srec := none }

/-- The registers of a task at a release or a new pass (table "Task context registers", R65): the sticky flags stay. -/
def Ctx.release (c : Ctx) (entry : BitVec 20) : Ctx := { Ctx.zero with p := entry, f := c.f &&& fSticky }

/-! ### The context area -/

/-- Word address of word 0 of task `t`'s context area (spec/06, "Context areas"). -/
def State.ctxBase (s : State) (p t : Nat) : Nat := s.rf (aPD_CTX_BASE p) 20 9 * 512 + 512 * t

/-- The smallest of a list, 0 for none. -/
def minOr0 (l : List Nat) : Nat := l.foldl (fun m x => if m = 0 then x else min m x) 0
/-- The largest of a list, 0 for none. -/
def maxOr0 (l : List Nat) : Nat := l.foldl max 0

/-- Remaining distances of the pending clears. -/
def Ctx.clears (c : Ctx) : List Nat := (c.stk.filter (fun k => !k.isSet)).map (·.left)
/-- Remaining distances of the pending sets of the sticky flag `m`. -/
def Ctx.sets (c : Ctx) (m : BitVec 8) : List Nat := (c.stk.filter (fun k => k.isSet && decide (k.mask &&& m ≠ 0))).map (·.left)

/-- A write in flight to X or Y as the record holds it: the landed value, the value in flight and its distance; 0 stands
for a write that has landed for data and not yet for addressing. -/
def recIdx (v va : BitVec 24) (fl : Option (BitVec 24 × Nat)) : BitVec 24 × Option (BitVec 24 × Nat) :=
  match fl with
  | some (n, r) => (v, some (n, r))
  | none => if v = va then (v, none) else (va, some (v, 0))

/-- Word 7: the clears in flight and the earliest set at or after the last of them. -/
def Ctx.word7 (c : Ctx) : W :=
  let last := maxOr0 c.clears
  let prev := maxOr0 (c.clears.filter (fun r => decide (r < last)))
  let after (m : BitVec 8) : Nat := if last = 0 then 0 else minOr0 ((c.sets m).filter (fun r => decide (last ≤ r)))
  BitVec.ofNat 32 (prev + 4 * last + 2 ^ 4 * after fOS + 2 ^ 10 * after fDZ + 2 ^ 16 * after fNV + 2 ^ 22 * after fNX)

/-- Words 0 to 23 of the area for a context. -/
def Ctx.words (c : Ctx) : List W :=
  let rx := recIdx c.x c.xa c.inX
  let ry := recIdx c.y c.ya c.inY
  let st (m : BitVec 8) : Nat := minOr0 (c.sets m)
  let b (x : Bool) : Nat := x.toNat
  let recs : List (Nat × W) := match c.srec with | some r => r.words.take 4 | none => []
  [ c.a, rx.1.setWidth 32, ry.1.setWidth 32, c.p.setWidth 32,
    BitVec.ofNat 32 (c.bs.toNat * 65536 + c.bsd * 256 + b c.lr),
    BitVec.ofNat 32 (c.csd * 65536 + c.f.toNat),
    c.tmerh, c.word7,
    BitVec.ofNat 32 (b c.inA.isSome + 2 * b rx.2.isSome + 4 * b ry.2.isSome + 8 * b c.inF.isSome
      + 16 * b (decide (st fOS ≠ 0)) + 32 * b (decide (st fDZ ≠ 0)) + 64 * b (decide (st fNV ≠ 0))
      + 128 * b (decide (st fNX ≠ 0))),
    (c.inA.map Prod.fst).getD 0, ((rx.2.map Prod.fst).getD 0).setWidth 32, ((ry.2.map Prod.fst).getD 0).setWidth 32,
    ((c.inF.map Prod.fst).getD 0).setWidth 32,
    BitVec.ofNat 32 ((c.inA.map Prod.snd).getD 0 + 2 ^ 6 * (rx.2.map Prod.snd).getD 0 + 2 ^ 12 * (ry.2.map Prod.snd).getD 0
      + 2 ^ 18 * (c.inF.map Prod.snd).getD 0),
    BitVec.ofNat 32 (st fOS + 2 ^ 6 * st fDZ + 2 ^ 12 * st fNV + 2 ^ 18 * st fNX),
    (match c.srec with
      | some r => BitVec.ofNat 32 ((if r.image then 2 else 1) * 16 + recs.length)
      | none => 0) ]
  ++ (List.range 4).map (fun i => BitVec.ofNat 32 ((recs.map Prod.fst).getD i 0))
  ++ (List.range 4).map (fun i => (recs.map Prod.snd).getD i 0)

/-- The debug view of a context (R103): its registers with what has landed alone, as words 0 to 6 of the area name them, and the pipeline record
apart, as words 7 to 23. -/
def Ctx.debugView (c : Ctx) : List W × List W :=
  (c.words.set 1 (c.x.setWidth 32) |>.set 2 (c.y.setWidth 32) |>.take 7, c.words.drop 7)

/-- The sticky sets and clears that words 7, 8 and 14 record. -/
def recSticky (w7 w8 w14 : W) : List Sticky :=
  let clr (r : Nat) : List Sticky := if r = 0 then [] else [{ isSet := false, mask := fSticky, left := r }]
  let set (on : Bool) (m : BitVec 8) (r : Nat) : List Sticky :=
    if on && decide (r ≠ 0) then [{ isSet := true, mask := m, left := r }] else []
  clr (fld w7 1 0) ++ clr (fld w7 3 2)
    ++ set (bitAt w8 4) fOS (fld w14 5 0) ++ set (bitAt w8 5) fDZ (fld w14 11 6)
    ++ set (bitAt w8 6) fNV (fld w14 17 12) ++ set (bitAt w8 7) fNX (fld w14 23 18)
    ++ set true fOS (fld w7 9 4) ++ set true fDZ (fld w7 15 10) ++ set true fNV (fld w7 21 16) ++ set true fNX (fld w7 27 22)

/-- The landed value, the value addressing reads and the write in flight of X or Y from the record. -/
def unrecIdx (on : Bool) (base fl : W) (r : Nat) : BitVec 24 × BitVec 24 × Option (BitVec 24 × Nat) :=
  if on then
    (if r = 0 then (fl.truncate 24, base.truncate 24, none) else (base.truncate 24, base.truncate 24, some (fl.truncate 24, r)))
  else (base.truncate 24, base.truncate 24, none)

/-- The context that words 0 to 23 of an area hold. `one` says whether the recorded store took one clock (R102). -/
def Ctx.ofWords (one : Bool) (w : List W) : Ctx :=
  let g (i : Nat) : W := w.getD i 0
  let ix := unrecIdx (bitAt (g 8) 1) (g 1) (g 10) (fld (g 13) 11 6)
  let iy := unrecIdx (bitAt (g 8) 2) (g 2) (g 11) (fld (g 13) 17 12)
  let n := min (fld (g 15) 2 0) 4
  { lr := bitAt (g 4) 0, bs := BitVec.ofNat 16 (fld (g 4) 31 16), bsd := fld (g 4) 12 8
    a := g 0, x := ix.1, xa := ix.2.1, inX := ix.2.2, y := iy.1, ya := iy.2.1, inY := iy.2.2
    p := (g 3).truncate 20, f := (g 5).truncate 8, csd := fld (g 5) 24 16, tmerh := g 6
    inA := if bitAt (g 8) 0 then some (g 9, fld (g 13) 5 0) else none
    inF := if bitAt (g 8) 3 then some ((g 12).truncate 4, fld (g 13) 23 18) else none
    stk := recSticky (g 7) (g 8) (g 14)
    srec := if n = 0 then none else
      some { image := decide (fld (g 15) 5 4 = 2), next := one,
             words := (List.range n).map (fun i => ((g (16 + i)).toNat, g (20 + i))) }
    slot := none }

/-- Write words through the data translation of partition `p` from word `w`, stopping at the first that fails; the
flag says whether all were written (table "Faults at each point", context save). -/
def State.saveWords (s : State) (p w : Nat) : List W → State × Bool
  | [] => (s, true)
  | v :: vs =>
    match s.look p 1 (w % 2 ^ 21) with
    | .at a => if s.isBad a then (s, false) else (s.wrMem a v).saveWords p (w + 1) vs
    | _ => (s, false)

/-- Save the context of task `t` of partition `p` into its area (R101, R181). -/
def State.saveCtx (s : State) (p t : Nat) : State × Bool :=
  let k := s.task p t
  let r := s.saveWords p (s.ctxBase p t) k.ctx.words
  (r.1.setTask p t { k with oneClk := (k.ctx.srec.map (·.next)).getD false }, r.2)

/-- Restore the context of task `t` of partition `p` from its area; none where a word cannot be read (R102, R181). -/
def State.restoreCtx (s : State) (p t : Nat) : Option State :=
  (s.peekWords p (s.ctxBase p t) 24).map
    (fun w => let k := s.task p t; s.setTask p t { k with ctx := Ctx.ofWords k.oneClk w })

end Sys2Proof.Machine
end

