-- ==== Sys2Proof/Machine/Net.lean ====
section
/-!
DEFINITION. Ports, egress queues and the frames this device builds (spec/07 R198, R202 to R205, R209 to R219, R471;
spec/08 R253, R255).
-/
namespace Sys2Proof.Machine

/-! ### Lanes and ports -/

/-- Frame data rate of a lane mode in Mbit/s (table "Lane modes"); 0 for Off and the reserved codes. -/
def laneRate (mode : Nat) : Nat :=
  if mode = 1 then 52900 else if 2 ≤ mode ∧ mode ≤ 5 then 50000 else if mode = 6 ∨ mode = 7 then 25000
  else if mode = 8 ∨ mode = 9 then 10000 else 0
/-- `LN_MODE.MODE` of lane `n`. -/
def State.laneMode (s : State) (n : Nat) : Nat := s.rf (aLN_MODE n) 3 0
/-- The lanes of a width code: 1, 2 or 4. -/
def widthOf (code : Nat) : Nat := 2 ^ code
/-- `SW_PORT_CFG.EN`. -/
def State.portEn (s : State) (p : Nat) : Bool := s.rb (aSW_PORT_CFG p) 31
/-- Configured width of port `p` in lanes. -/
def State.portWidth (s : State) (p : Nat) : Nat := widthOf (s.rf (aSW_PORT_CFG p) 30 29)
/-- Whether a lower configured port takes lane `p` (the registers of such a port are ignored). DEDUCED (log 34). -/
def State.covered (s : State) (p : Nat) : Bool :=
  (List.range 3).any (fun d => decide (d < p) && s.portEn (p - (d + 1)) && decide (d + 1 < s.portWidth (p - (d + 1)))
    && decide ((p - (d + 1)) % s.portWidth (p - (d + 1)) = 0))
/-- Whether `p` is a configured port (R198). -/
def State.configured (s : State) (p : Nat) : Bool := decide (p < s.fuse.lanes) && s.portEn p && !s.covered p
/-- The configured port that lane `n` belongs to. -/
def State.portOf (s : State) (n : Nat) : Option Nat :=
  (List.range 4).findSome? (fun d =>
    if d ≤ n ∧ s.configured (n - d) ∧ d < s.portWidth (n - d) then some (n - d) else none)
/-- `SW_PORT_STAT.UP`. -/
def State.portUp (s : State) (p : Nat) : Bool := s.rb (aSW_PORT_STAT p) 0
/-- Frame data rate of port `p` with the width in use, in Mbit/s. -/
def State.portRate (s : State) (p : Nat) : Nat := laneRate (s.laneMode p) * widthOf (s.rf (aSW_PORT_STAT p) 3 2)
/-- CLK_FAB clocks (1.25 ns) that `n` bytes take at `rate` Mbit/s. -/
def wireClks (rate n : Nat) : Nat := if rate = 0 then 0 else (n * 8 * 800 + rate - 1) / rate
/-- Nanoseconds that `n` bytes take at `rate` Mbit/s, rounded up. -/
def wireNs (rate n : Nat) : Nat := if rate = 0 then 0 else (n * 8000 + rate - 1) / rate
/-- The classes of port `p` that are control classes. -/
def State.isCtl (s : State) (p c : Nat) : Bool := s.rb (aSW_PORT_TC p) c
/-- Port `p`'s transmitter. -/
def State.port (s : State) (p : Nat) : Port := FMap.get (fun _ => Port.zero) s.ports p
/-- Set port `p`'s transmitter. -/
def State.setPort (s : State) (p : Nat) (v : Port) : State := { s with ports := FMap.set (fun _ => Port.zero) s.ports p v }
/-- Whether port `p` carries frames: it is up, does not re-form and its clocks run (R19, R199, R200). -/
def State.carries (s : State) (p : Nat) : Bool := s.portUp p && !(s.port p).reform && !s.clkStop
/-- An event of the switch's group. -/
def State.swEvent (s : State) (bits : W) : State := s.groupEvent aSW_EVT_SEQ aSW_EVT aSW_EVT_EN aSW_EVT_VEC bits

/-! ### Queues and cells -/

/-- Frames in queue `q`. -/
def State.frames (s : State) (q : Nat) : List QFrame := FMap.get (fun _ => []) s.queues q
/-- Set the frames of queue `q`. -/
def State.setFrames (s : State) (q : Nat) (l : List QFrame) : State :=
  { s with queues := FMap.set (fun _ => []) s.queues q l }
/-- Whether queue `q` is in use. -/
def State.qValid (s : State) (q : Nat) : Bool := s.rb (aQM_Q0 q) 31
/-- Egress port of queue `q`. -/
def State.qPort (s : State) (q : Nat) : Nat := s.rf (aQM_Q0 q) 30 24
/-- Class of queue `q`. -/
def State.qClass (s : State) (q : Nat) : Nat := s.rf (aQM_Q0 q) 23 21
/-- MIN of queue `q`. -/
def State.qMin (s : State) (q : Nat) : Nat := s.rf (aQM_Q1 q) 17 0
/-- MAX of queue `q`. -/
def State.qMax (s : State) (q : Nat) : Nat := s.rf (aQM_Q2 q) 17 0
/-- Whether queue `q`'s class is a control class of its port. -/
def State.qCtl (s : State) (q : Nat) : Bool := s.isCtl (s.qPort q) (s.qClass q)

/-- Cells of a frame of `n` bytes, its check sequence included. -/
def cellsOf (n : Nat) : Nat := (n + 255) / 256

/-- Queue `q` holds `d` cells: DEPTH, and the shared pool follows what the queue holds above MIN (R211). -/
def State.setDepth (s : State) (q d : Nat) : State :=
  let old := s.rf (aQM_DEPTH q) 31 0
  let m := s.qMin q
  ((s.setReg (aQM_DEPTH q) (BitVec.ofNat 32 d)).setReg aQM_POOL
    (BitVec.ofNat 32 (s.rf aQM_POOL 17 0 + (old - m) - (d - m))))

/-- Whether queue `q` can take `n` more cells: reserved cells first, then the shared pool below MAX (R211). -/
def State.hasCells (s : State) (q n : Nat) : Bool :=
  let d := s.rf (aQM_DEPTH q) 31 0
  let m := s.qMin q
  let need := (d + n - m) - (d - m)
  decide (need = 0 ∨ (d + n ≤ s.qMax q ∧ need ≤ s.rf aQM_POOL 17 0))

/-- A copy for queue `q` that finds no cell or a port that is down: counted (R199, R211). -/
def State.dropCopy (s : State) (q : Nat) (noCell : Bool) : State :=
  let s1 := s.count (aQM_DROPS q)
  if noCell then
    (if s.qCtl q then (s1.count aSW_CNT_CDROP).swEvent 1 else s1.count aSW_CNT_BDROP)
  else s1

/-- Place a frame in queue `q`. A queue that is not in use takes none. DEDUCED (log 36). -/
def State.enqueue (s : State) (q : Nat) (f : QFrame) : State :=
  if s.qValid q = false then s
  else if s.carries (s.qPort q) = false then s.dropCopy q false
  else if s.hasCells q f.cells then
    (s.setDepth q (s.rf (aQM_DEPTH q) 31 0 + f.cells)).setFrames q (s.frames q ++ [f])
  else s.dropCopy q true

/-- Discard every frame of queue `q` (R171, R199): its cells return to the packet buffer. DEDUCED (log 30). -/
def State.flushQueue (s : State) (q : Nat) : State := (s.setDepth q 0).setFrames q []

/-- The queues that hold frames. -/
def State.busyQueues (s : State) : List Nat := s.queues.map (·.1)

/-! ### Ethernet and span headers -/

/-- The source address of port `p`: base + p (R64). -/
def State.srcMac (s : State) (p : Nat) : Nat := s.fuse.mac.toNat + p

/-- The Ethernet header of a span frame sent on port `p` in class `c`: DA, SA, tag where TAG is 1, EtherType (R214). DEDUCED (log 35). -/
def State.etherHead (s : State) (p c : Nat) : List Byte :=
  beBytes 2 (s.rf aSW_SPAN_DA_HI 15 0) ++ beBytes 4 (s.rf aSW_SPAN_DA_LO 31 0) ++ beBytes 6 (s.srcMac p)
    ++ (if s.rb (aSW_PORT_CFG p) 27 then beBytes 2 0x8100 ++ beBytes 2 (c * 8192 + s.rf (aSW_PORT_TC p) 19 8) else [])
    ++ beBytes 2 (s.rf aSW_ETYPE 15 0)

/-- What a span header says (table "Span header"). -/
structure SpanHdr where
  ver : Nat
  ty : Nat
  pathB : Bool
  held : Bool
  safe : Bool
  epv : Bool
  stream : Nat
  seq : Nat
  epoch : Nat
  pair : Nat
  blocks : Nat
  plen : Nat
  hops : Nat
  deriving DecidableEq, Repr

/-- The 16 bytes of a span header. -/
def SpanHdr.bytes (h : SpanHdr) : List Byte :=
  [BitVec.ofNat 8 (h.ver * 16 + h.ty),
   BitVec.ofNat 8 (h.pathB.toNat * 128 + h.held.toNat * 64 + h.safe.toNat * 32 + h.epv.toNat * 16)]
  ++ beBytes 3 (h.stream * 16) ++ beBytes 2 h.seq ++ beBytes 2 h.epoch ++ beBytes 2 h.pair
  ++ [BitVec.ofNat 8 h.blocks] ++ beBytes 2 h.plen ++ [BitVec.ofNat 8 h.hops, 0]

/-- Byte `i` of a list, 0 beyond its end. -/
def byteAt (l : List Byte) (i : Nat) : Nat := (l.getD i 0).toNat
/-- A big-endian number of `n` bytes at `i`. -/
def beAt (l : List Byte) (i n : Nat) : Nat := beVal ((List.range n).map (fun k => l.getD (i + k) 0))

/-- Read the 16 bytes of a span header. -/
def SpanHdr.of (l : List Byte) : SpanHdr :=
  { ver := byteAt l 0 / 16, ty := byteAt l 0 % 16
    pathB := (byteAt l 1).testBit 7, held := (byteAt l 1).testBit 6, safe := (byteAt l 1).testBit 5
    epv := (byteAt l 1).testBit 4
    stream := beAt l 2 3 / 16, seq := beAt l 5 2, epoch := beAt l 7 2, pair := beAt l 9 2
    blocks := byteAt l 11, plen := beAt l 12 2, hops := byteAt l 14 }

/-- Bytes up to the 60 B that an Ethernet frame holds at least before its check sequence (PRESUMED, log 20). -/
def padFrame (l : List Byte) : List Byte := l ++ List.replicate (60 - l.length) (0 : Byte)

/-- The frame check sequence that ends a frame: CRC-32, or its complement for a stomped copy (R206; bit order PRESUMED, log 20). -/
def fcsOf (l : List Byte) (stomp : Bool) : List Byte :=
  leBytes 4 (if stomp then ~~~(crc32 l) else crc32 l).toNat

/-! ### Streams -/

/-- Whether stream entry `i` is valid. -/
def State.stV (s : State) (i : Nat) : Bool := s.rb (aSW_ST0 i) 31
/-- The stream ID of entry `i`. -/
def State.stId (s : State) (i : Nat) : Nat := s.rf (aSW_ST0 i) 30 27 * 65536 + i
/-- CLASS of entry `i`. -/
def State.stClass (s : State) (i : Nat) : Nat := s.rf (aSW_ST0 i) 23 21
/-- The valid target queues that a targets word names. -/
def targets (w : W) : List Nat :=
  (if bitAt w 31 then [fld w 30 16] else []) ++ (if bitAt w 15 then [fld w 14 0] else [])
/-- Path A targets of entry `i`. -/
def State.stA (s : State) (i : Nat) : List Nat := targets (s.reg (aSW_ST1 i))
/-- Path B targets of entry `i`. -/
def State.stB (s : State) (i : Nat) : List Nat := targets (s.reg (aSW_ST2 i))
/-- The entry of stream ID `id` in the applied table, if the device knows it: V = 1 and IDH matches. -/
def State.findStream (s : State) (id : Nat) : Option Nat :=
  let i := id % 65536
  if s.stV i ∧ s.rf (aSW_ST0 i) 30 27 = id / 65536 then some i else none

/-! ### Policers (R219) -/

/-- What the bucket of stream entry `i` lacks now, in units of 1/4,000,000 bit: CIR kbit/s fill 5 × CIR of them per clock. -/
def State.lacks (s : State) (i : Nat) : Nat :=
  let b := FMap.get (fun _ => (0, 0)) s.bucket i
  b.1 - (s.fab - b.2) * (5 * s.rf (aSW_ST3 i) 31 0)
/-- Whether the policer of entry `i` acts. -/
def State.policed (s : State) (i : Nat) : Bool := decide (s.rf (aSW_ST3 i) 31 0 ≠ 0)
/-- Whether a frame conforms at its first byte: the bucket holds MAXLEN + 20 B. -/
def State.conforms (s : State) (i : Nat) : Bool :=
  !s.policed i || decide (s.lacks i + (s.rf (aSW_ST4 i) 13 0 + 20) * 32000000 ≤ s.rf (aSW_ST4 i) 31 14 * 32000000)
/-- The bucket is debited by `n` bytes + 20. -/
def State.debit (s : State) (i n : Nat) : State :=
  if s.policed i then
    { s with bucket := FMap.set (fun _ => (0, 0)) s.bucket i (s.lacks i + (n + 20) * 32000000, s.fab) }
  else s

/-! ### Frames of this device (R216, R217) -/

/-- Whether the device is a pair member: EPV of its frames (R217). -/
def State.member (s : State) : Bool := s.rb aRU_CFG 31

/-- The header of a frame that the device originates on stream entry `i`. DEDUCED (log 39). -/
def State.ownHeader (s : State) (i ty : Nat) (held safe epv : Bool) (blocks plen : Nat) : SpanHdr :=
  { ver := 1, ty := ty, pathB := false, held := held, safe := safe, epv := epv && s.member
    stream := s.stId i, seq := FMap.get (fun _ => 0) s.seqs i
    epoch := if epv && s.member then s.rf aRU_ROLE 31 16 else 0
    pair := if epv && s.member then s.rf aRU_CFG 15 0 else 0
    blocks := blocks, plen := plen, hops := s.rf (aSW_ST7 i) 7 0 }

/-- One copy for queue `q`. -/
def State.placeOwn (s : State) (i q : Nat) (h : SpanHdr) (body : List Byte) : State :=
  let d := padFrame (s.etherHead (s.qPort q) (s.qClass q) ++ h.bytes ++ body)
  s.enqueue q { data := d, from_ := none, stomp := false, maxLen := s.rf (aSW_ST4 i) 13 0, cells := cellsOf (d.length + 4)
                own := true }

/-- Originate one frame on stream entry `i`: it takes the next SEQ, the policer checks it, and a copy goes to every valid
target (R216, R217, R219). Nothing is queued while the gates of originated streams are closed (R368). -/
def State.originate (s : State) (i ty : Nat) (held safe epv : Bool) (blocks : Nat) (body : List Byte) : State :=
  let h := s.ownHeader i ty held safe epv blocks body.length
  let s1 := { s with seqs := FMap.set (fun _ => 0) s.seqs i ((h.seq + 1) % 65536) }
  if s.fatal then s1
  else if s1.conforms i = false then s1.count aSW_CNT_POLICED
  else
    let s2 := s1.debit i (max 64 (body.length + 34))
    let s3 := (s2.stA i).foldl (fun s q => s.placeOwn i q h body) s2
    (s3.stB i).foldl (fun s q => s.placeOwn i q { h with pathB := true } body) s3

/-- The bytes of a module block, padded to a multiple of 4 (table "Module block"). -/
def Block.bytes (b : Block) : List Byte :=
  beBytes 2 b.modid ++ beBytes 2 b.mseq ++ beBytes 2 b.status ++ beBytes 2 b.data.length ++ b.data
    ++ List.replicate ((4 - b.data.length % 4) % 4) (0 : Byte)

/-- Bytes a frame of stream entry `i` may hold in its payload: the smallest room any target port's MTU leaves. -/
def State.payloadRoom (s : State) (i : Nat) : Nat :=
  ((s.stA i ++ s.stB i).map (fun q =>
    s.rf (aSW_PORT_CFG (s.qPort q)) 13 0 - (if s.rb (aSW_PORT_CFG (s.qPort q)) 27 then 38 else 34))).foldl min 65535

/-- Pack blocks into frames in order: a block that would pass the room, or the 255th block, begins a new frame (R216). -/
def packBlocks (room : Nat) : List Block → List Block → Nat → List (List Block)
  | [], cur, _ => if cur.isEmpty then [] else [cur]
  | b :: bs, cur, n =>
    if ¬ cur.isEmpty ∧ (room < n + b.bytes.length ∨ cur.length = 255) then cur :: packBlocks room bs [b] b.bytes.length
    else packBlocks room bs (cur ++ [b]) (n + b.bytes.length)

/-- Queue blocks of one stream as DATA frames. -/
def State.sendBlocks (s : State) (i : Nat) (held safe : Bool) (bs : List Block) : State :=
  (packBlocks (s.payloadRoom i) bs [] 0).foldl
    (fun s f => s.originate i 1 held safe true f.length (f.flatMap Block.bytes)) s

/-- The distinct numbers of a list, in order of first appearance. -/
def distinct (l : List Nat) : List Nat := l.foldl (fun acc x => if acc.contains x then acc else acc ++ [x]) []

/-- Queue blocks, each with its stream entry: those of one stream are packed together, streams in order of their first
block (R216). -/
def State.sendAll (s : State) (held safe : Bool) (bs : List (Nat × Block)) : State :=
  (distinct (bs.map (·.1))).foldl
    (fun s i => s.sendBlocks i held safe ((bs.filter (fun b => b.1 == i)).map (·.2))) s

/-! ### MIRROR frames (R253, R255) -/

/-- The sync ports that `RU_SYNC` names. -/
def State.syncPorts (s : State) : List Nat :=
  ([0, 1, 2, 3].filter (fun k => s.rb aRU_SYNC (8 * k + 7))).map (fun k => s.rf aRU_SYNC (8 * k + 6) (8 * k))

/-- Send a MIRROR frame on the next sync port that is up; none goes out while no sync port is up or the fatal reaction has
stopped them (R253, R369). -/
def State.sendMirror (s : State) (kind task part stamp count : Nat) (payload : List Byte) : State :=
  let all := s.syncPorts
  let turn := (List.range all.length).map (fun i => (s.mirTurn + i) % all.length)
  match turn.find? (fun i => (all[i]?.map s.carries).getD false) with
  | none => s
  | some i =>
    let p := all.getD i 0
    if s.fatal then s else
    let body := [BitVec.ofNat 8 kind, BitVec.ofNat 8 (task * 16)] ++ beBytes 2 part ++ beBytes 4 stamp ++ beBytes 2 count
      ++ beBytes 2 0 ++ payload
    let h : SpanHdr :=
      { ver := 1, ty := 4, pathB := false, held := false, safe := false, epv := s.member, stream := 0xFFFFF
        seq := s.mirSeq, epoch := s.rf aRU_ROLE 31 16, pair := s.rf aRU_CFG 15 0, blocks := 0, plen := body.length
        hops := 0 }
    let d := padFrame (s.etherHead p 7 ++ h.bytes ++ body)
    { s.emit (.frame p (d ++ fcsOf d false)) with mirSeq := (s.mirSeq + 1) % 65536, mirTurn := i + 1 }

/-! ### Gates (R204) -/

/-- The gate entries of port `p`: gate state and interval. -/
def State.gateList (s : State) (p : Nat) : List (Nat × Nat) :=
  (List.range (s.rf (aSW_GATE_CNT p) 6 0)).map (fun i => (s.rf (aSW_GATE0 p i) 7 0, s.rf (aSW_GATE1 p i) 23 0))

/-- From `off` ns into a cycle, the rest of the list: what is left of the entry in force, then those that follow. -/
def gateTail : List (Nat × Nat) → Nat → List (Nat × Nat)
  | [], _ => []
  | (g, d) :: l, off => if off < d then (g, d - off) :: l else gateTail l (off - d)

/-- The gate states that follow from now on, for two cycles: before BASE every gate is open (R204), so that the first cycle has its guard band
too (R205). Empty for a port without a list. -/
def State.gatesAhead (s : State) (p : Nat) : List (Nat × Nat) :=
  let base := (s.reg64 (aSW_GATE_BASE_LO p)).toNat
  let cyc := s.rf (aSW_GATE_CYCLE p) 23 0
  if s.rf (aSW_GATE_CNT p) 6 0 = 0 ∨ cyc = 0 then []
  else if s.now.toNat < base then (0xFF, base - s.now.toNat) :: s.gateList p ++ s.gateList p
  else gateTail (s.gateList p) ((s.now.toNat - base) % cyc) ++ s.gateList p ++ s.gateList p

/-- Whether the gate of class `c` of port `p` is open now. -/
def State.gateOpen (s : State) (p c : Nat) : Bool :=
  match s.gatesAhead p with
  | [] => true
  | (g, _) :: _ => g.testBit c

/-- Nanoseconds until a gate state without class `c`, if one follows. -/
def untilClosed (c : Nat) : List (Nat × Nat) → Nat → Option Nat
  | [], _ => none
  | (g, d) :: l, t => if g.testBit c then untilClosed c l (t + d) else some t

/-- Nanoseconds until a class of `ctl` that is closed in one state opens in the next, if that follows. -/
def untilOpens (ctl : Nat) : List (Nat × Nat) → Nat → Option Nat
  | [], _ => none
  | [_], _ => none
  | (g, d) :: (g', d') :: l, t =>
    if ((List.range 8).any (fun c => ctl.testBit c && !g.testBit c && g'.testBit c)) then some (t + d)
    else untilOpens ctl ((g', d') :: l) (t + d)

/-- Whether `t` ns end before an instant, if there is one. -/
def endsBefore (t : Nat) : Option Nat → Bool
  | none => true
  | some u => decide (t ≤ u)

/-- Whether port `p` may start a frame of `n` bytes (its stream's MAXLEN for a control frame) in class `c` (R205). -/
def State.mayStart (s : State) (p c n : Nat) : Bool :=
  let t := wireNs (s.portRate p) (n + 20)
  let g := s.gatesAhead p
  s.gateOpen p c &&
    (if s.isCtl p c then endsBefore t (untilClosed c g 0)
     else s.rb (aSW_PORT_STAT p) 1 ||
       (endsBefore t (untilClosed c g 0) && endsBefore t (untilOpens (s.rf (aSW_PORT_TC p) 7 0) g 0)))

end Sys2Proof.Machine
end

