-- ==== Sys2Proof/Machine/Sched.lean ====
section
/-!
DEFINITION. Shared operations over partitions, tasks, engines and the fault collector: event groups, ranks (R131),
leaving Run (R146, R147), stopping (R75, R153) and what an error event does (R363, R366, R368).
-/
namespace Sys2Proof.Machine

/-! ### Partition events -/

/-- The bits of `PD_EVT`. -/
def evMode : W := 0x01
/-- FAULT. -/
def evFault : W := 0x02
/-- OVERRUN. -/
def evOverrun : W := 0x04
/-- TRAP. -/
def evTrap : W := 0x08
/-- EDITOK. -/
def evEditOk : W := 0x10
/-- EDITREF. -/
def evEditRef : W := 0x20
/-- HOLDIN. -/
def evHoldIn : W := 0x40

/-- An event of partition `p`'s group: the bits are set, SEQ advances, and the PF0 vector and the VF vectors 0 to 2 go
out for the enabled bits (R39, R45, "Event group"). -/
def State.pdEvent (s : State) (p : Nat) (bits : W) : State :=
  let en := s.reg (aPD_EVT_EN p) &&& bits
  let s1 := s.groupEvent (aPD_EVT_SEQ p) (aPD_EVT p) (aPD_EVT_EN p) (aPD_EVT_VEC p) bits
  ((s1.sendIf (decide (en &&& 0x41 ≠ 0)) (p + 1) 0).sendIf (decide (en &&& 0x0E ≠ 0)) (p + 1) 1).sendIf
    (decide (en &&& 0x30 ≠ 0)) (p + 1) 2

/-! ### Task states -/

/-- The 4-bit code of task entry `t`: TB is 0xF. -/
def taskCode (t : Nat) : Nat := if t = 8 then 15 else t
/-- The entry that a 4-bit task code names; none for 0x8 to 0xE. -/
def taskEntry (c : Nat) : Option Nat := if c < 8 then some c else if c = 15 then some 8 else none

/-- `PD_TSTAT.STATE`. -/
def State.tstate (s : State) (p t : Nat) : Nat := s.rf (aPD_TSTAT p t) 3 0
/-- Set `PD_TSTAT.STATE`. -/
def State.setTState (s : State) (p t v : Nat) : State := s.setRf (aPD_TSTAT p t) 3 0 v

/-- Off. -/
def tOff : Nat := 0
/-- Idle. -/
def tIdle : Nat := 1
/-- Input. -/
def tInput : Nat := 2
/-- Ready. -/
def tReady : Nat := 3
/-- Running. -/
def tRunning : Nat := 4
/-- Pre-empted. -/
def tPreempted : Nat := 5
/-- Output. -/
def tOutput : Nat := 6
/-- Held. -/
def tHeld : Nat := 7

/-! ### Ranks (R131) -/

/-- Lexicographic order of lists of numbers. -/
def lexLt : List Nat → List Nat → Bool
  | [], [] => false
  | [], _ :: _ => true
  | _ :: _, [] => false
  | a :: as, b :: bs => if a < b then true else if b < a then false else lexLt as bs

/-- The rank of a task on its engine, lower first: periodic tasks by PRIO, release instant, partition and task number;
every TB below them, a TB in the middle of a pass before one that waits, then in turn by partition number. DEDUCED (log 17). -/
def State.rank (s : State) (e k : Nat) : List Nat :=
  let p := k / 16
  let t := k % 16
  if t = 8 then
    [1, if s.tstate p t = tReady then 1 else 0, (p + 1023 - (s.eng e).lastTb) % 512]
  else [0, (s.task p t).prio, (s.task p t).relAt.toNat, p, t]

/-- The better ranked of a candidate so far and one more task. -/
def State.better (s : State) (e : Nat) (b : Option Nat) (k : Nat) : Option Nat :=
  match b with
  | none => some k
  | some j => if lexLt (s.rank e k) (s.rank e j) then some k else some j

/-- Whether task `k` waits for engine `e`: Ready or Pre-empted, or Held with a step to take there (R150). DEDUCED (log 12). -/
def State.waitsFor (s : State) (e k : Nat) : Bool :=
  let st := s.tstate (k / 16) (k % 16)
  decide ((s.task (k / 16) (k % 16)).eng = e) && (st == tReady || st == tPreempted
    || (st == tHeld && (s.task (k / 16) (k % 16)).stepping && (s.eng e).run != some k))
/-- The highest-ranked task that waits for engine `e`. -/
def State.bestWaiting (s : State) (e : Nat) : Option Nat :=
  ((s.tasks.map (·.1)).filter (s.waitsFor e)).foldl (s.better e) none

/-- Engine `e` is left by its task: it switches to the best waiting task, if there is one (R133). -/
def State.freeEngine (s : State) (e : Nat) : State :=
  let s1 := s.setEng e { s.eng e with run := none }
  s1.setEng e { s1.eng e with sw := s1.bestWaiting e }

/-- Task `k` takes engine `e`: Running, and the engine's TB turn is noted. -/
def State.takeEngine (s : State) (e k : Nat) : State :=
  (s.setEng e { run := some k, sw := none, lastTb := if k % 16 = 8 then k / 16 else (s.eng e).lastTb, last := some k }).setTState
    (k / 16) (k % 16) tRunning

/-- A task that is Ready starts at once on an engine that has no task Running or Pre-empted and no switch (R133). -/
def State.startIfFree (s : State) (p t : Nat) : State :=
  let e := (s.task p t).eng
  if (s.eng e).run.isNone && (s.eng e).sw.isNone then s.takeEngine e (p * 16 + t) else s

/-! ### Pair partitions (spec/08) -/

/-- Whether partition `p` is a pair partition of this member (R237). -/
def State.pairPart (s : State) (p : Nat) : Bool := s.rb aRU_CFG 31 && s.rb (aRU_PARTS (p / 32)) (p % 32)
/-- `RU_ROLE.ROLE`. -/
def State.ruRole (s : State) : Nat := s.rf aRU_ROLE 3 0
/-- The commissioning state, `RU_CFG.COMM`. -/
def State.comm (s : State) : Bool := s.rb aRU_CFG 29
/-- The REASON with which Hold of `p` is refused (R148). -/
def State.holdRefusal (s : State) (p : Nat) : Option Nat :=
  if s.rb (aPD_OPT p) 2 then some 3
  else if s.pairPart p && !s.comm then some 4
  else none
/-- Whether `p` sends nothing: a pair partition of a member that is neither ACTIVE nor OFF (R239). -/
def State.silent (s : State) (p : Nat) : Bool := s.pairPart p && s.ruRole != 3 && s.ruRole != 0
/-- A MODE frame tells the partner a pair partition's new mode (R256, table "MIRROR kinds"). -/
def State.mirrorMode (s : State) (p : Nat) : State :=
  if s.pairPart p && s.ruRole == 3 then
    s.sendMirror 4 0 p 0 0 (beBytes 4 (s.mode p + 256 * s.rf (aPD_MODE p) 15 8) ++ beBytes 8 s.grid.toNat)
  else s

/-! ### The fault collector (R362 to R368) -/

/-- Corrected. -/
def cCorrected : Nat := 1
/-- Uncorrected-contained. -/
def cContained : Nat := 2
/-- Fatal. -/
def cFatal : Nat := 3

/-- Set bit `i` of a pair of registers that hold 64 sources. -/
def State.setSrc (s : State) (lo hi i : Nat) : State :=
  if i < 32 then s.setReg lo (putBit (s.reg lo) i true) else s.setReg hi (putBit (s.reg hi) (i - 32) true)

/-- The class field of source `src` in `FLT_CLASS`. -/
def State.srcClass (s : State) (src : Nat) : Nat :=
  s.rf (aFLT_CLASS (src / 16)) (2 * (src % 16) + 1) (2 * (src % 16))

/-- `FLT_DET` of a source: written when it is empty (R363). -/
def State.noteDet (s : State) (src cls code unit : Nat) : State :=
  if s.rf (aFLT_DET src) 31 30 = 0 then
    s.setReg (aFLT_DET src) (BitVec.ofNat 32 (cls * 2 ^ 30 + code * 65536 + unit))
  else s

/-- Whether the record that `FLT_FIRST` holds stays when source `src` raises class `cls` (R363): the first event of the highest class, and among
events of one clock (`same`: the clock of the event before) the lowest source. -/
def State.keepsFirst (s : State) (same : Bool) (src cls : Nat) : Bool :=
  let c := s.rf aFLT_FIRST 29 28
  s.rb aFLT_FIRST 31 && (decide (cls < c) || (cls == c && !(same && s.fltNew && decide (src < s.rf aFLT_FIRST 21 16))))
/-- `FLT_FIRST` after one event (R363). -/
def State.noteFirst (s : State) (same : Bool) (src cls unit : Nat) : State :=
  if s.keepsFirst same src cls then { s with fltNew := s.fltNew && same }
  else ({ s with fltNew := true }.setReg aFLT_FIRST (BitVec.ofNat 32 (2 ^ 31 + cls * 2 ^ 28 + src * 65536 + unit))).setReg64
    aFLT_FIRST_T_LO s.now

/-- The fault status group after one event (R363), with the collector's own interrupt; SEQ counts the events of one clock once (R45). -/
def State.noteEvent (s : State) (same : Bool) (src cls code unit : Nat) : State :=
  let s1 := ((if same then s else s.advance aFLT_SEQ).setSrc aFLT_STAT_LO aFLT_STAT_HI src).setRf (aFLT_CLASS (src / 16))
    (2 * (src % 16) + 1) (2 * (src % 16)) (max (s.srcClass src) cls)
  let s2 := (s1.noteDet src cls code unit).noteFirst same src cls unit
  let s3 := if cls = cCorrected then s2.count (aFLT_CNT src) else s2
  s3.sendIf (s.rb aFLT_EN (cls - 1)) 0 (s.rf aFLT_VEC 10 0)

/-- The event record of an error event (R366): code 0x1000 + 0x100 × class + source, severity 2, 5 or 7, body `FLT_DET`
and the Meridian time. -/
def State.faultRecord (s : State) (src cls : Nat) : State :=
  s.passEvent (0x1000 + 0x100 * cls + src) (if cls = cCorrected then 2 else if cls = cContained then 5 else 7)
    [s.reg (aFLT_DET src), lo32 s.now, hi32 s.now]

/-- Whether source `src` raises no event in class `cls`: its line already stands asserted in that class or a higher one (R362), or the clocks of
the collector have stopped (R19). DEDUCED (log 129); DESIGN CHOICE (log 132). -/
def State.quiet (s : State) (src cls : Nat) : Bool := s.clkStop || decide (cls ≤ FMap.get (fun _ => 0) s.lines src)

/-- A contained event of source `src` (R363, R366). -/
def State.report (s : State) (src code unit : Nat) : State :=
  if s.quiet src cContained then s else (s.noteEvent false src cContained code unit).faultRecord src cContained

/-- An uncorrected fault in a resource of partition `p` is noted (LOCALF of R255). -/
def State.noteLocal (s : State) (p : Nat) : State := { s with localF := FMap.set (fun _ => 0) s.localF p (s.fab + 1) }

/-- An uncorrectable error of the store that holds BAR2 offset `a` (sources 6 to 8): RETP and the contained event (R191). -/
def State.storeFault (s : State) (a : Nat) : State :=
  let k := (pageOf a).1
  let n := (pageOf a).2
  let s1 := if s.pgState k n = pgStaged ∨ s.pgState k n = pgOwned then s.noteLocal (s.pgPart k n) else s
  (s1.markRetp a).report (6 + k) 0x01 n

/-- An uncorrectable translation entry that a lookup found: cleared, applied and pending, captured in `TR_ERR` and
reported (R174). -/
def State.entryFault (s : State) (key : Nat) : State :=
  let i := key % entriesPerPart
  let k := entryKind i
  let s1 := ((s.noteLocal (key / entriesPerPart)).setEntA key 0).setEntP key 0
  let s2 := ({ s1 with trBad := FMap.set (fun _ => false) s1.trBad key false }.advance aTR_ERR_SEQ).count aTR_ERR_CNT
  let s3 := if s2.rb aTR_ERR 31 then s2
    else s2.setReg aTR_ERR (BitVec.ofNat 32 (2 ^ 31 + k * 2 ^ 28 + key / entriesPerPart * 65536 + (i - entryBase k)))
  s3.report 9 0x01 (key / entriesPerPart)

/-- Write a word of word or image space through the translation; a page that is not mapped is skipped, and an uncorrectable entry is reported
(R174). -/
def State.pokeAt (s : State) (p : Nat) (img : Bool) (w : Nat) (v : W) : State :=
  match s.look p (if img then 2 else 1) w with
  | .at a => s.wrMem a v
  | .unmapped => s
  | .corrupt key => s.entryFault key
/-- Read a word of space `sp` for its errors alone: an uncorrectable entry or word is reported (R174, R191). -/
def State.seeWord (s : State) (p sp w : Nat) : State :=
  match s.look p sp w with
  | .at a => if s.isBad a then s.storeFault a else s
  | .unmapped => s
  | .corrupt key => s.entryFault key

/-! ### Copies of the cycle unit (R136) -/

/-- Whether job `x` comes before job `y`: by edge, release copies first, then by rank. -/
def State.jobBefore (s : State) (x y : CuJob) : Bool :=
  let r (j : CuJob) : List Nat := s.rank (s.task j.p j.t).eng (j.p * 16 + j.t)
  if x.edge ≠ y.edge then decide (x.edge < y.edge) else if x.out ≠ y.out then y.out else lexLt (r x) (r y)
/-- An input or output copy of task `t` of `p` is triggered at the present edge. DEDUCED (log 21). -/
def State.addJob (s : State) (out : Bool) (p t : Nat) : State :=
  let j : CuJob := { out := out, p := p, t := t, edge := s.fab, begun := false, todo := [], cur := [], want := none, vec := [], div := false,
                     built := [], hold := none, undo := [] }
  { s with cu := s.cu.takeWhile (fun x => s.jobBefore x j) ++ j :: s.cu.dropWhile (fun x => s.jobBefore x j) }
/-- Write words to store offsets. -/
def State.wrCells (s : State) (l : List (Nat × W)) : State := l.foldl (fun s e => s.wrMem e.1 e.2) s
/-- The copy of task `t` of `p` ends here: the block in progress is finished and the blocks built go out (R147). DEDUCED (log 21). -/
def State.dropJob (s : State) (p t : Nat) : State :=
  let mine (j : CuJob) : Bool := j.p == p && j.t == t
  (s.cu.filter mine).foldl (fun s j => if s.silent p then s.wrCells j.cur else (s.wrCells j.cur).sendAll false false j.built)
    { s with cu := s.cu.filter (fun j => !mine j) }

/-! ### Saves that fail (R190, table "Faults at each point") -/

/-- The first word of task `t`'s context area that cannot be saved or restored is reported: an uncorrectable translation entry (R174),
or a store error, whose page has RETP set (R191). -/
def State.ctxFault (s : State) (p t : Nat) : State :=
  match (List.range 24).findSome? (fun i =>
    match s.look p 1 ((s.ctxBase p t + i) % 2 ^ 21) with
    | .at a => if s.isBad a then some (Loc.at a) else none
    | l => some l) with
  | some (.corrupt key) => s.entryFault key
  | some (.at a) => s.storeFault a
  | _ => s
/-- Engine `e` keeps the words of a failed save in its save registers. -/
def State.keepSave (s : State) (e : Nat) (words : List W) : State :=
  (List.range 24).foldl (fun s i => s.setReg (aENG_SAVE e i) (words.getD i 0)) s

/-! ### Stopping a partition -/

/-- A fault that finds a stop of `p` still taking effect decides STOPCAUSE and the kind of contents (R144, R147). DEDUCED (log 28). -/
def State.lateFault (s : State) (p cause : Nat) (bits : W) : State :=
  if s.mode p = 1 ∧ (s.part p).stopping ∧ 2 ≤ cause then
    let s2 := s.setRf (aPD_MODE p) 15 8 cause
    (s2.setPart p { s2.part p with sending := .safe }).pdEvent p bits
  else s
/-- The registers of a stopped task go to its context area; a save that fails is one of the table "Faults at each point". DEDUCED (log 11). -/
def State.saveOff (s : State) (p t : Nat) : State :=
  let k := s.task p t
  let r := s.saveCtx p t
  if r.2 then r.1
  else (((r.1.ctxFault p t).keepSave k.eng k.ctx.words).lateFault p 4 evFault).report 23 0x0A p

/-- One task of a stopping partition goes Off: a Running one at a permitted boundary, its registers saved to the context area, as those
of a task Held from Running are (R104, R134, R146). DEDUCED (log 11). -/
def State.offTask (s : State) (p t : Nat) : State :=
  if (s.eng (s.task p t).eng).run = some (p * 16 + t) then
    (if (s.task p t).ctx.slot.isSome then s
     else ((s.saveOff p t).setTState p t tOff).freeEngine (s.task p t).eng)
  else if s.tstate p t = tHeld ∧ (s.task p t).heldMid ∧ (s.task p t).held = tRunning then (s.saveOff p t).setTState p t tOff
  else (s.dropJob p t).setTState p t tOff

/-- Every task of `p` that stands at a permitted boundary goes Off. -/
def State.offTasks (s : State) (p : Nat) : State := (List.range 9).foldl (fun s t => s.offTask p t) s

/-- End the command in progress of partition `p` with REASON `r` and clear BUSY (R144). -/
def State.endCmd (s : State) (p r : Nat) : State :=
  (s.setReg (aPD_CMD_STAT p) (BitVec.ofNat 32 (r * 65536))).setPart p { s.part p with cmd := none }

/-- Freeze partition time at its present value (R125). -/
def State.freezeTime (s : State) (p : Nat) : State :=
  if s.mode p = 2 then s.setReg64 (aPD_PTIME_LO p) (s.ptime p) else s

/-- A command that a stop overtakes: a Hold, Resume or Step not yet applied ends with REASON 0x01 (R144). -/
def State.dropCmd (s : State) (p cause : Nat) : State :=
  match (s.part p).cmd with
  | some .hold => if cause = 1 then s else s.endCmd p 1
  | some .resume => if cause = 1 then s else s.endCmd p 1
  | some (.step _) => if cause = 1 then s else s.endCmd p 1
  | _ => s

/-- Partition `p` stops with STOPCAUSE `cause`, setting `bits` of its event group (R75, R144, R146, R147, R153). A fault
that finds a stop still taking effect decides STOPCAUSE and the kind of contents. DEDUCED (log 28). -/
def State.stopPart (s : State) (p cause : Nat) (bits : W) : State :=
  if s.mode p = 2 ∨ s.mode p = 3 then
    let s1 := ((s.freezeTime p).dropCmd p cause).setRf (aPD_MODE p) 2 0 1
    let s2 := s1.setRf (aPD_MODE p) 15 8 cause
    let s3 := s2.setPart p { s2.part p with stopping := true, sending := if cause = 1 then .stop else .safe }
    ((s3.pdEvent p (bits ||| evMode)).offTasks p).mirrorMode p
  else s.lateFault p cause bits

/-- The partitions whose `PD_MODE` is not at its reset value. -/
def State.created (s : State) : List Nat :=
  ((s.regs.map (·.1)).filter (fun a => decide (0x300000 ≤ a ∧ a < 0x400000 ∧ a % 0x800 = 0))).map
    (fun a => (a - 0x300000) / 0x800)

/-- A BIST that runs is abandoned with RESULT 0x00 (table "Coinciding events"). -/
def State.dropBist (s : State) : State :=
  (((s.regs.map (·.1)).filter (fun a => decide (0x200000 ≤ a ∧ a < 0x300000 ∧ a % 0x2000 = 0x80)))).foldl
    (fun s a => if s.rb a 1 then s.setReg a 0 else s) s

/-- The pages that `FLT_DREG0` to `7` name, in order (section 7 of the dump). -/
def State.dregPages (s : State) : List Byte :=
  ((List.range 8).flatMap (fun n =>
    let k := s.rf (aFLT_DREG n) 31 30
    if k = 1 ∨ k = 2 then
      (List.range (s.rf (aFLT_DREG_CNT n) 10 0)).flatMap (fun i => s.rdBytes (pageBase k (s.rf (aFLT_DREG n) 13 0 + i)) 4096)
    else [])).take 0x400000
/-- Whether a register is one of the switch, the queues, the lanes, Meridian or the redundancy unit (section 5 of the dump). -/
def surveyedReg (a : Nat) : Bool :=
  decide (0x800000 ≤ a ∧ a < 0x1000000) || decide (0x50000 ≤ a ∧ a < 0x60000) || decide (0xD0000 ≤ a ∧ a < 0xE0000)

/-- The reaction to the first fatal bit (R368): every partition stops with STOPCAUSE 0x04 and the dump sequencer starts
where no dump stands (R373). The fatal line, the gates, the halted dispatcher and the stopped REQUESTs follow from
`FLT_FATAL` itself. What the dump shows of the instant is captured (R374). -/
def State.fatalReaction (s : State) (src : Nat) : State :=
  let s0 := { s.dropBist with fatalSrc := src, fatalRegs := s.regs.filter (fun e => surveyedReg e.1), fatalPages := s.dregPages }
  let s1 := s0.created.foldl (fun s p => s.stopPart p 4 evFault) s0
  if s1.rf aFLT_DUMP 7 0 = 0 then s1.setReg aFLT_DUMP 1 else s1

/-- One event of source `src` in class `cls` (R362, R363, R366, R368); `same` tells that it is of the same clock as the event before. -/
def State.collectIn (s : State) (same : Bool) (src cls code unit : Nat) : State :=
  if s.quiet src cls then s
  else
    let s1 := (s.noteEvent same src cls code unit).faultRecord src cls
    if cls = cFatal then
      let s2 := s1.setSrc aFLT_FATAL_LO aFLT_FATAL_HI src
      if s.fatal then s2 else s2.fatalReaction src
    else s1
/-- One event in a clock of its own. -/
def State.collect (s : State) (src cls code unit : Nat) : State := s.collectIn false src cls code unit

/-- A contained fault of partition `p` (source 23): collector event and stop (R75, R153). DEDUCED (log 177). -/
def State.partFault (s : State) (p cause : Nat) (bits : W) : State :=
  (s.stopPart p cause bits).collect 23 cContained 0x0A p

end Sys2Proof.Machine
end

