-- ==== Sys2Proof/Machine/Slots.lean ====
section
/-!
DEFINITION. Module slots (spec/07 R225 to R229) and the mover descriptors that read them (spec/06, "Descriptors").
-/
namespace Sys2Proof.Machine

/-! ### Slot entries -/

/-- Slot `n` is allocated. -/
def State.slotV (s : State) (n : Nat) : Bool := s.rb (aSW_SLOT0 n) 31
/-- FULL of slot `n`. -/
def State.slotFull (s : State) (n : Nat) : Bool := s.rb (aSW_SLOT0 n) 14
/-- Current buffer of slot `n`. -/
def State.slotCur (s : State) (n : Nat) : Nat := s.rf (aSW_SLOT0 n) 15 15
/-- Data length of slot `n`'s current block. -/
def State.slotLen (s : State) (n : Nat) : Nat := s.rf (aSW_SLOT0 n) 26 16
/-- MAXLEN of slot `n`. -/
def State.slotMax (s : State) (n : Nat) : Nat := s.rf (aSW_SLOT0 n) 10 0
/-- Module sequence of slot `n`'s current block. -/
def State.slotSeq (s : State) (n : Nat) : Nat := s.rf (aSW_SLOT1 n) 31 16
/-- Buffer `b` of slot `n`. -/
def State.slotBuffer (s : State) (n b : Nat) : List Byte := FMap.get (fun _ => []) s.slotBuf (2 * n + b)
/-- The first `len` bytes of buffer `b` of slot `n`; what was never written is zero. -/
def State.bufferBytes (s : State) (n b len : Nat) : List Byte :=
  (s.slotBuffer n b ++ List.replicate (len - (s.slotBuffer n b).length) (0 : Byte)).take len
/-- Data of slot `n`'s current block. -/
def State.slotData (s : State) (n : Nat) : List Byte := s.bufferBytes n (s.slotCur n) (s.slotLen n)
/-- Clocks since slot `n` switched or was allocated. -/
def State.slotAge (s : State) (n : Nat) : Nat := s.fab - FMap.get (fun _ => 0) s.slotT n
/-- Slot `n` is stale (R226): TIMEOUT ≠ 0 and no switch for TIMEOUT × 10 µs. -/
def State.slotStale (s : State) (n : Nat) : Bool :=
  decide (s.rf (aSW_SLOT2 n) 31 16 ≠ 0 ∧ s.rf (aSW_SLOT2 n) 31 16 * 8000 ≤ s.slotAge n)
/-- STATUS of slot `n` as a reader sees it. -/
def State.slotStatus (s : State) (n : Nat) : Nat :=
  fld (putBit (s.reg (aSW_SLOT1 n)) 12 (s.slotStale n)) 15 0

/-- Slot `n` switches to a block: it is written into the other buffer, and CUR, LEN, MSEQ, STATUS and STAMP change together
(R225). -/
def State.switchSlot (s : State) (n : Nat) (b : Block) : State :=
  let o := 1 - s.slotCur n
  let s1 := { s with
    slotBuf := FMap.set (fun _ => []) s.slotBuf (2 * n + o) b.data
    slotOld := FMap.set (fun _ => none) s.slotOld n (if s.slotFull n then some (s.slotSeq n, s.slotLen n, fld (s.reg (aSW_SLOT1 n)) 15 0) else none)
    slotT := FMap.set (fun _ => 0) s.slotT n s.fab
    slotWait := FMap.set (fun _ => none) s.slotWait n none }
  ((s1.setReg (aSW_SLOT0 n) (BitVec.ofNat 32 (2 ^ 31 + b.data.length * 65536 + o * 32768 + 16384 + s.slotMax n))).setReg
    (aSW_SLOT1 n) (BitVec.ofNat 32 (b.mseq * 65536 + b.status))).setReg (aSW_SLOT3 n) (lo32 s.now)

/-! ### Descriptors -/

/-- KIND of descriptor `i`. -/
def State.dKind (s : State) (i : Nat) : Nat := s.rf (aMD_0 i) 31 28
/-- DIS of descriptor `i`. -/
def State.dDis (s : State) (i : Nat) : Bool := s.rb (aMD_0 i) 27
/-- TASK of descriptor `i`, or the station group of a device descriptor. -/
def State.dTask (s : State) (i : Nat) : Nat := s.rf (aMD_0 i) 23 20
/-- TARGET of descriptor `i`. -/
def State.dTarget (s : State) (i : Nat) : Nat := s.rf (aMD_0 i) 19 0
/-- The descriptors of partition `p`, in ascending index. -/
def State.descs (s : State) (p : Nat) : List Nat :=
  (List.range (s.rf (aPD_MOV_RANGE p) 31 16)).map (fun i => s.rf (aPD_MOV_RANGE p) 15 0 + i)
/-- The descriptors of partition `p` bound to task entry `t` that are not disabled and not empty. -/
def State.descsOf (s : State) (p t : Nat) : List Nat :=
  (s.descs p).filter (fun i => s.dTask i == taskCode t && !s.dDis i && s.dKind i != 0)

/-- Whether the cycle unit reads buffer `b` of slot `n`: it holds it while it copies that block (R137, R227). -/
def State.slotHeld (s : State) (n b : Nat) : Bool := s.cu.any (fun j => j.cur != [] && j.hold == some (2 * n + b))

/-- Slot `n` takes a block of a delivered frame, or not (R225): written now, or, where `now` is false or the buffer it must be written to is
held, at a later clock (R227, R228). -/
def State.takeBlock (s : State) (n : Nat) (b : Block) (now : Bool) : State :=
  if s.slotMax n < b.data.length then s.count aSW_CNT_BADBLK
  else if s.slotFull n ∧ ¬ (1 ≤ (b.mseq + 65536 - s.slotSeq n) % 65536 ∧ (b.mseq + 65536 - s.slotSeq n) % 65536 ≤ 32767) then
    s.count aSW_CNT_OLDBLK
  else if now && !s.slotHeld n (1 - s.slotCur n) then s.switchSlot n b
  else { s with slotWait := FMap.set (fun _ => none) s.slotWait n (some b) }

/-- A block held back by a reader's hold, or of a frame whose first blocks reached their slots before it, is written (R227, R228). -/
def execHeldSlotWrite (n : BitVec 14) (dt : Nat) (st : State) : Host.Outcome State Fault Refusal :=
  let s := st.elapse dt
  .next (match FMap.get (fun _ => none) s.slotWait n.toNat with
    | some b => if s.slotHeld n.toNat (1 - s.slotCur n.toNat) then s else s.switchSlot n.toNat b
    | none => s)

end Sys2Proof.Machine
end

