-- ==== Sys2Proof/Machine/FieldIo.lean ====
section
/-!
DEFINITION. The 24 V field channels (spec/10 R296 to R313). On a variant without field channels none of these events has an
effect (R4).
-/
namespace Sys2Proof.Machine

/-! ### Channels -/

/-- Channel `n` on the F-die. -/
def State.chan (s : State) (n : Nat) : Fio := FMap.get (fun _ => Fio.zero) s.fio n
/-- Set channel `n`. -/
def State.setChan (s : State) (n : Nat) (v : Fio) : State := { s with fio := FMap.set (fun _ => Fio.zero) s.fio n v }
/-- `FIO_CFG.DIR` of channel `n`: an output. -/
def State.isOut (s : State) (n : Nat) : Bool := s.rb (aFIO_CFG n) 31
/-- `FIO_FORCE.FORCED`. -/
def State.forced (s : State) : Bool := s.rb aFIO_FORCE 8
/-- A condition of group `g`: 0 UV, 1 OV, 2 OVC. -/
def State.grp (s : State) (g b : Nat) : Bool := s.rb aFIO_GSTAT (4 * g + b)
/-- The safe state of channel `n` while its output stands at `lvl`: off, on, or hold (a coded level, as STOPV). -/
def safeLevel (code : Nat) (lvl : Bool) : Bool := if code = 1 then true else if code = 2 then lvl else false
/-- An event of the field-channel group, its first channel in CH for DIAG and TP events. -/
def State.fioEvent (s : State) (bits : W) (ch : Nat) : State :=
  let s1 := if (bits &&& 9 ≠ 0) ∧ (s.reg aFIO_EVT &&& 9 = 0) then s.setRf aFIO_EVT 13 8 ch else s
  s1.groupEvent aFIO_EVT_SEQ aFIO_EVT aFIO_EVT_EN aFIO_EVT_VEC bits

/-- The switch of channel `n` conducts when it is an output driven on that neither protection nor an overvoltage of its group
holds off (R304, R306, R309). -/
def State.drivePin (s : State) (n : Nat) : State :=
  s.setRf aFIO_OUTST n n ((s.isOut n && (s.chan n).drive && !(s.chan n).prot && !s.grp (n / 8) 1).toNat)

/-- Every channel of a list is driven anew. -/
def State.drivePins (s : State) (ns : List Nat) : State := ns.foldl State.drivePin s

/-- Whether test-pulse output `t` has a fault (R307). -/
def State.tpFault (s : State) (t : Nat) : Bool := s.rb aFIO_TPST (4 * t) || s.rb aFIO_TPST (4 * t + 1)

/-- Channel `n` is fed from a test-pulse output under R303: TPEN, and no safety input (R320). -/
def State.isFed (s : State) (n : Nat) : Bool := s.rb (aFIO_CFG n) 23 && !s.rb (aFIO_OWN n) 30
/-- Channel `n` is fed from test-pulse output `t`. -/
def State.fedBy (s : State) (n t : Nat) : Bool := s.isFed n && s.rf (aFIO_CFG n) 22 21 == t

/-- The state that channel `n` reports: its settled level, and 0 while XS is 1 or a fault of its feeding test pulse lasts
(R303, R307). -/
def State.reportIn (s : State) (n : Nat) : State :=
  s.setRf aFIO_IN n n (((s.chan n).level && !(s.isFed n && (s.rb (aFIO_DIAG n) 8
    || s.tpFault (s.rf (aFIO_CFG n) 22 21)))).toNat)

/-- The filter of channel `n` ignores a sample at CLK_FAB count `t`: from the start of the latest low pulse of the output that feeds it until
100 µs after its end (R303). -/
def State.sampleIgnored (s : State) (n t : Nat) : Bool :=
  let u := s.rf (aFIO_CFG n) 22 21
  s.isFed n && (match FMap.get (fun _ => none) s.tpWin u with
    | some w => decide (w.1 ≤ t) && (s.tpLow.getLsbD u || decide (t < w.2 + 80000))
    | none => false)
/-- `k` consecutive samples, 10 µs apart and the last one now, show channel `n` at `level` (R301, R302): the state settles when as many as FILT
asks for show it, and a sample that differs restarts the count. DEDUCED (log 43). -/
def State.fioSamples (s : State) (n : Nat) (level : Bool) (k : Nat) : State :=
  let used := ((List.range k).filter (fun i => !s.sampleIgnored n (s.fab - 8000 * i))).length
  let s1 := if k = 0 then s else s.setRf (aFIO_DIAG n) 0 0 level.toNat
  let c := s1.chan n
  if used = 0 then s1
  else if level = c.level then s1.setChan n { c with cnt := 0 }
  else if 10 * s1.rf (aFIO_CFG n) 7 0 ≤ c.cnt + used then (s1.setChan n { c with level := level, cnt := 0 }).reportIn n
  else s1.setChan n { c with cnt := c.cnt + used }

/-- The last `samples` samples of a channel have shown `level`, `dt` clocks on: its filter counts them, and a new state that settles enters the
field image (R301). -/
def execFioInputSettled (ch : BitVec 5) (level : Bool) (samples : Nat) (dt : Nat) (st : State) : Host.Outcome State Fault Refusal :=
  let s := st.elapse dt
  .next (if s.fuse.field then s.fioSamples ch.toNat level samples else s)

/-! ### Commands (R298, R309) -/

/-- A fault of channel `n` holds it in its safe state (R365). -/
def State.chanHeld (s : State) (n : Nat) : Bool := FMap.get (fun _ => false) s.fioHeld n
/-- A command reaches channel `n` on the F-die: recorded, and applied unless FORCED. A command for an input has no effect. -/
def State.command (s : State) (n : Nat) (on : Bool) : State :=
  if s.isOut n then
    let s1 := s.setRf (aFIO_DIAG n) 1 1 on.toNat
    if s.forced || s.chanHeld n then s1.setChan n { s1.chan n with since := true }
    else (s1.setChan n { s1.chan n with drive := on, since := true }).drivePin n
  else s

/-- A command is passed to the die link. -/
def State.pass (s : State) (n : Nat) (on : Bool) : State := { s with fioLink := s.fioLink ++ [(n, on)] }

/-- The next command on the die link arrives; during an update pause it is kept for the pause's end (R443), and none crosses a
link that is down (R10). -/
def execFioOutputCommand (dt : Nat) (st : State) : Host.Outcome State Fault Refusal :=
  let s := st.elapse dt
  .next (if s.fPause ∨ s.rb aFIO_BSTAT 1 then s
    else match s.fioLink with
      | [] => s
      | (n, on) :: l => { s with fioLink := l }.command n on)

/-- The space code of an access by PF0 or the service port. -/
def farSpace (src : Nat) : Nat := if src = 0x3FE then 3 else 0

/-- A posted write of `src` to offset `a` of a far instance whose `BSTAT` lies at `bstat` (R48, R49, R51): refused with 0x03
while the instance is unreachable and 0x02 while BUSY is set. It takes effect at the far block at this command's time, and BUSY is set until
the block's answer, RWP_APPLIED, clears it (R10). No VF reaches such a register. DESIGN CHOICE (log 158). -/
def State.farWrite (s : State) (src a bstat : Nat) (k : State → State) : State :=
  if 1 ≤ src ∧ src ≤ 512 then s
  else if s.rb bstat 1 then s.refuse src (farSpace src) a 3
  else if s.rb bstat 0 then s.refuse src (farSpace src) a 2
  else (k s).setRf bstat 0 0 1

/-- Whether channel `n` is owned by the device. -/
def State.fioDev (s : State) (n : Nat) : Bool := s.rb (aFIO_OWN n) 31
/-- Partition that owns channel `n` while it is not the device's. -/
def State.fioOwner (s : State) (n : Nat) : Nat := s.rf (aFIO_OWN n) 9 0
/-- The device descriptors. -/
def State.devDescs (s : State) : List Nat :=
  (List.range (s.rf aMOV_DEV_RANGE 31 16)).map (fun i => s.rf aMOV_DEV_RANGE 15 0 + i)
/-- Whether an enabled SFOUT names channel `n` (R298): applied, not disabled, of an enabled group. -/
def State.sfoutNames (s : State) (n : Nat) : Bool :=
  s.devDescs.any (fun i => s.dKind i == 9 && !s.dDis i && s.dTarget i == n && s.rb (aSG_PERIOD (s.dTask i)) 31)

/-- `FIO_HOSTCMD` takes a value: the device's outputs that no SFOUT names get their commands (R298). -/
def State.hostCmd (s : State) (data : W) : State :=
  (List.range 32).foldl (fun s n =>
    if s.fioDev n && s.isOut n && !s.sfoutNames n then s.pass n (bitAt data n) else s) (s.setReg aFIO_HOSTCMD data)

/-- A write of `FIO_HOSTCMD` by `src`. -/
def execFioHostcmdWrite (src : BitVec 10) (data : W) (st : State) : Host.Outcome State Fault Refusal :=
  .next (if st.fuse.field then st.farWrite src.toNat aFIO_HOSTCMD aFIO_BSTAT (fun s => s.hostCmd data) else st)

/-! ### Protection and diagnostics (R304, R305) -/

/-- Set diagnostic bit `b` of channel `n`: it counts and records a DIAG event. DEDUCED (log 42). -/
def State.diag (s : State) (n b : Nat) : State :=
  ((s.setRf (aFIO_DIAG n) b b 1).count (aFIO_DCNT n)).fioEvent 1 n

/-- Channel `n` is turned off by protection, with bit `b` set; with LATCH = 1 it stays off with LOFF. Both conditions count; the DIAG event
of one clock is one (R45). -/
def State.protect (s : State) (n b : Nat) : State :=
  let s1 := ((s.setChan n { s.chan n with prot := true, cool := false, dclr := false }).setRf (aFIO_DIAG n) 2 2 0).diag n b
  (if s1.rb (aFIO_CFG n) 25 then (s1.setRf (aFIO_DIAG n) 7 7 1).count (aFIO_DCNT n) else s1).drivePin n

/-- Channel `n` may turn on again. -/
def State.unprotect (s : State) (n : Nat) : State :=
  ((s.setChan n { s.chan n with prot := false, cool := false, dclr := false }).setRf (aFIO_DIAG n) 7 7 0).drivePin n

/-- The load current of a conducting output reaches the current limit, or leaves it (`on` false): ILIM is live. -/
def execCurrentLimit (ch : BitVec 5) (on : Bool) (st : State) : Host.Outcome State Fault Refusal :=
  let n := ch.toNat
  .next (if on then (if st.rb aFIO_OUTST n ∧ st.rb (aFIO_DIAG n) 2 = false then st.diag n 2 else st)
    else st.setRf (aFIO_DIAG n) 2 2 0)

/-- An output that was 5 ms in current limit turns off with OVL. -/
def execOverloadTrip (ch : BitVec 5) (st : State) : Host.Outcome State Fault Refusal :=
  .next (if st.rb aFIO_OUTST ch.toNat ∧ st.rb (aFIO_DIAG ch.toNat) 2 then st.protect ch.toNat 5 else st)

/-- A switch reaches its shutdown temperature and turns off with THERM. -/
def execThermalShutdown (ch : BitVec 5) (st : State) : Host.Outcome State Fault Refusal :=
  .next (if st.rb aFIO_OUTST ch.toNat then st.protect ch.toNat 6 else st)

/-- The restart condition of a channel is met (100 ms and 15 K): an auto-restart output, or one that a DCLR named, turns on
again. -/
def execOutputRestart (ch : BitVec 5) (st : State) : Host.Outcome State Fault Refusal :=
  let n := ch.toNat
  .next (if (st.chan n).prot then
      (if st.rb (aFIO_CFG n) 25 = false ∨ (st.chan n).dclr then st.unprotect n
       else st.setChan n { st.chan n with cool := true })
    else st)

/-- Whether open-load and short-to-supply detection of channel `n` is suppressed. -/
def State.suppressed (s : State) (n : Nat) : Bool := s.grp (n / 8) 0 || s.grp (n / 8) 1

/-- Load current below 6 mA for 20 ms with the command at 1 and OLEN = 1. -/
def execOpenLoad (ch : BitVec 5) (st : State) : Host.Outcome State Fault Refusal :=
  let n := ch.toNat
  .next (if st.isOut n && (st.chan n).drive && st.rb (aFIO_CFG n) 24 && !st.suppressed n then st.diag n 3 else st)

/-- The pin of an output whose command is 0 above 12 V for 20 ms. -/
def execShortToSupply (ch : BitVec 5) (st : State) : Host.Outcome State Fault Refusal :=
  let n := ch.toNat
  .next (if st.isOut n && !(st.chan n).drive && !st.suppressed n then st.diag n 4 else st)

/-! ### Groups (R306) -/

/-- The channels of group `g`. -/
def groupChannels (g : Nat) : List Nat := (List.range 8).map (fun i => 8 * g + i)

/-- A condition of a group begins or ends. -/
def State.setGroup (s : State) (g b : Nat) (on : Bool) : State :=
  (s.setRf aFIO_GSTAT (4 * g + b) (4 * g + b) on.toNat).fioEvent 4 0

/-- The voltage and the load current of group `g` as measured when one of its conditions changes (`FIO_GMEAS`). DEDUCED (log 157). -/
def State.measured (s : State) (g : Nat) (meas : W) : State := if s.fuse.field then s.setReg (aFIO_GMEAS g) meas else s

/-- VFg below 18.0 V for 1 ms. -/
def execGroupUndervoltage (g : BitVec 2) (meas : W) (st0 : State) : Host.Outcome State Fault Refusal :=
  let st := st0.measured g.toNat meas
  .next (if st.fuse.field ∧ st.grp g.toNat 0 = false then st.setGroup g.toNat 0 true else st)

/-- VFg above 32 V for 10 µs: every output of the group is off. -/
def execGroupOvervoltage (g : BitVec 2) (meas : W) (st0 : State) : Host.Outcome State Fault Refusal :=
  let st := st0.measured g.toNat meas
  .next (if st.fuse.field ∧ st.grp g.toNat 1 = false then
      (st.setGroup g.toNat 1 true).drivePins (groupChannels g.toNat)
    else st)

/-- Group current above the trip level for 10 ms: every output of the group that is on turns off with OVL. -/
def execGroupOvercurrent (g : BitVec 2) (meas : W) (st0 : State) : Host.Outcome State Fault Refusal :=
  let st := st0.measured g.toNat meas
  .next (if st.fuse.field ∧ st.grp g.toNat 2 = false then
      (groupChannels g.toNat).foldl (fun s n => if s.rb aFIO_OUTST n then s.protect n 5 else s) (st.setGroup g.toNat 2 true)
    else st)

/-- A condition of a group ends (0 UV, 1 OV, 2 OVC): after OV its outputs take their commands. -/
def execGroupConditionEnd (g : BitVec 2) (bit : BitVec 2) (meas : W) (st0 : State) : Host.Outcome State Fault Refusal :=
  let st := st0.measured g.toNat meas
  .next (if bit.toNat < 3 ∧ st.grp g.toNat bit.toNat then
      (st.setGroup g.toNat bit.toNat false).drivePins (groupChannels g.toNat)
    else st)

/-! ### Test pulses (R303, R307) -/

/-- Every input fed by test pulse `t` reports anew. -/
def State.reportFed (s : State) (t : Nat) : State :=
  (List.range 32).foldl (fun s n => if s.fedBy n t then s.reportIn n else s) s

/-- Whether TPn drives: enabled and not turned off by an overload. -/
def State.tpOn (s : State) (t : Nat) : Bool := s.rb (aTP_CFG t) 31 && !s.rb aFIO_TPST (4 * t + 1)
/-- Whether the applied safety set uses TPn (R336). -/
def State.tpUsed (s : State) (n : Nat) : Bool := decide (fld (FMap.get (fun _ => 0) s.sfSet 0x24C) (4 * n + 3) (4 * n) ≠ 0)
/-- Whether a safety set is applied: it fixes `TP_PERIOD` (R336). -/
def State.sfApplied (s : State) : Bool := decide (s.rf aSF_UNIT 1 0 ≠ 0)
/-- TPn takes the configuration that stands in its register: ON follows EN, a disabled output shows no fault and no pulse. -/
def State.tpTake (s : State) (n : Nat) : State :=
  if s.rb (aTP_CFG n) 31 then s.setRf aFIO_TPST (4 * n + 2) (4 * n + 2) (!s.rb aFIO_TPST (4 * n + 1)).toNat
  else { s.setRf aFIO_TPST (4 * n + 2) (4 * n) 0 with tpLow := s.tpLow &&& ~~~((1 : BitVec 4) <<< n) }
/-- `TP_PERIOD` takes a value: with another PERIOD the places of the pulses are open again. -/
def State.tpPeriod (s : State) (w : W) : State :=
  { s.setReg aTP_PERIOD w with tpLast := if s.reg aTP_PERIOD = w then s.tpLast else none }

/-- F-die time `t` lies within ±3 % of `w` CLK_FAB clocks (R21). -/
def nearClocks (w t : Nat) : Bool := decide (97 * w ≤ 100 * t ∧ 100 * t ≤ 103 * w)
/-- Whether the low pulse of TPt may start now (R307): its place k × PERIOD + t × PERIOD / 4, told from the pulse that began last, within the
tolerance of R21; where none has begun under this PERIOD, the place of the first is open. DEDUCED (log 43). -/
def State.tpTurn (s : State) (t : Nat) : Bool :=
  match s.tpLast with
  | none => true
  | some (m, at_) =>
    let q := s.rf aTP_PERIOD 9 0 * 200000
    let e := 100 * (s.fab - at_)
    let lo := max 1 ((e + 103 * q - 1) / (103 * q))
    decide (lo + (t + 8 - m % 4 - lo % 4) % 4 ≤ e / (97 * q))
/-- WIDTH of TPt in CLK_FAB clocks. -/
def State.tpWidth (s : State) (t : Nat) : Nat := s.rf (aTP_CFG t) 3 0 * 40000
/-- CLK_FAB clocks since the low pulse of TPt began. -/
def State.tpSince (s : State) (t : Nat) : Nat := s.fab - ((FMap.get (fun _ => none) s.tpWin t).getD (0, 0)).1

/-- TPn begins its low pulse, `dt` clocks on: no other pulse lasts, and its turn has come. -/
def execTpPulseStart (n : BitVec 2) (dt : Nat) (st : State) : Host.Outcome State Fault Refusal :=
  let s := st.elapse dt
  let t := n.toNat
  .next (if s.tpOn t ∧ s.tpLow = 0 ∧ s.tpTurn t then
      { s with tpLow := (1 : BitVec 4) <<< t, tpWin := FMap.set (fun _ => none) s.tpWin t (some (s.fab, s.fab)), tpLast := some (t, s.fab) }
    else s)

/-- The low pulse of TPn has lasted WIDTH, `dt` clocks on; an output that stayed above 5 V through it (`high`) sets SHORT, a good pulse clears
it. -/
def execTpPulseEnd (n : BitVec 2) (high : Bool) (dt : Nat) (st : State) : Host.Outcome State Fault Refusal :=
  let s := st.elapse dt
  let t := n.toNat
  .next (if s.tpLow.getLsbD t ∧ nearClocks (s.tpWidth t) (s.tpSince t) then
      let s1 := { s with
        tpLow := s.tpLow &&& ~~~((1 : BitVec 4) <<< t), tpWin := FMap.set (fun _ => none) s.tpWin t (some (s.fab - s.tpSince t, s.fab)) }
      let s2 := s1.setRf aFIO_TPST (4 * t) (4 * t) high.toNat
      (if high then s2.fioEvent 8 (32 + t) else s2).reportFed t
    else s)

/-- One check of channel `n` 20 µs before the end of its feeding pulse: two consecutive high checks set XS, two low ones clear
it. DEDUCED (log 42). -/
def State.xsCheck (s : State) (n : Nat) (high : Bool) : State :=
  let c := s.chan n
  let c' := if high then { c with high := min (c.high + 1) 2, low := 0 } else { c with low := min (c.low + 1) 2, high := 0 }
  let s1 := s.setChan n c'
  if c'.high = 2 ∧ s.rb (aFIO_DIAG n) 8 = false then ((s1.setRf (aFIO_DIAG n) 8 8 1).fioEvent 1 n).reportIn n
  else if c'.low = 2 ∧ s.rb (aFIO_DIAG n) 8 then (s1.setRf (aFIO_DIAG n) 8 8 0).reportIn n
  else s1

/-- 20 µs before the end of a low pulse of TPn, `dt` clocks on, every input that it feeds is checked: bit i of `pins` says that FIOi reads at or
above the certain-off level. -/
def execCrossShortCheck (n : BitVec 2) (pins : W) (dt : Nat) (st : State) : Host.Outcome State Fault Refusal :=
  let s := st.elapse dt
  let t := n.toNat
  .next (if s.tpLow.getLsbD t ∧ nearClocks (s.tpWidth t - 16000) (s.tpSince t) then
      (List.range 32).foldl (fun s i =>
        if s.fedBy i t then (s.setRf (aFIO_DIAG i) 0 0 (bitAt pins i).toNat).xsCheck i (bitAt pins i) else s) s
    else s)

/-- The current of TPn exceeds 0.15 A: it turns off with OVL. -/
def execTpOverload (n : BitVec 2) (st : State) : Host.Outcome State Fault Refusal :=
  let t := n.toNat
  .next (if st.tpOn t then
      ((((st.setRf aFIO_TPST (4 * t + 1) (4 * t + 1) 1).setRf aFIO_TPST (4 * t + 2) (4 * t + 2) 0).fioEvent 8 (32 + t)).reportFed t)
    else st)

/-- An overloaded TPn tries again. -/
def execTpRetry (n : BitVec 2) (st : State) : Host.Outcome State Fault Refusal :=
  let t := n.toNat
  .next (if st.rb (aTP_CFG t) 31 ∧ st.rb aFIO_TPST (4 * t + 1) then
      ((st.setRf aFIO_TPST (4 * t + 1) (4 * t + 1) 0).setRf aFIO_TPST (4 * t + 2) (4 * t + 2) 1).reportFed t
    else st)

/-! ### Forcing (R308 to R311) -/

/-- Channel `n` takes its safe state: hold keeps the level it has. DEDUCED (log 130). -/
def State.forceChan (s : State) (n : Nat) : State :=
  (s.setChan n { s.chan n with
    drive := safeLevel (s.rf (aFIO_CFG n) 29 28) (s.rb aFIO_OUTST n), since := false }).drivePin n

/-- A forcing cause appears (bit 0 HB, 1 ALIVE, 2 FATAL, 3 LRST): FORCED is set and every output takes its safe state. -/
def State.forceCause (s : State) (b : Nat) : State :=
  if s.fuse.field = false then s
  else
    let was := s.forced
    let s1 := if s.rb aFIO_FORCE b ∧ was then s else (s.setReg aFIO_FORCE (s.reg aFIO_FORCE ||| BitVec.ofNat 32 (256 + 2 ^ b))).fioEvent 2 0
    let s2 := { s1 with forceHist := (if was then s1.forceHist else 0) ||| BitVec.ofNat 4 (2 ^ b) }
    if was then s2 else (List.range 32).foldl State.forceChan s2

/-- A forcing cause ends: its bit reads 0, FORCED stays. -/
def State.causeEnds (s : State) (b : Nat) : State :=
  if s.rb aFIO_FORCE b then (s.setRf aFIO_FORCE b b 0).fioEvent 2 0 else s

/-- FORCED clears: an output that recorded a command since forcing began takes it, every other keeps its safe state (R310). -/
def State.unforce (s : State) : State :=
  let s1 := (s.setRf aFIO_FORCE 8 8 0).fioEvent 2 0
  (List.range 32).foldl (fun s n =>
    if (s.chan n).since && !s.chanHeld n then (s.setChan n { s.chan n with drive := s.rb (aFIO_DIAG n) 1 }).drivePin n else s) s1

/-- A heartbeat reaches the F-die (R308, R310). DEDUCED (log 82). -/
def execHeartbeatReceived (dt : Nat) (st : State) : Host.Outcome State Fault Refusal :=
  let s := st.elapse dt
  .next (if s.fuse.field = false ∨ s.rb aFIO_BSTAT 1 ∨ s.hbLink = 0 then s
    else
      let s1 : State := { s.causeEnds 0 with hbLink := s.hbLink - 1, hbRun := s.hbRun + 1, lastHb := s.fab }
      if s1.forced ∧ s1.rb aFIO_HB 31 ∧ s1.rf aFIO_FORCE 3 0 = 0 ∧ s1.forceHist = 1 ∧ 10 ≤ s1.hbRun then s1.unforce else s1)

/-- No heartbeat for HBTO, F-die time within ±3 % (R308, R21). DEDUCED (log 137). -/
def execHeartbeatTimeout (dt : Nat) (st : State) : Host.Outcome State Fault Refusal :=
  let s := st.elapse dt
  .next (if s.rf aFIO_HB 9 0 * 776000 ≤ s.fab - s.lastHb then { s.forceCause 0 with hbRun := 0 } else s)

/-- RECOVER (R310). -/
def State.recover (s : State) : State :=
  if s.rf aFIO_FORCE 3 0 ≠ 0 then s.setReg aFIO_CMD_STAT 1
  else (if s.forced then s.unforce else s).setReg aFIO_CMD_STAT 0

/-- `FIO_CMD` RECOVER by `src`. -/
def execFioRecover (src : BitVec 10) (st : State) : Host.Outcome State Fault Refusal :=
  .next (if st.fuse.field then st.farWrite src.toNat aFIO_CMD aFIO_BSTAT State.recover else st)

/-- DCLR of channel `n`: the latched bits clear; a latched-off channel turns on once its restart condition is met (R304). -/
def State.dclrChan (s : State) (n : Nat) : State :=
  let s1 := s.setReg (aFIO_DIAG n) (s.reg (aFIO_DIAG n) &&& 0x187)
  let c := s1.chan n
  if c.prot ∧ s1.rb (aFIO_CFG n) 25 then (if c.cool then s1.unprotect n else s1.setChan n { c with dclr := true })
  else s1.setRf (aFIO_DIAG n) 7 7 0

/-- DCLR of the channels of `FIO_ARG`. -/
def State.dclrAll (s : State) : State :=
  ((List.range 32).foldl (fun s n => if s.rb aFIO_ARG n then s.dclrChan n else s) s).setReg aFIO_CMD_STAT 0

/-- `FIO_CMD` DCLR by `src` (R304, R305). -/
def execDclr (src : BitVec 10) (st : State) : Host.Outcome State Fault Refusal :=
  .next (if st.fuse.field then st.farWrite src.toNat aFIO_CMD aFIO_BSTAT State.dclrAll else st)

end Sys2Proof.Machine
end

