-- ==== Sys2Proof/Machine/Fp.lean ====
section
/-!
DEFINITION. Binary32 arithmetic of the scan engines (spec/03 R84, R85, table "Binary32 results at the edges"): IEEE 754,
round to nearest with ties to even, subnormals in full, canonical NaN 0x7FC0_0000. Computed exactly over the integers
and rounded once.
-/
namespace Sys2Proof.Machine

/-- A binary32 result with what the instruction reports: invalid, divide by zero, inexact. -/
structure FpRes where
  val : W
  nv : Bool
  dz : Bool
  nx : Bool
  deriving DecidableEq, Repr

/-- The canonical NaN. -/
def fpNaN : W := 0x7FC00000
/-- Sign bit. -/
def fpSign (a : W) : Bool := bitAt a 31
/-- Exponent field. -/
def fpExp (a : W) : Nat := fld a 30 23
/-- Fraction field. -/
def fpFrac (a : W) : Nat := fld a 22 0
/-- A NaN. -/
def fpIsNaN (a : W) : Bool := decide (fpExp a = 255 ∧ fpFrac a ≠ 0)
/-- A signalling NaN: fraction bit 22 clear. -/
def fpIsSNaN (a : W) : Bool := fpIsNaN a && !bitAt a 22
/-- An infinity. -/
def fpIsInf (a : W) : Bool := decide (fpExp a = 255 ∧ fpFrac a = 0)
/-- A zero. -/
def fpIsZero (a : W) : Bool := decide (fpExp a = 0 ∧ fpFrac a = 0)
/-- The infinity of a sign. -/
def fpInf (s : Bool) : W := if s then 0xFF800000 else 0x7F800000
/-- The zero of a sign. -/
def fpZero (s : Bool) : W := if s then 0x80000000 else 0

/-- The significand of a finite value as an integer. -/
def fpMant (a : W) : Nat := if fpExp a = 0 then fpFrac a else 2 ^ 23 + fpFrac a
/-- The power of two of the significand's last bit, biased by 149 so that it is a natural number. -/
def fpScale (a : W) : Nat := fpExp a - 1

/-- Round to nearest, ties to even: `m / 2^k`, with `st` saying that the exact value lies a little above `m`. -/
def rne (m k : Nat) (st : Bool) : Nat × Bool :=
  let q := m / 2 ^ k
  let r := m % 2 ^ k
  let inexact := decide (r ≠ 0) || st
  let up := decide (2 ^ k < 2 * r) || (decide (2 * r = 2 ^ k ∧ 0 < k) && (st || decide (q % 2 = 1)))
  (if up then q + 1 else q, inexact)

/-- Pack a rounded significand whose last bit has scale `q` (a power of two biased by 149). -/
def fpPack (s : Bool) (m q : Nat) (nx : Bool) : FpRes :=
  let (m', q') := if m = 2 ^ 24 then (2 ^ 23, q + 1) else (m, q)
  if m' < 2 ^ 23 then { val := BitVec.ofNat 32 (s.toNat * 2 ^ 31 + m'), nv := false, dz := false, nx := nx }
  else if 254 ≤ q' then { val := fpInf s, nv := false, dz := false, nx := true }
  else { val := BitVec.ofNat 32 (s.toNat * 2 ^ 31 + (q' + 1) * 2 ^ 23 + (m' - 2 ^ 23)), nv := false, dz := false, nx := nx }

/-- Round the exact value `m × 2^(e - bias)` (plus a little when `st`) to binary32, with `bias` at least 149: the last
bit of the result has power `q - 149`. -/
def fpRound (s : Bool) (m e bias : Nat) (st : Bool) : FpRes :=
  if m = 0 ∧ st = false then { val := fpZero s, nv := false, dz := false, nx := false }
  else
    let q := Nat.log2 m + e - 23 - (bias - 149)
    let sh := q + (bias - 149) - e
    if sh = 0 then
      -- the exact value needs no more bits than the significand has: scale up
      fpPack s (m * 2 ^ (e - (q + (bias - 149)))) q st
    else
      let r := rne m sh st
      fpPack s r.1 q r.2

/-- The result for NaN operands: canonical NaN, invalid for a signalling one. -/
def fpNaNRes (a b : W) : FpRes := { val := fpNaN, nv := fpIsSNaN a || fpIsSNaN b, dz := false, nx := false }
/-- An invalid operation. -/
def fpInvalid : FpRes := { val := fpNaN, nv := true, dz := false, nx := false }
/-- An exact result. -/
def fpExact (v : W) : FpRes := { val := v, nv := false, dz := false, nx := false }

/-- A + B. -/
def fpAdd (a b : W) : FpRes :=
  if fpIsNaN a || fpIsNaN b then fpNaNRes a b
  else if fpIsInf a && fpIsInf b then (if fpSign a = fpSign b then fpExact a else fpInvalid)
  else if fpIsInf a then fpExact a
  else if fpIsInf b then fpExact b
  else if fpIsZero a && fpIsZero b then fpExact (if fpSign a && fpSign b then fpZero true else fpZero false)
  else
    let e := min (fpScale a) (fpScale b)
    let ma : Int := (fpMant a * 2 ^ (fpScale a - e) : Nat)
    let mb : Int := (fpMant b * 2 ^ (fpScale b - e) : Nat)
    let sum := (if fpSign a then -ma else ma) + (if fpSign b then -mb else mb)
    fpRound (decide (sum < 0)) sum.natAbs e 149 false

/-- A with its sign changed. -/
def fpNeg (a : W) : W := a ^^^ 0x80000000
/-- A − B; a NaN operand keeps what makes it signalling. -/
def fpSub (a b : W) : FpRes := fpAdd a (fpNeg b)

/-- A × B. -/
def fpMul (a b : W) : FpRes :=
  let s := fpSign a != fpSign b
  if fpIsNaN a || fpIsNaN b then fpNaNRes a b
  else if (fpIsInf a && fpIsZero b) || (fpIsZero a && fpIsInf b) then fpInvalid
  else if fpIsInf a || fpIsInf b then fpExact (fpInf s)
  else fpRound s (fpMant a * fpMant b) (fpScale a + fpScale b) 298 false

/-- A ÷ B. -/
def fpDiv (a b : W) : FpRes :=
  let s := fpSign a != fpSign b
  if fpIsNaN a || fpIsNaN b then fpNaNRes a b
  else if (fpIsInf a && fpIsInf b) || (fpIsZero a && fpIsZero b) then fpInvalid
  else if fpIsInf a then fpExact (fpInf s)
  else if fpIsInf b then fpExact (fpZero s)
  else if fpIsZero b then { val := fpInf s, nv := false, dz := true, nx := false }
  else if fpIsZero a then fpExact (fpZero s)
  else
    -- 2^50 more bits than needed, the remainder as the sticky bit
    let n := fpMant a * 2 ^ 50
    fpRound s (n / fpMant b) (fpScale a + 254) (fpScale b + 50 + 254) (decide (n % fpMant b ≠ 0))

/-- Binary32 nearest to signed A. -/
def fpOfInt (a : W) : FpRes := fpRound (decide (a.toInt < 0)) a.toInt.natAbs 149 149 false

/-- Signed integer nearest to A, saturating. -/
def fpToInt (a : W) : FpRes :=
  if fpIsNaN a then { val := 0, nv := true, dz := false, nx := false }
  else if fpIsInf a then { val := if fpSign a then 0x80000000 else 0x7FFFFFFF, nv := true, dz := false, nx := false }
  else
    let r := if 149 ≤ fpScale a then (fpMant a * 2 ^ (fpScale a - 149), false) else rne (fpMant a) (149 - fpScale a) false
    if fpSign a = false ∧ 2 ^ 31 ≤ r.1 then { val := 0x7FFFFFFF, nv := true, dz := false, nx := false }
    else if fpSign a ∧ 2 ^ 31 < r.1 then { val := 0x80000000, nv := true, dz := false, nx := false }
    else { val := if fpSign a then -(BitVec.ofNat 32 r.1) else BitVec.ofNat 32 r.1, nv := false, dz := false, nx := r.2 }

/-- The order of two values that are not NaN: less, equal or greater. -/
def fpLess (a b : W) : Bool :=
  if fpIsZero a && fpIsZero b then false
  else if fpSign a && !fpSign b then true
  else if !fpSign a && fpSign b then false
  else if fpSign a then decide (fld b 30 0 < fld a 30 0) else decide (fld a 30 0 < fld b 30 0)

/-- Equality of two values that are not NaN: the zeros are equal (R85). -/
def fpEqual (a b : W) : Bool := (fpIsZero a && fpIsZero b) || decide (a = b)

end Sys2Proof.Machine
end

