-- ==== Sys2Proof/Machine/Flags.lean ====
section
/-!
DEFINITION. The flag computations and results of the arithmetic, shift, compare and binary32 instructions
(spec/03 R81 to R86) and how an instruction puts its results in flight (spec/04 R95 to R97).
-/
namespace Sys2Proof.Machine

/-! ### Results in flight -/

/-- A write of A in flight for `d` clocks; an earlier one is cancelled (R96). -/
def Ctx.putA (c : Ctx) (v : W) (d : Nat) : Ctx := { c with inA := some (v, d) }
/-- A write of X: 2 clocks as data, one more for addressing. -/
def Ctx.putX (c : Ctx) (v : BitVec 24) : Ctx := { c with inX := some (v, 2) }
/-- A write of Y. -/
def Ctx.putY (c : Ctx) (v : BitVec 24) : Ctx := { c with inY := some (v, 2) }
/-- A write of Z, N, C and OV: those in `listed` take `vals`, the others their value at issue (R66, R96). DEDUCED (log 178). -/
def Ctx.putF (c : Ctx) (listed vals : BitVec 8) (d : Nat) : Ctx :=
  { c with inF := some (((c.f &&& ~~~listed) ||| (vals &&& listed)).truncate 4, d) }
/-- Sticky flags that are set when the result lands (R97). -/
def Ctx.stick (c : Ctx) (m : BitVec 8) (d : Nat) : Ctx :=
  if m &&& fSticky = 0 then c else { c with stk := c.stk ++ [{ isSet := true, mask := m &&& fSticky, left := d }] }
/-- The clear of CLRS (R97). -/
def Ctx.unstick (c : Ctx) (d : Nat) : Ctx :=
  { c with stk := c.stk ++ [{ isSet := false, mask := fSticky, left := d }] }

/-- A result: its value and the flags it gives. -/
structure Res where
  val : W
  fl : BitVec 8
  deriving DecidableEq, Repr

/-- One flag where a condition holds. -/
def flagIf (b : Bool) (m : BitVec 8) : BitVec 8 := if b then m else 0
/-- Z and N of a 32-bit value (R81). -/
def znOf (v : W) : BitVec 8 := flagIf (decide (v = 0)) fZ ||| flagIf (bitAt v 31) fN

/-- Put a result of listed flags `l` into A and F at distance `d`. DEDUCED (log 178). -/
def Ctx.putRes (c : Ctx) (r : Res) (l : BitVec 8) (d : Nat) : Ctx :=
  ((c.putA r.val d).putF l r.fl d).stick r.fl d
/-- Put flags alone. -/
def Ctx.putFlags (c : Ctx) (fl l : BitVec 8) (d : Nat) : Ctx := (c.putF l fl d).stick fl d

/-! ### Integer arithmetic -/

/-- Z, N, C and OV. -/
def fZNCV : BitVec 8 := 0x0F
/-- Z and N. -/
def fZN : BitVec 8 := 0x03
/-- Z, N and C. -/
def fZNC : BitVec 8 := 0x07
/-- Z, N and OV. -/
def fZNV : BitVec 8 := 0x0B

/-- A + m + carry: C is the carry out of bit 31, OV signed overflow, which also sets OS. -/
def addRes (a m : W) (cin : Bool) : Res :=
  let v := a + m + BitVec.ofNat 32 cin.toNat
  let ov := decide (a.toInt + m.toInt + cin.toNat ≠ v.toInt)
  { val := v, fl := znOf v ||| flagIf (decide (2 ^ 32 ≤ a.toNat + m.toNat + cin.toNat)) fC ||| flagIf ov fOV ||| flagIf ov fOS }

/-- A − m − borrow: C is the borrow. -/
def subRes (a m : W) (cin : Bool) : Res :=
  let v := a - m - BitVec.ofNat 32 cin.toNat
  let ov := decide (a.toInt - m.toInt - cin.toNat ≠ v.toInt)
  { val := v, fl := znOf v ||| flagIf (decide (a.toNat < m.toNat + cin.toNat)) fC ||| flagIf ov fOV ||| flagIf ov fOS }

/-- The low word of the signed product; OV when the product does not fit. -/
def mulRes (a m : W) : Res :=
  let v := a * m
  let ov := decide (a.toInt * m.toInt ≠ v.toInt)
  { val := v, fl := znOf v ||| flagIf ov fOV ||| flagIf ov fOS }

/-- A ÷ m truncated towards zero (R82, table "Integer results at the edges"). -/
def divRes (a m : W) : Res :=
  if m = 0 then
    let v : W := if a = 0 then 0 else if bitAt a 31 then 0x80000000 else 0x7FFFFFFF
    { val := v, fl := znOf v ||| fDZ }
  else
    let v := BitVec.ofInt 32 (a.toInt.tdiv m.toInt)
    let ov := decide (a = 0x80000000 ∧ m = BitVec.allOnes 32)
    { val := v, fl := znOf v ||| flagIf ov fOV ||| flagIf ov fOS }

/-- The remainder, with the sign of the dividend; OV is written 0 (R81). -/
def modRes (a m : W) : Res :=
  if m = 0 then { val := a, fl := znOf a ||| fDZ }
  else
    let v := BitVec.ofInt 32 (a.toInt.tmod m.toInt)
    { val := v, fl := znOf v }

/-- A value with Z and N. -/
def logicRes (v : W) : Res := { val := v, fl := znOf v }

/-- 0 − A; C when A is not zero. -/
def negRes (a : W) : Res := subRes 0 a false

/-! ### Shifts and rotates (R83, table "Shift results") -/

/-- A result with Z and N and a given C. -/
def shiftOut (v : W) (c : Bool) : Res := { val := v, fl := znOf v ||| flagIf c fC }

/-- SHL by `n`, C kept when `n` is 0. -/
def shlRes (a : W) (n : Nat) (c : Bool) : Res :=
  if n = 0 then shiftOut a c
  else if n ≤ 31 then shiftOut (a <<< n) (bitAt a (32 - n))
  else shiftOut 0 (decide (n = 32) && bitAt a 0)
/-- SHR by `n`. -/
def shrRes (a : W) (n : Nat) (c : Bool) : Res :=
  if n = 0 then shiftOut a c
  else if n ≤ 31 then shiftOut (a >>> n) (bitAt a (n - 1))
  else shiftOut 0 (decide (n = 32) && bitAt a 31)
/-- SAR by `n`. -/
def sarRes (a : W) (n : Nat) (c : Bool) : Res :=
  if n = 0 then shiftOut a c
  else if n ≤ 31 then shiftOut (a.sshiftRight n) (bitAt a (n - 1))
  else shiftOut (if bitAt a 31 then BitVec.allOnes 32 else 0) (bitAt a 31)
/-- ROL by `n` mod 32; C is bit 0 of the result. -/
def rolRes (a : W) (n : Nat) (c : Bool) : Res :=
  if n % 32 = 0 then shiftOut a c else shiftOut (a.rotateLeft (n % 32)) (bitAt (a.rotateLeft (n % 32)) 0)
/-- ROR by `n` mod 32; C is bit 31 of the result. -/
def rorRes (a : W) (n : Nat) (c : Bool) : Res :=
  if n % 32 = 0 then shiftOut a c else shiftOut (a.rotateRight (n % 32)) (bitAt (a.rotateRight (n % 32)) 31)

/-! ### Binary32 (R84, R85) -/

/-- The flags of a binary32 result: Z for a zero, N for a set sign of a value that is not a NaN. -/
def fpFlags (r : FpRes) : BitVec 8 :=
  flagIf (fpIsZero r.val) fZ ||| flagIf (fpSign r.val && !fpIsNaN r.val) fN ||| flagIf r.nv fNV ||| flagIf r.dz fDZ
    ||| flagIf r.nx fNX
/-- A binary32 result with its flags. -/
def fpResOf (r : FpRes) : Res := { val := r.val, fl := fpFlags r }
/-- FTOI: Z and N describe the integer. -/
def ftoiRes (a : W) : Res :=
  let r := fpToInt a
  { val := r.val, fl := znOf r.val ||| flagIf r.nv fNV ||| flagIf r.nx fNX }
/-- FCMP: one of Z, N, C and OV; NV for a signalling NaN. -/
def fcmpFlags (a m : W) : BitVec 8 :=
  if fpIsNaN a || fpIsNaN m then fOV ||| flagIf (fpIsSNaN a || fpIsSNaN m) fNV
  else if fpEqual a m then fZ
  else if fpLess a m then fN
  else fC

/-! ### Conditions of CND -/

/-- Condition `cc` of F (table "Conditions of CND"). -/
def condition (cc : BitVec 4) (f : BitVec 8) : Bool :=
  let z := f.getLsbD 0
  let n := f.getLsbD 1
  let c := f.getLsbD 2
  let v := f.getLsbD 3
  match cc.toNat with
  | 0x0 => z
  | 0x1 => !z
  | 0x2 => n != v
  | 0x3 => n == v
  | 0x4 => !z && (n == v)
  | 0x5 => z || (n != v)
  | 0x6 => c
  | 0x7 => !c
  | 0x8 => !c && !z
  | 0x9 => c || z
  | 0xA => n
  | 0xB => n || z
  | 0xC => c
  | 0xD => c || z
  | 0xE => v
  | _ => !v

end Sys2Proof.Machine
end

