-- ==== Sys2Proof/Machine/Operands.lean ====
section
/-!
DEFINITION. The operand forms of the scan engines: address spaces, effective addresses (R68, R69, R72) and the reads and
writes of bits and words with their traps (R70, R74, R98).
-/
namespace Sys2Proof.Machine

/-- The four address spaces, coded as `ENG_TRAP_ADDR.SPACE`. -/
inductive Space where
  | bit | word | image | prog
  deriving DecidableEq, Repr

/-- The code of a space. -/
def Space.code : Space → Nat
  | .bit => 0 | .word => 1 | .image => 2 | .prog => 3

/-- The modulus of a space (table "Address spaces of a partition"). -/
def Space.modulus : Space → Nat
  | .bit => 2 ^ 20 | .word => 2 ^ 21 | .image => 2 ^ 17 | .prog => 2 ^ 20

/-- What an instruction traps with: cause, space and effective address of the capture, the BAR2 offset of a bad store
word, an uncorrectable translation entry, and whether the active decode-table bank is at fault (R110). -/
structure Trap where
  cause : Nat
  space : Nat
  ea : Nat
  bad : Option Nat
  key : Option Nat
  dtab : Bool
  deriving DecidableEq, Repr

/-- A trap with no address (causes 0x05 to 0x0A). -/
def Trap.plain (c : Nat) : Trap := { cause := c, space := 0, ea := 0, bad := none, key := none, dtab := false }
/-- A translation fault (0x01 in program space, 0x02 elsewhere). -/
def Trap.unmapped (sp : Space) (ea : Nat) (key : Option Nat) : Trap :=
  { cause := if sp = .prog then 1 else 2, space := sp.code, ea := ea, bad := none, key := key, dtab := false }
/-- An uncorrectable store error (0x03 in program space, 0x04 elsewhere). -/
def Trap.store (sp : Space) (ea a : Nat) : Trap :=
  { cause := if sp = .prog then 3 else 4, space := sp.code, ea := ea, bad := some a, key := none, dtab := false }

/-- The operand fields of an instruction word: MODE, S and word 1. -/
structure Opnd where
  mode : BitVec 2
  s : BitVec 6
  w1 : BitVec 14
  deriving DecidableEq, Repr

/-- Words of a primary-opcode instruction: two in mode 0b11. -/
def Opnd.words (o : Opnd) : Nat := if o.mode = 3 then 2 else 1

/-- The effective address of R72. -/
def Opnd.ea (o : Opnd) (c : Ctx) (sp : Space) : Nat :=
  (if o.mode = 0 then o.s.toNat
   else if o.mode = 1 then (c.xa + o.s.setWidth 24).toNat
   else if o.mode = 2 then (c.ya + o.s.setWidth 24).toNat
   else o.s.toNat * 2 ^ 14 + o.w1.toNat) % sp.modulus

/-- Sign extension of word 1 (sext(imm14)). -/
def Opnd.sext (o : Opnd) : W := o.w1.signExtend 32
/-- Zero extension of word 1 (zext(imm14)). -/
def Opnd.zext (o : Opnd) : W := o.w1.setWidth 32

/-- The word that holds bit `b` of bit space and its place in it: image space or not, word, bit (R68). -/
def bitPlace (b : Nat) : Bool × Nat × Nat :=
  if b < 0x40000 then (true, b / 32, b % 32)
  else if b < 0x80000 then (true, 0x10000 + (b - 0x40000) / 32, b % 32)
  else (false, (b - 0x80000) / 32, b % 32)

/-- The word that a store issued one clock before left behind for this read (R98). DEDUCED (log 24). -/
def Ctx.recorded (c : Ctx) (img : Bool) (w : Nat) : Option W :=
  match c.srec with
  | some r => if r.next && r.image == img then FMap.find? r.words w else none
  | none => none

/-- The BAR2 offset of a mapped word of word or image space, or the trap an access to it raises; `sp` and `ea` go into
the capture. -/
def State.locate (s : State) (p : Nat) (img : Bool) (w : Nat) (sp : Space) (ea : Nat) : Except Trap Nat :=
  match s.look p (if img then 2 else 1) w with
  | .at a => .ok a
  | .unmapped => .error (Trap.unmapped sp ea none)
  | .corrupt k => .error (Trap.unmapped sp ea (some k))

/-- Read a word of word or image space under the old-value rule. -/
def State.readW (s : State) (c : Ctx) (p : Nat) (img : Bool) (w : Nat) (sp : Space) (ea : Nat) : Except Trap W :=
  (s.locate p img w sp ea).bind (fun a =>
    if s.isBad a then .error (Trap.store sp ea a) else .ok ((c.recorded img w).getD (s.rdMem a)))

/-- Read a word operand of word space. -/
def State.readWord (s : State) (c : Ctx) (p w : Nat) : Except Trap W := s.readW c p false w .word w
/-- Read a word operand of image space. -/
def State.readImage (s : State) (c : Ctx) (p w : Nat) : Except Trap W := s.readW c p true w .image w
/-- Read a bit operand. -/
def State.readBit (s : State) (c : Ctx) (p b : Nat) : Except Trap Bool :=
  let pl := bitPlace b
  (s.readW c p pl.1 pl.2.1 .bit b).map (fun v => bitAt v pl.2.2)

/-- A store to one word: the space, the word address, the BAR2 offset, the contents at issue and the new contents. -/
structure MemWr where
  image : Bool
  w : Nat
  a : Nat
  old : W
  new : W
  deriving DecidableEq, Repr

/-- Store a word of word or image space. -/
def State.storeW (s : State) (p : Nat) (img : Bool) (w : Nat) (sp : Space) (ea : Nat) (v : W) : Except Trap MemWr :=
  (s.locate p img w sp ea).map (fun a => { image := img, w := w, a := a, old := s.rdMem a, new := v })

/-- Store one bit: an indivisible read-modify-write of its word at the store (R70). -/
def State.storeBit (s : State) (p b : Nat) (v : Bool) : Except Trap MemWr :=
  let pl := bitPlace b
  (s.locate p pl.1 pl.2.1 .bit b).bind (fun a =>
    if s.isBad a then .error (Trap.store .bit b a)
    else .ok { image := pl.1, w := pl.2.1, a := a, old := s.rdMem a, new := putBit (s.rdMem a) pl.2.2 v })

/-- The check that a store which does not take place makes all the same (R72: the address is translated first). -/
def State.checkBit (s : State) (p b : Nat) : Except Trap Unit :=
  let pl := bitPlace b
  (s.locate p pl.1 pl.2.1 .bit b).map (fun _ => ())

/-- Read `n` words of a timer or counter block, word k at (start + k) mod 2^21 (R77). -/
def State.readBlock (s : State) (c : Ctx) (p w : Nat) : Nat → Except Trap (List W)
  | 0 => .ok []
  | n + 1 => (s.readWord c p (w % 2 ^ 21)).bind (fun v => (s.readBlock c p (w + 1) n).map (fun l => v :: l))

/-- Store the words of a block. -/
def State.storeBlock (s : State) (p w : Nat) : List W → Except Trap (List MemWr)
  | [] => .ok []
  | v :: vs => (s.storeW p false (w % 2 ^ 21) .word (w % 2 ^ 21) v).bind
      (fun m => (s.storeBlock p (w + 1) vs).map (fun l => m :: l))

/-- The BAR2 offset of program word `w` of partition `p`, or the trap a fetch or a jump to it raises. -/
def State.progLoc (s : State) (p w : Nat) : Except Trap Nat :=
  match s.look p 0 w with
  | .at a => .ok a
  | .unmapped => .error (Trap.unmapped .prog w none)
  | .corrupt k => .error (Trap.unmapped .prog w (some k))

/-- Fetch `n` instruction words from `w`: the traps 0x01 and 0x03. The words' contents are what the sender of the command
read (log 6). -/
def State.fetchOk (s : State) (p w : Nat) : Nat → Except Trap Unit
  | 0 => .ok ()
  | n + 1 => (s.progLoc p (w % 2 ^ 20)).bind (fun a =>
      if s.isBad a then .error (Trap.store .prog (w % 2 ^ 20) a) else s.fetchOk p (w + 1) n)

end Sys2Proof.Machine
end

