-- ==== Sys2Proof/Machine/Roles.lean ====
section
/-!
DEFINITION. The redundant pair (spec/08): roles and their transitions (R252), LEASE frames (R244, R251), leases (R245, R248),
mirroring (R254, R255, R264), the comparison of a shadow pass (R260 to R263) and what a faulted pass sends (R265).
-/
namespace Sys2Proof.Machine

/-! ### The member -/

/-- An event of the redundancy group: 1 ROLE, 2 CLAIM, 4 MISMATCH, 8 RESYNC, 0x10 LEFT, 0x20 SWAP, 0x40 LAPSE, 0x80 COMMIT. -/
def State.ruEvent (s : State) (bits : W) : State := s.groupEvent aRU_EVT_SEQ aRU_EVT aRU_EVT_EN aRU_EVT_VEC bits
/-- `RU_CFG.MEMBER`. -/
def State.isMember1 (s : State) : Bool := s.rb aRU_CFG 30
/-- M, a majority of the witnesses (R241). -/
def State.majority (s : State) : Nat := (s.rf aRU_CFG 18 16 + 1) / 2
/-- Lease length L in CLK_FAB clocks. -/
def State.leaseClks (s : State) : Nat := s.rf aRU_TIMING 10 0 * 800
/-- `RU_ROLE.EPOCH`. -/
def State.ruEpoch (s : State) : Nat := s.rf aRU_ROLE 31 16
/-- "e newer than h": (e − h) mod 2^16 lies in 1 to 32,767 (R246). -/
def newer (e h : Nat) : Bool := decide (1 ≤ (e + 65536 - h) % 65536 ∧ (e + 65536 - h) % 65536 ≤ 32767)
/-- The pair partitions, in ascending number. -/
def State.pairParts (s : State) : List Nat := (List.range 512).filter s.pairPart
/-- `RU_PSTEP.STEP`: 0 not a pair partition, 1 in step, 2 resynchronising, 3 out of step. -/
def State.pstep (s : State) (p : Nat) : Nat := s.rf (aRU_PSTEP p) 31 28
/-- Set `RU_PSTEP.STEP`. -/
def State.setPstep (s : State) (p v : Nat) : State := s.setRf (aRU_PSTEP p) 31 28 v
/-- Whether every pair partition is in step. -/
def State.allInStep (s : State) : Bool := s.pairParts.all (fun p => s.pstep p == 1)
/-- Task entry `t` of partition `p` as the redundancy unit sees it. -/
def State.shad (s : State) (p t : Nat) : Shadow := FMap.get (fun _ => Shadow.zero) s.shadow (p * 16 + t)
/-- Set it. -/
def State.setShad (s : State) (p t : Nat) (v : Shadow) : State :=
  { s with shadow := FMap.set (fun _ => Shadow.zero) s.shadow (p * 16 + t) v }
/-- Whether a sync port is up. -/
def State.syncUp (s : State) : Bool := s.syncPorts.any s.carries

/-- Whether the partner's last STATE is younger than 2 ms, twice the period it comes at (R273). DESIGN CHOICE (log 190). -/
def State.peerHeard (s : State) : Bool := decide (0 < s.ru.stateAt ∧ s.fab < s.ru.stateAt + 1600000)
/-- PAIRSTAT as it stands now: commissioning while COMM is 1, in step while one member is ACTIVE and the other STANDBY, degraded otherwise,
as after the partner has failed or every sync port is down (R273). -/
def State.pairStat (s : State) : Nat :=
  let r := s.ruRole
  let q := s.rf aRU_ROLE 7 4
  if s.comm then 2 else if ((r = 3 ∧ q = 5) ∨ (r = 5 ∧ q = 3)) ∧ s.peerHeard then 0 else 1
/-- `RU_ROLE.PAIRSTAT` follows. -/
def State.refreshPair (s : State) : State := s.setRf aRU_ROLE 9 8 s.pairStat

/-- The member takes role `r` (R252); entering WAIT starts the conditions of R249. -/
def State.setRole (s : State) (r : Nat) : State :=
  if s.ruRole = r then s
  else
    let s1 := ((s.setRf aRU_ROLE 3 0 r).refreshPair).ruEvent 1
    if r = 1 then { s1 with ru := { s1.ru with lostAt := s1.fab, claim := none, retry := false, firstG := none } } else s1

/-- An epoch seen anywhere: the newest known goes to `RU_HIGH`, and to `RU_ROLE.EPOCH` while the member does not hold one (R249). DEDUCED (log 64). -/
def State.noteEpoch (s : State) (e : Nat) : State :=
  if newer e (s.rf aRU_HIGH 15 0) then
    let s1 := s.setReg aRU_HIGH (BitVec.ofNat 32 e)
    if s1.ruRole = 3 then s1 else s1.setRf aRU_ROLE 31 16 e
  else s

/-! ### LEASE frames (table "LEASE body") -/

/-- What a LEASE body says beside the numbers of its sender. -/
structure LeaseBody where
  op : Nat
  member : Bool
  widx : Nat
  reason : Nat
  pair : Nat
  epoch : Nat
  rnum : Nat
  len : Nat
  rem : Nat
  high : Nat
  succ : Bool
  holder : Bool
  swapT : Nat
  deriving DecidableEq, Repr

/-- The 24 bytes of a LEASE body. -/
def LeaseBody.bytes (b : LeaseBody) : List Byte :=
  [BitVec.ofNat 8 (b.op * 16), BitVec.ofNat 8 (b.member.toNat * 128 + b.widx * 16 + b.reason)] ++ beBytes 2 b.pair ++ beBytes 2 b.epoch
    ++ beBytes 2 b.rnum ++ beBytes 2 b.len ++ beBytes 2 b.rem ++ beBytes 2 b.high
    ++ [BitVec.ofNat 8 (b.succ.toNat * 128 + b.holder.toNat * 64), 0] ++ beBytes 8 b.swapT

/-- The member sends a REQUEST (1), CLAIM (2), RELEASE (5) or HANDOVER (6) with `epoch` on its request stream; RNUM advances (R242,
R244). REQUEST and CLAIM frames are remembered for R245. -/
def State.sendLease (s : State) (op epoch : Nat) (succ : Bool) (swapT : Nat) : State :=
  let n := s.ru.rnum
  let b : LeaseBody :=
    { op := op, member := s.isMember1, widx := 0, reason := 0, pair := s.rf aRU_CFG 15 0, epoch := epoch, rnum := n
      len := s.rf aRU_TIMING 10 0, rem := 0, high := 0, succ := succ, holder := false, swapT := swapT }
  let kept := s.ru.sent.filter (fun f => decide (s.fab < f.2.2 + s.leaseClks))
  let s1 := { s with ru := { s.ru with rnum := (n + 1) % 65536
                                       sent := if op ≤ 2 then (n, epoch, s.fab) :: kept else kept } }
  match s1.findStream (s1.rf aRU_REQ 19 0) with
  | some i => if s1.rb (aSW_ST0 i) 9 && s1.rb (aSW_ST0 i) 20 then s1.originate i 2 false false true 0 b.bytes else s1
  | none => s1

/-! ### Leases (R245, R248) -/

/-- The witnesses whose instant in `m` (plus one, 0 for none) lies less than L ago. -/
def State.counting (s : State) (m : FMap Nat) : Nat :=
  ((List.range 7).filter (fun w =>
    let g := FMap.get (fun _ => 0) m w
    decide (0 < g ∧ s.fab < g - 1 + s.leaseClks))).length
/-- The own lease is valid (R245). -/
def State.leaseValid (s : State) : Bool := decide (s.majority ≤ s.counting s.ru.ownG ∧ 1 ≤ s.majority)
/-- The partner's lease is observed as valid (R248). -/
def State.peerValid (s : State) : Bool := decide (s.majority ≤ s.counting s.ru.peerG ∧ 1 ≤ s.majority)

/-! ### Mirrored lines (R254, R255) -/

/-- The mirror ranges of partition `p`: image space or not, task, first word and words. -/
def State.ranges (s : State) (p : Nat) : List (Bool × Nat × Nat × Nat) :=
  ((List.range 8).filter (fun r => s.rb (aRU_MR0 p r) 31)).map (fun r =>
    (s.rb (aRU_MR0 p r) 30, s.rf (aRU_MR0 p r) 27 24, s.rf (aRU_MR0 p r) 20 0, s.rf (aRU_MR1 p r) 21 0))

/-- The 64 B lines of the ranges of `p` that `pick` selects, in ascending address order, word space first: image flag and the
address of the first word. -/
def State.rangeLines (s : State) (p : Nat) (pick : Nat → Bool) : List (Bool × Nat) :=
  let rs := (s.ranges p).filter (fun r => pick r.2.1 && decide (1 ≤ r.2.2.2))
  let has (img : Bool) (n : Nat) : Bool :=
    rs.any (fun r => r.1 == img && decide (r.2.2.1 / 16 ≤ n ∧ n ≤ (r.2.2.1 + r.2.2.2 - 1) / 16))
  ((List.range 131072).filter (has false)).map (fun n => (false, 16 * n))
    ++ ((List.range 8192).filter (has true)).map (fun n => (true, 16 * n))

/-- A lookup that finds an uncorrectable translation entry treats the page as unmapped and reports the entry (R174). -/
def State.seeLine (s : State) (p : Nat) (l : Bool × Nat) : State :=
  match s.look p (if l.1 then 2 else 1) l.2 with | .corrupt key => s.entryFault key | _ => s
/-- The line number (BAR2 offset / 64) of a mapped line. -/
def State.lineAt (s : State) (p : Nat) (l : Bool × Nat) : Option Nat :=
  match s.look p (if l.1 then 2 else 1) l.2 with
  | .at a => some (a / 64)
  | _ => none
/-- Whether line `n` is dirty. -/
def State.isDirty (s : State) (n : Nat) : Bool := FMap.get (fun _ => false) s.dirty n
/-- Whether line `n` was forced dirty by a resynchronisation and has not been sent. -/
def State.isForced (s : State) (n : Nat) : Bool := FMap.get (fun _ => false) s.ruForced n
/-- The forced lines of `p` that are still to send. -/
def State.forcedLeft (s : State) (p : Nat) : Nat :=
  ((s.rangeLines p (fun _ => true)).filter (fun l => match s.lineAt p l with | some n => s.isForced n | none => false)).length
/-- Every mapped line of the ranges of `p` is marked dirty and forced (R255, R264). -/
def State.forceLines (s : State) (p : Nat) : State :=
  let s1 := (s.rangeLines p (fun _ => true)).foldl (fun s l =>
    match s.lineAt p l with
    | none => s.seeLine p l
    | some n => { s with dirty := FMap.set (fun _ => false) s.dirty n true, ruForced := FMap.set (fun _ => false) s.ruForced n true }) s
  s1.setRf (aRU_PSTEP p) 23 0 (s1.forcedLeft p)

/-- Whether an uncorrected fault in a resource of `p` was recorded since clock `t` (LOCALF of R255). -/
def State.localSince (s : State) (p t : Nat) : Bool := decide (t < FMap.get (fun _ => 0) s.localF p)

/-! ### Resynchronisation (R264) and the roles SYNC and LEFT -/

/-- The standby asks for partition `p` (0x3FF: all of them) and is resynchronising; nothing is sent while no sync port is up. -/
def State.askResync (s : State) (p : Nat) : State :=
  if s.syncUp then
    let ps := if p = 0x3FF then s.pairParts else [p]
    let s1 := (ps.foldl (fun s q => s.setPstep q 2) s).sendMirror 7 0 p 0 0 []
    ({ s1 with ruResync := distinct (s1.ruResync ++ ps) }).ruEvent 8
  else s

/-- The member enters SYNC: every pair partition resynchronises. Shadow passes begin afresh where it had none; a pass in Output keeps what
it waits with. DEDUCED (log 67). -/
def State.toSync (s : State) : State :=
  let keep := if s.ruRole = 4 ∨ s.ruRole = 5 then s.shadow else s.shadow.filter (fun e => e.2.own.isSome)
  let s1 := (s.setRole 4)
  let s2 := s1.pairParts.foldl (fun s p => s.setPstep p 3)
    { s1 with shadow := keep, ru := { s1.ru with claim := none, retry := false, firstG := none } }
  s.oneEvent aRU_EVT_SEQ (s2.askResync 0x3FF)

/-- The member goes to LEFT with `cause` (R263, R266, R252): its pair partitions go to Stop. -/
def State.goLeft (s : State) (cause : Nat) : State :=
  let s1 := s.oneEvent aRU_EVT_SEQ (((s.setRf aRU_ROLE 15 12 cause).setRole 6).ruEvent 0x10)
  s1.pairParts.foldl (fun s p => s.stopPart p 1 0) s1

/-- The standby's partition `p` falls out of step: STANDBY goes to SYNC, which resynchronises every pair partition; in SYNC the
partition resynchronises by itself (R252, R261, R262). A partition in Hold waits for its Resume (R272). -/
def State.outOfStep (s : State) (p : Nat) : State :=
  let s1 := s.setPstep p 3
  if s1.ruRole = 5 then s1.toSync
  else if s1.ruRole = 4 ∧ s1.mode p ≠ 3 then s1.askResync p
  else s1

/-! ### Comparison (R259 to R263) -/

/-- The RESULT of the pass in hand, if it and all its lines have arrived. -/
def Shadow.whole (h : Shadow) : Option PassRes :=
  match h.ress.find? (fun r => r.1 == h.stamp) with
  | some r => if (h.lines.filter (fun l => l.1 == h.stamp)).length < r.2.lines then none else some r.2
  | none => none

/-- The pass in hand leaves nothing behind. -/
def Shadow.done (h : Shadow) : Shadow :=
  { h with own := none, div := false, waits := none, blocks := []
           vecs := h.vecs.filter (fun v => v.1 != h.stamp)
           lines := h.lines.filter (fun l => l.1 != h.stamp), ress := h.ress.filter (fun r => r.1 != h.stamp) }

/-- Write one received line through the partition's translation; a line that is not mapped is skipped (R254). -/
def State.writeLine (s0 : State) (p : Nat) (l : W × W × List Byte) : State :=
  let w := fld l.2.1 20 4 * 16
  let s := s0.seeLine p (bitAt l.2.1 31, w)
  ((List.range 16).foldl (fun s i => s.poke p (bitAt l.2.1 31) (w + i)
    (wordOfBytes (l.2.2.getD (4 * i) 0) (l.2.2.getD (4 * i + 1) 0) (l.2.2.getD (4 * i + 2) 0) (l.2.2.getD (4 * i + 3) 0))) s).advance
      aRU_CNT_LINES

/-- The lines of a pass are written; RSDONE ends a resynchronisation, CARRY keeps or makes the partition resynchronising (R255, R260,
R264). When every pair partition is in step, SYNC becomes STANDBY. -/
def State.writeLines (s : State) (p t : Nat) (stamp : W) (r : PassRes) : State :=
  let s1 := ((s.shad p t).lines.filter (fun l => l.1 == stamp)).foldl (fun s l => s.writeLine p l) s
  let carry := r.flags.testBit 1
  let s2 := if r.flags.testBit 2 ∧ s1.ruResync.contains p then
      ({ s1 with ruResync := s1.ruResync.filter (fun q => q != p) }.setPstep p 1).ruEvent 8
    else if carry ∧ s1.pstep p = 1 then s1.setPstep p 2
    else if ¬ carry ∧ s1.pstep p = 2 ∧ ¬ s1.ruResync.contains p then s1.setPstep p 1
    else s1
  if s2.ruRole = 4 ∧ s2.allInStep then s2.setRole 5 else s2

/-- Send VERDICT for the pass of task `t` of `p` with `stamp` (table "MIRROR kinds"). -/
def State.sendVerdict (s : State) (p t : Nat) (stamp : W) (res outcome cause : Nat) (loc : Bool) : State :=
  s.sendMirror 8 t p stamp.toNat 0 [BitVec.ofNat 8 res, BitVec.ofNat 8 outcome, BitVec.ofNat 8 cause, BitVec.ofNat 8 loc.toNat]

/-- A CRC mismatch was decided: counted, with its event. -/
def State.mismatch (s : State) : State := (s.count aRU_CNT_MISMATCH).ruEvent 4

/-- A comparison with differing CRCs and no local fault: a contained fault and a full resynchronisation; the eighth in a row, outside
commissioning, ends in LEFT (R262, R263). A pass compared while the partition was not in step (`inStep` false) does not count. DEDUCED (log 63). -/
def State.unexplained (s : State) (p : Nat) (inStep : Bool) : State :=
  let n := s.rf (aRU_PSTEP p) 27 24
  let s1 := if inStep then s.setRf (aRU_PSTEP p) 27 24 (min 15 (n + 1)) else s
  let s2 := s1.collect 23 cContained 0x0A p
  if 8 ≤ s2.rf (aRU_PSTEP p) 27 24 ∧ s2.comm = false then s2.goLeft 1 else s2.outOfStep p

/-- The standby observes the partner's lease no more: it goes to WAIT (R252). -/
def State.lapsePeer (s : State) : State :=
  let s1 := { s with ru := { s.ru with fromSync := true, peerG := [], swapIn := none } }
  s1.setRole 1

/-- The decision of the table "Comparison outcomes" for a complete pass: the state after the decision and VERDICT. -/
def State.decide_ (s : State) (p t : Nat) (r : PassRes) (crc : W64) (outcome cause : Nat) : State :=
  let h := s.shad p t
  let loc := s.localSince p h.began
  let v (n : Nat) (s : State) : State := s.sendVerdict p t h.stamp n outcome cause loc
  if h.div then v 2 (s.count aRU_CNT_DIVERGE)
  else if r.outcome = 0 ∧ outcome = 0 ∧ r.crc = crc then
    v 0 ((if s.pstep p = 1 then s.setRf (aRU_PSTEP p) 27 24 0 else s).count aRU_CNT_CMP)
  else if r.outcome ≠ 0 ∧ r.outcome = outcome ∧ r.cause = cause then v 0 (s.count aRU_CNT_CMP)
  else v 1 s.mismatch

/-- What the decision brings once the lines are written: the standby resynchronises or records an unexplained mismatch; where the active
hands over, it keeps its role until it observes the active's lease no more (R252, R265). DEDUCED (log 67). -/
def State.afterDecide (s : State) (p : Nat) (r : PassRes) (crc : W64) (outcome cause : Nat) (div loc inStep : Bool) : State :=
  let actF := r.outcome != 0 || r.flags.testBit 0
  if div ∨ (r.outcome = 0 ∧ outcome = 0 ∧ r.crc = crc) ∨ (r.outcome ≠ 0 ∧ r.outcome = outcome ∧ r.cause = cause) then s
  else if actF ∧ outcome = 0 ∧ loc = false then s
  else if loc then s.outOfStep p
  else s.unexplained p inStep

/-- The standby judges the pass in hand of task `t` of `p` when its RESULT and lines are there: decision, VERDICT, lines (R260).
The flag says whether it did. DEDUCED (log 68). -/
def State.judge (s : State) (p t : Nat) : State × Bool :=
  let h := s.shad p t
  match h.own, h.whole with
  | some (crc, outcome, cause), some r =>
    let loc := s.localSince p h.began
    let s1 := (s.decide_ p t r crc outcome cause).writeLines p t h.stamp r
    let s2 := s1.setShad p t { (s1.shad p t).done with miss := 0 }
    (s2.afterDecide p r crc outcome cause h.div loc (s.pstep p == 1), true)
  | _, _ => (s, false)

/-! ### A pass that faults (R257, R262, R265) -/

/-- The bytes of the INVEC entries. -/
def invecBytes (l : List (Option Nat)) : List Byte :=
  l.flatMap (fun e => match e with | some m => beBytes 4 m | none => beBytes 4 (2 ^ 31))
/-- Send the INVEC of the pass of task `t`. -/
def State.sendInvec (s : State) (p t : Nat) : State :=
  let h := s.shad p t
  match h.vecs.find? (fun v => v.1 == h.stamp) with
  | some v => s.sendMirror 1 t p h.stamp.toNat v.2.length (invecBytes v.2)
  | none => s
/-- Send a RESULT. -/
def State.sendResult (s : State) (p t : Nat) (r : PassRes) : State :=
  s.sendMirror 3 t p (s.shad p t).stamp.toNat 0 (beBytes 8 r.crc.toNat ++ beBytes 4 r.lines
    ++ [BitVec.ofNat 8 r.outcome, BitVec.ofNat 8 r.cause] ++ beBytes 2 r.flags)

/-- The RESULT of the pass in hand of task `t` of `p` is out: its VERDICT is awaited. -/
def State.openVerdict (s : State) (p t : Nat) (loc : Bool) : State :=
  { s with ru := { s.ru with open_ := s.ru.open_ ++ [(p * 16 + t, (s.shad p t).stamp, loc)] } }

/-- Task `t` of `p` stopped by a trap (OUTCOME 1, with its CAUSE), an overrun (2) or another contained fault (3). An ACTIVE member
reports it and waits for the VERDICT of that pass. On a standby copy the pass is compared when the active's RESULT is there, so that the same
trap on both changes no role (R262); an overrun leaves the copy out of step at once (R257). -/
def State.passFault (s : State) (p t outcome cause : Nat) : State :=
  if s.pairPart p = false ∨ t = 8 then s
  else if s.ruRole = 3 then
    let s1 := (s.sendInvec p t).sendResult p t
      { crc := 0, lines := 0, outcome := outcome, cause := cause, flags := (s.localSince p (s.shad p t).began).toNat }
    { s1 with ru := { s1.ru with verdict := some (p * 16 + t, s1.fab) } }.openVerdict p t (s.localSince p (s.shad p t).began)
  else if s.ruRole = 4 ∨ s.ruRole = 5 then
    let s1 := s.setShad p t { s.shad p t with own := some (0, outcome, cause) }
    let r := s1.judge p t
    if outcome = 2 ∧ r.1.pstep p = 1 then r.1.outOfStep p else r.1
  else s

/-- A pass of task `t` of `p` with release stamp `stamp` begins: its clock and stamp are noted (R255, R257). The blocks that the successor of a
swap holds back stay (R271). -/
def State.noteBegin (s : State) (p t : Nat) (stamp : W64) : State :=
  if s.pairPart p && t != 8 then
    s.setShad p t { s.shad p t with
      began := s.fab, stamp := BitVec.ofNat 32 (stamp.toNat / 1000), own := none, div := false, waits := none, follows := false
      blocks := if s.ru.swapIn.isSome then (s.shad p t).blocks else [] }
  else s

end Sys2Proof.Machine
end

