-- ==== Sys2Proof/Machine/Pipeline.lean ====
section
/-!
DEFINITION. How an engine issues one instruction: which task issues, the fetch, the traps (spec/03 R74, R75), the landing
of results (spec/04 R93 to R98), the delay slot (R87, R105, R106) and what a permitted boundary brings (R104, R146, R149,
R150).
-/
namespace Sys2Proof.Machine

/-- What a customer instruction writes in its last clock (R109): registers, LR, the group Z, N, C and OV, and the sticky
flags it sets. -/
structure Late where
  a : Option W
  x : Option (BitVec 24)
  y : Option (BitVec 24)
  lr : Option Bool
  fl : Option (BitVec 4)
  stk : BitVec 8
  deriving DecidableEq, Repr

/-- What an instruction does when it issues: the context with its results put in flight, the words it stores, a jump
(with its target when taken), and what takes effect in its last clock. -/
structure Eff where
  ctx : Ctx
  wr : List MemWr
  jump : Option (Option (BitVec 20))
  late : Option Late
  deriving DecidableEq, Repr

/-- An instruction that only changes its context. -/
def Eff.reg (c : Ctx) : Except Trap Eff := .ok { ctx := c, wr := [], jump := none, late := none }

/-- The task that issues on engine `e`, with its context: it runs there, and its partition is in Run, or it finishes a
delay slot, or it takes a step (R150); a breakpoint armed at its next instruction stops it (R149). DESIGN CHOICE (log 5, 132). -/
def State.issuer (s : State) (e : Nat) : Option (Nat × Nat) :=
  match (if s.clkStop then none else (s.eng e).run) with
  | none => none
  | some k =>
    let p := k / 16
    let t := k % 16
    let tk := s.task p t
    if tk.ctx.slot.isSome then some (p, t)
    else if s.mode p = 2 ∨ (s.mode p = 3 ∧ tk.stepping) then
      (if (s.part p).brk.any (fun b => b.2 == tk.ctx.p) && !tk.passBrk && !tk.stepping && (s.holdRefusal p).isNone then none else some (p, t))
    else none

/-- Hold: the task freezes with the registers it has; its engine goes on with other tasks (R149). DEDUCED (log 11). -/
def State.freezeTask (s : State) (p t from_ : Nat) : State :=
  let k := s.task p t
  ((s.setTask p t { k with held := from_, heldMid := true, toHold := false, stepping := false }).setTState p t tHeld)

/-- A step ends at the task's next permitted boundary: Held again, HOLDSRC 0b11, HOLDIN, BUSY cleared (R150). -/
def State.endStep (s : State) (p t : Nat) : State :=
  let s1 := (s.freezeTask p t tRunning).freeEngine (s.task p t).eng
  ((s1.setRf (aPD_MODE p) 5 4 3).pdEvent p evHoldIn).endCmd p 0

/-- What a permitted boundary of the running task `t` of `p` brings: Off in a stopping partition, Held in a held one. -/
def State.atBoundary (s : State) (p t : Nat) : State :=
  if (s.task p t).ctx.slot.isSome then s
  else if s.mode p = 1 then s.offTask p t
  else if s.mode p = 3 then
    (if (s.task p t).stepping then s.endStep p t
     else if (s.task p t).toHold then (s.freezeTask p t tRunning).freeEngine (s.task p t).eng
     else s)
  else s

/-- Capture a trap in the engine's `ENG_TRAP` group: the first since the last clear (R75). -/
def State.captureTrap (s : State) (e p t : Nat) (dslot : Bool) (pc : Nat) (tr : Trap) : State :=
  let s1 := s.advance (aENG_TRAP_SEQ e)
  if s1.rb (aENG_TRAP e) 8 then s1
  else ((s1.setReg (aENG_TRAP e) (BitVec.ofNat 32 (p * 65536 + taskCode t * 4096 + 256 + tr.cause))).setReg
      (aENG_TRAP_P e) (BitVec.ofNat 32 (dslot.toNat * 2 ^ 20 + pc))).setReg
      (aENG_TRAP_ADDR e) (BitVec.ofNat 32 (tr.space * 2 ^ 30 + tr.ea))

/-- The faults behind a trap: an uncorrectable store word, translation entry or decode-table word. DESIGN CHOICE (log 15). -/
def State.trapSource (s : State) (tr : Trap) : State :=
  let s1 := match tr.bad with | some a => s.storeFault a | none => s
  let s2 := match tr.key with | some k => s1.entryFault k | none => s1
  if tr.dtab then s2.collect 11 cContained 0x01 0 else s2

/-- A trap of the task that issues on engine `e` (R74, R75): every earlier result has landed, the trapping instruction
did nothing, and the partition stops as a contained fault. -/
def State.trap (s : State) (e p t : Nat) (tr : Trap) : State :=
  let k := s.task p t
  let c := k.ctx
  let s1 := s.captureTrap e p t c.slot.isSome c.p.toNat tr
  let s2 := s1.setTask p t { k with ctx := { c.drain with slot := none } }
  (((s2.trapSource tr).partFault p 2 evTrap).passFault p t 1 tr.cause).atBoundary p t

/-- The store record an instruction leaves (R98, R101). -/
def recordOf (wr : List MemWr) (clks : Nat) : Option StoreRec :=
  match wr with
  | [] => none
  | m :: _ => some { image := m.image, words := wr.map (fun m => (m.w, m.old)), next := decide (clks = 1) }

/-- The context at issue of a customer instruction: writes in flight to what it writes are cancelled (R109). -/
def Ctx.cancelFor (c : Ctx) (l : Late) : Ctx :=
  { c with inA := if l.a.isSome then none else c.inA, inX := if l.x.isSome then none else c.inX,
           inY := if l.y.isSome then none else c.inY, inF := if l.fl.isSome then none else c.inF }

/-- The writes of a customer instruction's last clock. -/
def Ctx.applyLate (c : Ctx) (l : Late) : Ctx :=
  { c with a := l.a.getD c.a, x := l.x.getD c.x, xa := l.x.getD c.xa, y := l.y.getD c.y, ya := l.y.getD c.ya,
           lr := l.lr.getD c.lr,
           f := ((match l.fl with | some v => (c.f &&& fSticky) ||| v.setWidth 8 | none => c.f) ||| l.stk) }

/-- The clocks of an instruction pass. -/
def Ctx.spend (f : Eff) (clks : Nat) : Ctx :=
  match f.late with
  | none => Ctx.clocks clks { f.ctx with srec := recordOf f.wr clks }
  | some l => (Ctx.clocks clks { f.ctx.cancelFor l with srec := none }).applyLate l

/-- The context after an instruction of `w` words and `clks` clocks: results land as the clocks pass, P moves on, a delay
slot ends at the target of its taken jump, and a jump opens its own. -/
def Ctx.retire (c : Ctx) (f : Eff) (w clks : Nat) : Ctx :=
  let c1 := Ctx.spend f clks
  let next := c.p + BitVec.ofNat 20 w
  match f.jump with
  | some tgt => { c1 with p := next, slot := some tgt }
  | none => { c1 with p := (c.slot.getD none).getD next, slot := none }

/-- The instruction's stores land; of two stores to one word a clock apart, a read at distance 1 from the second sees the first (R98).
DEDUCED (log 24); DESIGN CHOICE (log 201). -/
def State.landWrites (s : State) (wr : List MemWr) : State := wr.foldl (fun s m => s.wrMem m.a m.new) s

/-- An instruction of `w` words and `clks` clocks that does not trap. DESIGN CHOICE (log 7). -/
def State.retire (s : State) (p t w clks : Nat) (f : Eff) : State :=
  let s1 := s.landWrites f.wr
  (s1.setTask p t { s.task p t with ctx := (s.task p t).ctx.retire f w clks, passBrk := false }).atBoundary p t

/-- Issue one instruction of `w` words and `clks` clocks on engine `e`. A command for an engine on which no task issues
has no effect (log 5). -/
def State.issue (s : State) (e w clks : Nat) (body : Nat → Nat → Ctx → Except Trap Eff) : State :=
  match s.issuer e with
  | none => s
  | some (p, t) =>
    let c := (s.task p t).ctx
    match (s.fetchOk p c.p.toNat w).bind (fun _ => body p t c) with
    | .error tr => s.trap e p t tr
    | .ok f => s.retire p t w clks f

/-- Issue an instruction that no delay slot may hold: there it raises trap 0x05, one word long (R105, R73). -/
def State.issueNoSlot (s : State) (e w clks : Nat) (body : Nat → Nat → Ctx → Except Trap Eff) : State :=
  match s.issuer e with
  | none => s
  | some (p, t) =>
    if (s.task p t).ctx.slot.isSome then s.issue e 1 1 (fun _ _ _ => .error (Trap.plain 5))
    else s.issue e w clks body

end Sys2Proof.Machine
end

