-- ==== Sys2Proof/Machine/DecodeTable.lean ====
section
/-!
DEFINITION. The writable decode table and the customer instructions (spec/04 R108 to R121).
-/
namespace Sys2Proof.Machine

/-! ### Banks and entries -/

/-- `DT_STAT.ACTIVE`. -/
def State.dtActive (s : State) : Nat := s.rf aDT_STAT 0 0
/-- `DT_STAT.PENDING`. -/
def State.dtPending (s : State) : Bool := s.rb aDT_STAT 1
/-- The 64 words of entry `e` of bank `b`. DEDUCED (log 10). -/
def State.dtEntry (s : State) (b e : Nat) : List W := (List.range 64).map (fun i => s.reg (aENT_HDR b e + 4 * i))
/-- Identifier register of bank `b`. -/
def aDtId (b : Nat) : Nat := if b = 0 then aDT_ID0 else aDT_ID1
/-- Expected CRC register of bank `b`. -/
def aDtCrc (b : Nat) : Nat := if b = 0 then aDT_CRC0 else aDT_CRC1

/-- Clocks of a micro-operation code; none for a reserved code (table "Micro-operations"). -/
def uopClocks (u : Nat) : Option Nat :=
  if u = 0x10 then some 3
  else if 0x18 ≤ u ∧ u ≤ 0x1C then some 4
  else if 0x1D ≤ u ∧ u ≤ 0x1F then some 2
  else if u ≤ 0x27 then some 1
  else none

/-- Whether a micro-operation writes memory. -/
def uopWrites (u : Nat) : Bool := decide (0x20 ≤ u ∧ u ≤ 0x22)

/-- An entry with VALID = 1 that meets the conditions of R113, or an empty one with all words zero. -/
def entryWellFormed (l : List W) : Bool :=
  let h := l.getD 0 0
  let space := fld h 30 28
  let modes := fld h 27 24
  let n := fld h 20 16 + 1
  let uops := ((l.drop 32).take n).map (fun w => fld w 31 26)
  if bitAt h 31 then
    decide (space ≤ 4) && decide (modes ≠ 0) && (decide (space ≠ 0) || decide (modes = 1))
      && (decide (space ≠ 4) || decide (modes = 8)) && uops.all (fun u => (uopClocks u).isSome)
      && decide ((uops.filter uopWrites).length ≤ 8)
      && decide (fld h 15 8 = (uops.map (fun u => (uopClocks u).getD 0)).foldl (· + ·) 0)
      && decide (fld h 23 21 = 0 ∧ fld h 7 0 = 0) && ((l.drop 1).take 31).all (fun w => decide (w = 0))
      && ((l.drop 32).take n).all (fun w => decide (fld w 19 12 = 0)) && (l.drop (32 + n)).all (fun w => decide (w = 0))
  else l.all (fun w => decide (w = 0))

/-- The lowest malformed entry of bank `b`. -/
def State.dtMalformed (s : State) (b : Nat) : Option Nat :=
  (List.range 64).find? (fun e => !entryWellFormed (s.dtEntry b e))

/-- The CRC of bank `b` (R114). -/
def State.dtCrcOf (s : State) (b : Nat) : W :=
  crc32 (bytesOf (s.reg (aDtId b)) ++ (List.range 64).flatMap (fun e => (s.dtEntry b e).flatMap bytesOf))

/-- Whether entry `e` differs between the banks (R118). -/
def State.dtChanges (s : State) (e : Nat) : Bool := decide (s.dtEntry 0 e ≠ s.dtEntry 1 e)

/-- Whether partition `p`'s applied used-entry mask holds entry `e`. -/
def State.dtUses (s : State) (p e : Nat) : Bool :=
  if e < 32 then s.rb (aHDR_USED_LO p) e else s.rb (aHDR_USED_HI p) (e - 32)

/-- The running partitions (Run or Hold, R118). -/
def State.runningParts (s : State) : List Nat := s.created.filter (fun p => s.mode p == 2 || s.mode p == 3)

/-- The entries that block a switch: changing entries a running partition uses. -/
def State.dtBlocked (s : State) : List Nat :=
  (List.range 64).filter (fun e => s.dtChanges e && s.runningParts.any (fun p => s.dtUses p e))

/-- The lowest-numbered running partition that blocks a switch. -/
def State.dtBlocker (s : State) : Option Nat :=
  s.runningParts.find? (fun p => (List.range 64).any (fun e => s.dtChanges e && s.dtUses p e))

/-- A word with the bits of the listed numbers below 32 set. -/
def maskOf (l : List Nat) : W := l.foldl (fun w i => w ||| BitVec.twoPow 32 i) 0

/-- Record the blocking entries and partition in `DT_CONFLICT_*`. -/
def State.dtConflict (s : State) : State :=
  let l := s.dtBlocked
  let s1 := (s.setReg aDT_CONFLICT_LO (maskOf (l.filter (· < 32)))).setReg aDT_CONFLICT_HI
    (maskOf ((l.filter (32 ≤ ·)).map (· - 32)))
  s1.setReg aDT_CONFLICT_PART (match s.dtBlocker with | some p => BitVec.ofNat 32 (1024 + p) | none => 0)

/-- Refuse a switch with REASON `r`, the capture registers of other reasons cleared. DEDUCED (log 16). -/
def State.dtRefuse (s : State) (r : Nat) : State :=
  ((((s.setRf aDT_STAT 15 8 r).setReg aDT_CONFLICT_LO 0).setReg aDT_CONFLICT_HI 0).setReg aDT_CONFLICT_PART 0).setReg
    aDT_BAD_ENTRY 0

/-- `DT_SWITCH.GO` (R117): the checks of the table "Switch outcomes" in order. -/
def State.dtSwitch (s : State) : State :=
  let b := 1 - s.dtActive
  if s.dtPending then s.setRf aDT_STAT 15 8 4
  else if s.reg (aDtId b) = 0 then s.dtRefuse 5
  else if s.dtCrcOf b ≠ s.reg (aDtCrc b) ∨ (List.range 64).any (fun e => FMap.get (fun _ => false) s.dtBad (b * 64 + e)) then
    s.dtRefuse 1
  else match s.dtMalformed b with
    | some e => (s.dtRefuse 2).setReg aDT_BAD_ENTRY (BitVec.ofNat 32 (128 + e))
    | none =>
      if s.reg (aDtId b) = s.reg aDT_ACTIVE_ID ∧ (List.range 64).any s.dtChanges then s.dtRefuse 6
      else if s.dtBlocked ≠ [] then (s.dtRefuse 3).dtConflict
      else (s.setRf aDT_STAT 15 8 0).setRf aDT_STAT 1 1 1

/-- The table epoch at a Graticule tick (R118). -/
def State.dtApply (s : State) : State :=
  if s.dtPending then
    let s1 := s.setRf aDT_STAT 1 1 0
    if s.dtBlocked ≠ [] then (s1.dtRefuse 3).dtConflict
    else
      let b := 1 - s.dtActive
      ((s1.setRf aDT_STAT 0 0 b).setReg aDT_ACTIVE_ID (s.reg (aDtId b))).setRf aDT_STAT 31 16 (s.rf aDT_STAT 31 16 + 1)
  else s

/-- Whether a header (TABLE_ID and USED) fails R120 against the active bank. -/
def State.dtMismatch (s : State) (id lo hi : W) : Bool :=
  let uses (e : Nat) : Bool := if e < 32 then bitAt lo e else bitAt hi (e - 32)
  if id = 0 then decide (lo ≠ 0 ∨ hi ≠ 0)
  else decide (id ≠ s.reg aDT_ACTIVE_ID) || (List.range 64).any (fun e => uses e && !s.rb (aENT_HDR s.dtActive e) 31)

/-! ### Customer instructions -/

/-- The micro registers and what the entry has written so far. -/
structure Mic where
  u : List W
  wr : List MemWr
  late : Late
  deriving DecidableEq, Repr

/-- Micro register `i`. -/
def Mic.get (m : Mic) (i : Nat) : W := m.u.getD i 0
/-- Set micro register `i`. -/
def Mic.put (m : Mic) (i : Nat) (v : W) : Mic := { m with u := m.u.set i v }
/-- The latest buffered write of a word (R110). -/
def Mic.buffered (m : Mic) (img : Bool) (w : Nat) : Option MemWr := m.wr.reverse.find? (fun x => x.image == img && x.w == w)

/-- Read a word inside an entry: the buffered value, or the word of the store. -/
def Mic.read (m : Mic) (s : State) (c : Ctx) (p : Nat) (img : Bool) (w : Nat) (sp : Space) (ea : Nat) : Except Trap W :=
  match m.buffered img w with
  | some x => .ok x.new
  | none => s.readW c p img w sp ea

/-- Buffer a word write. -/
def Mic.write (m : Mic) (s : State) (p : Nat) (img : Bool) (w : Nat) (sp : Space) (ea : Nat) (v : W) : Except Trap Mic :=
  (s.storeW p img w sp ea v).map (fun x => { m with wr := m.wr ++ [x] })

/-- Buffer a bit write: the word as buffered or as it stands, with the bit replaced. -/
def Mic.writeBit (m : Mic) (s : State) (p b : Nat) (v : Bool) : Except Trap Mic :=
  let pl := bitPlace b
  match m.buffered pl.1 pl.2.1 with
  | some x => .ok { m with wr := m.wr ++ [{ x with new := putBit x.new pl.2.2 v }] }
  | none => (s.storeBit p b v).map (fun x => { m with wr := m.wr ++ [x] })

/-- One micro-operation (R112). `opnd` is what OPND yields. DEDUCED (log 10). -/
def Mic.step (m : Mic) (s : State) (c : Ctx) (p : Nat) (opnd : W) (w : W) : Except Trap Mic :=
  let d := fld w 25 24
  let ua := m.get (fld w 23 22)
  let ub := m.get (fld w 21 20)
  let ud := m.get d
  let imm := fld w 11 0
  let imms : W := (BitVec.ofNat 12 imm).signExtend 32
  let r (v : W) : Except Trap Mic := .ok (m.put d v)
  match fld w 31 26 with
  | 0x00 => r c.a
  | 0x01 => r (c.x.setWidth 32)
  | 0x02 => r (c.y.setWidth 32)
  | 0x03 => r (BitVec.ofNat 32 c.lr.toNat)
  | 0x04 => r (c.f.setWidth 32)
  | 0x05 => r opnd
  | 0x06 => r imms
  | 0x07 => r ((ud <<< 12) + BitVec.ofNat 32 imm)
  | 0x08 => r (ua + ub)
  | 0x09 => r (ua - ub)
  | 0x0A => r (ua &&& ub)
  | 0x0B => r (ua ||| ub)
  | 0x0C => r (ua ^^^ ub)
  | 0x0D => r (shlRes ua (fld ub 7 0) false).val
  | 0x0E => r (shrRes ua (fld ub 7 0) false).val
  | 0x0F => r (sarRes ua (fld ub 7 0) false).val
  | 0x10 => r (ua * ub)
  | 0x11 => r (if ub.toInt < ua.toInt then ub else ua)
  | 0x12 => r (if ua.toInt < ub.toInt then ub else ua)
  | 0x13 => r (if ua.toInt < ub.toInt then 1 else 0)
  | 0x14 => r (if ua.toNat < ub.toNat then 1 else 0)
  | 0x15 => r (if bitAt ud 0 then ua else ub)
  | 0x16 => r ((ua >>> (imm / 32 % 32)) &&& BitVec.ofNat 32 (2 ^ (imm % 32 + 1) - 1))
  | 0x17 =>
    let mk : W := BitVec.ofNat 32 ((2 ^ (imm % 32 + 1) - 1) * 2 ^ (imm / 32 % 32))
    r ((ud &&& ~~~mk) ||| ((ua <<< (imm / 32 % 32)) &&& mk))
  | 0x18 => r (fpAdd ua ub).val
  | 0x19 => r (fpSub ua ub).val
  | 0x1A => r (fpMul ua ub).val
  | 0x1B => r (fpOfInt ua).val
  | 0x1C => r (fpToInt ua).val
  | 0x1D => let a := ua.toNat % 2 ^ 21; (m.read s c p false a .word a).map (fun v => m.put d v)
  | 0x1E => let a := ua.toNat % 2 ^ 17; (m.read s c p true a .image a).map (fun v => m.put d v)
  | 0x1F =>
    let b := ua.toNat % 2 ^ 20
    (m.read s c p (bitPlace b).1 (bitPlace b).2.1 .bit b).map
      (fun v => m.put d (BitVec.ofNat 32 (bitAt v (bitPlace b).2.2).toNat))
  | 0x20 => let a := ua.toNat % 2 ^ 21; m.write s p false a .word a ub
  | 0x21 => let a := ua.toNat % 2 ^ 17; m.write s p true a .image a ub
  | 0x22 => m.writeBit s p (ua.toNat % 2 ^ 20) (bitAt ub 0)
  | 0x23 => .ok { m with late := { m.late with a := some ua } }
  | 0x24 => .ok { m with late := { m.late with x := some (ua.truncate 24) } }
  | 0x25 => .ok { m with late := { m.late with y := some (ua.truncate 24) } }
  | 0x26 => .ok { m with late := { m.late with lr := some (bitAt ua 0) } }
  | 0x27 => .ok { m with late := { m.late with
      fl := some (ua.truncate 4),
      stk := m.late.stk ||| BitVec.ofNat 8 (fld ua 7 4 * 16) ||| flagIf (bitAt ua 3) fOS } }
  | _ => .error (Trap.plain 5)

/-- The micro-operations one after another. -/
def Mic.run (s : State) (c : Ctx) (p : Nat) (opnd : W) : List W → Mic → Except Trap Mic
  | [], m => .ok m
  | w :: ws, m => (m.step s c p opnd w).bind (Mic.run s c p opnd ws)

/-- The micro registers at zero and nothing written. -/
def Mic.init : Mic :=
  { u := [0, 0, 0, 0], wr := [], late := { a := none, x := none, y := none, lr := none, fl := none, stk := 0 } }

/-- The modulus of a SPACE code of an entry. -/
def entryModulus (space : Nat) : Nat :=
  if space = 1 then 2 ^ 21 else if space = 2 then 2 ^ 17 else if space = 3 then 2 ^ 20 else 2 ^ 32

/-- What OPND yields (R111, table "Customer operand modes"). -/
def customOpnd (c : Ctx) (space : Nat) (mode : BitVec 2) (w1 : BitVec 14) : W :=
  if space = 4 then w1.signExtend 32
  else BitVec.ofNat 32 ((if mode = 0 then 0 else if mode = 1 then c.xa.toNat else if mode = 2 then c.ya.toNat
    else w1.toNat) % entryModulus space)

/-- Whether partition `p` may execute entry `i` in mode `mode`: its used-entry mask holds it, and the active entry is defined for the
mode (R111). -/
def State.customUsable (s : State) (p : Nat) (mode : BitVec 2) (i : Nat) : Bool :=
  s.dtUses p i && s.rb (aENT_HDR s.dtActive i) 31 && s.rb (aENT_HDR s.dtActive i) (24 + mode.toNat)

/-- A customer instruction of entry `i` (R92, R108 to R111). One that is not acceptable raises trap 0x05 even where the active bank holds an
uncorrectable word of its entry: R110 and R111 give no order. DESIGN CHOICE (log 15). -/
def State.customer (s : State) (e : Nat) (mode : BitVec 2) (i : Nat) (w1 : BitVec 14) : State :=
  match s.issuer e with
  | none => s
  | some (p, _) =>
    let l := s.dtEntry s.dtActive i
    let h := l.getD 0 0
    let w := if mode = 3 then 2 else 1
    if s.customUsable p mode i = false then
      s.issue e 1 1 (fun _ _ _ => .error (Trap.plain 5))
    else if FMap.get (fun _ => false) s.dtBad (s.dtActive * 64 + i) then
      s.issue e 1 1 (fun _ _ _ => .error { Trap.plain 3 with dtab := true })
    else
      s.issue e w (w - 1 + fld h 15 8) (fun p _ c =>
        (Mic.run s c p (customOpnd c (fld h 30 28) mode w1) ((l.drop 32).take (fld h 20 16 + 1)) Mic.init).map
          (fun m => { ctx := c, wr := m.wr, jump := none, late := some m.late }))

/-- A customer instruction (R92, R108 to R112). -/
def execOpCustomer (e : BitVec 7) (mode : BitVec 2) (s : BitVec 6) (w1 : BitVec 14) (st : State) :
    Host.Outcome State Fault Refusal := .next (st.customer e.toNat mode s.toNat w1)

/-- A word 0 that R73 calls illegal: trap 0x05, one word long. -/
def execOpIllegal (e : BitVec 7) (_w0 : BitVec 14) (st : State) : Host.Outcome State Fault Refusal :=
  .next (st.issue e.toNat 1 1 (fun _ _ _ => .error (Trap.plain 5)))

end Sys2Proof.Machine
end

