-- ==== Sys2Proof/Machine/EngCode.lean ====
section
/-!
DEFINITION. The encodings of the engine instructions in 14-bit program words (spec/03, "Encoding and addressing", R72, R73):
how many words an instruction has, the words of an instruction, and the instruction that words spell.
-/
namespace Sys2Proof.Machine

/-- OP of word 0. -/
def opOf (w0 : BitVec 14) : Nat := w0.toNat / 256
/-- MODE of word 0. -/
def modeOf (w0 : BitVec 14) : BitVec 2 := BitVec.ofNat 2 (w0.toNat / 64)
/-- S of word 0. -/
def sOf (w0 : BitVec 14) : BitVec 6 := BitVec.ofNat 6 w0.toNat
/-- Word 0 of its three fields. -/
def word0 (op : Nat) (mode : BitVec 2) (s : BitVec 6) : BitVec 14 := BitVec.ofNat 14 (op * 256 + mode.toNat * 64 + s.toNat)

/-- How many words the instruction has whose word 0 this is: two in mode 0b11 of the assigned primary opcodes, of page 0x39 with an
assigned S and of page 0x3F, one otherwise; an illegal one has one word (R73). -/
def instrWords (w0 : BitVec 14) : Nat :=
  if modeOf w0 = 3 ∧ ((opOf w0 < 0x38 ∧ opOf w0 ≠ 0x0E ∧ opOf w0 ≠ 0x0F) ∨ (opOf w0 = 0x39 ∧ (sOf w0).toNat ≤ 0x11) ∨ opOf w0 = 0x3F)
  then 2 else 1

/-- The instruction of a primary opcode. -/
def decodePrimary (e : BitVec 7) (op : Nat) (m : BitVec 2) (s : BitVec 6) (w1 : BitVec 14) : Option Instr :=
  match op with
  | 0x00 => some (.opLd e m s w1)
  | 0x01 => some (.opLdn e m s w1)
  | 0x02 => some (.opAnd e m s w1)
  | 0x03 => some (.opAndn e m s w1)
  | 0x04 => some (.opOr e m s w1)
  | 0x05 => some (.opOrn e m s w1)
  | 0x06 => some (.opXor e m s w1)
  | 0x07 => some (.opXorn e m s w1)
  | 0x08 => some (.opSt e m s w1)
  | 0x09 => some (.opStn e m s w1)
  | 0x0A => some (.opSet e m s w1)
  | 0x0B => some (.opRst e m s w1)
  | 0x0C => some (.opEdp e m s w1)
  | 0x0D => some (.opEdn e m s w1)
  | 0x10 => some (.opTon e m s w1)
  | 0x11 => some (.opTof e m s w1)
  | 0x12 => some (.opTp e m s w1)
  | 0x13 => some (.opTrs e m s w1)
  | 0x14 => some (.opCtu e m s w1)
  | 0x15 => some (.opCtd e m s w1)
  | 0x16 => some (.opCrs e m s w1)
  | 0x17 => some (.opCld e m s w1)
  | 0x18 => some (.opLda e m s w1)
  | 0x19 => some (.opSta e m s w1)
  | 0x1A => some (.opAdd e m s w1)
  | 0x1B => some (.opSub e m s w1)
  | 0x1C => some (.opMul e m s w1)
  | 0x1D => some (.opDiv e m s w1)
  | 0x1E => some (.opMod e m s w1)
  | 0x1F => some (.opCmp e m s w1)
  | 0x20 => some (.opAndw e m s w1)
  | 0x21 => some (.opOrw e m s w1)
  | 0x22 => some (.opXorw e m s w1)
  | 0x23 => some (.opShl e m s w1)
  | 0x24 => some (.opShr e m s w1)
  | 0x25 => some (.opSar e m s w1)
  | 0x26 => some (.opRol e m s w1)
  | 0x27 => some (.opRor e m s w1)
  | 0x28 => some (.opFadd e m s w1)
  | 0x29 => some (.opFsub e m s w1)
  | 0x2A => some (.opFmul e m s w1)
  | 0x2B => some (.opFdiv e m s w1)
  | 0x2C => some (.opFcmp e m s w1)
  | 0x2D => some (.opAdc e m s w1)
  | 0x2E => some (.opSbc e m s w1)
  | 0x2F => some (.opLdi e m s w1)
  | 0x30 => some (.opSti e m s w1)
  | 0x31 => some (.opLdx e m s w1)
  | 0x32 => some (.opStx e m s w1)
  | 0x33 => some (.opLdy e m s w1)
  | 0x34 => some (.opSty e m s w1)
  | 0x35 => some (.opJmp e m s w1)
  | 0x36 => some (.opJc e m s w1)
  | 0x37 => some (.opCall e m s w1)
  | _ => none

/-- The instruction of page 0x38; S 0x10 to 0x1F are the conditions of CND. -/
def decodePage38 (e : BitVec 7) (s : BitVec 6) : Option Instr :=
  if 0x10 ≤ s.toNat ∧ s.toNat < 0x20 then some (.opCnd e (BitVec.ofNat 4 s.toNat)) else
  match s.toNat with
  | 0x00 => some (.opNop e)
  | 0x01 => some (.opEnd e)
  | 0x02 => some (.opRet e)
  | 0x03 => some (.opJmpx e)
  | 0x04 => some (.opCallx e)
  | 0x05 => some (.opNot e)
  | 0x06 => some (.opSetl e)
  | 0x07 => some (.opClrl e)
  | 0x08 => some (.opBpsh e)
  | 0x09 => some (.opBrd e)
  | 0x0A => some (.opBrda e)
  | 0x0B => some (.opBrdo e)
  | 0x0C => some (.opBpop e)
  | 0x0D => some (.opBppa e)
  | 0x0E => some (.opBppo e)
  | 0x0F => some (.opBdrp e)
  | 0x20 => some (.opTos e)
  | 0x21 => some (.opTdz e)
  | 0x22 => some (.opTnv e)
  | 0x23 => some (.opTnx e)
  | 0x24 => some (.opClrs e)
  | 0x28 => some (.opTax e)
  | 0x29 => some (.opTxa e)
  | 0x2A => some (.opTay e)
  | 0x2B => some (.opTya e)
  | 0x2C => some (.opTxy e)
  | 0x2D => some (.opTyx e)
  | 0x2E => some (.opInx e)
  | 0x2F => some (.opDex e)
  | 0x30 => some (.opIny e)
  | 0x31 => some (.opDey e)
  | 0x32 => some (.opNeg e)
  | 0x33 => some (.opCpl e)
  | 0x34 => some (.opLra e)
  | 0x35 => some (.opAlr e)
  | 0x38 => some (.opItof e)
  | 0x39 => some (.opFtoi e)
  | 0x3A => some (.opFneg e)
  | 0x3B => some (.opFabs e)
  | _ => none

/-- The instruction of page 0x39. -/
def decodePage39 (e : BitVec 7) (s : BitVec 6) (imm : BitVec 14) : Option Instr :=
  match s.toNat with
  | 0x00 => some (.opLdk e imm)
  | 0x01 => some (.opLdks e imm)
  | 0x02 => some (.opAddk e imm)
  | 0x03 => some (.opCmpk e imm)
  | 0x04 => some (.opAndk e imm)
  | 0x05 => some (.opOrk e imm)
  | 0x06 => some (.opXork e imm)
  | 0x07 => some (.opShlk e imm)
  | 0x08 => some (.opShrk e imm)
  | 0x09 => some (.opSark e imm)
  | 0x0A => some (.opRolk e imm)
  | 0x0B => some (.opRork e imm)
  | 0x0C => some (.opLxk e imm)
  | 0x0D => some (.opLxks e imm)
  | 0x0E => some (.opAxk e imm)
  | 0x0F => some (.opLyk e imm)
  | 0x10 => some (.opLyks e imm)
  | 0x11 => some (.opAyk e imm)
  | _ => none

/-- The SYS service of page 0x3A. -/
def decodePage3A (e : BitVec 7) (s : BitVec 6) : Option Instr :=
  match s.toNat with
  | 0x00 => some (.opTrel e)
  | 0x01 => some (.opTmerl e)
  | 0x02 => some (.opTmerh e)
  | 0x03 => some (.opTcyc e)
  | 0x08 => some (.opCanrd e)
  | 0x09 => some (.opCantx e)
  | 0x0A => some (.opCanst e)
  | 0x10 => some (.opCadrd e)
  | 0x11 => some (.opCadwr e)
  | 0x18 => some (.opEvrec e)
  | 0x20 => some (.opImgrq e)
  | 0x21 => some (.opImgwr e)
  | 0x28 => some (.opIrq e)
  | 0x30 => some (.opSfrd e)
  | 0x31 => some (.opSfrst e)
  | 0x3F => some (.opBrk e)
  | _ => none

/-- The instruction that engine `e` reads from word 0 and the word after it; what R73 calls illegal is that
instruction. Word 1 of a one-word instruction is not part of it. -/
def engDecode (e : BitVec 7) (w0 w1 : BitVec 14) : Instr :=
  let m := modeOf w0
  let x := if m = 3 then w1 else 0
  let r :=
    if opOf w0 < 0x38 then decodePrimary e (opOf w0) m (sOf w0) x
    else if opOf w0 = 0x38 then (if m = 0 then decodePage38 e (sOf w0) else none)
    else if opOf w0 = 0x39 then (if m = 3 then decodePage39 e (sOf w0) w1 else none)
    else if opOf w0 = 0x3A then (if m = 0 then decodePage3A e (sOf w0) else none)
    else if opOf w0 = 0x3F then some (.opCustomer e m (sOf w0) x)
    else none
  r.getD (.opIllegal e w0)

/-- The words of an engine instruction: word 0 and, when it has two words, word 1; none for a command that is no
instruction. -/
def engEncode : Instr → Option (BitVec 14 × Option (BitVec 14))
  | .opLd _ m s w1 => some (word0 0x00 m s, if m = 3 then some w1 else none)
  | .opLdn _ m s w1 => some (word0 0x01 m s, if m = 3 then some w1 else none)
  | .opAnd _ m s w1 => some (word0 0x02 m s, if m = 3 then some w1 else none)
  | .opAndn _ m s w1 => some (word0 0x03 m s, if m = 3 then some w1 else none)
  | .opOr _ m s w1 => some (word0 0x04 m s, if m = 3 then some w1 else none)
  | .opOrn _ m s w1 => some (word0 0x05 m s, if m = 3 then some w1 else none)
  | .opXor _ m s w1 => some (word0 0x06 m s, if m = 3 then some w1 else none)
  | .opXorn _ m s w1 => some (word0 0x07 m s, if m = 3 then some w1 else none)
  | .opSt _ m s w1 => some (word0 0x08 m s, if m = 3 then some w1 else none)
  | .opStn _ m s w1 => some (word0 0x09 m s, if m = 3 then some w1 else none)
  | .opSet _ m s w1 => some (word0 0x0A m s, if m = 3 then some w1 else none)
  | .opRst _ m s w1 => some (word0 0x0B m s, if m = 3 then some w1 else none)
  | .opEdp _ m s w1 => some (word0 0x0C m s, if m = 3 then some w1 else none)
  | .opEdn _ m s w1 => some (word0 0x0D m s, if m = 3 then some w1 else none)
  | .opTon _ m s w1 => some (word0 0x10 m s, if m = 3 then some w1 else none)
  | .opTof _ m s w1 => some (word0 0x11 m s, if m = 3 then some w1 else none)
  | .opTp _ m s w1 => some (word0 0x12 m s, if m = 3 then some w1 else none)
  | .opTrs _ m s w1 => some (word0 0x13 m s, if m = 3 then some w1 else none)
  | .opCtu _ m s w1 => some (word0 0x14 m s, if m = 3 then some w1 else none)
  | .opCtd _ m s w1 => some (word0 0x15 m s, if m = 3 then some w1 else none)
  | .opCrs _ m s w1 => some (word0 0x16 m s, if m = 3 then some w1 else none)
  | .opCld _ m s w1 => some (word0 0x17 m s, if m = 3 then some w1 else none)
  | .opLda _ m s w1 => some (word0 0x18 m s, if m = 3 then some w1 else none)
  | .opSta _ m s w1 => some (word0 0x19 m s, if m = 3 then some w1 else none)
  | .opAdd _ m s w1 => some (word0 0x1A m s, if m = 3 then some w1 else none)
  | .opSub _ m s w1 => some (word0 0x1B m s, if m = 3 then some w1 else none)
  | .opMul _ m s w1 => some (word0 0x1C m s, if m = 3 then some w1 else none)
  | .opDiv _ m s w1 => some (word0 0x1D m s, if m = 3 then some w1 else none)
  | .opMod _ m s w1 => some (word0 0x1E m s, if m = 3 then some w1 else none)
  | .opCmp _ m s w1 => some (word0 0x1F m s, if m = 3 then some w1 else none)
  | .opAndw _ m s w1 => some (word0 0x20 m s, if m = 3 then some w1 else none)
  | .opOrw _ m s w1 => some (word0 0x21 m s, if m = 3 then some w1 else none)
  | .opXorw _ m s w1 => some (word0 0x22 m s, if m = 3 then some w1 else none)
  | .opShl _ m s w1 => some (word0 0x23 m s, if m = 3 then some w1 else none)
  | .opShr _ m s w1 => some (word0 0x24 m s, if m = 3 then some w1 else none)
  | .opSar _ m s w1 => some (word0 0x25 m s, if m = 3 then some w1 else none)
  | .opRol _ m s w1 => some (word0 0x26 m s, if m = 3 then some w1 else none)
  | .opRor _ m s w1 => some (word0 0x27 m s, if m = 3 then some w1 else none)
  | .opFadd _ m s w1 => some (word0 0x28 m s, if m = 3 then some w1 else none)
  | .opFsub _ m s w1 => some (word0 0x29 m s, if m = 3 then some w1 else none)
  | .opFmul _ m s w1 => some (word0 0x2A m s, if m = 3 then some w1 else none)
  | .opFdiv _ m s w1 => some (word0 0x2B m s, if m = 3 then some w1 else none)
  | .opFcmp _ m s w1 => some (word0 0x2C m s, if m = 3 then some w1 else none)
  | .opAdc _ m s w1 => some (word0 0x2D m s, if m = 3 then some w1 else none)
  | .opSbc _ m s w1 => some (word0 0x2E m s, if m = 3 then some w1 else none)
  | .opLdi _ m s w1 => some (word0 0x2F m s, if m = 3 then some w1 else none)
  | .opSti _ m s w1 => some (word0 0x30 m s, if m = 3 then some w1 else none)
  | .opLdx _ m s w1 => some (word0 0x31 m s, if m = 3 then some w1 else none)
  | .opStx _ m s w1 => some (word0 0x32 m s, if m = 3 then some w1 else none)
  | .opLdy _ m s w1 => some (word0 0x33 m s, if m = 3 then some w1 else none)
  | .opSty _ m s w1 => some (word0 0x34 m s, if m = 3 then some w1 else none)
  | .opJmp _ m s w1 => some (word0 0x35 m s, if m = 3 then some w1 else none)
  | .opJc _ m s w1 => some (word0 0x36 m s, if m = 3 then some w1 else none)
  | .opCall _ m s w1 => some (word0 0x37 m s, if m = 3 then some w1 else none)
  | .opCnd _ cc => some (word0 0x38 0 (BitVec.ofNat 6 (0x10 + cc.toNat)), none)
  | .opNop _ => some (word0 0x38 0 0x00, none)
  | .opEnd _ => some (word0 0x38 0 0x01, none)
  | .opRet _ => some (word0 0x38 0 0x02, none)
  | .opJmpx _ => some (word0 0x38 0 0x03, none)
  | .opCallx _ => some (word0 0x38 0 0x04, none)
  | .opNot _ => some (word0 0x38 0 0x05, none)
  | .opSetl _ => some (word0 0x38 0 0x06, none)
  | .opClrl _ => some (word0 0x38 0 0x07, none)
  | .opBpsh _ => some (word0 0x38 0 0x08, none)
  | .opBrd _ => some (word0 0x38 0 0x09, none)
  | .opBrda _ => some (word0 0x38 0 0x0A, none)
  | .opBrdo _ => some (word0 0x38 0 0x0B, none)
  | .opBpop _ => some (word0 0x38 0 0x0C, none)
  | .opBppa _ => some (word0 0x38 0 0x0D, none)
  | .opBppo _ => some (word0 0x38 0 0x0E, none)
  | .opBdrp _ => some (word0 0x38 0 0x0F, none)
  | .opTos _ => some (word0 0x38 0 0x20, none)
  | .opTdz _ => some (word0 0x38 0 0x21, none)
  | .opTnv _ => some (word0 0x38 0 0x22, none)
  | .opTnx _ => some (word0 0x38 0 0x23, none)
  | .opClrs _ => some (word0 0x38 0 0x24, none)
  | .opTax _ => some (word0 0x38 0 0x28, none)
  | .opTxa _ => some (word0 0x38 0 0x29, none)
  | .opTay _ => some (word0 0x38 0 0x2A, none)
  | .opTya _ => some (word0 0x38 0 0x2B, none)
  | .opTxy _ => some (word0 0x38 0 0x2C, none)
  | .opTyx _ => some (word0 0x38 0 0x2D, none)
  | .opInx _ => some (word0 0x38 0 0x2E, none)
  | .opDex _ => some (word0 0x38 0 0x2F, none)
  | .opIny _ => some (word0 0x38 0 0x30, none)
  | .opDey _ => some (word0 0x38 0 0x31, none)
  | .opNeg _ => some (word0 0x38 0 0x32, none)
  | .opCpl _ => some (word0 0x38 0 0x33, none)
  | .opLra _ => some (word0 0x38 0 0x34, none)
  | .opAlr _ => some (word0 0x38 0 0x35, none)
  | .opItof _ => some (word0 0x38 0 0x38, none)
  | .opFtoi _ => some (word0 0x38 0 0x39, none)
  | .opFneg _ => some (word0 0x38 0 0x3A, none)
  | .opFabs _ => some (word0 0x38 0 0x3B, none)
  | .opLdk _ imm => some (word0 0x39 3 0x00, some imm)
  | .opLdks _ imm => some (word0 0x39 3 0x01, some imm)
  | .opAddk _ imm => some (word0 0x39 3 0x02, some imm)
  | .opCmpk _ imm => some (word0 0x39 3 0x03, some imm)
  | .opAndk _ imm => some (word0 0x39 3 0x04, some imm)
  | .opOrk _ imm => some (word0 0x39 3 0x05, some imm)
  | .opXork _ imm => some (word0 0x39 3 0x06, some imm)
  | .opShlk _ imm => some (word0 0x39 3 0x07, some imm)
  | .opShrk _ imm => some (word0 0x39 3 0x08, some imm)
  | .opSark _ imm => some (word0 0x39 3 0x09, some imm)
  | .opRolk _ imm => some (word0 0x39 3 0x0A, some imm)
  | .opRork _ imm => some (word0 0x39 3 0x0B, some imm)
  | .opLxk _ imm => some (word0 0x39 3 0x0C, some imm)
  | .opLxks _ imm => some (word0 0x39 3 0x0D, some imm)
  | .opAxk _ imm => some (word0 0x39 3 0x0E, some imm)
  | .opLyk _ imm => some (word0 0x39 3 0x0F, some imm)
  | .opLyks _ imm => some (word0 0x39 3 0x10, some imm)
  | .opAyk _ imm => some (word0 0x39 3 0x11, some imm)
  | .opTrel _ => some (word0 0x3A 0 0x00, none)
  | .opTmerl _ => some (word0 0x3A 0 0x01, none)
  | .opTmerh _ => some (word0 0x3A 0 0x02, none)
  | .opTcyc _ => some (word0 0x3A 0 0x03, none)
  | .opCanrd _ => some (word0 0x3A 0 0x08, none)
  | .opCantx _ => some (word0 0x3A 0 0x09, none)
  | .opCanst _ => some (word0 0x3A 0 0x0A, none)
  | .opCadrd _ => some (word0 0x3A 0 0x10, none)
  | .opCadwr _ => some (word0 0x3A 0 0x11, none)
  | .opEvrec _ => some (word0 0x3A 0 0x18, none)
  | .opImgrq _ => some (word0 0x3A 0 0x20, none)
  | .opImgwr _ => some (word0 0x3A 0 0x21, none)
  | .opIrq _ => some (word0 0x3A 0 0x28, none)
  | .opSfrd _ => some (word0 0x3A 0 0x30, none)
  | .opSfrst _ => some (word0 0x3A 0 0x31, none)
  | .opBrk _ => some (word0 0x3A 0 0x3F, none)
  | .opCustomer _ m s w1 => some (word0 0x3F m s, if m = 3 then some w1 else none)
  | .opIllegal _ w0 => some (w0, none)
  | _ => none

/-- The engine of an engine instruction. -/
def engOf : Instr → BitVec 7
  | .opLd e _ _ _ => e
  | .opLdn e _ _ _ => e
  | .opAnd e _ _ _ => e
  | .opAndn e _ _ _ => e
  | .opOr e _ _ _ => e
  | .opOrn e _ _ _ => e
  | .opXor e _ _ _ => e
  | .opXorn e _ _ _ => e
  | .opSt e _ _ _ => e
  | .opStn e _ _ _ => e
  | .opSet e _ _ _ => e
  | .opRst e _ _ _ => e
  | .opEdp e _ _ _ => e
  | .opEdn e _ _ _ => e
  | .opTon e _ _ _ => e
  | .opTof e _ _ _ => e
  | .opTp e _ _ _ => e
  | .opTrs e _ _ _ => e
  | .opCtu e _ _ _ => e
  | .opCtd e _ _ _ => e
  | .opCrs e _ _ _ => e
  | .opCld e _ _ _ => e
  | .opLda e _ _ _ => e
  | .opSta e _ _ _ => e
  | .opAdd e _ _ _ => e
  | .opSub e _ _ _ => e
  | .opMul e _ _ _ => e
  | .opDiv e _ _ _ => e
  | .opMod e _ _ _ => e
  | .opCmp e _ _ _ => e
  | .opAndw e _ _ _ => e
  | .opOrw e _ _ _ => e
  | .opXorw e _ _ _ => e
  | .opShl e _ _ _ => e
  | .opShr e _ _ _ => e
  | .opSar e _ _ _ => e
  | .opRol e _ _ _ => e
  | .opRor e _ _ _ => e
  | .opFadd e _ _ _ => e
  | .opFsub e _ _ _ => e
  | .opFmul e _ _ _ => e
  | .opFdiv e _ _ _ => e
  | .opFcmp e _ _ _ => e
  | .opAdc e _ _ _ => e
  | .opSbc e _ _ _ => e
  | .opLdi e _ _ _ => e
  | .opSti e _ _ _ => e
  | .opLdx e _ _ _ => e
  | .opStx e _ _ _ => e
  | .opLdy e _ _ _ => e
  | .opSty e _ _ _ => e
  | .opJmp e _ _ _ => e
  | .opJc e _ _ _ => e
  | .opCall e _ _ _ => e
  | .opCnd e _ => e
  | .opNop e => e
  | .opEnd e => e
  | .opRet e => e
  | .opJmpx e => e
  | .opCallx e => e
  | .opNot e => e
  | .opSetl e => e
  | .opClrl e => e
  | .opBpsh e => e
  | .opBrd e => e
  | .opBrda e => e
  | .opBrdo e => e
  | .opBpop e => e
  | .opBppa e => e
  | .opBppo e => e
  | .opBdrp e => e
  | .opTos e => e
  | .opTdz e => e
  | .opTnv e => e
  | .opTnx e => e
  | .opClrs e => e
  | .opTax e => e
  | .opTxa e => e
  | .opTay e => e
  | .opTya e => e
  | .opTxy e => e
  | .opTyx e => e
  | .opInx e => e
  | .opDex e => e
  | .opIny e => e
  | .opDey e => e
  | .opNeg e => e
  | .opCpl e => e
  | .opLra e => e
  | .opAlr e => e
  | .opItof e => e
  | .opFtoi e => e
  | .opFneg e => e
  | .opFabs e => e
  | .opLdk e _ => e
  | .opLdks e _ => e
  | .opAddk e _ => e
  | .opCmpk e _ => e
  | .opAndk e _ => e
  | .opOrk e _ => e
  | .opXork e _ => e
  | .opShlk e _ => e
  | .opShrk e _ => e
  | .opSark e _ => e
  | .opRolk e _ => e
  | .opRork e _ => e
  | .opLxk e _ => e
  | .opLxks e _ => e
  | .opAxk e _ => e
  | .opLyk e _ => e
  | .opLyks e _ => e
  | .opAyk e _ => e
  | .opTrel e => e
  | .opTmerl e => e
  | .opTmerh e => e
  | .opTcyc e => e
  | .opCanrd e => e
  | .opCantx e => e
  | .opCanst e => e
  | .opCadrd e => e
  | .opCadwr e => e
  | .opEvrec e => e
  | .opImgrq e => e
  | .opImgwr e => e
  | .opIrq e => e
  | .opSfrd e => e
  | .opSfrst e => e
  | .opBrk e => e
  | .opCustomer e _ _ _ => e
  | .opIllegal e _ => e
  | _ => 0

end Sys2Proof.Machine
end

