-- ==== Sys2Proof/Machine/EngBit.lean ====
section
/-!
DEFINITION. Bit logic, the branch stack and edges (spec/03 R68, R76, R80; tables "Bit logic instructions" and "Edge, timer and counter instructions").
-/
namespace Sys2Proof.Machine

/-- A bit instruction that reads operand b and writes LR. -/
def State.bitOp (st : State) (e : Nat) (o : Opnd) (f : Bool → Bool → Bool) : State :=
  st.issue e o.words o.words (fun p _ c =>
    (st.readBit c p (o.ea c .bit)).bind (fun b => Eff.reg { c with lr := f c.lr b }))

/-- A bit store: the value stored from LR, or no store (SET and RST with LR = 0), after the address check. -/
def State.bitStore (st : State) (e : Nat) (o : Opnd) (f : Bool → Option Bool) : State :=
  st.issue e o.words o.words (fun p _ c =>
    match f c.lr with
    | some v => (st.storeBit p (o.ea c .bit) v).map (fun m => { ctx := c, wr := [m], jump := none, late := none })
    | none => (st.checkBit p (o.ea c .bit)).map (fun _ => { ctx := c, wr := [], jump := none, late := none }))

/-- A one-word instruction of page 0x38 that changes its context alone. -/
def State.regOp (st : State) (e : Nat) (f : Ctx → Ctx) : State := st.issue e 1 1 (fun _ _ c => Eff.reg (f c))

/-- The branch stack with LR pushed. -/
def Ctx.push (c : Ctx) : Ctx :=
  { c with bs := (c.bs &&& ~~~(BitVec.twoPow 16 c.bsd)) ||| (if c.lr then BitVec.twoPow 16 c.bsd else 0), bsd := c.bsd + 1 }
/-- The top entry of the branch stack. -/
def Ctx.top (c : Ctx) : Bool := c.bs.getLsbD (c.bsd - 1)
/-- BPSH: trap 0x06 at depth 16 (R76). -/
def State.stackPush (st : State) (e : Nat) : State :=
  st.issue e 1 1 (fun _ _ c => if 16 ≤ c.bsd then .error (Trap.plain 6) else Eff.reg c.push)
/-- A read or pop of the branch stack: trap 0x07 at depth 0 (R76). -/
def State.stackOp (st : State) (e : Nat) (pop : Nat) (f : Bool → Bool → Bool) : State :=
  st.issue e 1 1 (fun _ _ c =>
    if c.bsd = 0 then .error (Trap.plain 7) else Eff.reg { c with lr := f c.lr c.top, bsd := c.bsd - pop })

/-- EDP and EDN: one clock more than words; m takes the old LR. -/
def State.edge (st : State) (e : Nat) (o : Opnd) (f : Bool → Bool → Bool) : State :=
  st.issue e o.words (o.words + 1) (fun p _ c =>
    (st.readBit c p (o.ea c .bit)).bind (fun m =>
      (st.storeBit p (o.ea c .bit) c.lr).map (fun w => { ctx := { c with lr := f c.lr m }, wr := [w], jump := none, late := none })))

/-- LD: LR ← b (R68, R72). -/
def execOpLd (e : BitVec 7) (mode : BitVec 2) (s : BitVec 6) (w1 : BitVec 14) (st : State) : Host.Outcome State Fault Refusal :=
  .next (st.bitOp e.toNat ⟨mode, s, w1⟩ (fun _ b => b))

/-- LDN: LR ← ¬b (R68, R72). -/
def execOpLdn (e : BitVec 7) (mode : BitVec 2) (s : BitVec 6) (w1 : BitVec 14) (st : State) : Host.Outcome State Fault Refusal :=
  .next (st.bitOp e.toNat ⟨mode, s, w1⟩ (fun _ b => !b))

/-- AND: LR ← LR ∧ b (R68, R72). -/
def execOpAnd (e : BitVec 7) (mode : BitVec 2) (s : BitVec 6) (w1 : BitVec 14) (st : State) : Host.Outcome State Fault Refusal :=
  .next (st.bitOp e.toNat ⟨mode, s, w1⟩ (fun l b => l && b))

/-- ANDN: LR ← LR ∧ ¬b (R68, R72). -/
def execOpAndn (e : BitVec 7) (mode : BitVec 2) (s : BitVec 6) (w1 : BitVec 14) (st : State) : Host.Outcome State Fault Refusal :=
  .next (st.bitOp e.toNat ⟨mode, s, w1⟩ (fun l b => l && !b))

/-- OR: LR ← LR ∨ b (R68, R72). -/
def execOpOr (e : BitVec 7) (mode : BitVec 2) (s : BitVec 6) (w1 : BitVec 14) (st : State) : Host.Outcome State Fault Refusal :=
  .next (st.bitOp e.toNat ⟨mode, s, w1⟩ (fun l b => l || b))

/-- ORN: LR ← LR ∨ ¬b (R68, R72). -/
def execOpOrn (e : BitVec 7) (mode : BitVec 2) (s : BitVec 6) (w1 : BitVec 14) (st : State) : Host.Outcome State Fault Refusal :=
  .next (st.bitOp e.toNat ⟨mode, s, w1⟩ (fun l b => l || !b))

/-- XOR: LR ← LR ⊕ b (R68, R72). -/
def execOpXor (e : BitVec 7) (mode : BitVec 2) (s : BitVec 6) (w1 : BitVec 14) (st : State) : Host.Outcome State Fault Refusal :=
  .next (st.bitOp e.toNat ⟨mode, s, w1⟩ (fun l b => l != b))

/-- XORN: LR ← LR ⊕ ¬b (R68, R72). -/
def execOpXorn (e : BitVec 7) (mode : BitVec 2) (s : BitVec 6) (w1 : BitVec 14) (st : State) : Host.Outcome State Fault Refusal :=
  .next (st.bitOp e.toNat ⟨mode, s, w1⟩ (fun l b => l != !b))

/-- ST: b ← LR (R70). -/
def execOpSt (e : BitVec 7) (mode : BitVec 2) (s : BitVec 6) (w1 : BitVec 14) (st : State) : Host.Outcome State Fault Refusal :=
  .next (st.bitStore e.toNat ⟨mode, s, w1⟩ (fun l => some l))

/-- STN: b ← ¬LR (R70). -/
def execOpStn (e : BitVec 7) (mode : BitVec 2) (s : BitVec 6) (w1 : BitVec 14) (st : State) : Host.Outcome State Fault Refusal :=
  .next (st.bitStore e.toNat ⟨mode, s, w1⟩ (fun l => some (!l)))

/-- SET: if LR then b ← 1 (R70). -/
def execOpSet (e : BitVec 7) (mode : BitVec 2) (s : BitVec 6) (w1 : BitVec 14) (st : State) : Host.Outcome State Fault Refusal :=
  .next (st.bitStore e.toNat ⟨mode, s, w1⟩ (fun l => if l then some true else none))

/-- RST: if LR then b ← 0 (R70). -/
def execOpRst (e : BitVec 7) (mode : BitVec 2) (s : BitVec 6) (w1 : BitVec 14) (st : State) : Host.Outcome State Fault Refusal :=
  .next (st.bitStore e.toNat ⟨mode, s, w1⟩ (fun l => if l then some false else none))

/-- NOT: LR ← ¬LR. -/
def execOpNot (e : BitVec 7) (st : State) : Host.Outcome State Fault Refusal :=
  .next (st.regOp e.toNat (fun c => { c with lr := !c.lr }))

/-- SETL: LR ← 1. -/
def execOpSetl (e : BitVec 7) (st : State) : Host.Outcome State Fault Refusal :=
  .next (st.regOp e.toNat (fun c => { c with lr := true }))

/-- CLRL: LR ← 0. -/
def execOpClrl (e : BitVec 7) (st : State) : Host.Outcome State Fault Refusal :=
  .next (st.regOp e.toNat (fun c => { c with lr := false }))

/-- BPSH: push LR (R76). -/
def execOpBpsh (e : BitVec 7) (st : State) : Host.Outcome State Fault Refusal :=
  .next (st.stackPush e.toNat)

/-- BRD: LR ← top (R76). -/
def execOpBrd (e : BitVec 7) (st : State) : Host.Outcome State Fault Refusal :=
  .next (st.stackOp e.toNat 0 (fun _ t => t))

/-- BRDA: LR ← LR ∧ top (R76). -/
def execOpBrda (e : BitVec 7) (st : State) : Host.Outcome State Fault Refusal :=
  .next (st.stackOp e.toNat 0 (fun l t => l && t))

/-- BRDO: LR ← LR ∨ top (R76). -/
def execOpBrdo (e : BitVec 7) (st : State) : Host.Outcome State Fault Refusal :=
  .next (st.stackOp e.toNat 0 (fun l t => l || t))

/-- BPOP: LR ← pop (R76). -/
def execOpBpop (e : BitVec 7) (st : State) : Host.Outcome State Fault Refusal :=
  .next (st.stackOp e.toNat 1 (fun _ t => t))

/-- BPPA: LR ← LR ∧ pop (R76). -/
def execOpBppa (e : BitVec 7) (st : State) : Host.Outcome State Fault Refusal :=
  .next (st.stackOp e.toNat 1 (fun l t => l && t))

/-- BPPO: LR ← LR ∨ pop (R76). -/
def execOpBppo (e : BitVec 7) (st : State) : Host.Outcome State Fault Refusal :=
  .next (st.stackOp e.toNat 1 (fun l t => l || t))

/-- BDRP: discard the top entry (R76). -/
def execOpBdrp (e : BitVec 7) (st : State) : Host.Outcome State Fault Refusal :=
  .next (st.stackOp e.toNat 1 (fun l _ => l))

/-- LRA: A ← zext(LR), 2 clocks later. -/
def execOpLra (e : BitVec 7) (st : State) : Host.Outcome State Fault Refusal :=
  .next (st.regOp e.toNat (fun c => c.putA (BitVec.ofNat 32 c.lr.toNat) 2))

/-- ALR: LR ← (A ≠ 0). -/
def execOpAlr (e : BitVec 7) (st : State) : Host.Outcome State Fault Refusal :=
  .next (st.regOp e.toNat (fun c => { c with lr := decide (c.a ≠ 0) }))

/-- EDP: LR ← LR ∧ ¬m, m ← old LR (R80). -/
def execOpEdp (e : BitVec 7) (mode : BitVec 2) (s : BitVec 6) (w1 : BitVec 14) (st : State) : Host.Outcome State Fault Refusal :=
  .next (st.edge e.toNat ⟨mode, s, w1⟩ (fun l m => l && !m))

/-- EDN: LR ← ¬LR ∧ m, m ← old LR (R80). -/
def execOpEdn (e : BitVec 7) (mode : BitVec 2) (s : BitVec 6) (w1 : BitVec 14) (st : State) : Host.Outcome State Fault Refusal :=
  .next (st.edge e.toNat ⟨mode, s, w1⟩ (fun l m => !l && m))

end Sys2Proof.Machine
end

