-- ==== Sys2Proof/Machine/EngArith.lean ====
section
/-!
DEFINITION. Integer arithmetic, logic, shifts, binary32, compares and conditions (spec/03 R81 to R86).
-/
namespace Sys2Proof.Machine

/-- An instruction on A and a word-space operand, its result `d` clocks away. -/
def State.wordOp (st : State) (e : Nat) (o : Opnd) (d : Nat) (l : BitVec 8) (f : Ctx → W → Res) : State :=
  st.issue e o.words o.words (fun p _ c =>
    (st.readWord c p (o.ea c .word)).bind (fun m => Eff.reg (c.putRes (f c m) l d)))

/-- A compare with a word-space operand: flags alone. -/
def State.cmpOp (st : State) (e : Nat) (o : Opnd) (d : Nat) (l : BitVec 8) (f : Ctx → W → BitVec 8) : State :=
  st.issue e o.words o.words (fun p _ c =>
    (st.readWord c p (o.ea c .word)).bind (fun m => Eff.reg (c.putFlags (f c m) l d)))

/-- DIV and MOD: with the partition's TRAPDZ set a zero divisor traps 0x0A at issue (R82). -/
def State.divOp (st : State) (e : Nat) (o : Opnd) (f : W → W → Res) : State :=
  st.issue e o.words o.words (fun p _ c =>
    (st.readWord c p (o.ea c .word)).bind (fun m =>
      if m = 0 ∧ st.rb (aPD_OPT p) 1 then .error (Trap.plain 0x0A) else Eff.reg (c.putRes (f c.a m) fZNV 34)))

/-- A two-word immediate instruction of page 0x39 that changes its context alone. -/
def State.immOp (st : State) (e : Nat) (f : Ctx → Ctx) : State := st.issue e 2 2 (fun _ _ c => Eff.reg (f c))

/-- C of F. -/
def Ctx.cf (c : Ctx) : Bool := c.f.getLsbD 2

/-- A shift by the low 8 bits of a word. -/
def State.shiftOp (st : State) (e : Nat) (o : Opnd) (f : W → Nat → Bool → Res) : State :=
  st.wordOp e o 2 fZNC (fun c m => f c.a (fld m 7 0) c.cf)
/-- A shift by imm14[7:0]. -/
def State.shiftImm (st : State) (e : Nat) (imm : BitVec 14) (f : W → Nat → Bool → Res) : State :=
  st.immOp e (fun c => c.putRes (f c.a (imm.toNat % 256) c.cf) fZNC 2)

/-- ADD: A ← A + m (R81). -/
def execOpAdd (e : BitVec 7) (mode : BitVec 2) (s : BitVec 6) (w1 : BitVec 14) (st : State) : Host.Outcome State Fault Refusal :=
  .next (st.wordOp e.toNat ⟨mode, s, w1⟩ 2 fZNCV (fun c m => addRes c.a m false))

/-- SUB: A ← A − m (R81). -/
def execOpSub (e : BitVec 7) (mode : BitVec 2) (s : BitVec 6) (w1 : BitVec 14) (st : State) : Host.Outcome State Fault Refusal :=
  .next (st.wordOp e.toNat ⟨mode, s, w1⟩ 2 fZNCV (fun c m => subRes c.a m false))

/-- ADC: A ← A + m + C (R81). -/
def execOpAdc (e : BitVec 7) (mode : BitVec 2) (s : BitVec 6) (w1 : BitVec 14) (st : State) : Host.Outcome State Fault Refusal :=
  .next (st.wordOp e.toNat ⟨mode, s, w1⟩ 2 fZNCV (fun c m => addRes c.a m c.cf))

/-- SBC: A ← A − m − C (R81). -/
def execOpSbc (e : BitVec 7) (mode : BitVec 2) (s : BitVec 6) (w1 : BitVec 14) (st : State) : Host.Outcome State Fault Refusal :=
  .next (st.wordOp e.toNat ⟨mode, s, w1⟩ 2 fZNCV (fun c m => subRes c.a m c.cf))

/-- MUL: A ← low 32 bits of A × m (R81). -/
def execOpMul (e : BitVec 7) (mode : BitVec 2) (s : BitVec 6) (w1 : BitVec 14) (st : State) : Host.Outcome State Fault Refusal :=
  .next (st.wordOp e.toNat ⟨mode, s, w1⟩ 3 fZNV (fun c m => mulRes c.a m))

/-- DIV: A ← A ÷ m, 34 clocks away (R81, R82). -/
def execOpDiv (e : BitVec 7) (mode : BitVec 2) (s : BitVec 6) (w1 : BitVec 14) (st : State) : Host.Outcome State Fault Refusal :=
  .next (st.divOp e.toNat ⟨mode, s, w1⟩ divRes)

/-- MOD: A ← A − m × (A ÷ m), 34 clocks away (R81, R82). -/
def execOpMod (e : BitVec 7) (mode : BitVec 2) (s : BitVec 6) (w1 : BitVec 14) (st : State) : Host.Outcome State Fault Refusal :=
  .next (st.divOp e.toNat ⟨mode, s, w1⟩ modRes)

/-- ANDW: A ← A &&& m. -/
def execOpAndw (e : BitVec 7) (mode : BitVec 2) (s : BitVec 6) (w1 : BitVec 14) (st : State) : Host.Outcome State Fault Refusal :=
  .next (st.wordOp e.toNat ⟨mode, s, w1⟩ 2 fZN (fun c m => logicRes (c.a &&& m)))

/-- ORW: A ← A ||| m. -/
def execOpOrw (e : BitVec 7) (mode : BitVec 2) (s : BitVec 6) (w1 : BitVec 14) (st : State) : Host.Outcome State Fault Refusal :=
  .next (st.wordOp e.toNat ⟨mode, s, w1⟩ 2 fZN (fun c m => logicRes (c.a ||| m)))

/-- XORW: A ← A ^^^ m. -/
def execOpXorw (e : BitVec 7) (mode : BitVec 2) (s : BitVec 6) (w1 : BitVec 14) (st : State) : Host.Outcome State Fault Refusal :=
  .next (st.wordOp e.toNat ⟨mode, s, w1⟩ 2 fZN (fun c m => logicRes (c.a ^^^ m)))

/-- NEG: A ← 0 − A. -/
def execOpNeg (e : BitVec 7) (st : State) : Host.Outcome State Fault Refusal :=
  .next (st.regOp e.toNat (fun c => c.putRes (negRes c.a) fZNCV 2))

/-- CPL: A ← ¬A. -/
def execOpCpl (e : BitVec 7) (st : State) : Host.Outcome State Fault Refusal :=
  .next (st.regOp e.toNat (fun c => c.putRes (logicRes (~~~c.a)) fZN 2))

/-- ADDK: A ← A + sext(imm14). -/
def execOpAddk (e : BitVec 7) (imm : BitVec 14) (st : State) : Host.Outcome State Fault Refusal :=
  .next (st.immOp e.toNat (fun c => c.putRes (addRes c.a (imm.signExtend 32) false) fZNCV 2))

/-- ANDK: A ← A &&& zext(imm14). -/
def execOpAndk (e : BitVec 7) (imm : BitVec 14) (st : State) : Host.Outcome State Fault Refusal :=
  .next (st.immOp e.toNat (fun c => c.putRes (logicRes (c.a &&& imm.setWidth 32)) fZN 2))

/-- ORK: A ← A ||| zext(imm14). -/
def execOpOrk (e : BitVec 7) (imm : BitVec 14) (st : State) : Host.Outcome State Fault Refusal :=
  .next (st.immOp e.toNat (fun c => c.putRes (logicRes (c.a ||| imm.setWidth 32)) fZN 2))

/-- XORK: A ← A ^^^ zext(imm14). -/
def execOpXork (e : BitVec 7) (imm : BitVec 14) (st : State) : Host.Outcome State Fault Refusal :=
  .next (st.immOp e.toNat (fun c => c.putRes (logicRes (c.a ^^^ imm.setWidth 32)) fZN 2))

/-- CLRS: OS, DZ, NV and NX ← 0, 2 clocks later (R97). -/
def execOpClrs (e : BitVec 7) (st : State) : Host.Outcome State Fault Refusal :=
  .next (st.regOp e.toNat (fun c => c.unstick 2))

/-- SHL by m[7:0] (R83). -/
def execOpShl (e : BitVec 7) (mode : BitVec 2) (s : BitVec 6) (w1 : BitVec 14) (st : State) : Host.Outcome State Fault Refusal :=
  .next (st.shiftOp e.toNat ⟨mode, s, w1⟩ shlRes)

/-- SHR by m[7:0] (R83). -/
def execOpShr (e : BitVec 7) (mode : BitVec 2) (s : BitVec 6) (w1 : BitVec 14) (st : State) : Host.Outcome State Fault Refusal :=
  .next (st.shiftOp e.toNat ⟨mode, s, w1⟩ shrRes)

/-- SAR by m[7:0] (R83). -/
def execOpSar (e : BitVec 7) (mode : BitVec 2) (s : BitVec 6) (w1 : BitVec 14) (st : State) : Host.Outcome State Fault Refusal :=
  .next (st.shiftOp e.toNat ⟨mode, s, w1⟩ sarRes)

/-- ROL by m[7:0] (R83). -/
def execOpRol (e : BitVec 7) (mode : BitVec 2) (s : BitVec 6) (w1 : BitVec 14) (st : State) : Host.Outcome State Fault Refusal :=
  .next (st.shiftOp e.toNat ⟨mode, s, w1⟩ rolRes)

/-- ROR by m[7:0] (R83). -/
def execOpRor (e : BitVec 7) (mode : BitVec 2) (s : BitVec 6) (w1 : BitVec 14) (st : State) : Host.Outcome State Fault Refusal :=
  .next (st.shiftOp e.toNat ⟨mode, s, w1⟩ rorRes)

/-- SHLK by imm14[7:0] (R83). -/
def execOpShlk (e : BitVec 7) (imm : BitVec 14) (st : State) : Host.Outcome State Fault Refusal :=
  .next (st.shiftImm e.toNat imm shlRes)

/-- SHRK by imm14[7:0] (R83). -/
def execOpShrk (e : BitVec 7) (imm : BitVec 14) (st : State) : Host.Outcome State Fault Refusal :=
  .next (st.shiftImm e.toNat imm shrRes)

/-- SARK by imm14[7:0] (R83). -/
def execOpSark (e : BitVec 7) (imm : BitVec 14) (st : State) : Host.Outcome State Fault Refusal :=
  .next (st.shiftImm e.toNat imm sarRes)

/-- ROLK by imm14[7:0] (R83). -/
def execOpRolk (e : BitVec 7) (imm : BitVec 14) (st : State) : Host.Outcome State Fault Refusal :=
  .next (st.shiftImm e.toNat imm rolRes)

/-- RORK by imm14[7:0] (R83). -/
def execOpRork (e : BitVec 7) (imm : BitVec 14) (st : State) : Host.Outcome State Fault Refusal :=
  .next (st.shiftImm e.toNat imm rorRes)

/-- FADD (R84), 4 clocks away. -/
def execOpFadd (e : BitVec 7) (mode : BitVec 2) (s : BitVec 6) (w1 : BitVec 14) (st : State) : Host.Outcome State Fault Refusal :=
  .next (st.wordOp e.toNat ⟨mode, s, w1⟩ 4 fZN (fun c m => fpResOf (fpAdd c.a m)))

/-- FSUB (R84), 4 clocks away. -/
def execOpFsub (e : BitVec 7) (mode : BitVec 2) (s : BitVec 6) (w1 : BitVec 14) (st : State) : Host.Outcome State Fault Refusal :=
  .next (st.wordOp e.toNat ⟨mode, s, w1⟩ 4 fZN (fun c m => fpResOf (fpSub c.a m)))

/-- FMUL (R84), 4 clocks away. -/
def execOpFmul (e : BitVec 7) (mode : BitVec 2) (s : BitVec 6) (w1 : BitVec 14) (st : State) : Host.Outcome State Fault Refusal :=
  .next (st.wordOp e.toNat ⟨mode, s, w1⟩ 4 fZN (fun c m => fpResOf (fpMul c.a m)))

/-- FDIV (R84), 18 clocks away. -/
def execOpFdiv (e : BitVec 7) (mode : BitVec 2) (s : BitVec 6) (w1 : BitVec 14) (st : State) : Host.Outcome State Fault Refusal :=
  .next (st.wordOp e.toNat ⟨mode, s, w1⟩ 18 fZN (fun c m => fpResOf (fpDiv c.a m)))

/-- FCMP: flags alone (R85). -/
def execOpFcmp (e : BitVec 7) (mode : BitVec 2) (s : BitVec 6) (w1 : BitVec 14) (st : State) : Host.Outcome State Fault Refusal :=
  .next (st.cmpOp e.toNat ⟨mode, s, w1⟩ 4 fZNCV (fun c m => fcmpFlags c.a m))

/-- ITOF: A ← binary32 nearest to signed A (R84). -/
def execOpItof (e : BitVec 7) (st : State) : Host.Outcome State Fault Refusal :=
  .next (st.regOp e.toNat (fun c => c.putRes (fpResOf (fpOfInt c.a)) fZN 4))

/-- FTOI: A ← signed integer nearest to A (R84). -/
def execOpFtoi (e : BitVec 7) (st : State) : Host.Outcome State Fault Refusal :=
  .next (st.regOp e.toNat (fun c => c.putRes (ftoiRes c.a) fZN 4))

/-- FNEG: the sign bit changes, no flag. -/
def execOpFneg (e : BitVec 7) (st : State) : Host.Outcome State Fault Refusal :=
  .next (st.regOp e.toNat (fun c => c.putA (c.a ^^^ 0x80000000) 2))

/-- FABS: the sign bit clears, no flag. -/
def execOpFabs (e : BitVec 7) (st : State) : Host.Outcome State Fault Refusal :=
  .next (st.regOp e.toNat (fun c => c.putA (c.a &&& 0x7FFFFFFF) 2))

/-- CMP: the flags of A − m; OS is not set (R86). -/
def execOpCmp (e : BitVec 7) (mode : BitVec 2) (s : BitVec 6) (w1 : BitVec 14) (st : State) : Host.Outcome State Fault Refusal :=
  .next (st.cmpOp e.toNat ⟨mode, s, w1⟩ 2 fZNCV (fun c m => (subRes c.a m false).fl &&& fZNCV))

/-- CMPK: the flags of A − sext(imm14) (R86). -/
def execOpCmpk (e : BitVec 7) (imm : BitVec 14) (st : State) : Host.Outcome State Fault Refusal :=
  .next (st.immOp e.toNat (fun c => c.putFlags ((subRes c.a (imm.signExtend 32) false).fl &&& fZNCV) fZNCV 2))

/-- CND cc: LR ← condition cc of F. -/
def execOpCnd (e : BitVec 7) (cc : BitVec 4) (st : State) : Host.Outcome State Fault Refusal :=
  .next (st.regOp e.toNat (fun c => { c with lr := condition cc c.f }))

/-- TOS: LR ← the sticky flag. -/
def execOpTos (e : BitVec 7) (st : State) : Host.Outcome State Fault Refusal :=
  .next (st.regOp e.toNat (fun c => { c with lr := c.f.getLsbD 4 }))

/-- TDZ: LR ← the sticky flag. -/
def execOpTdz (e : BitVec 7) (st : State) : Host.Outcome State Fault Refusal :=
  .next (st.regOp e.toNat (fun c => { c with lr := c.f.getLsbD 5 }))

/-- TNV: LR ← the sticky flag. -/
def execOpTnv (e : BitVec 7) (st : State) : Host.Outcome State Fault Refusal :=
  .next (st.regOp e.toNat (fun c => { c with lr := c.f.getLsbD 6 }))

/-- TNX: LR ← the sticky flag. -/
def execOpTnx (e : BitVec 7) (st : State) : Host.Outcome State Fault Refusal :=
  .next (st.regOp e.toNat (fun c => { c with lr := c.f.getLsbD 7 }))

end Sys2Proof.Machine
end

