-- ==== Sys2Proof/Machine/EngLoad.lean ====
section
/-!
DEFINITION. Loads, stores, index and immediate operations (spec/03 R69, R72, R90).
-/
namespace Sys2Proof.Machine

/-- A load from word or image space. -/
def State.loadOp (st : State) (e : Nat) (o : Opnd) (sp : Space) (f : Ctx → W → Ctx) : State :=
  st.issue e o.words o.words (fun p _ c =>
    (st.readW c p (decide (sp = .image)) (o.ea c sp) sp (o.ea c sp)).bind (fun m => Eff.reg (f c m)))

/-- A store to word or image space. -/
def State.storeOp (st : State) (e : Nat) (o : Opnd) (sp : Space) (f : Ctx → W) : State :=
  st.issue e o.words o.words (fun p _ c =>
    (st.storeW p (decide (sp = .image)) (o.ea c sp) sp (o.ea c sp) (f c)).map
      (fun m => { ctx := c, wr := [m], jump := none, late := none }))

/-- LDA: A ← m. -/
def execOpLda (e : BitVec 7) (mode : BitVec 2) (s : BitVec 6) (w1 : BitVec 14) (st : State) : Host.Outcome State Fault Refusal :=
  .next (st.loadOp e.toNat ⟨mode, s, w1⟩ .word (fun c m => c.putA m 2))

/-- STA: m ← A. -/
def execOpSta (e : BitVec 7) (mode : BitVec 2) (s : BitVec 6) (w1 : BitVec 14) (st : State) : Host.Outcome State Fault Refusal :=
  .next (st.storeOp e.toNat ⟨mode, s, w1⟩ .word (fun c => c.a))

/-- LDI: A ← image word. -/
def execOpLdi (e : BitVec 7) (mode : BitVec 2) (s : BitVec 6) (w1 : BitVec 14) (st : State) : Host.Outcome State Fault Refusal :=
  .next (st.loadOp e.toNat ⟨mode, s, w1⟩ .image (fun c m => c.putA m 2))

/-- STI: image word ← A (R90). -/
def execOpSti (e : BitVec 7) (mode : BitVec 2) (s : BitVec 6) (w1 : BitVec 14) (st : State) : Host.Outcome State Fault Refusal :=
  .next (st.storeOp e.toNat ⟨mode, s, w1⟩ .image (fun c => c.a))

/-- LDX: X ← m[23:0]. -/
def execOpLdx (e : BitVec 7) (mode : BitVec 2) (s : BitVec 6) (w1 : BitVec 14) (st : State) : Host.Outcome State Fault Refusal :=
  .next (st.loadOp e.toNat ⟨mode, s, w1⟩ .word (fun c m => c.putX (m.truncate 24)))

/-- STX: m ← zext(X). -/
def execOpStx (e : BitVec 7) (mode : BitVec 2) (s : BitVec 6) (w1 : BitVec 14) (st : State) : Host.Outcome State Fault Refusal :=
  .next (st.storeOp e.toNat ⟨mode, s, w1⟩ .word (fun c => c.x.setWidth 32))

/-- LDY: Y ← m[23:0]. -/
def execOpLdy (e : BitVec 7) (mode : BitVec 2) (s : BitVec 6) (w1 : BitVec 14) (st : State) : Host.Outcome State Fault Refusal :=
  .next (st.loadOp e.toNat ⟨mode, s, w1⟩ .word (fun c m => c.putY (m.truncate 24)))

/-- STY: m ← zext(Y). -/
def execOpSty (e : BitVec 7) (mode : BitVec 2) (s : BitVec 6) (w1 : BitVec 14) (st : State) : Host.Outcome State Fault Refusal :=
  .next (st.storeOp e.toNat ⟨mode, s, w1⟩ .word (fun c => c.y.setWidth 32))

/-- TAX: X ← A[23:0]. -/
def execOpTax (e : BitVec 7) (st : State) : Host.Outcome State Fault Refusal :=
  .next (st.regOp e.toNat (fun c => c.putX (c.a.truncate 24)))

/-- TXA: A ← zext(X). -/
def execOpTxa (e : BitVec 7) (st : State) : Host.Outcome State Fault Refusal :=
  .next (st.regOp e.toNat (fun c => c.putA (c.x.setWidth 32) 2))

/-- TAY: Y ← A[23:0]. -/
def execOpTay (e : BitVec 7) (st : State) : Host.Outcome State Fault Refusal :=
  .next (st.regOp e.toNat (fun c => c.putY (c.a.truncate 24)))

/-- TYA: A ← zext(Y). -/
def execOpTya (e : BitVec 7) (st : State) : Host.Outcome State Fault Refusal :=
  .next (st.regOp e.toNat (fun c => c.putA (c.y.setWidth 32) 2))

/-- TXY: Y ← X. -/
def execOpTxy (e : BitVec 7) (st : State) : Host.Outcome State Fault Refusal :=
  .next (st.regOp e.toNat (fun c => c.putY c.x))

/-- TYX: X ← Y. -/
def execOpTyx (e : BitVec 7) (st : State) : Host.Outcome State Fault Refusal :=
  .next (st.regOp e.toNat (fun c => c.putX c.y))

/-- INX: X ← X + 1. -/
def execOpInx (e : BitVec 7) (st : State) : Host.Outcome State Fault Refusal :=
  .next (st.regOp e.toNat (fun c => c.putX (c.x + 1)))

/-- DEX: X ← X − 1. -/
def execOpDex (e : BitVec 7) (st : State) : Host.Outcome State Fault Refusal :=
  .next (st.regOp e.toNat (fun c => c.putX (c.x - 1)))

/-- INY: Y ← Y + 1. -/
def execOpIny (e : BitVec 7) (st : State) : Host.Outcome State Fault Refusal :=
  .next (st.regOp e.toNat (fun c => c.putY (c.y + 1)))

/-- DEY: Y ← Y − 1. -/
def execOpDey (e : BitVec 7) (st : State) : Host.Outcome State Fault Refusal :=
  .next (st.regOp e.toNat (fun c => c.putY (c.y - 1)))

/-- LDK: A ← sext(imm14). -/
def execOpLdk (e : BitVec 7) (imm : BitVec 14) (st : State) : Host.Outcome State Fault Refusal :=
  .next (st.immOp e.toNat (fun c => c.putA (imm.signExtend 32) 2))

/-- LDKS: A ← A × 2^14 + imm14. -/
def execOpLdks (e : BitVec 7) (imm : BitVec 14) (st : State) : Host.Outcome State Fault Refusal :=
  .next (st.immOp e.toNat (fun c => c.putA ((c.a <<< 14) + imm.setWidth 32) 2))

/-- LXK: X ← zext(imm14). -/
def execOpLxk (e : BitVec 7) (imm : BitVec 14) (st : State) : Host.Outcome State Fault Refusal :=
  .next (st.immOp e.toNat (fun c => c.putX (imm.setWidth 24)))

/-- LXKS: X ← X × 2^14 + imm14. -/
def execOpLxks (e : BitVec 7) (imm : BitVec 14) (st : State) : Host.Outcome State Fault Refusal :=
  .next (st.immOp e.toNat (fun c => c.putX ((c.x <<< 14) + imm.setWidth 24)))

/-- AXK: X ← X + sext(imm14). -/
def execOpAxk (e : BitVec 7) (imm : BitVec 14) (st : State) : Host.Outcome State Fault Refusal :=
  .next (st.immOp e.toNat (fun c => c.putX (c.x + imm.signExtend 24)))

/-- LYK: Y ← zext(imm14). -/
def execOpLyk (e : BitVec 7) (imm : BitVec 14) (st : State) : Host.Outcome State Fault Refusal :=
  .next (st.immOp e.toNat (fun c => c.putY (imm.setWidth 24)))

/-- LYKS: Y ← Y × 2^14 + imm14. -/
def execOpLyks (e : BitVec 7) (imm : BitVec 14) (st : State) : Host.Outcome State Fault Refusal :=
  .next (st.immOp e.toNat (fun c => c.putY ((c.y <<< 14) + imm.setWidth 24)))

/-- AYK: Y ← Y + sext(imm14). -/
def execOpAyk (e : BitVec 7) (imm : BitVec 14) (st : State) : Host.Outcome State Fault Refusal :=
  .next (st.immOp e.toNat (fun c => c.putY (c.y + imm.signExtend 24)))

end Sys2Proof.Machine
end

