-- ==== Sys2Proof/Machine/EngJump.lean ====
section
/-!
DEFINITION. Jumps, calls, END and NOP (spec/03 R87 to R89; spec/04 R105 to R107, R470).
-/
namespace Sys2Proof.Machine

/-- The translation check of a taken jump's target (R106). -/
def State.target (st : State) (p : Nat) (w : Nat) : Except Trap (BitVec 20) :=
  (st.progLoc p (w % 2 ^ 20)).map (fun _ => BitVec.ofNat 20 w)

/-- A jump taken to a target. -/
def State.jumpTo (st : State) (p w : Nat) (c : Ctx) : Except Trap Eff :=
  (st.target p w).map (fun t => { ctx := c, wr := [], jump := some (some t), late := none })

/-- The words of the instruction that a delay slot at program word `w` holds, by the word 0 of the program store: one that raises trap
0x05 there, by R73, R105 or R111, is one word long. -/
def State.lengthAt (st : State) (p w : Nat) : Nat :=
  match st.look p 0 (w % 2 ^ 20) with
  | .at a =>
    let w0 : BitVec 14 := (st.rdMem a).truncate 14
    if 0x35 ≤ opOf w0 ∧ opOf w0 ≤ 0x37 then 1
    else if opOf w0 = 0x3F ∧ st.customUsable p (modeOf w0) (sOf w0).toNat = false then 1
    else instrWords w0
  | _ => 1

/-- A call: overflow, target, then the write of the call-stack entry (R470); the return address follows the delay-slot
instruction (R87). To any other read of that word the write is a store (R98). DEDUCED (log 24). -/
def State.call (st : State) (e w : Nat) (tgt : Ctx → Nat) : State :=
  st.issueNoSlot e w w (fun p t c =>
    if 256 ≤ c.csd then .error (Trap.plain 8)
    else (st.target p (tgt c)).bind (fun dst =>
      let ret := c.p.toNat + w + st.lengthAt p (c.p.toNat + w)
      let a := (st.ctxBase p t + 256 + c.csd) % 2 ^ 21
      (st.storeW p false a .word a (BitVec.ofNat 32 (ret % 2 ^ 20))).map
        (fun m => { ctx := { c with csd := c.csd + 1 }, wr := [m], jump := some (some dst), late := none })))

/-- END: every result lands, the pass's scan is over and the task goes to Output (R89, R100); the engine goes on. DEDUCED (log 13). -/
def State.endPass (s : State) (p t : Nat) : State :=
  let k := s.task p t
  let s1 := s.setTask p t { k with ctx := k.ctx.drain, passBrk := false }
  if s1.mode p = 1 then s1.offTask p t
  else ((s1.setTState p t tOutput).addJob true p t).freeEngine k.eng

/-- The steps of END on engine `e`, after its fetch. -/
def State.issueEnd (s : State) (e : Nat) : State :=
  match s.issuer e with
  | none => s
  | some (p, t) =>
    match s.fetchOk p (s.task p t).ctx.p.toNat 1 with
    | .error tr => s.trap e p t tr
    | .ok _ => if (s.task p t).ctx.slot.isSome then s.trap e p t (Trap.plain 5) else s.endPass p t

/-- JMP: P ← ea after the delay slot (R87, R106). -/
def execOpJmp (e : BitVec 7) (mode : BitVec 2) (s : BitVec 6) (w1 : BitVec 14) (st : State) : Host.Outcome State Fault Refusal :=
  .next (st.issueNoSlot e.toNat (Opnd.words ⟨mode, s, w1⟩) (Opnd.words ⟨mode, s, w1⟩) (fun p _ c => st.jumpTo p (Opnd.ea ⟨mode, s, w1⟩ c .prog) c))

/-- JC: taken when LR is 1; its delay slot follows either way (R87, R88). -/
def execOpJc (e : BitVec 7) (mode : BitVec 2) (s : BitVec 6) (w1 : BitVec 14) (st : State) : Host.Outcome State Fault Refusal :=
  .next (st.issueNoSlot e.toNat (Opnd.words ⟨mode, s, w1⟩) (Opnd.words ⟨mode, s, w1⟩) (fun p _ c =>
    if c.lr then st.jumpTo p (Opnd.ea ⟨mode, s, w1⟩ c .prog) c else .ok { ctx := c, wr := [], jump := some none, late := none }))

/-- CALL: push the return address, P ← ea (R87, R470). -/
def execOpCall (e : BitVec 7) (mode : BitVec 2) (s : BitVec 6) (w1 : BitVec 14) (st : State) : Host.Outcome State Fault Refusal :=
  .next (st.call e.toNat (Opnd.words ⟨mode, s, w1⟩) (fun c => Opnd.ea ⟨mode, s, w1⟩ c .prog))

/-- RET: P ← pop; underflow, entry read, then target (R106, R470). -/
def execOpRet (e : BitVec 7) (st : State) : Host.Outcome State Fault Refusal :=
  .next (st.issueNoSlot e.toNat 1 1 (fun p t c =>
    if c.csd = 0 then .error (Trap.plain 9)
    else
      let a := (st.ctxBase p t + 256 + (c.csd - 1)) % 2 ^ 21
      (st.readWord c p a).bind (fun v => st.jumpTo p (fld v 19 0) { c with csd := c.csd - 1 })))

/-- JMPX: P ← X mod 2^20. -/
def execOpJmpx (e : BitVec 7) (st : State) : Host.Outcome State Fault Refusal :=
  .next (st.issueNoSlot e.toNat 1 1 (fun p _ c => st.jumpTo p (c.xa.toNat % 2 ^ 20) c))

/-- CALLX: push the return address, P ← X mod 2^20. -/
def execOpCallx (e : BitVec 7) (st : State) : Host.Outcome State Fault Refusal :=
  .next (st.call e.toNat 1 (fun c => c.xa.toNat % 2 ^ 20))

/-- END: end the pass (R89, R100). -/
def execOpEnd (e : BitVec 7) (st : State) : Host.Outcome State Fault Refusal :=
  .next (st.issueEnd e.toNat)

/-- NOP: nothing. -/
def execOpNop (e : BitVec 7) (st : State) : Host.Outcome State Fault Refusal :=
  .next (st.regOp e.toNat (fun c => c))

end Sys2Proof.Machine
end

