-- ==== Sys2Proof/Machine/Tasks.lean ====
section
/-!
DEFINITION. Shared operations of tasks and partition modes: starting a pass, Hold, Resume and Run (spec/05), the roles
of pair partitions (spec/08 R238, R239), and who may write a partition's registers (spec/02 R38, spec/05 R122, R472).
-/
namespace Sys2Proof.Machine

/-! ### Pair partitions -/

/-- Whether `p` is a standby copy: its mode follows the active (R256). -/
def State.standbyCopy (s : State) (p : Nat) : Bool := s.pairPart p && (s.ruRole == 4 || s.ruRole == 5)

/-! ### Passes -/

/-- Whether a boundary pause of `p` is in progress. -/
def State.inPause (s : State) (p : Nat) : Bool := (s.part p).pause.isSome
/-- `PD_COMMIT.PENDING`. -/
def State.editPending (s : State) (p : Nat) : Bool := s.rb (aPD_COMMIT p) 1
/-- Whether the applied program header of `p` fails R120. -/
def State.startMismatch (s : State) (p : Nat) : Bool :=
  s.dtMismatch (s.reg (aHDR_TABLE_ID p)) (s.reg (aHDR_USED_LO p)) (s.reg (aHDR_USED_HI p))
/-- Task entry `t` is enabled in the applied table. -/
def State.enabled (s : State) (p t : Nat) : Bool := s.rb (aTT_CTL p t) 31

/-- A pass of task `t` begins, its input copy triggered (R136): registers of R65, stamp, release instant, PRIO, engine and deadline of the
applied entry (R127, R130, R134). -/
def State.startPass (s : State) (p t : Nat) (stamp relAt base : W64) : State :=
  let k := s.task p t
  let us := if t = 8 then s.rf (aTT_PERIOD p t) 23 0 else s.rf (aTT_DEADLINE p t) 23 0
  ((((s.noteBegin p t stamp).setTask p t { k with
    ctx := k.ctx.release (BitVec.ofNat 20 (s.rf (aHDR_ENTRY p t) 19 0))
    stamp := stamp, relAt := relAt, prio := s.rf (aTT_CTL p t) 13 8, eng := s.rf (aTT_CTL p t) 6 0
    limit := if t = 8 ∧ us = 0 then none else some (base + BitVec.ofNat 64 (us * 1000))
    toHold := false, passBrk := false, deferred := none })).setTState p t tInput).addJob false p t

/-- TB starts a pass now: its stamp is partition time (R127). -/
def State.startTb (s : State) (p : Nat) : State := s.startPass p 8 (s.ptime p) s.now (s.ptime p)

/-- A task becomes Idle and waits for a grid instant after `g`; TB starts its pass at once in Run (R134), or once a pending edit has
applied (R157). -/
def State.becomeIdle (s : State) (p t : Nat) (g : W64) : State :=
  if t = 8 then (if s.editPending p || s.inPause p then s.setTState p t tIdle else s.startTb p)
  else (s.setTask p t { s.task p t with notBefore := g }).setTState p t tIdle

/-- Whether Meridian instant `g` (a whole microsecond) is a grid instant of task `t` of `p` (R124). -/
def State.onGrid (s : State) (p t : Nat) (g : W64) : Bool :=
  let T := s.rf (aTT_PERIOD p t) 23 0
  let ph := s.rf (aTT_PHASE p t) 23 0
  decide (20 ≤ T ∧ T ≤ 10000000 ∧ ph < T ∧ g.toNat / 1000 % T = ph)

/-! ### Engines -/

/-- Whether a task of engine `e` is Pre-empted. -/
def State.waitsPreempted (s : State) (e : Nat) : Bool :=
  (s.tasks.map (·.1)).any (fun k => (s.task (k / 16) (k % 16)).eng == e && s.tstate (k / 16) (k % 16) == tPreempted)

/-- Engine `e` without a running task or a switch takes up its best waiting task: a Ready one at once when nothing was
Pre-empted there, any other after a switch (R133). -/
def State.kick (s : State) (e : Nat) : State :=
  if (s.eng e).run.isSome || (s.eng e).sw.isSome then s
  else match s.bestWaiting e with
    | none => s
    | some k =>
      if s.tstate (k / 16) (k % 16) = tReady ∧ s.waitsPreempted e = false then s.takeEngine e k
      else s.setEng e { s.eng e with sw := some k }

/-- Every engine that a task of `p` is bound to takes up what waits. -/
def State.kickAll (s : State) (p : Nat) : State :=
  (List.range 9).foldl (fun s t => s.kick (s.task p t).eng) s

/-! ### Hold (R149) -/

/-- One task when Hold applies. -/
def State.holdTask (s : State) (p t : Nat) : State :=
  let k := s.task p t
  let st := s.tstate p t
  if st = tIdle then
    (s.setTask p t { k with held := tIdle, heldMid := false }).setTState p t tHeld
  else if st = tInput ∨ st = tOutput then s.setTask p t { k with held := st, heldMid := true }
  else if st = tReady ∨ st = tPreempted then s.freezeTask p t st
  else if st = tRunning then
    (if k.ctx.slot.isSome then s.setTask p t { k with toHold := true }
     else (s.freezeTask p t tRunning).freeEngine k.eng)
  else s

/-- Partition `p` enters Hold with HOLDSRC `src` (R149); BRK and breakpoints also set HOLDIN. -/
def State.enterHold (s : State) (p src : Nat) : State :=
  let s1 := ((s.freezeTime p).setRf (aPD_MODE p) 2 0 3).setRf (aPD_MODE p) 5 4 src
  let s2 := (List.range 9).foldl (fun s t => s.holdTask p t) (s1.setPart p { s1.part p with sending := .held })
  (s2.pdEvent p (if src = 0 then evMode else evMode ||| evHoldIn)).mirrorMode p

/-! ### Entering Run (R125, R145, R151) -/

/-- Partition time runs again from its frozen value (R125). -/
def State.resumeTime (s : State) (p : Nat) : State :=
  s.setReg64 (aPD_OFFSET_LO p) (s.now - s.reg64 (aPD_PTIME_LO p))

/-- One task at a Run: sticky flags and SKIP cleared, an enabled task becomes Idle, TB starts. -/
def State.runTask (s : State) (p t : Nat) : State :=
  let k := s.task p t
  let s1 := (s.setTask p t { k with ctx := { k.ctx with f := 0 } }).setRf (aPD_TSTAT p t) 7 4 0
  if s1.enabled p t then s1.becomeIdle p t s1.grid else s1

/-- Partition `p` enters Run from Stop (R145). -/
def State.enterRun (s : State) (p : Nat) : State :=
  let s1 := ((s.abandonCopy p).resumeTime p).setRf (aPD_MODE p) 2 0 2
  let s2 := (List.range 9).foldl (fun s t => s.runTask p t) (s1.setPart p { s1.part p with sending := .none })
  (s2.pdEvent p evMode).mirrorMode p

/-- A failed context save: the outgoing registers go to the engine's save registers and the partition stops with
STOPCAUSE 0x04 (table "Faults at each point", R190). -/
def State.failSave (s : State) (e p t : Nat) (words : List W) : State :=
  (((s.keepSave e words).setTState p t tOff).partFault p 4 evFault).passFault p t 3 0
/-- Task `t`, frozen while its engine is taken, waits Pre-empted with its context saved. -/
def State.parkTask (s : State) (p t : Nat) : State :=
  let k := s.task p t
  let r := s.saveCtx p t
  if r.2 then r.1.setTState p t tPreempted else (r.1.ctxFault p t).failSave k.eng p t k.ctx.words

/-- One task when a Resume applies: it returns to the state it left; one that was enabled in Hold leaves Off (R151). DEDUCED (log 14). -/
def State.resumeTask (s : State) (p t : Nat) : State :=
  let k := s.task p t
  if s.mode p ≠ 2 then s
  else if s.tstate p t = tHeld then
    let s1 := s.setTask p t { k with passBrk := true, stepping := false, heldMid := false }
    if k.held = tIdle then (if s.enabled p t then s1.becomeIdle p t s1.grid else s1.setTState p t tOff)
    else if k.held = tRunning then
      (if (s1.eng k.eng).run.isNone && (s1.eng k.eng).sw.isNone then s1.takeEngine k.eng (p * 16 + t)
       else s1.parkTask p t)
    else s1.setTState p t k.held
  else if s.tstate p t = tOff ∧ s.enabled p t then s.becomeIdle p t s.grid
  else s

/-- Partition `p` enters Run from Hold (R151). -/
def State.enterResume (s : State) (p : Nat) : State :=
  let s1 := (s.resumeTime p).setRf (aPD_MODE p) 2 0 2
  let s2 := (List.range 9).foldl (fun s t => s.resumeTask p t) (s1.setPart p { s1.part p with sending := .none })
  ((s2.kickAll p).pdEvent p evMode).mirrorMode p

/-! ### Who may write a partition's registers -/

/-- The space code of an access by `src` (`GCTL_ACC_ERR_ADDR.SPACE`). -/
def accSpace (src : Nat) : Nat := if src = 0 then 0 else if src = 0x3FE then 3 else 2
/-- The partition an access of `src` to a descriptor concerns: a VF reaches its own alone (R31). -/
def accPart (src p : Nat) : Nat := if 1 ≤ src ∧ src ≤ 512 then src - 1 else p
/-- The offset of descriptor location `off` of `p` as `src` addresses it. -/
def accOff (src p off : Nat) : Nat := if accSpace src = 2 then off else 0x300000 + 0x800 * p + off
/-- Whether `src` is a VF. -/
def isVf (src : Nat) : Bool := decide (1 ≤ src ∧ src ≤ 512)

/-- A write of a descriptor register of the partition that `src` reaches: a partition absent from the Legend is ignored
(R4), as is a VF that is not enabled (R32), a VF's partition that has not been created refuses with CAUSE 0x09 (R38). -/
def State.pdGuard (s : State) (src p off : Nat) (k : State → Nat → State) : State :=
  let q := accPart src p
  if s.fuse.partitions ≤ q ∨ s.fnOn src = false then s
  else if isVf src ∧ s.mode q = 0 then s.refuse src 2 off 9
  else k s q

/-- A write of `PD_CMD` with an assigned code (R144): REASON 0x05 while BUSY; a standby copy refuses with 0x07 (R256). -/
def State.pdCmd (s : State) (src p : Nat) (k : State → Nat → State) : State :=
  s.pdGuard src p 4 (fun s q =>
    if s.rb (aPD_CMD_STAT q) 0 then s.setRf (aPD_CMD_STAT q) 23 16 5
    else if s.standbyCopy q then s.endCmd q 7
    else k s q)

/-- A command that is accepted and waits: BUSY is set (R144). -/
def State.await (s : State) (p : Nat) (c : PdCmd) : State :=
  (s.setRf (aPD_CMD_STAT p) 0 0 1).setPart p { s.part p with cmd := some c }

/-- Whether every task of `p` is Off. -/
def State.allOff (s : State) (p : Nat) : Bool := (List.range 9).all (fun t => s.tstate p t == tOff)

end Sys2Proof.Machine
end

