-- ==== Sys2Proof/Machine/Clock.lean ====
section
/-!
DEFINITION. Meridian time (spec/09 R275 to R284; spec/05 R126): rate, seeds and steps, distribution over the network, pulse per second.
-/
namespace Sys2Proof.Machine

/-! ### Steps (R277, R126) -/

/-- An event of the Meridian group: 1 ROLE, 2 LOCK, 4 STEP, 8 PPSIN. -/
def State.merEvent (s : State) (bits : W) : State := s.groupEvent aMER_EVT_SEQ aMER_EVT aMER_EVT_EN aMER_EVT_VEC bits
/-- `MER_STAT.ROLE`: 0 free-running, 1 slave, 2 master. -/
def State.merRole (s : State) : Nat := s.rf aMER_STAT 7 6
/-- `MER_STAT.VALID`. -/
def State.merValid (s : State) : Bool := s.rb aMER_STAT 0
/-- Set `MER_STAT.SRC` and VALID; without VALID, PPS_OUT is low (R283). -/
def State.setSrcValid (s : State) (src : Nat) (v : Bool) : State :=
  { (s.setRf aMER_STAT 5 4 src).setRf aMER_STAT 0 0 v.toNat with ppsOut := s.ppsOut && v }

/-- An RTC event: 1 ALM0, 2 ALM1, 4 STEP, 8 MEAS, 0x10 OSCF. -/
def State.rtcEvent (s : State) (bits : W) : State := s.groupEvent aRTC_EVT_SEQ aRTC_EVT aRTC_EVT_EN aRTC_EVT_VEC bits
/-- A running measurement is aborted with `cause` (R293). -/
def State.measAbort (s : State) (cause : Nat) : State :=
  match s.meas with
  | none => s
  | some m =>
    { (s.setReg aRTC_MEAS_STAT (BitVec.ofNat 32 (m.secs % 65536 * 65536 + cause * 256 + 3))) with meas := none }.rtcEvent 8
/-- A running measurement against Meridian is aborted. -/
def State.measAbortMer (s : State) : State :=
  match s.meas with
  | some m => if m.mains then s else s.measAbort 4
  | none => s

/-- A 64-bit count plus a signed step. -/
def addInt (t : W64) (d : Int) : W64 := t + BitVec.ofInt 64 d
/-- What is kept of a task follows a step of `d` ns: its pass and its deferred release keep their stamps, and its next grid instant is
the first one after the new time. -/
def Task.step (k : Task) (d : Int) (new : W64) : Task :=
  { k with relAt := addInt k.relAt d, deferred := k.deferred.map (fun g => addInt g d), notBefore := new }

/-- Whether the new count of a step of `d` ns lies in its range. -/
def State.stepFits (s : State) (d : Int) : Bool := decide (0 ≤ (s.now.toNat : Int) + d ∧ (s.now.toNat : Int) + d < 2 ^ 63)

/-- Meridian time steps by `d` ns: every partition's offset steps with it, and so does what counts in Meridian time; the next
grid instants of station groups and of SYNC are those after the new time. DEDUCED (log 101). -/
def State.stepTime (s : State) (d : Int) : State :=
  let s0 := { s with mer := s.mer + BitVec.ofInt 96 (d * 2 ^ 32) }
  let s1 := { s0 with merMark := s0.now }
  let s2 := s1.created.foldl (fun s p => s.setReg64 (aPD_OFFSET_LO p) (addInt (s.reg64 (aPD_OFFSET_LO p)) d)) s1
  let s3 := { s2 with
    tasks := FMap.mapV (fun _ => Task.zero) (fun k => k.step d s2.now) s2.tasks
    shadow := FMap.mapV (fun _ => Shadow.zero) (fun h => { h with due := h.due.map (fun g => addInt g d) }) s2.shadow
    cans := FMap.mapV (fun _ => Can.zero) (fun c => { c with mark := addInt c.mark d }) s2.cans
    trigEnd := FMap.mapV (fun _ => 0) (fun t => addInt t d) s2.trigEnd }
  s3.measAbortMer.merEvent 4

/-- The end of a `MER_CMD` command with REASON `r`. -/
def State.endMer (s : State) (r : Nat) : State := (s.setRf aMER_STAT 15 8 r).setRf aMER_STAT 2 2 0

/-- STEP by `src`: the signed value of `MER_STEP_HI:LO`. -/
def State.hostStep (s : State) : State :=
  let d := (s.reg64 aMER_STEP_LO).toInt
  if s.stepFits d then
    ((s.stepTime d).setSrcValid (if s.merRole = 1 then 3 else 2) true).endMer 0
  else s.endMer 1

/-- A write of a command to `MER_CMD` (R277, R469). -/
def State.merCmd (s : State) (src : Nat) (k : State → State) : State :=
  if isVf src then s
  else if s.rb aMER_STAT 2 then s.setRf aMER_STAT 15 8 3
  else k s

/-- MER_CMD STEP. -/
def execMerStep (src : BitVec 10) (st : State) : Host.Outcome State Fault Refusal := .next (st.merCmd src.toNat State.hostStep)

/-! ### Seeds (R276) -/

/-- The Meridian time that the calendar gives, in ns. -/
def State.seedTime (s : State) : Int :=
  ((s.rtcSec : Int) - (s.reg aRTC_ZONE).toInt + ((s.reg aRTC_TAIOFF).truncate 16 : BitVec 16).toInt) * 1000000000

/-- The seed: Meridian takes the calendar's time where its count can hold it. -/
def State.seed (s : State) : State :=
  let d := s.seedTime - (s.now.toNat : Int)
  if s.stepFits d then
    let s1 := s.stepTime d
    ({ s1 with mer := s1.mer &&& ~~~(BitVec.ofNat 96 0xFFFFFFFF) }.setSrcValid 1 true).endMer 0
  else s.endMer 1

/-- SEED waits for the next RTC second boundary; refused while the RTC is not valid. DEDUCED (log 97). -/
def State.seedWait (s : State) : State :=
  if s.rb aRTC_STAT 0 then { s.setRf aMER_STAT 2 2 1 with seedCmd := true } else s.endMer 2

/-- MER_CMD SEED. -/
def execMerSeed (src : BitVec 10) (st : State) : Host.Outcome State Fault Refusal := .next (st.merCmd src.toNat State.seedWait)

/-- The seed at an RTC second boundary, `dt` clocks on: the automatic one after a release, or a SEED command. DEDUCED (log 97). -/
def execMeridianSeed (dt : Nat) (st : State) : Host.Outcome State Fault Refusal :=
  let s := st.elapse dt
  .next (if s.seedDue || s.seedCmd then
      (if s.rb aRTC_STAT 0 then { s with seedDue := false, seedCmd := false }.seed
       else { s with seedDue := false, seedCmd := false }.endMer 2)
    else s)

/-! ### Rate (R275) -/

/-- A write of `MER_FRAC` by `src`: refused outside its range and while the device is a slave. -/
def execMerFracWrite (src : BitVec 10) (data : W) (st : State) : Host.Outcome State Fault Refusal :=
  .next (if isVf src.toNat then st
    else if st.merRole = 1 ∨ data.toNat < 0x3FD70A3D ∨ 0x4028F5C3 < data.toNat then
      st.refuse src.toNat (accSpace src.toNat) aMER_FRAC 0x0A
    else st.setReg aMER_FRAC data)

/-! ### MERIDIAN frames (table "MERIDIAN body") -/

/-- Port `p` takes part. -/
def State.merOn (s : State) (p : Nat) : Bool := s.rb (aMER_PEN p) 31
/-- `SYNCINT` in CLK_FAB clocks. -/
def State.syncClks (s : State) : Nat := s.rf aMER_CFG2 9 0 * 800000

/-- Send a MERIDIAN frame of KIND `kind` on port `p`: the body's bytes 1 to 5 and what follows; nothing while the lanes send idle (R369). -/
def State.sendMer (s : State) (p kind : Nat) (b1to5 : List Byte) (rseq : Nat) (t1 t2 : W64) : State :=
  if s.carries p && !s.switchOff then
    let n := FMap.get (fun _ => 0) s.merSeq (p * 4 + kind)
    let body := BitVec.ofNat 8 (kind * 16) :: b1to5 ++ beBytes 2 rseq ++ beBytes 8 t1.toNat ++ beBytes 8 t2.toNat
      ++ List.replicate 8 (0 : Byte)
    let h : SpanHdr :=
      { ver := 1, ty := 3, pathB := false, held := false, safe := false, epv := false, stream := 0xFFFFE, seq := n
        epoch := 0, pair := 0, blocks := 0, plen := 32, hops := 0 }
    let d := padFrame (s.etherHead p 7 ++ h.bytes ++ body)
    { s.emit (.frame p (d ++ fcsOf d false)) with
      merSeq := FMap.set (fun _ => 0) s.merSeq (p * 4 + kind) ((n + 1) % 65536) }
  else s

/-- SYNC of the listed ports. DEDUCED (log 98). -/
def State.sendSync (s : State) (ps : List Nat) (prio master steps : Nat) (ppsl : Bool) : State :=
  ps.foldl (fun s p => s.sendMer p 1 (BitVec.ofNat 8 prio :: beBytes 2 master
    ++ [BitVec.ofNat 8 steps, BitVec.ofNat 8 (s.merValid.toNat * 128 + ppsl.toNat * 64)]) 0 s.now 0) s

/-- The ports that take part. -/
def State.merPorts (s : State) : List Nat := (List.range s.fuse.lanes).filter s.merOn

/-! ### Roles (R279) -/

/-- The latest SYNC of port `p`. -/
def State.syncCand (s : State) (p : Nat) : Option Cand := FMap.get (fun _ => none) s.merCand p
/-- The rank of a port's SYNC: lower first. -/
def Cand.rank (c : Cand) (p : Nat) : List Nat := [c.prio, c.master, c.steps, p]
/-- The better of two candidate ports. -/
def betterCand (a b : Nat × Cand) : Nat × Cand := if lexLt (b.2.rank b.1) (a.2.rank a.1) then b else a
/-- The ports that delivered a SYNC within the last 3 × SYNCINT. -/
def State.cands (s : State) : List (Nat × Cand) :=
  s.merCand.filterMap (fun e => match e.2 with
    | some c => if s.fab ≤ c.at_ + 3 * s.syncClks then some (e.1, c) else none
    | none => none)
/-- The best candidate. -/
def State.bestCand (s : State) : Option (Nat × Cand) :=
  match s.cands with | [] => none | c :: cs => some (cs.foldl betterCand c)

/-- LOCK takes value `v`. -/
def State.setLock (s : State) (v : Bool) : State :=
  if s.rb aMER_STAT 1 = v then s else (s.setRf aMER_STAT 1 1 v.toNat).merEvent 2

/-- Whether the best candidate leaves the device its master. -/
def State.mayMaster (s : State) : Bool :=
  s.rb aMER_CFG 31 && (match s.bestCand with
    | none => true
    | some c => !lexLt [c.2.prio, c.2.master] [s.rf aMER_CFG 23 16, s.rf aMER_CFG 15 0])

/-- The role, upstream port and steps follow the candidates. DEDUCED (log 99). -/
def State.refreshMer (s : State) : State :=
  let tgt : Nat × Nat × Nat :=
    if s.mayMaster then (2, 0, 0)
    else match s.bestCand with
      | none => (0, 0, 0)
      | some c => (1, c.1, min 255 (c.2.steps + 1))
  let s1 := ((s.setRf aMER_STAT 7 6 tgt.1).setRf aMER_STAT 23 16 tgt.2.1).setRf aMER_STAT 31 24 tgt.2.2
  if s.merRole = tgt.1 ∧ s.rf aMER_STAT 23 16 = tgt.2.1 then s1 else { s1 with merLock := 0 }.merEvent 1

/-! ### SYNC (R280, R281) -/

/-- A signed number of picoseconds, saturated to 32 bits. -/
def satPs (d : Int) : W := BitVec.ofInt 32 (max (-(2 ^ 31)) (min (2 ^ 31 - 1) d))

/-- LOCK after one more offset of `d` ps. -/
def State.lockStep (s : State) (d : Int) : State :=
  let n := if d.natAbs ≤ 100000 then min 8 (s.merLock + 1) else 0
  let s1 := { s with merLock := n }
  if 1000000 < d.natAbs then s1.setLock false else if n = 8 then s1.setLock true else s1

/-- Firmware writes a new FRAC; the law of its servo is open. -/
def State.freeFrac (s : State) : State :=
  s.useFresh.setReg aMER_FRAC (BitVec.ofNat 32 (0x3FD70A3D + (Config.servoFrac s.fresh).toNat % 0x51EB87))

/-- The firmware servo of a slave (R281): a step where the offset exceeds ±1 µs, else a new FRAC, whose law the spec leaves open. DESIGN CHOICE (log 100); DEDUCED (log 101). -/
def State.servo (s : State) (d : Int) (valid : Bool) : State :=
  if s.supRun = false then s
  else if 1000000 < d.natAbs then
    (if s.stepFits (-(d / 1000)) then (s.stepTime (-(d / 1000))).setSrcValid 3 valid else s)
  else s.freeFrac

/-- The SYNC of the upstream port `p` is accepted: offset, LOCK, servo, and the SYNC that a slave sends on. -/
def State.acceptSync (s : State) (p : Nat) (c : Cand) (t1 : W64) : State :=
  let d := ((s.now.toNat : Int) - (t1.toNat : Int)) * 1000 - (s.reg (aMER_PDLY p)).toInt - (s.reg (aMER_PASYM p)).toInt
  let s1 := ((s.advance aMER_CNT_SYNC).setReg aMER_OFFS (satPs d)).lockStep d
  let s2 := s1.servo d c.valid
  s2.sendSync (s2.merPorts.filter (fun q => q != p)) c.prio c.master (c.steps + 1) c.ppsl

/-- A MERIDIAN frame is discarded (R278). -/
def State.merDisc (s : State) : State := s.count aMER_CNT_DISC

/-- A SYNC received on port `port`, `dt` clocks on. -/
def execSync (port : BitVec 7) (prio : Byte) (master : BitVec 16) (steps : Byte) (valid ppsl : Bool) (t1 : W64) (dt : Nat)
    (st : State) : Host.Outcome State Fault Refusal :=
  let s := st.elapse dt
  let p := port.toNat
  .next (if s.merOn p = false ∨ 32 < steps.toNat then s.merDisc
    else
      let c : Cand := { prio := prio.toNat, master := master.toNat, steps := steps.toNat, valid := valid, ppsl := ppsl, at_ := s.fab }
      let s1 := { s with merCand := FMap.set (fun _ => none) s.merCand p (some c) }.refreshMer
      if s1.merRole = 1 ∧ s1.rf aMER_STAT 23 16 = p then s1.acceptSync p c t1 else s1)

/-- A master sends SYNC at a Meridian instant that is a multiple of SYNCINT ms, `dt` clocks on; its own SYNC frames stop with a fatal
fault (R369). -/
def execSyncSend (dt : Nat) (st : State) : Host.Outcome State Fault Refusal :=
  let s := (st.elapse dt).refreshMer
  .next (if s.merRole = 2 ∧ s.fatal = false ∧ s.onTick ∧ s.merMark.toNat < s.grid.toNat ∧ s.grid.toNat / 1000 % (s.rf aMER_CFG2 9 0 * 1000) = 0 then
      s.sendSync s.merPorts (s.rf aMER_CFG 23 16) (s.rf aMER_CFG 15 0) 0 (s.rb aMER_CFG2 31 && s.rb aMER_STAT 1)
    else s)

/-- No SYNC for 3 × SYNCINT, or no PPS_IN edge for 3 s on a master that follows it: LOCK clears and the candidates are ranked anew. -/
def execSyncTimeout (dt : Nat) (st : State) : Host.Outcome State Fault Refusal :=
  let s := st.elapse dt
  let lost := if s.merRole = 2 ∧ s.rb aMER_CFG2 31 then
      (match s.ppsAt with | some t => decide (t + 2400000000 ≤ s.fab) | none => true)
    else (match s.syncCand (s.rf aMER_STAT 23 16) with | some c => decide (c.at_ + 3 * s.syncClks < s.fab) | none => true)
  .next ((if lost then { s with merLock := 0 }.setLock false else s).refreshMer)

/-! ### Link delay (R281) -/

/-- Bytes 1 to 5 of a DREQ or DRESP: the master's priority and clock ID (table "MERIDIAN body"), those of the candidate that a slave follows and
the device's own otherwise. -/
def State.merHead (s : State) : List Byte :=
  match (if s.merRole = 1 then s.syncCand (s.rf aMER_STAT 23 16) else none) with
  | some c => BitVec.ofNat 8 c.prio :: beBytes 2 c.master ++ [0, 0]
  | none => BitVec.ofNat 8 (s.rf aMER_CFG 23 16) :: beBytes 2 (s.rf aMER_CFG 15 0) ++ [0, 0]
/-- A DREQ received on port `port` is answered with a DRESP. DEDUCED (log 98). -/
def execDreq (port : BitVec 7) (seq : BitVec 16) (dt : Nat) (st : State) : Host.Outcome State Fault Refusal :=
  let s := st.elapse dt
  .next (if s.merOn port.toNat = false then s.merDisc
    else s.sendMer port.toNat 3 s.merHead seq.toNat s.now s.now)

/-- Port `port` sends its DREQ of the second. -/
def execDreqSend (port : BitVec 7) (dt : Nat) (st : State) : Host.Outcome State Fault Refusal :=
  let s := st.elapse dt
  let p := port.toNat
  .next (if s.merOn p then
      { s.sendMer p 2 s.merHead 0 0 0 with
        merReq := FMap.set (fun _ => none) s.merReq p (some (FMap.get (fun _ => 0) s.merSeq (p * 4 + 2), s.now)) }
    else s)

/-- The mean of a list of delays in ps. DEDUCED (log 99). -/
def meanPs (l : List Int) : Int := if l.length = 0 then 0 else l.foldl (· + ·) 0 / (l.length : Int)

/-- One exchange of port `p` gave a delay of `d` ps: it joins the mean where it lies within 1 µs of the previous one. DEDUCED (log 99). -/
def State.takeDelay (s : State) (p : Nat) (d : Int) : State :=
  let l := FMap.get (fun _ => []) s.merDly p
  if l = [] ∨ (d - meanPs l).natAbs ≤ 1000000 then
    let l1 := (d :: l).take 16
    { s with merDly := FMap.set (fun _ => []) s.merDly p l1 }.setReg (aMER_PDLY p) (satPs (meanPs l1))
  else s

/-- A DRESP received on port `port`. -/
def execDresp (port : BitVec 7) (rseq : BitVec 16) (t1 t2 : W64) (dt : Nat) (st : State) : Host.Outcome State Fault Refusal :=
  let s := st.elapse dt
  let p := port.toNat
  .next (if s.merOn p = false then s.merDisc
    else match FMap.get (fun _ => none) s.merReq p with
      | some (q, sent) =>
        if q = rseq.toNat then
          { s with merReq := FMap.set (fun _ => none) s.merReq p none }.takeDelay p
            ((((s.now.toNat : Int) - (sent.toNat : Int)) - ((t2.toNat : Int) - (t1.toNat : Int))) * 500)
        else s
      | none => s)

/-! ### Pulse per second (R283, R284) -/

/-- PPS_OUT rises at a whole Meridian second, `dt` clocks on. -/
def execPpsOutRise (dt : Nat) (st : State) : Host.Outcome State Fault Refusal :=
  let s := st.elapse dt
  .next (if s.rb aMER_PPS 31 ∧ s.merValid ∧ s.now.toNat % 1000000000 < 2 then
      { s with ppsOut := true, ppsSec := s.now.toNat / 1000000000 }
    else s)

/-- PPS_OUT falls WIDTH ms after its second, `dt` clocks on. -/
def execPpsOutFall (dt : Nat) (st : State) : Host.Outcome State Fault Refusal :=
  let s := st.elapse dt
  .next (if s.ppsSec * 1000000000 + s.rf aMER_PPS 8 0 * 1000000 ≤ s.now.toNat ∨ s.rb aMER_PPS 31 = false ∨ s.merValid = false then
      { s with ppsOut := false }
    else s)

/-- The offset of Meridian instant `t` from its nearest whole second, in ns. -/
def fromSecond (t : Nat) : Int :=
  let r := t % 1000000000
  if r < 500000000 then (r : Int) else (r : Int) - 1000000000

/-- A rising edge of PPS_IN, `dt` clocks on; one within 500 ms of the last captured one is ignored. -/
def execPpsInEdge (dt : Nat) (st : State) : Host.Outcome State Fault Refusal :=
  let s := st.elapse dt
  let soon := match s.ppsAt with | some t => decide (s.fab < t + 400000000) | none => false
  .next (if !s.rb aMER_PPS 30 || soon then s
    else
      let s1 := ({ s with ppsAt := some s.fab }.setReg64 aMER_PPSIN_LO s.now).merEvent 8
      if s1.merRole = 2 ∧ s1.rb aMER_CFG2 31 then
        (let s2 := s1.lockStep (fromSecond s1.now.toNat * 1000)
         if s2.supRun then s2.freeFrac else s2)
      else s1)

end Sys2Proof.Machine
end

