-- ==== Sys2Proof/Machine/CanBus.lean ====
section
/-!
DEFINITION. The CAN FD controllers (spec/12): objects, mailboxes, the bus, error states and time-triggered operation. A command for
a controller that the Legend reports absent has no effect (R343, R4). What happens on the bus comes as commands; the amounts
by which ISO 11898-1 changes the error counters come with them.
-/
namespace Sys2Proof.Machine

/-! ### Controllers -/

/-- Controller `n`. -/
def State.can (s : State) (n : Nat) : Can := FMap.get (fun _ => Can.zero) s.cans n
/-- Set controller `n`. -/
def State.setCan (s : State) (n : Nat) (c : Can) : State := { s with cans := FMap.set (fun _ => Can.zero) s.cans n c }
/-- `CAN_CTL.MODE`: 0 CONFIG, 1 NORMAL, 2 LISTEN, 3 LOOPBACK. -/
def State.canMode (s : State) (n : Nat) : Nat := s.rf (aCAN_CTL n) 1 0
/-- `CAN_CTL.TT`. -/
def State.canTt (s : State) (n : Nat) : Nat := s.rf (aCAN_CTL n) 7 6
/-- Controller `n` is present and not in block reset. DESIGN CHOICE (log 132). -/
def State.canRuns (s : State) (n : Nat) : Bool := decide (n < s.fuse.cans) && !s.rb (aCAN_BSTAT n) 1 && !s.clkStop
/-- `CAN_STAT.EST`: 0 error active, 1 error passive, 2 bus-off. -/
def State.canEst (s : State) (n : Nat) : Nat := s.rf (aCAN_STAT n) 29 28
/-- `CAN_STAT.SYNC`. -/
def State.canSync (s : State) (n : Nat) : Bool := s.rb (aCAN_STAT n) 26
/-- An event of controller `n`'s group: 1 BOFF, 2 PASSIVE, 4 REPL, 8 CFGERR, 0x10 TTLOSS, 0x20 TXERR. -/
def State.canEvent (s : State) (n : Nat) (bits : W) : State :=
  s.groupEvent (aCAN_EVT_SEQ n) (aCAN_EVT n) (aCAN_EVT_EN n) (aCAN_EVT_VEC n) bits
/-- Cycle time of controller `n` in µs of Meridian time (R358). -/
def State.canCt (s : State) (n : Nat) : Nat := (s.now - (s.can n).mark).toNat / 1000
/-- CLK_FAB clocks of 11 nominal bits of controller `n`: a bit lasts BRP × (1 + TSEG1 + TSEG2) clocks of CLK_CAN. -/
def State.canEleven (s : State) (n : Nat) : Nat :=
  let w := s.reg (aCAN_NBT n)
  110 * ((fld w 31 24 + 1) * (3 + fld w 23 16 + fld w 15 9))
/-- Controller `n` starts to integrate on the bus: it takes part again after 11 recessive bits (R342, R346, R361). DEDUCED (log 195). -/
def State.canJoin (s : State) (n : Nat) : State := s.setCan n { s.can n with integ := some s.fab }
/-- Whether controller `n` takes part in what began on the bus `ago` ns before: 11 bits had passed since it began to integrate, or since
the last frame it has seen end meanwhile. DEDUCED (log 195). -/
def State.canJoined (s : State) (n ago : Nat) : Bool :=
  match (s.can n).integ with
  | none => true
  | some t => decide (t + s.canEleven n ≤ s.fab - (ago * 4 + 4) / 5)

/-! ### Identifiers and lengths -/

/-- An identifier word in one form: IDE, and the 11 or 29 bits that count. DEDUCED (log 52). -/
def canId (w : W) : Bool × Nat := (bitAt w 30, if bitAt w 30 then fld w 28 0 else fld w 10 0)
/-- The identifier of an identifier word (IDE in bit 31). -/
def idOf (w : W) : Bool × Nat := (bitAt w 31, if bitAt w 31 then fld w 28 0 else fld w 10 0)
/-- The arbitration order of R353, lower first: base identifier, standard before extended, extension bits, data before remote. -/
def arbOrder (id : Bool × Nat) (rtr : Bool) : List Nat :=
  if id.1 then [id.2 / 2 ^ 18, 1, id.2 % 2 ^ 18, rtr.toNat] else [id.2, 0, 0, rtr.toNat]
/-- Data bytes of a frame with header word `w` (R342): a remote frame carries none, a classical one at most 8. -/
def dlcBytes (w : W) : Nat :=
  let d := fld w 27 24
  if bitAt w 31 = false ∧ bitAt w 28 then 0 else if bitAt w 31 = false then min d 8
  else [0, 1, 2, 3, 4, 5, 6, 7, 8, 12, 16, 20, 24, 32, 48, 64].getD d 0
/-- The smallest data length code that holds `n` bytes. -/
def dlcFor (n : Nat) : Nat :=
  ([0, 1, 2, 3, 4, 5, 6, 7, 8, 12, 16, 20, 24, 32, 48, 64].findIdx? (fun k => decide (n ≤ k))).getD 15
/-- The 16 data words of a frame of `n` bytes; bytes beyond its length are zero (R349). -/
def frameWords (data : List Byte) (n : Nat) : List W :=
  let d := data.take n
  (List.range 16).map (fun i => wordOfBytes (d.getD (4 * i) 0) (d.getD (4 * i + 1) 0) (d.getD (4 * i + 2) 0) (d.getD (4 * i + 3) 0))
/-- The bytes of data words. -/
def wordsBytes (ws : List W) : List Byte := ws.flatMap bytesOf

/-! ### Receive objects (R348 to R351) -/

/-- Whether the device owns object `k`. -/
def State.objDev (s : State) (n k : Nat) : Bool := s.rb (aOBJ_OWN n k) 31
/-- The enabled object that names an identifier, if any (R348). -/
def State.findObj (s : State) (n : Nat) (id : Bool × Nat) : Option Nat :=
  (List.range 512).find? (fun k => s.rb (aOBJ_CFG n k) 31 && canId (s.reg (aOBJ_CFG n k)) == id)
/-- The record words 0 to 16 of object `k`. -/
def State.objRecord (s : State) (n k : Nat) : List W := (List.range 17).map (fun i => s.reg (aOBJ_REC n k i))
/-- Write the record of object `k` (R349): RCNT, FRESH and REPL in the same clock. -/
def State.storeObj (s : State) (n k : Nat) (rec : List W) : State :=
  let st := s.reg (aOBJ_STAT n k)
  let repl := bitAt st 31
  let s1 := (List.range 17).foldl (fun s i => s.setReg (aOBJ_REC n k i) (rec.getD i 0)) s
  let s2 := s1.setReg (aOBJ_STAT n k)
    (putFld (putBit (putBit st 31 true) 30 (repl || bitAt st 30)) 15 0 ((fld st 15 0 + 1) % 65536))
  if repl && s2.objDev n k then s2.canEvent n 4 else s2
/-- FRESH and REPL of object `k` clear (R350, R351). -/
def State.ackObj (s : State) (n k : Nat) : State := s.setRf (aOBJ_STAT n k) 31 30 0

/-- A record for object `k`: written, or held while a copy of the object runs (R350). -/
def State.toObj (s : State) (n k : Nat) (rec : List W) : State :=
  match FMap.get (fun _ => none) s.objCopy (n * 512 + k) with
  | some t =>
    if s.fab < t + 160 then
      (if Config.objectHeld s.fresh then s.useFresh.setCan n { s.useFresh.can n with hold := some (k, rec) }
       else s.useFresh.storeObj n k rec)
    else s.storeObj n k rec
  | none => s.storeObj n k rec

/-- A valid frame reaches the strainer table (R348, R349): header word, data, start of frame in Meridian time. -/
def State.strain (s : State) (n : Nat) (id : Bool × Nat) (ctl : W) (data : List Byte) (sof : W64) : State :=
  match s.findObj n id with
  | none => s.count (aCAN_CNT_NOMATCH n)
  | some k =>
    if bitAt ctl 28 ∧ s.rb (aOBJ_CFG n k) 29 = false then s
    else
      let cyc := if s.canSync n then s.rf (aCAN_TTSTAT n) 21 16 else 0
      let w0 := (ctl &&& 0xFF000000) ||| BitVec.ofNat 32 (cyc * 65536 + sof.toNat / 1000 % 65536)
      s.toObj n k (w0 :: frameWords data (dlcBytes ctl))

/-! ### Time-triggered operation (R358) -/

/-- Whether a frame is a reference message of the bus of controller `n`: a classical data frame with DLC 1 whose identifier
shares the upper bits of `CAN_TTREF`. -/
def State.isRef (s : State) (n : Nat) (id : Bool × Nat) (ctl : W) : Bool :=
  let r := idOf (s.reg (aCAN_TTREF n))
  decide (s.canTt n = 1 ∨ s.canTt n = 2) && !bitAt ctl 31 && !bitAt ctl 28 && decide (fld ctl 27 24 = 1)
    && r.1 == id.1 && decide (r.2 / 8 = id.2 / 8)

/-- A reference message with cycle count `c` whose frame began at `sof`: Ref_Mark, SYNC, CYC. -/
def State.refMark (s : State) (n c : Nat) (sof : W64) : State :=
  ((s.setCan n { s.can n with mark := sof, seen := true }).setRf (aCAN_STAT n) 26 26 1).setRf (aCAN_TTSTAT n) 21 16 c

/-- A received reference message; one from a higher-priority master takes back an own request, and where none is made yet it takes the
next instant's (R358). DEDUCED (log 50). -/
def State.refIn (s : State) (n : Nat) (id : Bool × Nat) (data : List Byte) (sof : W64) : State :=
  let s1 := s.refMark n ((data.getD 0 0).toNat % 64) sof
  if s1.canTt n = 1 ∧ id.2 % 8 < s1.rf (aCAN_TTREF n) 2 0 then
    s1.setCan n { s1.can n with refReq := none, ceded := (s1.can n).refReq.isNone }
  else s1

/-! ### Reception -/

/-- A good frame lowers the receive error counter (R357, ISO 11898-1; PRESUMED). PRESUMED (log 45); DESIGN CHOICE (log 182). -/
def State.goodRx (s : State) (n : Nat) : State :=
  let r := s.rf (aCAN_STAT n) 23 16
  let s1 := if 127 < r then (s.useFresh).setRf (aCAN_STAT n) 23 16 (min 127 (119 + (Config.recDrop s.fresh).toNat))
    else s.setRf (aCAN_STAT n) 23 16 (r - 1)
  if s1.canEst n = 1 ∧ s1.rf (aCAN_STAT n) 23 16 < 128 ∧ s1.rf (aCAN_STAT n) 15 8 < 128 then
    (s1.setRf (aCAN_STAT n) 29 28 0).canEvent n 2
  else s1

/-- Controller `n` drives what it may only drive in NORMAL mode: an acknowledgement, an error frame (R347). -/
def State.canDrive (s : State) (n : Nat) (o : Output) : State := if s.canMode n = 1 then s.emit o else s

/-- A frame of another node validated by controller `n`: header word bits [31:24], data, and the start of its frame. DESIGN CHOICE (log 182). -/
def State.canRx (s : State) (n : Nat) (id ctl : W) (data : List Byte) (sof : W64) : State :=
  let s1 := ((s.canDrive n (.canAck n)).count (aCAN_CNT_RX n)).goodRx n
  let s2 := if s1.isRef n (idOf id) ctl then s1.refIn n (idOf id) data sof else s1
  s2.strain n (idOf id) ctl data sof

/-- Whether controller `n` follows the frames of other nodes (R343, R347): NORMAL or LISTEN, not bus-off. DESIGN CHOICE (log 49). -/
def State.canHears (s : State) (n : Nat) : Bool :=
  s.canRuns n && (s.canMode n == 1 || s.canMode n == 2) && s.canEst n != 2

/-- The frame in the receive hold of controller `n` is written when the copy has ended (R350). -/
def execHeldFrameWrite (n : BitVec 4) (dt : Nat) (st : State) : Host.Outcome State Fault Refusal :=
  let s := st.elapse dt
  .next (match (s.can n.toNat).hold with
    | some (k, rec) => (s.setCan n.toNat { s.can n.toNat with hold := none }).storeObj n.toNat k rec
    | none => s)

/-! ### Transmit mailboxes (R353 to R356) -/

/-- Whether the device owns mailbox `m`. -/
def State.mbDev (s : State) (n m : Nat) : Bool := s.rb (aMB_OWN n m) 31
/-- `MB_STAT.PEND`. -/
def State.mbPend (s : State) (n m : Nat) : Bool := s.rb (aMB_STAT n m) 31
/-- Header word of mailbox `m`. -/
def State.mbCtl (s : State) (n m : Nat) : W := s.reg (aMB_DATA n m 0)
/-- The request of mailbox `m` ends with code `err`. DEDUCED (log 48). -/
def State.mbEnd (s : State) (n m err : Nat) : State :=
  let s1 := (s.setRf (aMB_STAT n m) 31 31 0).setRf (aMB_STAT n m) 27 24 err
  if err ≠ 0 then s1.canEvent n 0x20 else s1
/-- A request that is not on the bus is cancelled, pending or armed, with ERR 0x4 (R343, R346, R356). DEDUCED (log 46). -/
def State.mbCancel (s : State) (n m : Nat) : State :=
  let armed := s.rb (aMB_STAT n m) 30
  let s1 := s.setRf (aMB_STAT n m) 30 30 0
  if (s.can n).bus = some m then s1.setCan n { s1.can n with noRetry := true }
  else if s.mbPend n m || armed then s1.mbEnd n m 4
  else s1
/-- Every request of controller `n` is cancelled; nothing stays on its bus. -/
def State.cancelAll (s : State) (n : Nat) : State :=
  (List.range 32).foldl (fun s m => s.mbCancel n m) (s.setCan n { s.can n with bus := none, noRetry := false, refReq := none, ceded := false })
/-- Mailbox `m` gets a request: pending, or armed where its trigger is enabled (R359); in CONFIG it is cancelled (R343). DEDUCED (log 46). -/
def State.mbRequest (s : State) (n m : Nat) : State :=
  if s.canMode n = 0 then s.mbEnd n m 4
  else if s.rb (aMB_TRIG n m) 31 then s.setRf (aMB_STAT n m) 30 30 1
  else s.setRf (aMB_STAT n m) 31 31 1
/-- Load mailbox `m` with an identifier word and record words 0 to 16, and request transmission (R355). -/
def State.mbLoad (s : State) (n m : Nat) (id : W) (rec : List W) : State :=
  ((List.range 17).foldl (fun s i => s.setReg (aMB_DATA n m i) (rec.getD i 0)) (s.setReg (aMB_ID n m) id)).mbRequest n m

/-- A mailbox with FDF = 1 while FDE = 0 is not sent (R354). -/
def State.dropFd (s : State) (n : Nat) : State :=
  (List.range 32).foldl (fun s m =>
    if s.mbPend n m && bitAt (s.mbCtl n m) 31 && !s.rb (aCAN_CTL n) 2 then s.mbEnd n m 2 else s) s

/-- The control word that mailbox `m` is sent with: FDF, BRS, RTR and DLC as loaded, ESI recessive in an FD frame of an error-passive
sender (R342). An FD frame has no RTR. DESIGN CHOICE (log 49). -/
def State.sentCtl (s : State) (n m : Nat) : W :=
  let w := s.mbCtl n m &&& 0xDF000000
  if bitAt w 31 then putBit (putBit w 28 false) 29 (s.canEst n == 1) else putBit w 30 false
/-- The place of mailbox `m` in the arbitration order (R353). -/
def State.mbOrder (s : State) (n m : Nat) : List Nat := arbOrder (idOf (s.reg (aMB_ID n m))) (bitAt (s.sentCtl n m) 28) ++ [m]

/-- The pending mailbox that goes first. -/
def State.nextMb (s : State) (n : Nat) : Option Nat :=
  ((List.range 32).filter (fun m => s.mbPend n m)).foldl (fun b m =>
    match b with
    | none => some m
    | some k => if lexLt (s.mbOrder n m) (s.mbOrder n k) then some m else some k) none

/-- Mailbox `m` starts; an FD frame measures the loop delay while SSPEN is 1 (R345). -/
def State.startMb (s : State) (n m delay : Nat) : State :=
  let ws := s.reg (aMB_ID n m) :: s.sentCtl n m :: (List.range 16).map (fun i => s.reg (aMB_DATA n m (i + 1)))
  let s1 := s.setCan n { s.can n with bus := some m, noRetry := false, frame := ws }
  if bitAt (s.mbCtl n m) 31 && s.rb (aCAN_CTL n) 5 then s1.setReg (aCAN_LOOPD n) (BitVec.ofNat 32 (min delay 127)) else s1

/-- Controller `n` may start a frame, `dt` clocks on: the reference message first, then the mailboxes in the order of R353;
`delay` is the loop delay that an FD frame measures, in CLK_CAN clocks. -/
def execCanTransmitStart (n : BitVec 4) (delay : BitVec 8) (dt : Nat) (st : State) : Host.Outcome State Fault Refusal :=
  let s := st.elapse dt
  let c := n.toNat
  .next (if s.canRuns c && (s.canMode c == 1 || s.canMode c == 3) && s.canEst c != 2 && (s.can c).bus.isNone && s.canJoined c 0 then
      (if (s.can c).refReq.isSome then s.setCan c { s.can c with bus := some 32, noRetry := false, integ := none }
       else
        let s1 := (s.setCan c { s.can c with integ := none }).dropFd c
        match s1.nextMb c with
        | some m => s1.startMb c m delay.toNat
        | none => s1)
    else s)

/-- A frame of controller `n` went out: TEC falls by one (PRESUMED, ISO 11898-1), and an error-passive controller may become active. PRESUMED (log 45). -/
def State.goodTx (s : State) (n : Nat) : State :=
  let s1 := (s.count (aCAN_CNT_TX n)).setRf (aCAN_STAT n) 15 8 (s.rf (aCAN_STAT n) 15 8 - 1)
  if s1.canEst n = 1 ∧ s1.rf (aCAN_STAT n) 23 16 < 128 ∧ s1.rf (aCAN_STAT n) 15 8 < 128 then
    (s1.setRf (aCAN_STAT n) 29 28 0).canEvent n 2
  else s1

/-- The words put on the bus, unless CANn_TX stays recessive (LOOPBACK). -/
def State.canOut (s : State) (n : Nat) (ws : List W) : State :=
  if s.canMode n = 3 then s else s.emit (.canFrame n ws)

/-- In LOOPBACK an own frame is received and stored in its object (R347). DESIGN CHOICE (log 49). -/
def State.loopBack (s : State) (n : Nat) (id ctl : W) (data : List Byte) (sof : W64) : State :=
  if s.canMode n = 3 then (s.count (aCAN_CNT_RX n)).strain n (idOf id) ctl data sof else s

/-- Mailbox `m`'s frame completed, as it started (R356). -/
def State.sentMb (s : State) (n m : Nat) (sof : W64) : State :=
  let id := (s.can n).frame.getD 0 0
  let ctl := (s.can n).frame.getD 1 0
  let ws := (s.can n).frame.drop 2
  let s1 := (s.goodTx n).canOut n (id :: ctl :: ws)
  let s2 := (s1.mbEnd n m 0).setRf (aMB_STAT n m) 15 0 ((s.rf (aMB_STAT n m) 15 0 + 1) % 65536)
  s2.loopBack n id ctl (wordsBytes ws) sof

/-- The reference message completed: its start of frame is the controller's own Ref_Mark (R358). -/
def State.sentRef (s : State) (n c : Nat) (sof : W64) : State :=
  let id := s.reg (aCAN_TTREF n)
  let s1 := ((s.goodTx n).canOut n [id, 0x01000000, BitVec.ofNat 32 c]).refMark n c sof
  (s1.setCan n { s1.can n with refReq := none }).loopBack n id 0x01000000 [BitVec.ofNat 8 c] sof

/-- The frame on the bus of controller `n` completes without error, `dt` clocks on; it began `ago` ns before (R354). -/
def execCanTransmitDone (n : BitVec 4) (ago : Nat) (dt : Nat) (st : State) : Host.Outcome State Fault Refusal :=
  let s := st.elapse dt
  let c := n.toNat
  let sof := s.now - BitVec.ofNat 64 ago
  .next (match (s.can c).bus with
    | none => s
    | some m =>
      let s1 := s.setCan c { s.can c with bus := none, noRetry := false }
      if m < 32 then s1.sentMb c m sof
      else match (s.can c).refReq with
        | some cyc => s1.sentRef c cyc sof
        | none => s1)

/-! ### Errors (R354, R357) -/

/-- The frame on the bus of controller `n` failed: a triggered mailbox and one that was cancelled end, any other stays pending. -/
def State.failBus (s : State) (n : Nat) : State :=
  match (s.can n).bus with
  | none => s
  | some m =>
    let s1 := s.setCan n { s.can n with bus := none, noRetry := false }
    if 32 ≤ m then s1
    else if (s.can n).noRetry then s1.mbEnd n m 4
    else if s.rb (aMB_TRIG n m) 31 then s1.mbEnd n m 3
    else s1

/-- The error counters of controller `n` become `tec` and `rec`: error state, bus-off, recovery and events (R357). PRESUMED (log 45). -/
def State.setCounts (s : State) (n tec rec : Nat) : State :=
  let was := s.canEst n
  let est := if 255 < tec then 2 else if 128 ≤ tec ∨ 128 ≤ rec then 1 else 0
  let s1 := ((s.setRf (aCAN_STAT n) 15 8 (min tec 255)).setRf (aCAN_STAT n) 23 16 (min rec 255)).setRf (aCAN_STAT n) 29 28 est
  let s2 := if est = 2 ∧ was ≠ 2 then
      ((s1.count (aCAN_CNT_BOFF n)).setRf (aCAN_STAT n) 27 27 (s1.rb (aCAN_CTL n) 4).toNat)
    else if est ≠ 2 then s1.setRf (aCAN_STAT n) 27 27 0
    else s1
  let bits : W := (if (was = 2) = (est = 2) then 0 else 1) ||| (if (was = 1) = (est = 1) then 0 else 2)
  if bits = 0 then s2 else s2.canEvent n bits

/-- Controller `n` stops at a recessive res bit and integrates on the bus: no error frame, no counter (R342, PXE = 1). -/
def State.canStops (s : State) (n : Nat) : State := ((s.failBus n).setRf (aCAN_STAT n) 3 0 8).canJoin n
/-- An error `code` of `CAN_STAT.LASTERR` on the bus of controller `n` with what it adds to the two counters: counted, an error frame driven
in NORMAL mode. -/
def State.canError (s : State) (n code tecUp recUp : Nat) : State :=
  let s1 := (((s.failBus n).setRf (aCAN_STAT n) 3 0 code).canDrive n (.canErrorFrame n (s.canEst n == 1))).count (aCAN_CNT_ERR n)
  s1.setCounts n (s1.rf (aCAN_STAT n) 15 8 + tecUp) (s1.rf (aCAN_STAT n) 23 16 + recUp)

/-- An error on the bus of controller `n`, `dt` clocks on: `code` as `CAN_STAT.LASTERR`, 0 for lost arbitration, 8 for a recessive res bit
(a form error while PXE = 0, R342), and what ISO 11898-1 adds to the two counters. -/
def execCanBusError (n : BitVec 4) (code : BitVec 4) (tecUp : BitVec 8) (recUp : BitVec 8) (dt : Nat) (st : State) :
    Host.Outcome State Fault Refusal :=
  let s := st.elapse dt
  let c := n.toNat
  .next (if s.canRuns c && s.canMode c != 0 && s.canEst c != 2 && s.canJoined c 0 && decide (code.toNat ≤ 8) then
      (if code = 0 then s.failBus c
       else if code = 8 ∧ s.rb (aCAN_CTL c) 3 then s.canStops c
       else s.canError c (if code = 8 then 5 else code.toNat) tecUp.toNat recUp.toNat)
    else s)

/-- A frame with identifier word `id` and header word `ctl` is validated by controller `n`, `dt` clocks on; its start of frame
lay `ago` ns before (R349). A controller that still integrates ignores it and waits on; one with FDE = 0 takes a recessive FDF bit as a
recessive res bit, where a form error of a receiver adds 1 to REC (R342; PRESUMED, log 45). -/
def execCanFrameReceived (n : BitVec 4) (id : W) (ctl : W) (data : List Byte) (ago : Nat) (dt : Nat) (st : State) :
    Host.Outcome State Fault Refusal :=
  let s := st.elapse dt
  let c := n.toNat
  .next (if s.canHears c = false then s
    else if s.canJoined c ago = false then s.canJoin c
    else
      let s1 := s.setCan c { s.can c with integ := none }
      if bitAt ctl 31 ∧ s1.rb (aCAN_CTL c) 2 = false then
        (if s1.rb (aCAN_CTL c) 3 then s1.canStops c else s1.canError c 5 0 1)
      else if bitAt ctl 31 ∧ bitAt ctl 28 then s1
      else s1.canRx c id ctl data (s1.now - BitVec.ofNat 64 ago))

/-- 128 occurrences of 11 recessive bits have passed: error active again (R357). -/
def execBusOffRecoveryDone (n : BitVec 4) (st : State) : Host.Outcome State Fault Refusal :=
  let c := n.toNat
  .next (if st.canRuns c && st.canEst c == 2 && st.rb (aCAN_STAT c) 27 then (st.setRf (aCAN_STAT c) 27 27 0).setCounts c 0 0 else st)

/-! ### Commands of `CAN_CMD` -/

/-- The outcome of a command of controller `n`. -/
def State.canReason (s : State) (n r : Nat) : State := s.setReg (aCAN_CMD_STAT n) (BitVec.ofNat 32 r)
/-- A command of `CAN_CMD` of controller `n` by `src`. -/
def State.canCmd (s : State) (src n : Nat) (k : State → State) : State :=
  if s.fuse.cans ≤ n then s else s.farWrite src (aCAN_CMD n) (aCAN_BSTAT n) k

/-- RECOVER: valid in bus-off while no recovery runs (R357). -/
def State.canRecover (n : Nat) (s : State) : State :=
  if s.canEst n = 2 ∧ s.rb (aCAN_STAT n) 27 = false then (s.setRf (aCAN_STAT n) 27 27 1).canReason n 0 else s.canReason n 1

/-- RECOVER by `src`. -/
def execCanRecover (src : BitVec 10) (n : BitVec 4) (st : State) : Host.Outcome State Fault Refusal :=
  .next (st.canCmd src.toNat n.toNat (State.canRecover n.toNat))

/-- ACK of object `k` by `src` (R351). -/
def execCanAck (src : BitVec 10) (n : BitVec 4) (k : BitVec 9) (st : State) : Host.Outcome State Fault Refusal :=
  .next (st.canCmd src.toNat n.toNat (fun s =>
    if s.objDev n.toNat k.toNat then (s.ackObj n.toNat k.toNat).canReason n.toNat 0 else s.canReason n.toNat 2))

/-- REQ of mailbox `m` (R355, R359). DEDUCED (log 47). -/
def State.canReq (n m : Nat) (s : State) : State :=
  if 32 ≤ m ∨ s.mbDev n m = false then s.canReason n 2
  else if s.mbPend n m then s.canReason n 3
  else if s.canMode n = 0 then s.canReason n 1
  else (s.mbRequest n m).canReason n 0

/-- REQ by `src`. -/
def execReqCmd (src : BitVec 10) (n : BitVec 4) (m : BitVec 9) (st : State) : Host.Outcome State Fault Refusal :=
  .next (st.canCmd src.toNat n.toNat (State.canReq n.toNat m.toNat))

/-- CANCEL of mailbox `m` by `src` (R356). DEDUCED (log 47). -/
def execCancelCmd (src : BitVec 10) (n : BitVec 4) (m : BitVec 9) (st : State) : Host.Outcome State Fault Refusal :=
  .next (st.canCmd src.toNat n.toNat (fun s =>
    if 32 ≤ m.toNat ∨ s.mbDev n.toNat m.toNat = false then s.canReason n.toNat 2
    else (s.mbCancel n.toNat m.toNat).canReason n.toNat 0))

/-! ### Time-triggered events (R358, R359) -/

/-- Cycle number of Meridian time for the master of controller `n`: whole cycles since PHASE. DEDUCED (log 51). -/
def State.ttCycle (s : State) (n : Nat) : Nat :=
  (s.now.toNat / 1000 - s.rf (aCAN_TTPH n) 19 0) / max 1 (s.rf (aCAN_TTCYC n) 19 0)
/-- Whether the present microsecond is a master instant of controller `n`. -/
def State.ttInstant (s : State) (n : Nat) : Bool :=
  let us := s.now.toNat / 1000
  decide (s.rf (aCAN_TTPH n) 19 0 ≤ us ∧ (us - s.rf (aCAN_TTPH n) 19 0) % max 1 (s.rf (aCAN_TTCYC n) 19 0) = 0)
/-- Whether no reference message has appeared for CYCLE + 10 µs × (ID[2:0] + 1). -/
def State.ttLate (s : State) (n : Nat) : Bool :=
  (s.can n).seen && decide (s.rf (aCAN_TTCYC n) 19 0 + 10 * (s.rf (aCAN_TTREF n) 2 0 + 1) ≤ s.canCt n)

/-- A time master requests its reference message, `dt` clocks on (R358). DEDUCED (log 50). -/
def execReferenceMessageDue (n : BitVec 4) (dt : Nat) (st : State) : Host.Outcome State Fault Refusal :=
  let s := st.elapse dt
  let c := n.toNat
  .next (if s.canRuns c && s.canTt c == 1 && s.canMode c != 0 && (s.ttInstant c || s.ttLate c) then
      (if (s.can c).ceded ∧ s.ttLate c = false then s.setCan c { s.can c with ceded := false }
       else s.setCan c { s.can c with refReq := some (s.ttCycle c % (s.rf (aCAN_TTCYC c) 31 26 + 1)), ceded := false })
    else s)

/-- No reference message for 2 × CYCLE, `dt` clocks on. -/
def execTtSyncLoss (n : BitVec 4) (dt : Nat) (st : State) : Host.Outcome State Fault Refusal :=
  let s := st.elapse dt
  let c := n.toNat
  .next (if s.canRuns c && s.canSync c && decide (2 * s.rf (aCAN_TTCYC c) 19 0 ≤ s.canCt c) then
      (s.setRf (aCAN_STAT c) 26 26 0).canEvent c 0x10
    else s)

/-- Cycle time reaches OFFSET of the armed mailbox `m` of controller `n`, `dt` clocks on, in a cycle of its series. DEDUCED (log 46). -/
def execTriggerFire (n : BitVec 4) (m : BitVec 5) (dt : Nat) (st : State) : Host.Outcome State Fault Refusal :=
  let s := st.elapse dt
  let c := n.toNat
  let t := s.reg (aMB_TRIG c m.toNat)
  let per := 2 ^ fld t 23 20
  .next (if s.canRuns c && s.canSync c && s.canMode c != 0 && decide (s.canTt c ≠ 0) && bitAt t 31 && s.rb (aMB_STAT c m.toNat) 30
      && !s.mbPend c m.toNat && decide (s.canCt c = fld t 19 0)
      && decide (s.rf (aCAN_TTSTAT c) 21 16 % per = fld t 29 24 % per) then
      { s.setRf (aMB_STAT c m.toNat) 31 31 1 with
        trigEnd := FMap.set (fun _ => 0) s.trigEnd (c * 32 + m.toNat)
          ((s.can c).mark + BitVec.ofNat 64 ((fld t 19 0 + s.rf (aMB_WIN c m.toNat) 15 0) * 1000)) }
    else s)

/-- The window of a fired mailbox ends, `dt` clocks on: a frame that has not started ends with ERR 0x3. DEDUCED (log 46). -/
def execTriggerWindowEnd (n : BitVec 4) (m : BitVec 5) (dt : Nat) (st : State) : Host.Outcome State Fault Refusal :=
  let s := st.elapse dt
  let c := n.toNat
  .next (if s.rb (aMB_TRIG c m.toNat) 31 && s.mbPend c m.toNat && decide ((s.can c).bus ≠ some m.toNat)
      && decide ((FMap.get (fun _ => 0) s.trigEnd (c * 32 + m.toNat)).toNat ≤ s.now.toNat) then s.mbEnd c m.toNat 3
    else s)

end Sys2Proof.Machine
end

