-- ==== Sys2Proof/Machine/Pair.lean ====
section
/-!
DEFINITION. A pair member: its lease and claims (spec/08 R244 to R250), how it becomes ACTIVE (R267, R271), the frames of its
partner (R256 to R266) and the redundancy commands and commit (R237, R238, R241, R270, R274).
-/
namespace Sys2Proof.Machine

/-! ### Shadow passes (R257) -/

/-- The stamp in partition time (ns) that a STAMP of µs modulo 2^32 names, where its instant has passed. -/
def State.fullStamp (s : State) (p : Nat) (st : W) : Option W64 :=
  let us := (s.ptime p).toNat / 1000
  let d := (us + 2 ^ 32 - st.toNat) % 2 ^ 32
  if d < 2 ^ 31 ∧ d ≤ us then some (BitVec.ofNat 64 ((us - d) * 1000)) else none

/-- Task `t` of a standby copy starts its next shadow pass when it is Idle, the INVEC is there and the grid instant has passed: the
pass carries the active's stamp and its deadline counts from now. -/
def State.shadowStart (s : State) (p t : Nat) : State :=
  if s.standbyCopy p ∧ s.mode p = 2 ∧ s.tstate p t = tIdle ∧ s.fatal = false ∧ s.inPause p = false then
    match (s.shad p t).vecs.head? with
    | none => s
    | some v =>
      match s.fullStamp p v.1 with
      | none => s
      | some st =>
        let s1 := s.startPass p t st (st + s.reg64 (aPD_OFFSET_LO p)) (s.ptime p)
        s1.setShad p t { s1.shad p t with due := none, follows := true }
  else s

/-- Mode `m` of the active applies to the standby's copy of `p` (R256); Hold in commissioning leaves it out of step until the next
Resume, which resynchronises it (R272). -/
def State.followMode (s : State) (p m cause : Nat) : State :=
  if m = s.mode p then s
  else if m = 1 then s.stopPart p cause 0
  else if m = 3 then (if s.mode p = 2 then (s.enterHold p 0).setPstep p 3 else s)
  else if m = 2 then
    (if s.mode p = 3 then (s.enterResume p).askResync p else if s.mode p = 1 then s.enterRun p else s)
  else s

/-- Whether the copy of `p` may not go to Run now: a decode-table switch is pending (R119), or R120 refuses the start. DEDUCED (log 194). -/
def State.runHeld (s : State) (p : Nat) : Bool := decide (s.mode p = 1) && (s.dtPending || s.startMismatch p)
/-- Whether task `t` of the copy of `p` has a pass stamped before Meridian instant `tick` unfinished: in hand, or waiting with its INVEC. -/
def State.passBefore (s : State) (p t : Nat) (tick : W64) : Bool :=
  let us := (tick - s.reg64 (aPD_OFFSET_LO p)).toNat / 1000
  (decide (tInput ≤ s.tstate p t ∧ s.tstate p t ≤ tOutput) && decide ((s.task p t).relAt.toNat < tick.toNat))
    || (decide (s.mode p = 2) && s.tstate p t == tIdle && (s.shad p t).vecs.any (fun v =>
      decide (1 ≤ (us + 2 ^ 32 - v.1.toNat) % 2 ^ 32 ∧ (us + 2 ^ 32 - v.1.toNat) % 2 ^ 32 < 2 ^ 31)))
/-- A waiting MODE frame applies once no pass stamped before its tick is unfinished (R256); Run also waits as a Run command would. -/
def State.modeNow (s : State) (p : Nat) : State :=
  match FMap.get (fun _ => none) s.modeWait p with
  | none => s
  | some (m, cause, tick) =>
    if (List.range 8).any (fun t => s.passBefore p t tick) ∨ (m = 2 ∧ s.runHeld p) then s
    else { s with modeWait := FMap.set (fun _ => none) s.modeWait p none }.followMode p m cause

/-- A pass of task `t` has completed: in Run it is Idle, or Off when its EN has cleared (R130, R134); in Hold it is Held from Idle, and a
step ends (R150). -/
def State.finishPass (s : State) (p t : Nat) : State :=
  let k := s.task p t
  if s.mode p = 3 then
    let s1 := (s.setTask p t { k with held := tIdle, heldMid := false, stepping := false }).setTState p t tHeld
    if k.stepping then ((s1.setRf (aPD_MODE p) 5 4 3).pdEvent p evHoldIn).endCmd p 0 else s1
  else if s.mode p ≠ 2 ∨ s.enabled p t = false then s.setTState p t tOff
  else s.becomeIdle p t (if k.notBefore.toNat < k.relAt.toNat then k.relAt else k.notBefore)

/-- `RU_PSTEP.PEND` of a standby copy: the lines still to write. -/
def State.pendLines (s : State) (p : Nat) : State :=
  s.setRf (aRU_PSTEP p) 23 0 (((List.range 8).map (fun t => (s.shad p t).lines.length)).foldl (· + ·) 0)

/-- Task `t` of a standby copy has ended its pass: Idle, then what waited for it. -/
def State.afterShadow (s : State) (p t : Nat) : State :=
  let s1 := if s.tstate p t = tOutput then s.finishPass p t else s
  ((s1.pendLines p).modeNow p).shadowStart p t

/-- Try to judge the pass in hand of task `t`, which then ends (R260). -/
def State.tryJudge (s : State) (p t : Nat) : State :=
  let r := s.judge p t
  if r.2 then r.1.afterShadow p t else s

/-! ### Becoming ACTIVE -/

/-- The member holds the lease with epoch `e`. -/
def State.holdRole (s : State) (e : Nat) : State :=
  let s1 := (s.setRf aRU_ROLE 31 16 e).setRole 3
  let s2 := if newer e (s1.rf aRU_HIGH 15 0) then s1.setReg aRU_HIGH (BitVec.ofNat 32 e) else s1
  { s2 with ru := { s2.ru with claim := none, retry := false, firstG := none, take := false, swapIn := none, holdAt := s2.fab
                               peerG := [], unsol := [], open_ := [], verdict := none } }

/-- A SWAP command of this member that waited for it to become ACTIVE has taken effect. -/
def State.endOwnSwap (s : State) : State :=
  if s.ru.swapFrom.isSome then
    ({ s with ru := { s.ru with swapFrom := none } }.setReg aRU_CMD_STAT 0).ruEvent 0x20
  else s

/-- The most recent grid instant of task `t` of `p` in Meridian µs, if one has passed (R124). -/
def State.lastGrid (s : State) (p t : Nat) : Option Nat :=
  let T := s.rf (aTT_PERIOD p t) 23 0
  let ph := s.rf (aTT_PHASE p t) 23 0
  let us := s.now.toNat / 1000
  if T = 0 ∨ us < ph then none else some ((us - ph) / T * T + ph)

/-- The pair tasks, partition × 16 + task. -/
def State.pairTasks (s : State) : List Nat := s.pairParts.flatMap (fun p => (List.range 8).map (fun t => p * 16 + t))

/-- Task `t` of `p` when a claim has succeeded, first (R267): the DATA lines of its complete passes are written and the rest is discarded. -/
def State.takeLines (s : State) (p t : Nat) : State :=
  let h := s.shad p t
  let s1 := h.ress.foldl (fun s r =>
    if (h.lines.filter (fun l => l.1 == r.1)).length < r.2.lines then s
    else (h.lines.filter (fun l => l.1 == r.1)).foldl (fun s l => s.writeLine p l) s) s
  s1.setShad p t { h with vecs := h.vecs.filter (fun v => v.1 == h.stamp), lines := [], ress := [], due := none, waits := none, miss := 0
                          follows := false }
/-- Then: a shadow pass that had finished its output copy queues its blocks and is complete. -/
def State.takeOutput (s : State) (p t : Nat) : State :=
  let h := s.shad p t
  let s1 := s.setShad p t { h with own := none, blocks := [], div := false }
  if s.mode p = 2 ∧ s.tstate p t = tOutput ∧ h.own.isSome then (s1.sendAll false false h.blocks).finishPass p t else s1
/-- Then: a task that has no pass in progress is released at once with the stamp of its latest grid instant, and no grid instant before the
release plus the deadline releases it; in a boundary pause the release is put off to its end (R162). -/
def State.takeRelease (s : State) (p t : Nat) : State :=
  match s.lastGrid p t with
  | none => s
  | some g =>
    if s.inPause p then s.setTask p t { s.task p t with deferred := some (BitVec.ofNat 64 (g * 1000)) }
    else
      let s3 := s.startPass p t (BitVec.ofNat 64 (g * 1000) - s.reg64 (aPD_OFFSET_LO p)) s.now (s.ptime p)
      s3.setTask p t { s3.task p t with notBefore := s3.now + BitVec.ofNat 64 (s3.rf (aTT_DEADLINE p t) 23 0 * 1000) - 1 }
/-- The rank of a pair task that a claim releases now (R131): the applied PRIO, one release instant, partition and task. -/
def State.claimRank (s : State) (k : Nat) : List Nat := [s.rf (aTT_CTL (k / 16) (k % 16)) 13 8, k]
/-- Insert a task in rank order. -/
def State.byRank (s : State) (k : Nat) (l : List Nat) : List Nat :=
  l.takeWhile (fun j => lexLt (s.claimRank j) (s.claimRank k)) ++ k :: l.dropWhile (fun j => lexLt (s.claimRank j) (s.claimRank k))

/-- A claim of epoch `e` has succeeded (R250, R267): every line first, then the passes that wait in Output, then the releases in rank order;
the partner is not in step with anything. -/
def State.claimWon (s : State) (e : Nat) : State :=
  let s1 := { (s.holdRole e).endOwnSwap with ruResync := [] }
  let ks := s1.pairTasks
  let idle := ks.filter (fun k => s1.mode (k / 16) == 2 && s1.enabled (k / 16) (k % 16) && s1.tstate (k / 16) (k % 16) == tIdle)
  let s2 := ks.foldl (fun s k => s.takeLines (k / 16) (k % 16)) s1
  let s3 := ks.foldl (fun s k => s.takeOutput (k / 16) (k % 16)) s2
  let s4 := (idle.foldl (fun l k => s3.byRank k l) []).foldl (fun s k => s.takeRelease (k / 16) (k % 16)) s3
  s.oneEvent aRU_EVT_SEQ (s4.pairParts.foldl (fun s p => s.setPstep p 3) s4)

/-- Task `t` of `p` when the successor of a swap is ACTIVE: the blocks it held back are queued (R271); a shadow pass that waited for its
RESULT is complete, its blocks sent by the former active. -/
def State.swapTask (s : State) (p t : Nat) : State :=
  let h := s.shad p t
  let s1 := s.setShad p t { Shadow.zero with began := h.began, stamp := h.stamp, vecs := h.vecs.filter (fun v => v.1 == h.stamp) }
  if h.own.isSome then (if s1.tstate p t = tOutput then s1.finishPass p t else s1) else s1.sendAll false false h.blocks
/-- The HANDOVER grants have made the member the holder of epoch `e` from clock `from_` on (R271): held blocks are queued, and tasks
go on with the normal grid. -/
def State.swapWon (s : State) (e from_ : Nat) : State :=
  let g := (List.range 7).filter (fun w => FMap.get (fun _ => 0) s.ru.unsol w = e + 1)
  let s1 := { s with ru := { s.ru with ownG := g.foldl (fun m w => FMap.set (fun _ => 0) m w (from_ + 1)) [] } }
  let s2 := s.oneEvent aRU_EVT_SEQ ((((s1.holdRole e).endOwnSwap).count aRU_CNT_SWAP).ruEvent 0x20)
  s2.pairTasks.foldl (fun s k => s.swapTask (k / 16) (k % 16)) s2

/-- A SWAP received and M unsolicited GRANTs of its epoch: the member becomes ACTIVE (R271). -/
def State.trySwap (s : State) : State :=
  match s.ru.swapIn with
  | some (e, from_) =>
    if (s.ruRole = 4 ∨ s.ruRole = 5) ∧ 1 ≤ s.majority
        ∧ s.majority ≤ ((List.range 7).filter (fun w => FMap.get (fun _ => 0) s.ru.unsol w = e + 1)).length then s.swapWon e from_
    else s
  | none => s

/-- Whether the redundancy unit works as a member: EN is 1 and its clocks run (R19). -/
def State.ruRuns (s : State) : Bool := s.member && !s.clkStop
/-- The successor of a swap that this member began is ACTIVE: the command is done (R270, R274). -/
def State.swapDone (s : State) : State :=
  if s.ru.swapTo.isSome then
    (({ s with ru := { s.ru with swapTo := none, holdAt := s.fab } }.setReg aRU_CMD_STAT 0).count aRU_CNT_SWAP).ruEvent 0x20
  else s

/-! ### Lease events -/

/-- The member renews its lease (R244). -/
def execLeaseRenewal (dt : Nat) (st : State) : Host.Outcome State Fault Refusal :=
  let s := st.elapse dt
  .next (if s.ruRuns && s.ruRole == 3 then s.sendLease 1 s.ruEpoch false 0 else s)

/-- The own lease stops being valid: the member leaves ACTIVE (R245). -/
def execLeaseExpiry (dt : Nat) (st : State) : Host.Outcome State Fault Refusal :=
  let s := st.elapse dt
  .next (if s.ruRole = 3 ∧ s.leaseValid = false ∧ s.clkStop = false then
      s.oneEvent aRU_EVT_SEQ (((s.count aRU_CNT_LAPSE).ruEvent 0x40).setRole 1)
    else s)

/-- The observed lease of the partner lapses (R248, R252); the initiator of a swap waits for its outcome. -/
def execPartnerLeaseLapse (dt : Nat) (st : State) : Host.Outcome State Fault Refusal :=
  let s := st.elapse dt
  .next (if (s.ruRole = 4 ∨ s.ruRole = 5) ∧ s.peerValid = false ∧ s.ru.swapTo = none ∧ s.clkStop = false then s.lapsePeer else s)

/-- A CLAIM of the newest epoch known plus one goes out; a new round begins. -/
def State.startClaim (s : State) : State :=
  let e := (s.rf aRU_HIGH 15 0 + 1) % 65536
  { s with ru := { s.ru with claim := some e, retry := false, firstG := none, ownG := [] } }.sendLease 2 e false 0

/-- Whether a member in WAIT may claim (R249): `since` is when the last of its conditions came to hold. -/
def State.mayClaim (s : State) : Bool :=
  let ready := s.ru.waitAt + s.leaseClks + 40000
  let since := max (max ready s.ru.lostAt) (if s.comm && s.isMember1 then s.ru.takeAt else 0)
  decide (ready ≤ s.fab) && !s.peerValid
    && decide (since + (if s.isMember1 && !s.ru.fromSync then 48000 else 0) ≤ s.fab)
    && (!s.comm || !s.isMember1 || s.ru.take)

/-- The claim conditions hold, or a back-off of the claiming member has passed: CLAIM goes to every witness (R249). -/
def execClaim (dt : Nat) (st : State) : Host.Outcome State Fault Refusal :=
  let s := st.elapse dt
  .next (if s.ruRuns = false then s
    else if s.ruRole = 1 ∧ s.mayClaim then (s.setRole 2).startClaim
    else if s.ruRole = 2 ∧ s.ru.claim = none ∧ s.ru.backoff ≤ s.fab then s.startClaim
    else s)

/-- Every 10 µs while DENY 0x1 comes in, the CLAIM is repeated (R249). -/
def execClaimRetry (dt : Nat) (st : State) : Host.Outcome State Fault Refusal :=
  let s := st.elapse dt
  .next (if s.ruRole = 2 ∧ s.ru.retry then
      (match s.ru.claim with | some e => s.sendLease 2 e false 0 | none => s)
    else s)

/-- A round without M GRANTs within 50 µs of its first: RELEASE, then back-off (R249). -/
def execClaimRoundTimeout (dt : Nat) (st : State) : Host.Outcome State Fault Refusal :=
  let s := st.elapse dt
  .next (match s.ru.firstG, s.ru.claim with
    | some f, some e =>
      if s.ruRole = 2 ∧ f + 40000 ≤ s.fab then
        let s1 := s.sendLease 5 e false 0
        ({ s1 with ru := { s1.ru with claim := none, retry := false, firstG := none, ownG := []
                                      backoff := s1.fab + (if s1.isMember1 then 48000 else 16000) } }.count aRU_CNT_CLAIM).ruEvent 2
      else s
    | _, _ => s)

/-- A GRANT for this member: of a REQUEST or CLAIM it sent (R245), or unsolicited (R271). -/
def State.ownGrant (s : State) (w epoch rnum : Nat) : State :=
  match s.ru.sent.find? (fun f => f.1 == rnum && f.2.1 == epoch) with
  | some f =>
    let old := FMap.get (fun _ => 0) s.ru.ownG w
    let s1 := { s with ru := { s.ru with ownG := FMap.set (fun _ => 0) s.ru.ownG w (max old (f.2.2 + 1)) } }
    if s.ruRole = 3 ∧ epoch = s.ruEpoch then s1
    else if s.ruRole = 2 ∧ s.ru.claim = some epoch then
      let s2 := if s1.ru.firstG.isNone then { s1 with ru := { s1.ru with firstG := some s1.fab } } else s1
      if s2.leaseValid then s2.claimWon epoch else s2
    else s
  | none => { s with ru := { s.ru with unsol := FMap.set (fun _ => 0) s.ru.unsol w (epoch + 1) } }.trySwap

/-- A GRANT for the partner: its lease as observed (R248). WAIT and CLAIM give way to a valid one. -/
def State.peerGrant (s : State) (w : Nat) : State :=
  let s1 := { s with ru := { s.ru with peerG := FMap.set (fun _ => 0) s.ru.peerG w (s.fab + 1) } }
  if s1.peerValid then
    (if s1.ruRole = 1 ∨ s1.ruRole = 2 then s1.toSync else if s1.ruRole = 4 ∨ s1.ruRole = 5 then s1.swapDone else s1)
  else s1

/-- Whether a frame of witness `widx` for `pair` concerns this member. -/
def State.fromWitness (s : State) (widx pair : Nat) : Bool :=
  s.ruRuns && decide (pair = s.rf aRU_CFG 15 0 ∧ widx < 7) && s.rb (aRU_WIT widx) 31

/-- A GRANT of witness `widx` to `member` arrives, `dt` clocks on. DEDUCED (log 66). -/
def execGrant (widx : BitVec 3) (member : Bool) (pair epoch rnum high : BitVec 16) (dt : Nat) (st : State) :
    Host.Outcome State Fault Refusal :=
  let s := st.elapse dt
  .next (if s.fromWitness widx.toNat pair.toNat then
      (if member = s.isMember1 then ((s.ownGrant widx.toNat epoch.toNat rnum.toNat).noteEpoch epoch.toNat).noteEpoch high.toNat
       else ((s.noteEpoch epoch.toNat).noteEpoch high.toNat).peerGrant widx.toNat)
    else s)

/-- A DENY of witness `widx` to `member` arrives, `dt` clocks on (R249). -/
def execDeny (widx : BitVec 3) (member : Bool) (reason : BitVec 4) (pair epoch high : BitVec 16) (dt : Nat) (st : State) :
    Host.Outcome State Fault Refusal :=
  let s0 := st.elapse dt
  .next (if s0.fromWitness widx.toNat pair.toNat then
      let s := (s0.noteEpoch epoch.toNat).noteEpoch high.toNat
      if member = s.isMember1 ∧ s.ruRole = 2 ∧ s.ru.claim.isSome then
        (if reason = 1 then { s with ru := { s.ru with retry := true } }
         else if reason = 2 then
           let e := (high.toNat + 1) % 65536
           { s with ru := { s.ru with claim := some e, retry := false, firstG := none, ownG := [] } }.sendLease 2 e false 0
         else s)
      else s
    else s0)

/-! ### Frames of the partner -/

/-- Whether `p` and entry `t` name a pair task of a standby copy. -/
def State.shadowTask (s : State) (p t : Nat) : Bool := s.standbyCopy p && decide (t < 8)

/-- INVEC (R257): it is kept for its pass, unless the task's next grid instant has passed (R261). -/
def execInvec (p : BitVec 9) (t : BitVec 3) (stamp : W) (entries : List W) (dt : Nat) (st : State) :
    Host.Outcome State Fault Refusal :=
  let s := st.elapse dt
  let q := p.toNat
  let late := match s.fullStamp q stamp with
    | some x => decide (x.toNat + s.rf (aTT_PERIOD q t.toNat) 23 0 * 1000 ≤ (s.ptime q).toNat)
    | none => false
  .next (if s.shadowTask q t.toNat ∧ late = false then
      let h := s.shad q t.toNat
      let v := entries.map (fun e => if bitAt e 31 then none else some (fld e 15 0))
      (s.setShad q t.toNat { h with vecs := h.vecs ++ [(stamp, v)], due := none }).shadowStart q t.toNat
    else s)

/-- DATA (R260): the lines wait for their pass. -/
def execData (p : BitVec 9) (t : BitVec 3) (stamp : W) (lines : List (W × List Byte)) (dt : Nat) (st : State) :
    Host.Outcome State Fault Refusal :=
  let s := st.elapse dt
  let q := p.toNat
  .next (if s.shadowTask q t.toNat then
      let h := s.shad q t.toNat
      ((s.setShad q t.toNat { h with lines := h.lines ++ lines.map (fun l => (stamp, l)) }).pendLines q).tryJudge q t.toNat
    else s)

/-- RESULT (R260, R262). -/
def execResult (p : BitVec 9) (t : BitVec 3) (stamp : W) (crc : W64) (lines : W) (outcome cause : Byte) (flags : BitVec 16) (dt : Nat)
    (st : State) : Host.Outcome State Fault Refusal :=
  let s := st.elapse dt
  let q := p.toNat
  .next (if s.shadowTask q t.toNat then
      let h := s.shad q t.toNat
      let r : PassRes := { crc := crc, lines := lines.toNat, outcome := outcome.toNat, cause := cause.toNat, flags := flags.toNat }
      (s.setShad q t.toNat { h with ress := h.ress ++ [(stamp, r)] }).tryJudge q t.toNat
    else s)

/-- MODE (R256). -/
def execModeFrame (p : BitVec 9) (mode : BitVec 3) (cause : Byte) (tick : W64) (dt : Nat) (st : State) :
    Host.Outcome State Fault Refusal :=
  let s := st.elapse dt
  .next (if s.standbyCopy p.toNat then
      { s with modeWait := FMap.set (fun _ => none) s.modeWait p.toNat (some (mode.toNat, cause.toNat, tick)) }.modeNow p.toNat
    else s)

/-- EDIT (R266): it releases the pending commit of the same version, or the member goes to LEFT. -/
def execEditFrame (p : BitVec 9) (stamp version : W) (dt : Nat) (st : State) : Host.Outcome State Fault Refusal :=
  let s := st.elapse dt
  .next (if s.standbyCopy p.toNat then
      (if s.editPending p.toNat ∧ s.pnd (aHDR_VERSION p.toNat) = version then
        { s with ruEdit := FMap.set (fun _ => none) s.ruEdit p.toNat (some stamp) }
       else s.goLeft 3)
    else s)

/-- SWAP (R271): the lease will count from the swap boundary. DEDUCED (log 83). -/
def execSwapFrame (boundary : W64) (epoch : BitVec 16) (dt : Nat) (st : State) : Host.Outcome State Fault Refusal :=
  let s := st.elapse dt
  .next (if s.ruRole = 4 ∨ s.ruRole = 5 then
      { s with ru := { s.ru with swapIn := some (epoch.toNat, s.fab - (s.now - boundary).toNat * 4 / 5) } }.trySwap
    else s)

/-- The active's answer to RESYNC for one partition: PTIME, and its lines forced dirty (R264). -/
def State.serveResync (s : State) (p : Nat) : State :=
  let s1 := s.sendMirror 10 0 p 0 0 (beBytes 8 (s.ptime p).toNat ++ beBytes 8 s.now.toNat ++ [BitVec.ofNat 8 (s.mode p)])
  { (s1.forceLines p).setPstep p 2 with ruResync := distinct (s1.ruResync ++ [p]) }

/-- RESYNC (R264): `part` is a partition or 0x3FF. -/
def execResyncFrame (part : BitVec 10) (dt : Nat) (st : State) : Host.Outcome State Fault Refusal :=
  let s := st.elapse dt
  let ps := if part = 0x3FF then s.pairParts else [part.toNat].filter s.pairPart
  .next (if s.ruRole = 3 then (ps.foldl State.serveResync s).ruEvent 8 else s)

/-- The faulted ACTIVE member hands over: RELEASE, then STANDBY; its stopped partition is out of step (R265). -/
def State.yieldRole (s : State) (p : Nat) : State :=
  (((s.setRole 5).sendLease 5 s.ruEpoch false 0).setPstep p 3)

/-- The passes of task `k` that still wait for a VERDICT when the one of the pass stamped `stamp` has come: the later ones. -/
def verdictLeft (k : Nat) (stamp : W) (l : List (Nat × W × Bool)) : List (Nat × W × Bool) :=
  let mine := (l.filter (fun e => e.1 == k)).dropWhile (fun e => e.2.1 != stamp)
  l.filter (fun e => e.1 != k) ++ mine.drop 1

/-- VERDICT of the pass of task `t` of `p` with release stamp `stamp` (R262, R265). One of a pass that waits for none has no effect. -/
def execVerdict (p : BitVec 9) (t : BitVec 3) (stamp : W) (result outcome _cause flags : Byte) (dt : Nat) (st : State) :
    Host.Outcome State Fault Refusal :=
  let s := st.elapse dt
  let k := p.toNat * 16 + t.toNat
  let loc := flags.getLsbD 0
  .next (match s.ru.open_.find? (fun e => e.1 == k && e.2.1 == stamp) with
    | some (_, _, own) =>
      if s.ruRole = 3 ∧ s.pairPart p.toNat then
        let s1 := { s with ru := { s.ru with open_ := verdictLeft k stamp s.ru.open_ } }
        let s2 := if result = 1 then s1.ruEvent 4 else s1
        let s3 := if s2.ru.verdict.map Prod.fst = some k ∧ (s.shad p.toNat t.toNat).stamp = stamp then
            { s2 with ru := { s2.ru with verdict := none } } else s2
        let faulted := s3.ru.verdict.isNone && s2.ru.verdict.isSome
        s.oneEvent aRU_EVT_SEQ
          (if result = 1 ∧ (faulted ∨ own) ∧ outcome = 0 ∧ loc = false then s3.yieldRole p.toNat
           else if result = 1 ∧ faulted = false ∧ own = false ∧ loc = false then s3.collect 23 cContained 0x0A p.toNat
           else s3)
      else s
    | none => s)

/-- The CRC-32 of a STATE frame: `RU_CFG` less MEMBER, `RU_TIMING.LEN`, `RU_PARTS` and the mirror ranges of the pair partitions. DEDUCED (log 74). -/
def State.ruDigest (s : State) : W :=
  crc32 ((([putBit (s.reg aRU_CFG) 30 false, s.reg aRU_TIMING &&& 0x7FF] ++ (List.range 16).map (fun i => s.reg (aRU_PARTS i)))
    ++ s.pairParts.flatMap (fun p => (List.range 8).flatMap (fun r => [s.reg (aRU_MR0 p r), s.reg (aRU_MR1 p r)]))).flatMap bytesOf)

/-- A member in SYNC or STANDBY whose partner is ACTIVE resynchronises what is out of step and not in Hold (R264, R273). -/
def State.rejoinSteps (s : State) : State :=
  let ps := s.pairParts.filter (fun p => s.pstep p == 3 && s.mode p != 3)
  if ps = [] then s
  else if s.ruRole = 5 then s.toSync
  else if s.ruRole = 4 then ps.foldl State.askResync s
  else s

/-- A STATE frame takes effect (R252, R266, R273): PEER, the newest epoch, the digest, and what the partner's role brings. -/
def State.stateFrame (s : State) (role epoch : Nat) (digest : W) : State :=
  let fresh := newer epoch s.ruEpoch
  let s0 : State := { s with ru := { s.ru with stateAt := s.fab + 1 } }
  let s1 := ((s0.setRf aRU_ROLE 7 4 role).noteEpoch epoch).refreshPair
  let s2 : State := { s1 with ru := { s1.ru with diff := if digest = s1.ruDigest then 0 else s1.ru.diff + 1 } }
  if 10 ≤ s2.ru.diff ∧ (s2.ruRole = 4 ∨ s2.ruRole = 5) then { s2 with ru := { s2.ru with diff := 0 } }.goLeft 2
  else if role % 16 = 3 then
    (if s2.ruRole = 1 ∧ fresh then s2.toSync else (s2.swapDone).rejoinSteps)
  else s2

/-- STATE arrives, `dt` clocks on. DEDUCED (log 65). -/
def execStateFrame (role epoch : BitVec 16) (digest : W) (dt : Nat) (st : State) : Host.Outcome State Fault Refusal :=
  let s := st.elapse dt
  .next (if s.ruRuns then s.stateFrame role.toNat epoch.toNat digest else s)

/-- Every 1 ms a member sends STATE (table "MIRROR kinds"). -/
def execStateSend (dt : Nat) (st : State) : Host.Outcome State Fault Refusal :=
  let s := st.elapse dt
  .next (if s.ruRuns then
      s.sendMirror 9 0 0 0 0 (beBytes 2 s.ruRole ++ beBytes 2 s.ruEpoch ++ beBytes 4 s.ruDigest.toNat)
    else s)

/-- PTIME (R256, R264): partition time and mode of the active; a copy that had stopped starts in that mode, once R119 and R120 let it. -/
def execPtimeFrame (p : BitVec 9) (ptime mer : W64) (mode : Byte) (dt : Nat) (st : State) : Host.Outcome State Fault Refusal :=
  let s := st.elapse dt
  let q := p.toNat
  .next (if s.standbyCopy q then
      (if mode = 2 then
        (if s.mode q = 2 then s.setReg64 (aPD_OFFSET_LO q) (mer - ptime)
         else
           let s1 := s.setReg64 (aPD_PTIME_LO q) (ptime + (s.now - mer))
           if s.mode q = 3 then s1.enterResume q
           else if s.mode q = 1 then
             (if s1.runHeld q then { s1 with modeWait := FMap.set (fun _ => none) s1.modeWait q (some (2, 1, mer)) } else s1.enterRun q)
           else s)
       else (s.followMode q mode.toNat 1).setReg64 (aPD_PTIME_LO q) ptime)
    else s)

/-- One more incomplete pass of task `t`; four in a row leave the partition out of step (R261). -/
def State.incomplete (s : State) (p t : Nat) : State :=
  let s1 := s.count aRU_CNT_INCOMPL
  let n := (s1.shad p t).miss + 1
  if 4 ≤ n then (s1.setShad p t { s1.shad p t with miss := 0 }).outOfStep p
  else s1.setShad p t { s1.shad p t with miss := n }

/-- The task's next grid instant finds the INVEC missing, or a finished copy without its RESULT and lines (R261). -/
def execPassIncomplete (p : BitVec 9) (t : BitVec 3) (dt : Nat) (st : State) : Host.Outcome State Fault Refusal :=
  let s := st.elapse dt
  let q := p.toNat
  let h := s.shad q t.toNat
  .next (if s.shadowTask q t.toNat = false then s
    else if s.tstate q t.toNat = tIdle ∧ h.due.isSome ∧ h.vecs = [] then
      (s.setShad q t.toNat { h with due := none }).incomplete q t.toNat
    else if s.tstate q t.toNat = tOutput ∧ h.own.isSome ∧ h.whole.isNone then
      let s1 := s.sendVerdict q t.toNat h.stamp 3 0 0 (s.localSince q h.began)
      ((s1.setShad q t.toNat h.done).incomplete q t.toNat).afterShadow q t.toNat
    else s)

/-- No VERDICT within the task's period: the ACTIVE member keeps its role (R265). -/
def execVerdictTimeout (dt : Nat) (st : State) : Host.Outcome State Fault Refusal :=
  let s := st.elapse dt
  .next (match s.ru.verdict with
    | some (k, t0) =>
      if t0 + s.rf (aTT_PERIOD (k / 16) (k % 16)) 23 0 * 800 ≤ s.fab then { s with ru := { s.ru with verdict := none } } else s
    | none => s)

/-! ### Planned swap (R270, R271) -/

/-- A redundancy command ends with REASON `r`. -/
def State.endRu (s : State) (r : Nat) : State := s.setReg aRU_CMD_STAT (BitVec.ofNat 32 (r * 65536))
/-- A redundancy command has been accepted and waits. -/
def State.busyRu (s : State) : State := s.setRf aRU_CMD_STAT 0 0 1
/-- The REASON with which a SWAP is refused, 0 when it is accepted. -/
def State.swapRefusal (s : State) : Nat :=
  if s.ruRole ≠ 3 ∧ s.ruRole ≠ 5 then 1 else if s.pairStat ≠ 0 ∨ s.allInStep = false then 2 else 0
/-- A SWAP begins to wait for its boundary, or is refused. -/
def State.beginSwap (s : State) : State :=
  if s.swapRefusal = 0 then { s.busyRu with ru := { s.ru with swapFrom := some s.fab } }
  else (s.endRu s.swapRefusal).ruEvent 0x20

/-- The swap timer reaches SWAPMIN; a refused periodic swap is retried after 60 s. DEDUCED (log 69). -/
def execSwapTimer (dt : Nat) (st : State) : Host.Outcome State Fault Refusal :=
  let s := st.elapse dt
  let min_ := s.rf aRU_TIMING 31 16
  .next (if s.ruRole = 3 ∧ s.comm = false ∧ min_ ≠ 0 ∧ s.rb aRU_CMD_STAT 0 = false ∧ s.ru.holdAt + min_ * 48000000000 ≤ s.fab
        ∧ (s.ru.swapTry = 0 ∨ s.ru.swapTry + 48000000000 ≤ s.fab) then
      { s with ru := { s.ru with swapTry := s.fab } }.beginSwap
    else s)

/-- Whether every periodic task of every pair partition is Idle and every VERDICT is there. -/
def State.atSwapBoundary (s : State) : Bool :=
  s.ru.open_.isEmpty && s.pairParts.all (fun p => (List.range 8).all (fun t => s.tstate p t == tIdle || s.tstate p t == tOff))

/-- A Graticule tick that is a swap boundary: the active stops queuing, sends SWAP and HANDOVER and goes to STANDBY. -/
def execSwapBoundary (dt : Nat) (st : State) : Host.Outcome State Fault Refusal :=
  let s := st.elapse dt
  .next (if s.ruRole = 3 ∧ s.ru.swapFrom.isSome ∧ s.atSwapBoundary ∧ s.onTick then
      let e := s.ruEpoch
      let s1 := s.setRole 5
      let s2 := s1.sendMirror 6 0 0 0 0 (beBytes 8 s.grid.toNat ++ beBytes 2 ((e + 1) % 65536))
      let s3 := s2.sendLease 6 e (!s.isMember1) s.grid.toNat
      { s3 with ru := { s3.ru with swapFrom := none, swapTo := some s3.fab } }
    else s)

/-- No swap boundary within 1 s (REASON 0x03). -/
def execSwapBoundaryTimeout (dt : Nat) (st : State) : Host.Outcome State Fault Refusal :=
  let s := st.elapse dt
  .next (match s.ru.swapFrom with
    | some t0 =>
      if t0 + 800000000 ≤ s.fab then
        ({ s with ru := { s.ru with swapFrom := none } }.endRu 3).ruEvent 0x20
      else s
    | none => s)

/-- The successor is not ACTIVE within L of the boundary (REASON 0x06); R249 follows. -/
def execSwapActiveTimeout (dt : Nat) (st : State) : Host.Outcome State Fault Refusal :=
  let s := st.elapse dt
  .next (match s.ru.swapTo with
    | some t0 =>
      if t0 + s.leaseClks ≤ s.fab then
        let s1 := ({ s with ru := { s.ru with swapTo := none } }.endRu 6).ruEvent 0x20
        if s1.peerValid then s1 else s1.lapsePeer
      else s
    | none => s)

/-! ### Commands (R274) -/

/-- A redundancy command: SWAP 1, RESYNC 2, REJOIN 3, LEAVE 4, TAKE 5. DEDUCED (log 69). -/
def State.ruDo (s : State) (code : Nat) : State :=
  if code = 1 then s.beginSwap
  else if code = 2 then
    (if s.ruRole = 5 then (s.toSync).endRu 0
     else if s.ruRole = 4 then (s.askResync 0x3FF).endRu 0
     else s.endRu 1)
  else if code = 3 then (if s.ruRole = 6 then (s.setRole 1).endRu 0 else s.endRu 1)
  else if code = 4 then
    (if s.ruRole = 3 then (((s.setRole 1).sendLease 5 s.ruEpoch false 0)).endRu 0
     else if s.ruRole = 5 then (s.goLeft 4).endRu 0
     else s.endRu 1)
  else if code = 5 then
    (if s.comm ∧ s.ruRole = 1 then { s with ru := { s.ru with take := true, takeAt := s.fab } }.endRu 0 else s.endRu 4)
  else s

/-- A command written to `RU_CMD`: REASON 0x05 while BUSY, 0xFF without the supervisor; a management pause holds it (R34, R274). -/
def State.ruCmd (s : State) (src code : Nat) : State :=
  if isVf src then s
  else if s.rb aRU_CMD_STAT 0 then s.setRf aRU_CMD_STAT 23 16 5
  else if s.mgmt then { s.busyRu with held := s.held ++ [(true, code)] }
  else if s.supRun = false then s.endRu 0xFF
  else s.ruDo code

/-- RU_CMD SWAP. -/
def execRuSwap (src : BitVec 10) (st : State) : Host.Outcome State Fault Refusal := .next (st.ruCmd src.toNat 1)
/-- RU_CMD RESYNC. -/
def execRuResync (src : BitVec 10) (st : State) : Host.Outcome State Fault Refusal := .next (st.ruCmd src.toNat 2)
/-- RU_CMD REJOIN. -/
def execRejoin (src : BitVec 10) (st : State) : Host.Outcome State Fault Refusal := .next (st.ruCmd src.toNat 3)
/-- RU_CMD LEAVE. -/
def execLeaveCmd (src : BitVec 10) (st : State) : Host.Outcome State Fault Refusal := .next (st.ruCmd src.toNat 4)
/-- RU_CMD TAKE. -/
def execTakeCmd (src : BitVec 10) (st : State) : Host.Outcome State Fault Refusal := .next (st.ruCmd src.toNat 5)

end Sys2Proof.Machine
end

