-- ==== Sys2Proof/Machine/Partition.lean ====
section
/-!
DEFINITION. Pre-emption and switches, the commands of `PD_CMD`, overruns and the dispatcher commit (spec/05 R129 to R153,
spec/06 R180, R190).
-/
namespace Sys2Proof.Machine

/-! ### Pre-emption (R132, R133, R180, R190) -/

/-- The running task `k` of engine `e` is pre-empted: context saved, the best waiting task switched in. DEDUCED (log 11). -/
def State.preempt (s : State) (e k : Nat) : State :=
  let p := k / 16
  let t := k % 16
  let words := (s.task p t).ctx.words
  let r := s.saveCtx p t
  let s1 := r.1.setEng e { r.1.eng e with run := none, sw := r.1.bestWaiting e }
  if r.2 then s1.setTState p t tPreempted
  else (s1.ctxFault p t).failSave e p t words

/-- A Ready or Pre-empted task outranks the running one at a permitted boundary (R132). -/
def State.outranked (s : State) (e k : Nat) : Bool :=
  match s.bestWaiting e with
  | none => false
  | some j => lexLt (s.rank e j) (s.rank e k) && (s.task (k / 16) (k % 16)).ctx.slot.isNone && !(s.task (k / 16) (k % 16)).stepping

/-- A Ready task that outranks the running task takes its engine (R132). -/
def execPreemption (e : BitVec 7) (st : State) : Host.Outcome State Fault Refusal :=
  .next (match (st.eng e.toNat).run with
    | some k => if st.outranked e.toNat k then st.preempt e.toNat k else st
    | none => st)

/-- A Held task that takes a step has its engine: a pre-empted one restores its context first (R150). -/
def State.beginStep (s : State) (e k : Nat) : State :=
  let p := k / 16
  let t := k % 16
  let s1 := s.setEng e { s.eng e with run := some k, sw := none }
  if (s.task p t).held = tPreempted then
    match s1.restoreCtx p t with
    | some s2 => s2.setTask p t { s2.task p t with held := tRunning }
    | none => (((s1.setEng e { s1.eng e with run := none }).ctxFault p t).partFault p 4 evFault).passFault p t 3 0
  else s1

/-- The incoming task of engine `e` after the 40 clocks of a switch (R133): a pre-empted one restores its context, a
failed restore stops its partition and the engine switches on. -/
def State.switchIn (s : State) (e k : Nat) : State :=
  let p := k / 16
  let t := k % 16
  if s.tstate p t = tReady then s.takeEngine e k
  else if s.tstate p t = tPreempted then
    match s.restoreCtx p t with
    | some s1 => s1.takeEngine e k
    | none => ((((s.setTState p t tOff).ctxFault p t).partFault p 4 evFault).passFault p t 3 0).freeEngine e
  else if s.tstate p t = tHeld ∧ (s.task p t).stepping then s.beginStep e k
  else s.freeEngine e

/-- A task switch is done (R133). -/
def execTaskSwitchDone (e : BitVec 7) (st : State) : Host.Outcome State Fault Refusal :=
  .next (match (st.eng e.toNat).sw with
    | some k => st.switchIn e.toNat k
    | none => st)

/-! ### Commands (R144 to R151) -/

/-- Whether a Run has to wait (R119, R144, R145, R158). -/
def State.runWaits (s : State) (p : Nat) : Bool :=
  s.dtPending || s.editPending p || (s.part p).stopping || !s.allOff p

/-- Run (R144, R145): valid in Stop; it waits for the next Graticule tick. -/
def State.cmdRun (s : State) (p : Nat) : State :=
  if s.mode p ≠ 1 then s.endCmd p 1
  else if s.runWaits p = false ∧ s.startMismatch p then s.endCmd p 2
  else s.await p .run

/-- PD_CMD Run by `src` (R145). -/
def execPdRun (src : BitVec 10) (p : BitVec 9) (st : State) : Host.Outcome State Fault Refusal :=
  .next (st.pdCmd src.toNat p.toNat State.cmdRun)

/-- A waiting Run applies at a Graticule tick (R145); a fatal state makes no further release (R368). -/
def State.runApply (s : State) (p : Nat) : State :=
  if s.onTick ∧ (s.part p).cmd = some .run ∧ s.mode p = 1 ∧ s.runWaits p = false ∧ s.fatal = false then
    (if s.startMismatch p then s.endCmd p 2 else (s.enterRun p).endCmd p 0)
  else s

/-- A Run applies at the tick `dt` CLK_FAB clocks on (R145). -/
def execRunApply (p : BitVec 9) (dt : Nat) (st : State) : Host.Outcome State Fault Refusal :=
  .next ((st.elapse dt).runApply p.toNat)

/-- Stop (R146, R158): valid in Run and Hold; during a boundary pause it waits for its end. -/
def State.cmdStop (s : State) (p : Nat) : State :=
  if s.mode p = 2 ∨ s.mode p = 3 then
    (if s.inPause p then s.await p .stop else ((s.await p .stop).stopPart p 1 0))
  else s.endCmd p 1

/-- PD_CMD Stop by `src`. -/
def execPdStop (src : BitVec 10) (p : BitVec 9) (st : State) : Host.Outcome State Fault Refusal :=
  .next (st.pdCmd src.toNat p.toNat State.cmdStop)

/-- Hold (R148, R149, R158). -/
def State.cmdHold (s : State) (p : Nat) : State :=
  if s.mode p = 2 then
    match s.holdRefusal p with
    | some r => s.endCmd p r
    | none => if s.inPause p then s.await p .hold else (s.enterHold p 0).endCmd p 0
  else s.endCmd p 1

/-- PD_CMD Hold by `src`. -/
def execPdHold (src : BitVec 10) (p : BitVec 9) (st : State) : Host.Outcome State Fault Refusal :=
  .next (st.pdCmd src.toNat p.toNat State.cmdHold)

/-- Resume (R151): valid in Hold; it applies at the next Graticule tick. -/
def State.cmdResume (s : State) (p : Nat) : State :=
  if s.mode p = 3 then s.await p .resume else s.endCmd p 1

/-- PD_CMD Resume by `src`. -/
def execPdResume (src : BitVec 10) (p : BitVec 9) (st : State) : Host.Outcome State Fault Refusal :=
  .next (st.pdCmd src.toNat p.toNat State.cmdResume)

/-- A waiting Resume applies at the tick `dt` clocks on (R151). -/
def execResumeApply (p : BitVec 9) (dt : Nat) (st : State) : Host.Outcome State Fault Refusal :=
  let s := st.elapse dt
  .next (if s.onTick ∧ (s.part p.toNat).cmd = some .resume ∧ s.mode p.toNat = 3 ∧ s.inPause p.toNat = false ∧ s.fatal = false then
    (s.enterResume p.toNat).endCmd p.toNat 0 else s)

/-- A breakpoint: the running task of engine `e` freezes before the instruction at an armed address issues (R149). -/
def execBreakpointHit (e : BitVec 7) (st : State) : Host.Outcome State Fault Refusal :=
  .next (match (st.eng e.toNat).run with
    | some k =>
      let p := k / 16
      let tk := st.task p (k % 16)
      if st.mode p = 2 ∧ (st.part p).brk.any (fun b => b.2 == tk.ctx.p) ∧ tk.ctx.slot.isNone ∧ tk.passBrk = false
          ∧ st.holdRefusal p = none then st.enterHold p 2
      else st
    | none => st)

/-- Whether another task of `p` than `t` was held in the middle of a pass. -/
def State.otherMid (s : State) (p t : Nat) : Bool :=
  (List.range 9).any (fun u => u != t && (s.task p u).heldMid && s.tstate p u != tOff)

/-- The engine of a stepping task takes it up at once when nothing runs there (R150, log 12). -/
def State.askEngine (s : State) (p t : Nat) : State :=
  let e := (s.task p t).eng
  if (s.eng e).run.isNone && (s.eng e).sw.isNone then s.beginStep e (p * 16 + t) else s

/-- A step of task entry `t` (R150): the held pass goes on, once a copy in progress has ended, or a new pass begins at the frozen partition
time. DEDUCED (log 12). -/
def State.stepTask (s : State) (p t : Nat) : State :=
  let k := s.task p t
  if k.heldMid then
    let s1 := s.setTask p t { k with stepping := true }
    if s.tstate p t = tHeld then s1.askEngine p t else s1
  else
    let s1 := s.startPass p t (s.ptime p) s.now (s.ptime p)
    s1.setTask p t { s1.task p t with stepping := true, heldMid := true, held := tReady }

/-- Step (R144, R150). -/
def State.cmdStep (arg : Nat) (s : State) (p : Nat) : State :=
  if s.mode p ≠ 3 then s.endCmd p 1
  else match (if arg < 16 then taskEntry arg else none) with
    | none => s.endCmd p 6
    | some t =>
      if s.tstate p t = tOff then s.endCmd p 6
      else if t ≠ 8 ∧ (s.task p t).heldMid = false ∧ s.otherMid p t then s.endCmd p 6
      else if s.inPause p ∨ (t = 8 ∧ (s.task p t).heldMid = false ∧ s.editPending p) then s.await p (.step t)
      else (s.await p (.step t)).stepTask p t
/-- A step that waited for a boundary pause, or for the commit before TB's next pass, begins (R157, R162). DEDUCED (log 12, 85). -/
def State.wakeStep (s : State) (p : Nat) : State :=
  match (s.part p).cmd with
  | some (.step t) =>
    if s.mode p = 3 ∧ s.inPause p = false ∧ (s.task p t).stepping = false ∧ ((s.task p t).heldMid ∨ t ≠ 8 ∨ s.editPending p = false) then
      s.stepTask p t
    else s
  | _ => s

/-- PD_CMD Step by `src` with ARG (R150). -/
def execPdStep (src : BitVec 10) (p : BitVec 9) (arg : Byte) (st : State) : Host.Outcome State Fault Refusal :=
  .next (st.pdCmd src.toNat p.toNat (State.cmdStep arg.toNat))

/-- A write of `PD_OPT` (R143): refused with CAUSE 0x0A outside Stop, ignored through a VF (R122). -/
def State.optWrite (src : Nat) (data : W) (s : State) (p : Nat) : State :=
  if isVf src then s
  else if s.mode p ≠ 1 then s.refuse src (accSpace src) (accOff src p 0x30) 0x0A
  else s.setReg (aPD_OPT p) (data &&& 0x6)

/-- A write of `PD_OPT` by `src` (R143). -/
def execPdOptWrite (src : BitVec 10) (p : BitVec 9) (data : W) (st : State) : Host.Outcome State Fault Refusal :=
  .next (st.pdGuard src.toNat p.toNat 0x30 (State.optWrite src.toNat data))

/-! ### Overruns (R152, R153, R257) -/

/-- A pass of task `t` that has not completed when its deadline falls overruns: the whole partition stops. -/
def State.overrun (s : State) (p t : Nat) : State :=
  match (s.task p t).limit with
  | none => s
  | some d =>
    if s.mode p = 2 ∧ tInput ≤ s.tstate p t ∧ s.tstate p t ≤ tOutput ∧ d.toNat ≤ (s.ptime p).toNat then
      let s1 := if s.rb (aPD_EVT p) 2 then s else s.setRf (aPD_EVT p) 15 12 (taskCode t)
      (s1.partFault p 3 evOverrun).passFault p t 2 0
    else s

/-- A deadline check of entry `t` (0 to 8) of partition `p`, `dt` clocks on (R152). -/
def execDeadlineOverrun (p : BitVec 9) (t : BitVec 4) (dt : Nat) (st : State) : Host.Outcome State Fault Refusal :=
  .next ((st.elapse dt).overrun p.toNat t.toNat)

/-! ### The dispatcher commit (R129, R130) -/

/-- Whether engine `e` may be bound: present, and neither under test nor failed (R129, R378). -/
def State.engineUsable (s : State) (e : Nat) : Bool :=
  decide (e < s.fuse.engines) && !s.rb (aENG_TEST e) 1 && s.rf (aENG_TEST e) 15 8 != 2

/-- The REASON with which pending entry `t` of `p` fails the checks of R129; 0 when it passes. -/
def State.checkEntry (s : State) (p t : Nat) : Nat :=
  let ctl := s.pnd (aTT_CTL p t)
  let T := fld (s.pnd (aTT_PERIOD p t)) 23 0
  let ph := fld (s.pnd (aTT_PHASE p t)) 23 0
  let dl := fld (s.pnd (aTT_DEADLINE p t)) 23 0
  if bitAt ctl 31 = false then 0
  else if s.engineUsable (fld ctl 6 0) = false then 1
  else if t ≠ 8 ∧ ¬ (20 ≤ T ∧ T ≤ 10000000 ∧ ph < T ∧ 10 ≤ dl ∧ dl ≤ T) then 2
  else if t = 8 ∧ ¬ (T = 0 ∨ (1000 ≤ T ∧ T ≤ 10000000)) then 2
  else if t = 8 ∧ s.pairPart p then 2
  else if t ≠ 8 ∧ (List.range t).any (fun u => bitAt (s.pnd (aTT_CTL p u)) 31
      && decide (fld ctl 13 8 ≤ fld (s.pnd (aTT_CTL p u)) 13 8)) then 3
  else 0

/-- The first failing partition, task and REASON (R129). -/
def State.checkTables (s : State) : List Nat → Option (Nat × Nat × Nat)
  | [] => none
  | p :: ps =>
    match (List.range 9).findSome? (fun t => if s.checkEntry p t = 0 then none else some (p, t, s.checkEntry p t)) with
    | some r => some r
    | none => s.checkTables ps

/-- What an applied change of entry `t` does (R130): `was`, `T` and `ph` are EN, period and phase before. -/
def State.entryChanged (s : State) (p t : Nat) (was : Bool) (T ph : Nat) : State :=
  let now := s.enabled p t
  if now && !was then (if s.mode p = 2 ∧ s.tstate p t = tOff then s.becomeIdle p t s.grid else s)
  else if was && !now then
    (if s.tstate p t = tIdle ∨ (s.tstate p t = tHeld ∧ (s.task p t).held = tIdle) then s.setTState p t tOff else s)
  else if T ≠ s.rf (aTT_PERIOD p t) 23 0 ∨ ph ≠ s.rf (aTT_PHASE p t) 23 0 then
    s.setTask p t { s.task p t with notBefore := s.grid }
  else s

/-- Apply the four words of entry `t` of `p`. -/
def State.applyEntry (s : State) (p t : Nat) : State :=
  (s.applyMany (aTT_CTL p t) 4 4).entryChanged p t (s.enabled p t) (s.rf (aTT_PERIOD p t) 23 0) (s.rf (aTT_PHASE p t) 23 0)

/-- The dispatcher commit at a tick (R129): refused whole at the first failing check, applied otherwise. -/
def State.dispatcherApply (s : State) : State :=
  if s.rb aDSP_COMMIT 1 ∧ s.onTick then
    match s.checkTables s.created with
    | some (p, t, r) =>
      (s.setReg aDSP_COMMIT 0).setReg aDSP_STAT (BitVec.ofNat 32 (p * 65536 + taskCode t * 4096 + r))
    | none =>
      let s1 := (s.setReg aDSP_COMMIT 0).setReg aDSP_STAT 0
      s1.created.foldl (fun s p => (List.range 9).foldl (fun s t => s.applyEntry p t) s) s1
  else s

/-- `DSP_COMMIT.GO` (R55): sets PENDING; a second GO is ignored (R56). -/
def execDispatcherCommitGo (src : BitVec 10) (st : State) : Host.Outcome State Fault Refusal :=
  .next (if isVf src.toNat then st else st.setRf aDSP_COMMIT 1 1 1)

/-- The commit at the next Graticule tick, `dt` clocks on (R129, R130). -/
def execDispatcherCommitApply (dt : Nat) (st : State) : Host.Outcome State Fault Refusal :=
  .next ((st.elapse dt).dispatcherApply)

/-! ### The decode table's commands -/

/-- `DT_SWITCH.GO` (R117). -/
def execDtSwitch (src : BitVec 10) (st : State) : Host.Outcome State Fault Refusal :=
  .next (if isVf src.toNat then st else st.dtSwitch)

/-- The table epoch at the next Graticule tick, `dt` clocks on (R118). -/
def execDtSwitchApply (dt : Nat) (st : State) : Host.Outcome State Fault Refusal := .next (if (st.elapse dt).onTick then (st.elapse dt).dtApply else st.elapse dt)

end Sys2Proof.Machine
end

