-- ==== Sys2Proof/Machine/Mover.lean ====
section
/-!
DEFINITION. The cycle unit of the image mover (spec/05 R124 to R139, R147, R149; spec/06 R183 to R187; spec/08 R239, R254 to R260):
releases, input and output copies in the order of R136, 64 B a clock (log 21), and what stopped and held partitions send.
-/
namespace Sys2Proof.Machine

/-! ### Discarded transfers (R185, R186) -/

/-- A transfer of descriptor `i` of partition `p` fails: captured, counted, disabled where `dis` says so, reported. -/
def State.movFault (s : State) (p i cause : Nat) (dis : Bool) : State :=
  let s1 := (s.advance (aPD_MOVFLT_SEQ p)).count (aPD_MOVFLT_CNT p)
  let s2 := if s1.rf (aPD_MOVFLT p) 7 0 = 0 then
      s1.setReg (aPD_MOVFLT p) (BitVec.ofNat 32 (i * 65536 + s.dTask i * 4096 + cause)) else s1
  let s3 := if dis then s2.setRf (aMD_0 i) 27 27 1 else s2
  (s3.noteLocal p).collect 10 cContained 0x0A p

/-- LEN of OUT descriptor `i`. -/
def State.dLen (s : State) (i : Nat) : Nat := s.rf (aMD_2 i) 10 0
/-- Words that `n` bytes take. -/
def wordsFor (n : Nat) : Nat := (n + 3) / 4

/-- Whether descriptor `i` breaks R185. -/
def State.descBad (s : State) (i : Nat) : Bool :=
  let k := s.dKind i
  if k = 1 then
    let n := s.dTarget i % 16384
    s.slotV n && decide (0xFFFF < s.rf (aMD_1 i) 15 0 + wordsFor (s.slotMax n) - 1)
  else if k = 2 then
    s.dTask i == 15 || s.rf (aMD_2 i) 31 30 == 3 || s.rf (aMD_2 i) 29 28 == 3 || !decide (1 ≤ s.dLen i ∧ s.dLen i ≤ 1024)
      || decide (0xFFFF < s.rf (aMD_1 i) 15 0 + wordsFor (s.dLen i) - 1)
  else decide (5 ≤ k)

/-- What stands at `n` words of a space from `w`: their offsets, or the cause of the discard and an entry to report. -/
def State.locs (s : State) (p sp w : Nat) : Nat → Except (Option Nat) (List Nat)
  | 0 => .ok []
  | n + 1 =>
    match s.look p sp w with
    | .at a => (s.locs p sp (w + 1) n).map (fun l => a :: l)
    | .unmapped => .error none
    | .corrupt k => .error (some k)

/-- A translation fault of a transfer of descriptor `i` (CAUSE 0x01). -/
def State.movUnmapped (s : State) (p i : Nat) (key : Option Nat) : State :=
  let s1 := match key with | some k => s.entryFault k | none => s
  s1.movFault p i 1 true

/-- Bytes packed into words, the last one filled with zeros. -/
def packWords (d : List Byte) : List W :=
  (List.range (wordsFor d.length)).map (fun i =>
    wordOfBytes (d.getD (4 * i) 0) (d.getD (4 * i + 1) 0) (d.getD (4 * i + 2) 0) (d.getD (4 * i + 3) 0))

/-- Write words to store offsets. -/
def State.wrAll (s : State) (as : List Nat) (ws : List W) : State := s.wrCells (as.zip ws)

/-! ### Input copies (R137, R184) -/

/-- Whether a word of the page that holds slot `n`'s buffers has an uncorrectable error. -/
def State.slotPageBad (s : State) (n : Nat) : Bool :=
  match FMap.get (fun _ => 0) s.slotPage n with
  | 0 => false
  | g + 1 => s.bad.any (fun e => decide (pageBase 2 g ≤ e.1 ∧ e.1 < pageBase 2 g + 0x1000))

/-- A store error of slot `n`'s buffer: its page has RETP set and the contained event is recorded (R191, R193). -/
def State.slotError (s : State) (n : Nat) : State :=
  match FMap.get (fun _ => 0) s.slotPage n with
  | 0 => s
  | g + 1 => s.storeFault (pageBase 2 g)

/-- What an IN copy takes: data, module sequence and status. -/
abbrev InBlock := List Byte × Nat × Nat

/-- The newest complete block of slot `n`. -/
def State.newest (s : State) (n : Nat) : InBlock := (s.slotData n, s.slotSeq n, s.slotStatus n)

/-- IN descriptor `i` of `p` starts on a block of its slot: the words to write, none where it is discarded. DESIGN CHOICE (log 181). -/
def State.copyIn (s : State) (p i : Nat) (b : InBlock) : State × List (Nat × W) :=
  let n := s.dTarget i % 16384
  if s.slotV n = false then (s.movFault p i 3 true, [])
  else if s.slotPageBad n ∧ Config.bufferBad s.fresh then ((s.useFresh.slotError n).movFault p i 2 false, [])
  else
    let s0 := if s.slotPageBad n then s.useFresh else s
    let ws := packWords b.1
    let st := if s.rb (aMD_2 i) 31 then [BitVec.ofNat 32 (b.2.1 * 65536 + b.2.2)] else []
    match s0.locs p 2 (s.rf (aMD_1 i) 15 0) ws.length, s0.locs p 2 (s.rf (aMD_2 i) 15 0) st.length with
    | .ok as, .ok bs => (s0, as.zip ws ++ bs.zip st)
    | .error k, _ => (s0.movUnmapped p i k, [])
    | _, .error k => (s0.movUnmapped p i k, [])

/-- Whether `p` owns channel `n`. -/
def State.ownsFio (s : State) (p n : Nat) : Bool := s.fuse.field && !s.fioDev n && s.fioOwner n == p

/-- FIN descriptor `i` of `p`: the filtered input state into its I-region bit. -/
def State.copyFin (s : State) (p i : Nat) : State :=
  let n := s.dTarget i % 32
  if s.ownsFio p n = false then s.movFault p i 3 true
  else
    let b := s.rf (aMD_1 i) 17 0
    match s.look p 2 (b / 32) with
    | .at a => if s.isBad a then (s.storeFault a).movFault p i 2 false
        else s.wrMem a (putBit (s.rdMem a) (b % 32) (s.rb aFIO_IN n))
    | .unmapped => s.movUnmapped p i none
    | .corrupt k => s.movUnmapped p i (some k)

/-- The newest block of slot `n` as a choice: the block, whether it makes the pass divergent, and its buffer. -/
def State.pickNewest (s : State) (n : Nat) (div : Bool) : Option (InBlock × Bool × Nat) := some (s.newest n, div, s.slotCur n)

/-- What a standby takes for IN descriptor `i` by INVEC entry `e`; none while it has to wait for the block (table "Standby input
selection"). DEDUCED (log 76). -/
def State.shadowBlock (s : State) (i : Nat) (e : Option Nat) : Option (InBlock × Bool × Nat) :=
  let n := s.dTarget i % 16384
  match e with
  | none => s.pickNewest n (s.slotFull n)
  | some m =>
    if s.slotFull n ∧ s.slotSeq n = m then s.pickNewest n false
    else
      let other : InBlock × Bool × Nat :=
        match FMap.get (fun _ => none) s.slotOld n with
        | some (_, len, st) => ((s.bufferBytes n (1 - s.slotCur n) len, m, st), false, 1 - s.slotCur n)
        | none => (s.newest n, true, s.slotCur n)
      if (FMap.get (fun _ => none) s.slotOld n).map Prod.fst = some m then some other
      else if s.slotFull n ∧ newer m (s.slotSeq n) then none
      else s.pickNewest n true

/-- The INVEC of the pass in hand of a standby copy. -/
def State.vecOf (s : State) (p t : Nat) : Option (List (Option Nat)) :=
  ((s.shad p t).vecs.find? (fun v => v.1 == (s.shad p t).stamp)).map Prod.snd
/-- Whether task `t` runs a shadow pass: a pass of a standby copy that follows an INVEC (R257, R271). DEDUCED (log 76). -/
def State.shadowPass (s : State) (p t : Nat) : Bool := s.standbyCopy p && t != 8 && (s.shad p t).follows

/-- The task has its inputs: Ready, or Held in a held partition; a step asks for its engine (R134, R150). -/
def State.inputsDone (s : State) (p t : Nat) : State :=
  if s.mode p = 3 then
    let s1 := (s.setTask p t { s.task p t with held := tReady, heldMid := true }).setTState p t tHeld
    if (s1.task p t).stepping then s1.askEngine p t else s1
  else if s.mode p = 2 then (s.setTState p t tReady).startIfFree p t
  else s.setTState p t tOff

/-- The block that copy `j` takes for IN descriptor `i`: the newest, or on a standby the one its INVEC names; none while it waits. -/
def State.pickBlock (s : State) (j : CuJob) (i : Nat) : Option (InBlock × Bool × Nat) :=
  match (if s.shadowPass j.p j.t then j.want else none) with
  | some (e :: _) => s.shadowBlock i e
  | some [] => s.pickNewest (s.dTarget i % 16384) true
  | none => s.pickNewest (s.dTarget i % 16384) false

/-- Copy `j` goes on past descriptor `i`, of which it copies nothing. -/
def CuJob.skip (j : CuJob) (isIn : Bool) : CuJob :=
  if isIn then { j with todo := j.todo.tail, want := j.want.map List.tail, vec := j.vec ++ [none] } else { j with todo := j.todo.tail }

/-- Copy `j` starts IN descriptor `i`: the newest complete block at this moment (R137), or the standby's choice, for which it may have to
wait (R258). -/
def State.cuIn (s : State) (j : CuJob) (i : Nat) : State × CuJob :=
  let n := s.dTarget i % 16384
  match s.pickBlock j i with
  | none => (s.setShad j.p j.t { s.shad j.p j.t with waits := some s.fab }, j)
  | some (b, d, buf) =>
    let r := s.copyIn j.p i b
    (r.1, { j with todo := j.todo.tail, cur := r.2, undo := r.2.map (fun e => (e.1, s.rdMem e.1)), hold := some (2 * n + buf), want := j.want.map List.tail, div := j.div || d,
                   vec := j.vec ++ [if s.slotV n && s.slotFull n then some (s.slotSeq n) else none] })

/-! ### Outgoing blocks (R138, R147, R149, R218, R471) -/

/-- The stream entry that OUT descriptor `i` of `p` may use: known, originated here by `p` (R218). -/
def State.outStream (s : State) (p i : Nat) : Option Nat :=
  match s.findStream (s.dTarget i) with
  | some e => if s.rb (aSW_ST0 e) 9 && !s.rb (aSW_ST0 e) 20 && s.rf (aSW_ST0 e) 19 10 == p then some e else none
  | none => none

/-- A block of descriptor `i` with its next MSEQ (R216). -/
def State.mkBlock (s : State) (i flags : Nat) (data : List Byte) : State × Block :=
  let m := FMap.get (fun _ => 0) s.mseqs i
  ({ s with mseqs := FMap.set (fun _ => 0) s.mseqs i ((m + 1) % 65536) },
    { modid := s.rf (aMD_1 i) 31 16, mseq := m, status := flags + s.rf (aMD_2 i) 19 12, data := data })

/-- The bytes of the output image that OUT descriptor `i` sends: data, or the cause of the discard. -/
inductive OutData where
  | data (d : List Byte) | bad (a : Nat) | unmapped (key : Option Nat)
  deriving DecidableEq, Repr

/-- Read `len` bytes of a space from word `w` of partition `p`. -/
def State.readData (s : State) (p sp w len : Nat) : OutData :=
  match s.locs p sp w (wordsFor len) with
  | .error k => .unmapped k
  | .ok as =>
    match as.find? s.isBad with
    | some a => .bad a
    | none => .data ((as.flatMap (fun a => bytesOf (s.rdMem a))).take len)

/-- What builds a block: nothing was built, or the stream entry and the block. -/
abbrev Built := State × Option (Nat × Block)

/-- OUT descriptor `i` of `p` builds its block from the output image (R138). -/
def State.buildOut (s : State) (p i : Nat) : Built :=
  match s.outStream p i with
  | none => (s.movFault p i 3 true, none)
  | some e =>
    match s.readData p 2 (0x10000 + s.rf (aMD_1 i) 15 0) (s.dLen i) with
    | .data d => let r := s.mkBlock i 0x8000 d; (r.1, some (e, r.2))
    | .bad a => ((s.storeFault a).movFault p i 2 false, none)
    | .unmapped k => (s.movUnmapped p i k, none)

/-- FOUT descriptor `i` of `p`: its Q-region bit goes to the channel. -/
def State.copyFout (s : State) (p i : Nat) : State :=
  let n := s.dTarget i % 32
  if s.ownsFio p n = false then s.movFault p i 3 true
  else
    let b := s.rf (aMD_1 i) 17 0
    match s.look p 2 (0x10000 + b / 32) with
    | .at a => if s.isBad a then (s.storeFault a).movFault p i 2 false else s.pass n (bitAt (s.rdMem a) (b % 32))
    | .unmapped => s.movUnmapped p i none
    | .corrupt k => s.movUnmapped p i (some k)

/-- Copy `j` builds the block of OUT descriptor `i` from the image as it stands now (R138). -/
def State.cuOut (s : State) (j : CuJob) (i : Nat) : State × CuJob :=
  let k := { j with todo := j.todo.tail }
  match s.buildOut j.p i with
  | (s1, some b) => ({ s1 with lastOut := FMap.set (fun _ => []) s1.lastOut i b.2.data }, { k with built := k.built ++ [b] })
  | (s1, none) => (s1, k)

/-- The blocks of a completed pass go out: queued, held back by the successor of a swap, or kept (R239, R271). -/
def State.sendOut (s : State) (p t : Nat) (bs : List (Nat × Block)) : State :=
  if s.silent p then
    (if s.pairPart p && s.ru.swapIn.isSome then s.setShad p t { s.shad p t with blocks := (s.shad p t).blocks ++ bs } else s)
  else s.sendAll false false bs

/-- The figures of a completed pass: `PD_TPASS`, `PD_TLAST`, `PD_TMAX`. -/
def State.passDone (s : State) (p t : Nat) : State :=
  let n := BitVec.ofNat 32 (min ((s.ptime p) - (s.task p t).stamp).toNat 0xFFFFFFFF)
  let s1 := (s.advance (aPD_TPASS p t)).setReg (aPD_TLAST p t) n
  if (s1.reg (aPD_TMAX p t)).toNat < n.toNat then s1.setReg (aPD_TMAX p t) n else s1

/-! ### The capture of an active pass (R254, R255, R264) -/

/-- Lines that one DATA frame carries on every sync port. DEDUCED (log 75). -/
def State.linesPerFrame (s : State) : Nat :=
  max 1 (((s.syncPorts.map (fun q => s.rf (aSW_PORT_CFG q) 13 0)).foldl min 16383 - 50) / 68)

/-- Send lines in DATA frames of at most `n`. DEDUCED (log 75). -/
def State.sendLines (s : State) (p t n : Nat) : Nat → List (List Byte) → State
  | 0, _ => s
  | f + 1, l =>
    if l.isEmpty then s
    else (s.sendMirror 2 t p (s.shad p t).stamp.toNat (l.take n).length (l.take n).flatten).sendLines p t n f (l.drop n)

/-- The capture at the completion of a pass of task `t`: INVEC, the dirty lines of its ranges, RESULT. -/
def State.capture (s0 : State) (p t : Nat) (crc : W64) : State :=
  let s := (s0.rangeLines p (· == t)).foldl (fun s l => if (s.lineAt p l).isNone then s.seeLine p l else s) s0
  let all := (s.rangeLines p (· == t)).filterMap (fun l =>
    match s.lineAt p l with
    | some n => if s.isDirty n then some (l, n) else none
    | none => none)
  let now := all.take 16384
  let entry (e : (Bool × Nat) × Nat) : List Byte := beBytes 4 (e.1.1.toNat * 2 ^ 31 + e.1.2) ++ s.rdBytes (64 * e.2) 64
  let s1 := now.foldl (fun s e =>
    { s with dirty := FMap.set (fun _ => false) s.dirty e.2 false, ruForced := FMap.set (fun _ => false) s.ruForced e.2 false }) s
  let left := s1.forcedLeft p
  let done := s1.ruResync.contains p && left == 0
  let s2 := if done then ({ s1 with ruResync := s1.ruResync.filter (fun q => q != p) }.setPstep p 1).ruEvent 8 else s1
  let s3 := ((s2.setRf (aRU_PSTEP p) 23 0 left).sendInvec p t).sendLines p t s.linesPerFrame now.length (now.map entry)
  let s4 := s3.sendResult p t
    { crc := crc, lines := now.length, outcome := 0, cause := 0
      flags := (s.localSince p (s.shad p t).began).toNat + 2 * (decide (16384 < all.length)).toNat + 4 * done.toNat }
  { s4.setReg aRU_CNT_LINES (s4.reg aRU_CNT_LINES + BitVec.ofNat 32 now.length) with
    ruCap := distinct (s4.ruCap ++ [p * 16 + t]) }.openVerdict p t (s.localSince p (s.shad p t).began)

/-! ### The order of copies (R136 to R140) -/

/-- One step of the cycle unit on copy `j`: up to 64 B of the block in progress, or the start of the next descriptor that is not
disabled; one that breaks R185 is discarded at this first use. DEDUCED (log 21). -/
def State.cuStep (s : State) (j : CuJob) : State × CuJob :=
  if j.cur ≠ [] then (s.wrCells (j.cur.take 16), { j with cur := j.cur.drop 16 })
  else match j.todo with
    | [] => (s, j)
    | i :: _ =>
      let k := s.dKind i
      if s.dDis i then (s, j.skip (k == 1))
      else if s.descBad i then (s.movFault j.p i 5 true, j.skip (k == 1))
      else if k = 1 then s.cuIn j i
      else if k = 2 then s.cuOut j i
      else if k = 3 then (s.copyFin j.p i, j.skip false)
      else (s.copyFout j.p i, j.skip false)
/-- Up to `n` steps of the cycle unit on copy `j`; it stops at the end of the copy and while the copy waits for a block. DEDUCED (log 21). -/
def State.cuRun (s : State) (j : CuJob) : Nat → State × CuJob
  | 0 => (s, j)
  | n + 1 =>
    if (j.cur = [] ∧ j.todo = []) ∨ (s.shad j.p j.t).waits.isSome then (s, j)
    else let r := s.cuStep j; r.1.cuRun r.2 n
/-- Copy `j` as the cycle unit begins it: the input or the output descriptors of its task, in order, and a standby's INVEC. -/
def State.cuBegin (s : State) (j : CuJob) : CuJob :=
  if j.begun then j
  else { j with begun := true
                todo := (s.descsOf j.p j.t).filter (fun i => (s.dKind i == 2 || s.dKind i == 4) == j.out)
                want := if s.shadowPass j.p j.t then s.vecOf j.p j.t else none }
/-- Whether `x` is the same copy as `j`. -/
def CuJob.same (j x : CuJob) : Bool := x.out == j.out && x.p == j.p && x.t == j.t
/-- Any other block in progress is finished first (R136). -/
def State.finishOthers (s : State) (j : CuJob) : State :=
  (s.cu.filter (fun x => !j.same x)).foldl (fun s x => s.wrCells x.cur)
    { s with cu := s.cu.map (fun x => if j.same x then x else { x with cur := [] }) }

/-- An input copy is complete: an active pass keeps its INVEC (R254), a standby's whether an input diverged, and the task has its inputs. -/
def State.inputEnd (s : State) (j : CuJob) : State :=
  let h := s.shad j.p j.t
  let s1 :=
    if s.shadowPass j.p j.t then s.setShad j.p j.t { h with div := j.div || (j.want.getD []) != [] }
    else if s.pairPart j.p && j.t != 8 then s.setShad j.p j.t { h with vecs := [(h.stamp, j.vec)] }
    else s
  s1.inputsDone j.p j.t
/-- An output copy is complete: its frames are queued, the pass is counted; an active pass is captured, and a standby copy waits in Output
for the RESULT (R138, R254, R260). -/
def State.outputEnd (s : State) (j : CuJob) : State :=
  let crc := crc64 (j.built.flatMap (fun b => b.2.data))
  let s1 := (s.sendOut j.p j.t j.built).passDone j.p j.t
  if s.shadowPass j.p j.t then
    ((s1.setShad j.p j.t { s1.shad j.p j.t with own := some (crc, 0, 0), blocks := j.built }).tryJudge j.p j.t)
  else (if s1.pairPart j.p && s1.ruRole == 3 && j.t != 8 then s1.capture j.p j.t crc else s1).finishPass j.p j.t

/-- The cycle unit takes up to `n` steps on copy `j` of its queue, and completes it if none is left (R136). DEDUCED (log 21). -/
def State.cuCopy (s : State) (j : CuJob) (n : Nat) : State :=
  let s0 := s.finishOthers j
  let r := s0.cuRun (s0.cuBegin j) n
  if r.2.cur = [] ∧ r.2.todo = [] then
    (let s1 := { r.1 with cu := r.1.cu.filter (fun x => !j.same x) }
     if j.out then s1.outputEnd r.2 else s1.inputEnd r.2)
  else { r.1 with cu := r.1.cu.map (fun x => if j.same x then r.2 else x) }
/-- The copy that the cycle unit takes next: the first of its queue that does not wait for a block. DEDUCED (log 21). -/
def State.cuFirst (s : State) : Option CuJob := s.cu.find? (fun j => (s.shad j.p j.t).waits.isNone)
/-- Steps enough for copy `j`: each descriptor takes at most 18 (1,024 B and the status word). -/
def State.cuFuel (s : State) (j : CuJob) : Nat := 20 * (j.todo.length + (s.descsOf j.p j.t).length + 1) + j.cur.length
/-- Every copy in the queue goes first: what IMGRQ, IMGWR and the stop, held and safe sending wait for (R136). DEDUCED (log 21). -/
def State.cuAhead (s : State) : State := s.cu.foldl (fun s _ => match s.cuFirst with | some i => s.cuCopy i (s.cuFuel i) | none => (s : State)) s

/-- The cycle unit takes `steps` steps on a copy of task entry `t` of `p`, where that copy is the next one. -/
def State.cuTake (s : State) (out : Bool) (p t steps : Nat) : State :=
  match s.cuFirst with
  | some j => if j.out = out ∧ j.p = p ∧ j.t = t ∧ s.tstate p t = (if out then tOutput else tInput) ∧ s.moverUp then s.cuCopy j steps else s
  | none => s

/-- The input copy of entry `t` of partition `p`, when its turn has come, goes on by `steps` steps, `dt` clocks on, and is complete when it
has copied its last block (R134, R137). -/
def execInputCopyComplete (p : BitVec 9) (t : BitVec 4) (steps dt : Nat) (st : State) : Host.Outcome State Fault Refusal :=
  .next ((st.elapse dt).cuTake false p.toNat t.toNat steps)
/-- The output copy of entry `t` of partition `p`, when its turn has come, goes on by `steps` steps, `dt` clocks on, and is complete when its
last block is built (R138). -/
def execOutputCopyComplete (p : BitVec 9) (t : BitVec 4) (steps dt : Nat) (st : State) : Host.Outcome State Fault Refusal :=
  .next ((st.elapse dt).cuTake true p.toNat t.toNat steps)

/-- A standby's waiting input copy takes its block, or gives up 50 µs after it began to wait and copies the current one (R258). -/
def execStandbyBlockWaitEnd (p : BitVec 9) (t : BitVec 3) (dt : Nat) (st : State) : Host.Outcome State Fault Refusal :=
  let s := st.elapse dt
  let h := s.shad p.toNat t.toNat
  .next (match h.waits, s.cu.find? (fun j => !j.out && j.p == p.toNat && j.t == t.toNat) with
    | some t0, some j =>
      let s1 := s.setShad p.toNat t.toNat { h with waits := none }
      if (j.todo.head?.map (fun i => (s.pickBlock j i).isSome)).getD true then s1.cuCopy j 1
      else if t0 + 40000 ≤ s.fab then s1.cuCopy { j with want := j.want.map (fun l => none :: l.tail) } 1
      else s
    | _, _ => s)

/-! ### Releases (R124, R127, R151, R160, R257) -/

/-- Task `t` of `p` is released for grid instant `g`. -/
def State.releaseAt (s : State) (p t : Nat) (g : W64) : State :=
  s.startPass p t (g - s.reg64 (aPD_OFFSET_LO p)) g (g - s.reg64 (aPD_OFFSET_LO p))

/-- A grid instant `g` of task `t`: released when Idle, put off by a boundary pause or a capture, skipped while the previous pass is
incomplete; a standby copy waits for its INVEC. -/
def State.gridInstant (s0 : State) (p t : Nat) (g : W64) : State :=
  let s := if s0.standbyCopy p then s0.modeNow p else s0
  let st := s.tstate p t
  let k := s.task p t
  if s.mode p ≠ 2 ∨ s.fatal ∨ ¬ k.notBefore.toNat < g.toNat then s
  else if s.standbyCopy p ∧ s.ru.swapIn = none then
    (if (s.shad p t).vecs = [] then s.setShad p t { s.shad p t with due := some g } else s).shadowStart p t
  else if st = tIdle then
    (if s.inPause p ∨ s.ruCap.contains (p * 16 + t) then s.setTask p t { k with deferred := some g } else s.releaseAt p t g)
  else if tInput ≤ st ∧ st ≤ tOutput then s.setRf (aPD_TSTAT p t) 7 4 (min 15 (s.rf (aPD_TSTAT p t) 7 4 + 1))
  else s

/-- The Graticule tick of a grid instant of task `t` of partition `p`, `dt` clocks on. DEDUCED (log 17). -/
def execTaskRelease (p : BitVec 9) (t : BitVec 3) (dt : Nat) (st : State) : Host.Outcome State Fault Refusal :=
  let s := st.elapse dt
  .next (if s.onTick ∧ s.onGrid p.toNat t.toNat s.grid then s.gridInstant p.toNat t.toNat s.grid else s)

/-- A release that was put off is made, with its stamp unchanged (R160, R254). -/
def State.releaseDeferred (s : State) (p t : Nat) : State :=
  match (s.task p t).deferred with
  | some g =>
    let s1 := s.setTask p t { s.task p t with deferred := none }
    if s1.mode p = 2 ∧ s1.tstate p t = tIdle then s1.releaseAt p t g else s1
  | none => s

/-- The mirror capture of task `t` ends, `dt` clocks on (R254). -/
def execMirrorCaptureEnd (p : BitVec 9) (t : BitVec 3) (dt : Nat) (st : State) : Host.Outcome State Fault Refusal :=
  let s := st.elapse dt
  let k := p.toNat * 16 + t.toNat
  .next (if s.ruCap.contains k then
      let s1 := { s with ruCap := s.ruCap.filter (fun j => j != k) }
      (if s1.inPause p.toNat then s1 else s1.releaseDeferred p.toNat t.toNat)
    else s)

/-! ### Stopped and held partitions (R147, R149) -/

/-- The channels of partition `p` take the value of field `[hi:lo]` of their configuration: off, on, or their last command. -/
def State.stopChannels (s : State) (p hi lo : Nat) : State :=
  (List.range 32).foldl (fun s n =>
    if s.ownsFio p n then
      (let v := s.rf (aFIO_CFG n) hi lo
       if v = 0 then s.pass n false else if v = 1 then s.pass n true else s)
    else s) s

/-- The last task is Off: stop values or safe states go out, and a Stop command is done (R144, R147). -/
def execStopComplete (p : BitVec 9) (dt : Nat) (st : State) : Host.Outcome State Fault Refusal :=
  let s := st.elapse dt
  let q := p.toNat
  .next (if s.mode q = 1 ∧ (s.part q).stopping ∧ s.allOff q ∧ s.moverUp then
      let s1 := if (s.part q).sending = .stop then s.stopChannels q 27 26 else s.stopChannels q 29 28
      let s2 := s1.setPart q { s1.part q with stopping := false }
      (if (s2.part q).cmd = some .stop then s2.endCmd q 0 else s2)
    else s)

/-- The contents that code 0 (zero), 1 (last) or 2 (PRESET) gives OUT descriptor `i`; a PRESET that cannot be read gives zeros and a
record with CAUSE 0x04 (table "Faults at each point"). DESIGN CHOICE (log 77). -/
def State.stopData (s : State) (p i code : Nat) : State × List Byte :=
  let len := s.dLen i
  let zero := List.replicate len (0 : Byte)
  if code = 1 then
    (match FMap.get (fun _ => []) s.lastOut i with
     | [] => (s.useFresh, (List.range len).map (Config.noLast s.fresh))
     | d => (s, (d ++ zero).take len))
  else if code = 2 then
    (match s.readData p 1 (s.rf (aMD_3 i) 20 0) len with
     | .data d => (s, d)
     | .bad a => ((s.storeFault a).movFault p i 4 false, zero)
     | .unmapped (some k) => ((s.entryFault k).movFault p i 4 false, zero)
     | .unmapped none => (s.movFault p i 4 false, zero))
  else (s, zero)

/-- The blocks of task `t` while the partition does not run: `mk` gives the contents of a descriptor, or none. -/
def State.sendIdle (s : State) (p t flags : Nat) (held safe : Bool) (mk : State → Nat → Option (State × List Byte)) : State :=
  let r := (s.descsOf p t).foldl (fun (r : State × List (Nat × Block)) i =>
    if r.1.dKind i ≠ 2 then r
    else if r.1.descBad i then (r.1.movFault p i 5 true, r.2)
    else match r.1.outStream p i with
      | none => (r.1.movFault p i 3 true, r.2)
      | some e =>
        match mk r.1 i with
        | none => r
        | some d => let b := d.1.mkBlock i flags d.2; (b.1, r.2 ++ [(e, b.2)])) (s, [])
  if r.1.silent p then r.1 else r.1.sendAll held safe r.2

/-- A grid instant of task `t` of a stopped partition: stop or safe contents (R147). A partition that is in Stop by CREATE and was never stopped sends
nothing. DESIGN CHOICE (log 198). -/
def execStopSending (p : BitVec 9) (t : BitVec 3) (dt : Nat) (st : State) : Host.Outcome State Fault Refusal :=
  let s := st.elapse dt
  let q := p.toNat
  let safe := decide ((s.part q).sending = .safe)
  .next (if s.mode q = 1 ∧ (s.part q).stopping = false ∧ (s.part q).sending ≠ .none ∧ s.onTick ∧ s.onGrid q t.toNat s.grid ∧ s.moverUp then
      s.cuAhead.sendIdle q t.toNat 0x2000 false safe (fun s i =>
        some (s.stopData q i (if safe then s.rf (aMD_2 i) 29 28 else s.rf (aMD_2 i) 31 30)))
    else s)

/-- A grid instant of task `t` of a held partition: the contents of the last output copy, held (R149); a descriptor that has had no output copy yet
sends nothing. DESIGN CHOICE (log 198). -/
def execHeldSending (p : BitVec 9) (t : BitVec 3) (dt : Nat) (st : State) : Host.Outcome State Fault Refusal :=
  let s := st.elapse dt
  let q := p.toNat
  .next (if s.mode q = 3 ∧ (s.part q).sending = .held ∧ s.onTick ∧ s.onGrid q t.toNat s.grid ∧ s.moverUp then
      s.cuAhead.sendIdle q t.toNat 0xC000 true false (fun s i =>
        match FMap.get (fun _ => []) s.lastOut i with
        | [] => none
        | d => some (s, d))
    else s)

end Sys2Proof.Machine
end

