-- ==== Sys2Proof/Machine/Services.lean ====
section
/-!
DEFINITION. The SYS services of page 0x3A (spec/03 R91): time, CAN, image and interrupt services and BRK. A service reads A, X and Y when it
issues; every result in flight has landed when it completes, and its results are there for the next instruction.
-/
namespace Sys2Proof.Machine

/-- What a service leaves in A and LR; the rest of the context stays. -/
def Ctx.answer (a : W) (lr : Bool) (c : Ctx) : Ctx := { c with a := a, lr := lr }
/-- A service that fails with status code `0xFFFF_FF00 + n`: LR = 0. -/
def sysFail (s : State) (n : Nat) : State × (Ctx → Ctx) := (s, Ctx.answer (BitVec.ofNat 32 (0xFFFFFF00 + n)) false)
/-- A service that answers LR = 1 and leaves A. -/
def sysOk (s : State) : State × (Ctx → Ctx) := (s, fun c => { c with lr := true })

/-- Issue a SYS instruction on engine `e`; no delay slot may hold one (R105). `k` gives the service's effect and its results. -/
def State.sys (s : State) (e : Nat) (k : State → Nat → Nat → Ctx → State × (Ctx → Ctx)) : State :=
  match s.issuer e with
  | none => s
  | some (p, t) =>
    let c := (s.task p t).ctx
    match s.fetchOk p c.p.toNat 1 with
    | .error tr => s.trap e p t tr
    | .ok _ =>
      if c.slot.isSome then s.trap e p t (Trap.plain 5)
      else
        let r := k s p t c
        (r.1.setTask p t { r.1.task p t with ctx := { r.2 c.drain with p := c.p + 1 }, passBrk := false }).atBoundary p t

/-- The offsets of `n` words of word space from `w`, wrapping at 2^21; none with the corrupt entry, if that was the reason. -/
def State.locsW (s : State) (p w : Nat) : Nat → Except (Option Nat) (List Nat)
  | 0 => .ok []
  | n + 1 =>
    match s.look p 1 (w % 2 ^ 21) with
    | .at a => (s.locsW p (w + 1) n).map (fun l => a :: l)
    | .unmapped => .error none
    | .corrupt k => .error (some k)

/-- The entry behind a translation fault, if it held an uncorrectable error, is reported. -/
def State.badEntry (s : State) (key : Option Nat) : State := match key with | some k => s.entryFault k | none => s

/-! ### Time -/

/-- TREL: the release stamp of the pass in µs modulo 2^32 (R127). -/
def execOpTrel (e : BitVec 7) (st : State) : Host.Outcome State Fault Refusal :=
  .next (st.sys e.toNat (fun s p t _ => (s, Ctx.answer (BitVec.ofNat 32 ((s.task p t).stamp.toNat / 1000)) true)))

/-- TMERL: the low word of Meridian time; the high word is latched for TMERH. -/
def execOpTmerl (e : BitVec 7) (st : State) : Host.Outcome State Fault Refusal :=
  .next (st.sys e.toNat (fun s _ _ _ => (s, fun c => { Ctx.answer (lo32 s.now) true c with tmerh := hi32 s.now })))

/-- TMERH: the latched high word. -/
def execOpTmerh (e : BitVec 7) (st : State) : Host.Outcome State Fault Refusal :=
  .next (st.sys e.toNat (fun s _ _ c => (s, Ctx.answer c.tmerh true)))

/-- TCYC: the length of the task's previous pass. -/
def execOpTcyc (e : BitVec 7) (st : State) : Host.Outcome State Fault Refusal :=
  .next (st.sys e.toNat (fun s p t _ => (s, Ctx.answer (s.reg (aPD_TLAST p t)) true)))

/-! ### CAN (R350, R352, R355, R360) -/

/-- The identifier word of object `k`: IDE in bit 31. -/
def State.objIdWord (s : State) (n k : Nat) : W :=
  BitVec.ofNat 32 ((s.rb (aOBJ_CFG n k) 30).toNat * 2 ^ 31 + s.rf (aOBJ_CFG n k) 28 0)

/-- CANRD of partition `p`: object X into the buffer at Y. A controller in block reset answers 0xFFFF_FF03 (R384), in the order of
the checks below, as CANTX and CANST do. DESIGN CHOICE (log 200). -/
def State.sysCanrd (s : State) (p : Nat) (c : Ctx) : State × (Ctx → Ctx) :=
  let n := c.x.toNat / 512
  let k := c.x.toNat % 512
  if s.fuse.cans ≤ n then sysFail s 2
  else if s.inReset n then sysFail s 3
  else if s.objDev n k ∨ s.rf (aOBJ_OWN n k) 9 0 ≠ p then sysFail s 1
  else match s.locsW p c.y.toNat 18 with
    | .error key => sysFail (s.badEntry key) 6
    | .ok as =>
      let stat := s.reg (aOBJ_STAT n k)
      let s1 := s.wrAll as (s.objIdWord n k :: s.objRecord n k)
      (({ s1 with objCopy := FMap.set (fun _ => none) s1.objCopy (n * 512 + k) (some s1.fab) }).ackObj n k,
        Ctx.answer stat (bitAt stat 31))

/-- CANRD. -/
def execOpCanrd (e : BitVec 7) (st : State) : Host.Outcome State Fault Refusal :=
  .next (st.sys e.toNat (fun s p _ c => s.sysCanrd p c))

/-- CANTX of partition `p`: mailbox X from the buffer at Y; a silent member loads it without a request (R239). DEDUCED (log 79); DESIGN CHOICE (log 200). -/
def State.sysCantx (s : State) (p : Nat) (c : Ctx) : State × (Ctx → Ctx) :=
  let n := c.x.toNat / 32
  let m := c.x.toNat % 32
  if s.fuse.cans ≤ n then sysFail s 2
  else if s.inReset n then sysFail s 3
  else if s.mbDev n m ∨ s.rf (aMB_OWN n m) 9 0 ≠ p then sysFail s 1
  else if s.mbPend n m then sysFail s 3
  else match s.locsW p c.y.toNat 18 with
    | .error key => sysFail (s.badEntry key) 6
    | .ok as =>
      match as.find? s.isBad with
      | some a => sysFail (s.storeFault a) 6
      | none =>
        let ws := as.map s.rdMem
        if s.silent p then
          sysOk ((List.range 17).foldl (fun s i => s.setReg (aMB_DATA n m i) (ws.getD (i + 1) 0)) (s.setReg (aMB_ID n m) (ws.getD 0 0)))
        else sysOk (s.mbLoad n m (ws.getD 0 0) (ws.drop 1))

/-- CANTX. -/
def execOpCantx (e : BitVec 7) (st : State) : Host.Outcome State Fault Refusal :=
  .next (st.sys e.toNat (fun s p _ c => s.sysCantx p c))

/-- CANST: the status word of controller X. DEDUCED (log 43); DESIGN CHOICE (log 200). -/
def execOpCanst (e : BitVec 7) (st : State) : Host.Outcome State Fault Refusal :=
  .next (st.sys e.toNat (fun s _ _ c =>
    if s.fuse.cans ≤ c.x.toNat then sysFail s 2
    else if s.inReset c.x.toNat then sysFail s 3
    else (s, Ctx.answer (s.reg (aCAN_STAT c.x.toNat)) true)))

/-! ### Image services (R91, R185, R186, R239) -/

/-- A discarded transfer of a service: translation faults answer 0x06 and disable the descriptor, store errors 0x03. -/
def State.sysMov (s : State) (p i : Nat) (key : Option Nat) : State × (Ctx → Ctx) := sysFail (s.movUnmapped p i key) 6

/-- IMGRQ of partition `p`: slot X through the lowest-numbered IN descriptor that names it; after the range of X
the mover in reset answers 0xFFFF_FF03 (R384). DEDUCED (log 78); DESIGN CHOICE (log 200). -/
def State.sysImgrq (s : State) (p : Nat) (c : Ctx) : State × (Ctx → Ctx) :=
  let n := c.x.toNat
  if 16383 < n then sysFail s 7
  else if s.moverUp = false then sysFail s 3
  else match (s.descs p).find? (fun i => s.dKind i == 1 && s.dTarget i % 16384 == n && !s.dDis i) with
    | none => sysFail s 1
    | some i =>
      if s.slotV n = false then sysFail (s.movFault p i 3 true) 1
      else if s.descBad i then sysFail (s.movFault p i 5 true) 7
      else if s.slotPageBad n ∧ Config.bufferBad s.fresh then sysFail ((s.useFresh.slotError n).movFault p i 2 false) 3
      else
        let b := s.newest n
        let ws := packWords b.1
        let st := if s.rb (aMD_2 i) 31 then 1 else 0
        match s.locs p 2 (s.rf (aMD_1 i) 15 0) ws.length, s.locs p 2 (s.rf (aMD_2 i) 15 0) st with
        | .ok as, .ok bs => sysOk ((if s.slotPageBad n then s.useFresh else s).wrAll (as ++ bs)
            (ws ++ [BitVec.ofNat 32 (b.2.1 * 65536 + b.2.2)]))
        | .error key, _ => s.sysMov p i key
        | _, .error key => s.sysMov p i key

/-- IMGRQ; the release and output copies in the queue go first (R136). -/
def execOpImgrq (e : BitVec 7) (st : State) : Host.Outcome State Fault Refusal :=
  .next (st.sys e.toNat (fun s p _ c => s.cuAhead.sysImgrq p c))

/-- IMGWR of partition `p`: a new block of the OUT descriptor with index X in its range. DEDUCED (log 78); DESIGN CHOICE (log 200). -/
def State.sysImgwr (s : State) (p : Nat) (c : Ctx) : State × (Ctx → Ctx) :=
  let i := s.rf (aPD_MOV_RANGE p) 15 0 + c.x.toNat
  if s.moverUp = false then sysFail s 3
  else if s.rf (aPD_MOV_RANGE p) 31 16 ≤ c.x.toNat then sysFail s 4
  else if s.dKind i ≠ 2 ∨ s.dDis i then sysFail s 7
  else if s.descBad i then sysFail (s.movFault p i 5 true) 7
  else match s.outStream p i with
    | none => sysFail (s.movFault p i 3 true) 1
    | some e =>
      match s.readData p 2 (0x10000 + s.rf (aMD_1 i) 15 0) (s.dLen i) with
      | .unmapped key => s.sysMov p i key
      | .bad a => sysFail ((s.storeFault a).movFault p i 2 false) 3
      | .data d =>
        let r := s.mkBlock i 0x8000 d
        sysOk (if r.1.silent p then r.1 else r.1.sendAll false false [(e, r.2)])

/-- IMGWR; the release and output copies in the queue go first (R136). -/
def execOpImgwr (e : BitVec 7) (st : State) : Host.Outcome State Fault Refusal :=
  .next (st.sys e.toNat (fun s p _ c => s.cuAhead.sysImgwr p c))

/-! ### Interrupt and breakpoint -/

/-- IRQ: VF vector 4 + A[1:0] of the partition (R39). -/
def execOpIrq (e : BitVec 7) (st : State) : Host.Outcome State Fault Refusal :=
  .next (st.sys e.toNat (fun s p _ c => sysOk (s.sendVec (p + 1) (4 + fld c.a 1 0))))

/-- BRK: Hold where it is permitted, after the BRK; no effect otherwise (R148, R149). -/
def execOpBrk (e : BitVec 7) (st : State) : Host.Outcome State Fault Refusal :=
  .next (st.sys e.toNat (fun s p _ _ =>
    (if s.mode p = 2 ∧ s.holdRefusal p = none then s.enterHold p 1 else s, fun c => c)))

end Sys2Proof.Machine
end

