-- ==== Sys2Proof/Machine/Lanes.lean ====
section
/-!
DEFINITION. Lanes and ports coming up and going down (spec/07 R196 to R200, R203; spec/01 R20).
-/
namespace Sys2Proof.Machine

/-- `LN_STAT.DOWNCAUSE` of lane `n`. -/
def State.downCause (s : State) (n : Nat) : Nat := s.rf (aLN_STAT n) 23 16
/-- Set PLL, CDR and ALIGN (bits 2 to 0), UP and DOWNCAUSE of lane `n`. -/
def State.setLane (s : State) (n bits cause : Nat) (up : Bool) : State :=
  s.setReg (aLN_STAT n) (BitVec.ofNat 32 (cause * 65536 + up.toNat * 8 + bits))
/-- Lane `n` is healthy: PLL, CDR and ALIGN hold and no test runs. -/
def State.laneOk (s : State) (n : Nat) : Bool :=
  decide (s.rf (aLN_STAT n) 2 0 = 7 ∧ s.rf (aLN_MODE n) 15 12 = 0 ∧ 1 ≤ s.laneMode n ∧ s.laneMode n ≤ 9)
/-- The cause that lane `n` shows by itself while it is down: Off, a test, or the first of PLL, CDR and ALIGN that fails. -/
def State.laneCause (s : State) (n : Nat) : Nat :=
  let b := s.rf (aLN_STAT n) 2 0
  if s.laneMode n = 0 ∨ 10 ≤ s.laneMode n then 1 else if s.rf (aLN_MODE n) 15 12 ≠ 0 then 6
  else if b % 2 = 0 then 2 else if b / 2 % 2 = 0 then 3 else if b / 4 = 0 then 4 else 0
/-- What the lanes of one port must share: MODE, FEC and ANEN (R198). -/
def State.laneKey (s : State) (n : Nat) : W := s.reg (aLN_MODE n) &&& 0x38F
/-- The lanes of port `p`. -/
def State.lanesOf (s : State) (p : Nat) : List Nat := (List.range (s.portWidth p)).map (fun d => p + d)
/-- The lanes of port `p` agree (R198). -/
def State.lanesAgree (s : State) (p : Nat) : Bool := (s.lanesOf p).all (fun n => decide (s.laneKey n = s.laneKey p))

/-- Every frame in the queues of port `p` is discarded (R199). -/
def State.flushPort (s : State) (p : Nat) : State :=
  (s.busyQueues.filter (fun q => s.qPort q == p)).foldl (fun s q => s.flushQueue q) s

/-- Show `up` in the lanes of port `p`. -/
def State.markLanes (s : State) (p : Nat) (up : Bool) : State :=
  (s.lanesOf p).foldl (fun s n => s.setRf (aLN_STAT n) 3 3 up.toNat) s

/-- Port `p` goes down (R199): its queues are discarded, its transmitter stops, and a port that was up reports the event and
the contained fault of lane `n` with detail `code`. DEDUCED (log 31). -/
def State.portDown (s : State) (p n code : Nat) : State :=
  let was := s.portUp p
  let s1 := ((s.flushPort p).setPort p Port.zero).markLanes p false
  let s2 := s1.setReg (aSW_PORT_STAT p) (BitVec.ofNat 32 (s1.downCause p * 256))
  if was then (s2.swEvent 2).collect (48 + n / 8) cContained code n else s2

/-- Port `p` comes up with width code `w`. -/
def State.portRise (s : State) (p w : Nat) : State :=
  let was := s.portUp p
  let s1 := (s.markLanes p true).setReg (aSW_PORT_STAT p) (BitVec.ofNat 32 (w * 4 + 1))
  if was then s1 else s1.swEvent 2

/-- Whether a width is valid in a lane mode (R198). -/
def widthOk (mode w : Nat) : Bool := decide (w = 1 ∨ ((w = 2 ∨ w = 4) ∧ 1 ≤ mode ∧ mode ≤ 5))

/-- Port `p` is looked at again after its lanes or its configuration changed: it comes up when every lane is healthy and they
agree; lanes that differ show DOWNCAUSE 0x07 (R198). -/
def State.portLook (s : State) (p : Nat) : State :=
  if s.configured p = false then
    (if s.portUp p then s.portDown p p 0x0B else s)
  else if (s.lanesAgree p && widthOk (s.laneMode p) (s.portWidth p)) = false then
    let s1 := (s.lanesOf p).foldl (fun s n => s.setRf (aLN_STAT n) 23 16 7) s
    if s1.portUp p then s1.portDown p p 0x0B else s1.setRf (aSW_PORT_STAT p) 15 8 7
  else if (s.lanesOf p).all s.laneOk then
    ((s.lanesOf p).foldl (fun s n => s.setRf (aLN_STAT n) 23 16 0) s).portRise p (s.rf (aSW_PORT_CFG p) 30 29)
  else
    let s1 := (s.lanesOf p).foldl (fun s n => if s.downCause n = 7 then s.setRf (aLN_STAT n) 23 16 (s.laneCause n) else s) s
    s1.setRf (aSW_PORT_STAT p) 15 8 (if s1.portUp p then 0 else s1.downCause p)

/-- Lane `n` fails with `code`: its port goes down, or begins to re-form where R200 lets it. DEDUCED (log 31). -/
def State.laneFails (s : State) (n code : Nat) : State :=
  match s.portOf n with
  | none => s
  | some p =>
    if s.portUp p ∧ s.laneMode p = 1 ∧ 1 < s.portWidth p ∧ s.rb (aSW_PORT_CFG p) 26 ∧ (s.lanesOf p).any s.laneOk then
      let s1 := ((s.flushPort p).setPort p { Port.zero with reform := true }).setRf (aLN_STAT n) 3 3 0
      if code = 0x06 then s1.collect (48 + n / 8) cContained code n else s1
    else s.portDown p n code

/-- `LN_MODE` of lane `n` takes a new value (R196, R199): its port goes down and the lane starts again; lanes that now
differ show DOWNCAUSE 0x07 at once (R198). DEDUCED (log 32). -/
def State.applyLnMode (s : State) (n : Nat) (data : W) : State :=
  let s1 := s.setReg (aLN_MODE n) (data &&& 0xF38F)
  let m := s1.laneMode n
  let cause := if m = 0 ∨ 10 ≤ m then 1 else if s1.rf (aLN_MODE n) 15 12 ≠ 0 then 6 else 2
  let s2 := s1.setLane n 0 cause false
  match s2.portOf n with
  | none => s2
  | some p => (s2.portDown p n 0x0B).portLook p

/-- A write of `LN_MODE` of `lane` by `src`, posted and applied (R48, R49, R51, R196). DESIGN CHOICE (log 158). -/
def execLnModeWrite (src : BitVec 10) (lane : BitVec 7) (data : W) (st : State) : Host.Outcome State Fault Refusal :=
  let n := lane.toNat
  let space := if src = 0x3FE then 3 else 0
  .next (if (1 ≤ src.toNat ∧ src.toNat ≤ 512) ∨ st.fuse.lanes ≤ n then st
    else if 4 ≤ fld data 15 12 then st.refuse src.toNat space (aLN_MODE n) 0x0A
    else if st.rb (aLN_BSTAT n) 1 then st.refuse src.toNat space (aLN_MODE n) 3
    else if st.rb (aLN_BSTAT n) 0 then st.refuse src.toNat space (aLN_MODE n) 2
    else (st.applyLnMode n data).setRf (aLN_BSTAT n) 0 0 1)

/-- A lane completes training and alignment (R196); its port comes up with its last lane, and a port that re-formed or stays
formed is not touched. -/
def execLaneLinkUp (lane : BitVec 7) (st : State) : Host.Outcome State Fault Refusal :=
  let n := lane.toNat
  .next (if st.fuse.lanes ≤ n ∨ st.laneMode n = 0 ∨ 10 ≤ st.laneMode n ∨ st.rf (aLN_MODE n) 15 12 ≠ 0
      ∨ st.rb (aLN_BSTAT n) 1 then st
    else
      let s1 := st.setLane n 7 0 false
      match s1.portOf n with
      | some p => s1.portLook p
      | none => s1)

/-- A lane loses its signal or its alignment (R199), or its start-up finds none or fails in training (R196). `cause` is the `DOWNCAUSE` it
shows: 0x03, 0x04 or 0x05. DEDUCED (log 32). -/
def execLaneSignalLoss (lane : BitVec 7) (cause : BitVec 8) (st : State) : Host.Outcome State Fault Refusal :=
  let n := lane.toNat
  .next (if st.fuse.lanes ≤ n ∨ ¬ (3 ≤ cause.toNat ∧ cause.toNat ≤ 5) ∨ st.laneMode n = 0 ∨ 10 ≤ st.laneMode n
      ∨ st.rf (aLN_MODE n) 15 12 ≠ 0 ∨ st.rb (aLN_BSTAT n) 1 then st
    else (st.setLane n (if cause = 3 then 1 else 3) cause.toNat false).laneFails n 0x0B)

/-- A lane PLL loses lock (R20): a contained fault of the lane takes down its port. -/
def execLanePllLoss (lane : BitVec 7) (st : State) : Host.Outcome State Fault Refusal :=
  let n := lane.toNat
  .next (if st.fuse.lanes ≤ n ∨ st.rf (aLN_STAT n) 0 0 = 0 then st
    else
      let s1 := st.setLane n 0 2 false
      match s1.portOf n with
      | some p => if s1.portUp p then s1.laneFails n 0x06 else s1.collect (48 + n / 8) cContained 0x06 n
      | none => s1.collect (48 + n / 8) cContained 0x06 n)

/-- The widest aligned set of healthy lanes of a native port: its width code and its first lane (R200). -/
def State.healthySet (s : State) (p : Nat) : Option (Nat × Nat) :=
  [2, 1, 0].findSome? (fun c =>
    if s.portWidth p < widthOf c then none
    else ((List.range (s.portWidth p / widthOf c)).map (fun k => p + k * widthOf c)).findSome? (fun n =>
      if (List.range (widthOf c)).all (fun d => s.laneOk (n + d)) then some (c, n) else none))
/-- Only the `k` lanes from lane `n` of port `p` carry frames. -/
def State.carryOn (s : State) (p n k : Nat) : State :=
  (s.lanesOf p).foldl (fun s m => s.setRf (aLN_STAT m) 3 3 (decide (n ≤ m ∧ m < n + k)).toNat) s

/-- A degradable port re-forms on its largest healthy lane set, whose lanes alone carry frames (R200). -/
def execPortReform (port : BitVec 7) (st : State) : Host.Outcome State Fault Refusal :=
  let p := port.toNat
  .next (if (st.port p).reform then
      (match st.healthySet p with
       | some (c, n) => ((st.setPort p Port.zero).carryOn p n (widthOf c)).setReg (aSW_PORT_STAT p) (BitVec.ofNat 32 (c * 4 + 1))
       | none => st.portDown p p 0x0B)
    else st)

/-- Verification of IEEE 802.3br succeeds on a port that runs it (R203). -/
def execPreemptVerified (port : BitVec 7) (st : State) : Host.Outcome State Fault Refusal :=
  let p := port.toNat
  .next (if st.portUp p && st.configured p && st.rb (aSW_PORT_CFG p) 28 then st.setRf (aSW_PORT_STAT p) 1 1 1 else st)

end Sys2Proof.Machine
end

