-- ==== Sys2Proof/Machine/NetRx.lean ====
section
/-!
DEFINITION. Frames through the switch: reception and forwarding (spec/07 R206, R214, R215, R220 to R225) and transmission
(R202 to R205).
-/
namespace Sys2Proof.Machine

/-! ### The frame a port receives -/

/-- The frame port `p` is receiving. -/
def State.rxOf (s : State) (p : Nat) : Option Rx := FMap.get (fun _ => none) s.rx p
/-- Set the frame port `p` is receiving. -/
def State.setRx (s : State) (p : Nat) (r : Option Rx) : State := { s with rx := FMap.set (fun _ => none) s.rx p r }

/-- Change every frame that is being received. -/
def State.mapRx (s : State) (g : Rx → Rx) : State := { s with rx := s.rx.map (fun e => (e.1, e.2.map g)) }

/-- Where the header after the EtherType lies: 14, or 18 behind an IEEE 802.1Q tag. -/
def headerAt (l : List Byte) : Nat := if beAt l 12 2 = 0x8100 then 18 else 14
/-- The EtherType of a frame. -/
def etherType (l : List Byte) : Nat := beAt l (headerAt l - 2) 2

/-- Place one forwarded copy in queue `q`; `p` is the ingress port. -/
def State.forwardTo (s : State) (p : Nat) (d : List Byte) (maxLen q : Nat) : State :=
  if s.qPort q = p ∨ s.switchOff then s
  else s.enqueue q { data := d, from_ := some p, stomp := false, maxLen := maxLen, cells := cellsOf d.length, own := false }

/-- Step 6 (R220): copies with HOPS − 1 to the targets of the frame's own PATH. DEDUCED (log 35). -/
def State.forwardSpan (s : State) (p i : Nat) (h : SpanHdr) (body : List Byte) : State :=
  if h.hops = 0 then s
  else (if h.pathB then s.stB i else s.stA i).foldl (fun s q =>
    s.forwardTo p (s.etherHead (s.qPort q) (s.qClass q) ++ { h with hops := h.hops - 1 }.bytes ++ body)
      (s.rf (aSW_ST4 i) 13 0) q) s

/-- Forwarding of a frame that is no span frame (R221). -/
def State.forwardVlan (s : State) (p : Nat) (head : List Byte) : State × Bool :=
  let v := if headerAt head = 18 then beAt head 14 2 % 4096 else s.rf (aSW_PORT_TC p) 19 8
  if s.rb (aSW_VLAN0 v) 31 then
    ((targets (s.reg (aSW_VLAN1 v)) ++ targets (s.reg (aSW_VLAN2 v))).foldl (fun s q => s.forwardTo p head 0 q) s, false)
  else (s.count aSW_CNT_NOSTREAM, true)

/-- A received frame as steps 1 to 6 leave it. -/
def Rx.plain (head : List Byte) (drop : Bool) : Rx :=
  { head := head, span := false, hdrAt := headerAt head, ty := 0, stream := 0, w0 := 0, w5 := 0, w6 := 0, drop := drop,
    f0 := 0, f1 := 0, gone := [], late := false }

/-- Steps 2 to 6 for a span frame (R220). -/
def State.spanHeaderIn (s : State) (p : Nat) (head : List Byte) : State :=
  let at_ := headerAt head
  let h := SpanHdr.of (head.drop at_)
  let r := { Rx.plain head false with span := true, ty := h.ty }
  if h.ver ≠ 1 ∨ ¬ (1 ≤ h.ty ∧ h.ty ≤ 4) then (s.count aSW_CNT_BADHDR).setRx p (some { r with drop := true })
  else if h.ty = 3 then s.setRx p (some r)
  else match s.findStream h.stream with
    | none => (s.count aSW_CNT_NOSTREAM).setRx p (some { r with drop := true })
    | some i =>
      if s.conforms i = false then (s.count aSW_CNT_POLICED).setRx p (some { r with drop := true })
      else (s.forwardSpan p i h (head.drop (at_ + 16))).setRx p
        (some { r with
          stream := i, w0 := s.reg (aSW_ST0 i), w5 := s.reg (aSW_ST5 i), w6 := s.reg (aSW_ST6 i),
          f0 := s.reg (aSW_FENCE0 (s.rf (aSW_ST0 i) 5 0)), f1 := s.reg (aSW_FENCE1 (s.rf (aSW_ST0 i) 5 0)) })

/-- Steps 1 to 6 of the receive path, taken from the header (R197, R220, R253). Every frame of EtherType 0x8808 (MAC Control) is discarded,
whatever its opcode. DESIGN CHOICE (log 192). -/
def State.headerIn (s : State) (p : Nat) (head : List Byte) : State :=
  let h := SpanHdr.of (head.drop (headerAt head))
  if etherType head = 0x8808 then (s.count aSW_CNT_BADHDR).setRx p (some (Rx.plain head true))
  else if s.member && s.syncPorts.contains p then
    (if etherType head = s.rf aSW_ETYPE 15 0 ∧ h.ver = 1 ∧ h.ty = 4 then
      s.setRx p (some { Rx.plain head false with span := true, ty := 3 })
     else (s.count aSW_CNT_BADHDR).setRx p (some (Rx.plain head true)))
  else if etherType head = s.rf aSW_ETYPE 15 0 then s.spanHeaderIn p head
  else
    let r := s.forwardVlan p head
    r.1.setRx p (some (Rx.plain head r.2))

/-- A frame's header arrives at `port`, `dt` clocks on: `head` holds its bytes so far, the header among them. A port that
carries no frames receives none. -/
def execFrameHeaderReceived (port : BitVec 7) (head : List Byte) (dt : Nat) (st : State) : Host.Outcome State Fault Refusal :=
  let s := st.elapse dt
  .next (if s.configured port.toNat && s.carries port.toNat && !s.switchOff then s.headerIn port.toNat head else s)

/-! ### The end of a frame -/

/-- One waiting copy of a frame whose last bytes arrive: it grows to its whole length, a bad check sequence marks it, and one
that finds no cell is dropped (bulk) or ended as bad (control) (R206, R211). -/
def State.finishCopy (s : State) (q : Nat) (f : QFrame) (more : List Byte) (ok : Bool) : State × List QFrame :=
  let d := padFrame (f.data ++ more)
  let need := cellsOf (d.length + 4) - f.cells
  if s.hasCells q need then
    (s.setDepth q (s.rf (aQM_DEPTH q) 31 0 + need),
      [{ f with data := d, from_ := none, stomp := !ok, cells := f.cells + need }])
  else
    let s1 := s.dropCopy q true
    if s.qCtl q then (s1, [{ f with data := d, from_ := none, stomp := true }])
    else (s1.setDepth q (s1.rf (aQM_DEPTH q) 31 0 - f.cells), [])

/-- The copies in one queue of a frame that port `p` has received to its end. -/
def State.finishList (p : Nat) (more : List Byte) (ok : Bool) (q : Nat) : List QFrame → State → State × List QFrame
  | [], s => (s, [])
  | f :: fs, s =>
    let r := if f.from_ = some p then s.finishCopy q f more ok else (s, [f])
    let r2 := State.finishList p more ok q fs r.1
    (r2.1, r.2 ++ r2.2)

/-- Whether the gate of a frame's stream is closed: the streams of this device stand once it is fatal (R368). -/
def State.gated (s : State) (f : QFrame) : Bool := s.fatal && f.own
/-- The frames of queue `q` from the first one that may go. -/
def State.sendable (s : State) (q : Nat) : List QFrame := (s.frames q).dropWhile s.gated

/-- A frame leaves its queue: its cells are freed, it is counted and put on the wire (R202). -/
def State.sendFrame (s : State) (p q : Nat) (f : QFrame) : State :=
  let s1 := (s.setDepth q (s.rf (aQM_DEPTH q) 31 0 - f.cells)).setFrames q
    ((s.frames q).takeWhile s.gated ++ (s.sendable q).drop 1)
  let s2 := (s1.advance (aQM_FRAMES q)).setReg (aQM_BYTES q) (s1.reg (aQM_BYTES q) + BitVec.ofNat 32 (f.data.length + 4))
  s2.emit (.frame p (f.data ++ fcsOf f.data f.stomp))

/-- A port that was sending the frame of ingress port `p` cut-through sends it to its end, unless its lanes have gone idle (R369).
DEDUCED (log 37). -/
def State.endCut (s : State) (p o : Nat) : State :=
  match (s.port o).cut with
  | some (i, q) =>
    if i = p then
      let s1 := s.setPort o { s.port o with cut := none, expEnd := s.fab }
      match s1.sendable q with
      | f :: _ => if s1.switchOff then s1 else s1.sendFrame o q f
      | [] => s1
    else s
  | none => s

/-- Egress copies of the frame of port `p` when its last byte arrives. DEDUCED (log 37). -/
def State.finishCopies (s : State) (p : Nat) (more : List Byte) (ok : Bool) : State :=
  let s1 := s.busyQueues.foldl (fun s q =>
    let r := State.finishList p more ok q (s.frames q) s
    r.1.setFrames q r.2) s
  (s1.ports.map (·.1)).foldl (fun s o => s.endCut p o) s1

/-! ### Local delivery -/

/-- The window of stream entry `i` returns to INIT = 0 (R224). -/
def State.clearWindow (s : State) (i : Nat) : State :=
  { s.setRf (aSW_ST7 i) 31 15 0 with win := FMap.erase s.win i }

/-- The entries of the stream table that are valid. -/
def State.validStreams (s : State) : List Nat :=
  ((s.regs.map (·.1)).filter (fun a => decide (0xA00000 ≤ a ∧ a < 0xC00000 ∧ a % 32 = 0))).filterMap
    (fun a => if s.stV ((a - 0xA00000) / 32) then some ((a - 0xA00000) / 32) else none)
/-- The allocated slots. -/
def State.validSlots (s : State) : List Nat :=
  ((s.regs.map (·.1)).filter (fun a => decide (0x900000 ≤ a ∧ a < 0x940000 ∧ a % 16 = 0))).filterMap
    (fun a => if s.slotV ((a - 0x900000) / 16) then some ((a - 0x900000) / 16) else none)
/-- Whether stream entry `i` feeds slot `n`. -/
def State.feeds (s : State) (i n : Nat) : Bool :=
  decide (s.rf (aSW_ST5 i) 13 0 ≤ n ∧ n < s.rf (aSW_ST5 i) 13 0 + s.rf (aSW_ST6 i) 13 0)

/-- A newer epoch of fence entry `k`: windows of its streams and the histories of the slots they feed are reset (R222). DEDUCED (log 38). -/
def State.fenceReset (s : State) (k : Nat) : State :=
  let is := s.validStreams.filter (fun i => s.rf (aSW_ST0 i) 5 0 == k)
  let ns := s.validSlots.filter (fun n => is.any (fun i => s.feeds i n))
  ns.foldl (fun s n => s.setRf (aSW_SLOT0 n) 14 14 0) (is.foldl State.clearWindow s)

/-- The epoch fence (R222): the state after it and whether it lets the frame pass. `old` gives the entry as it stood when the frame's
processing started, where a commit has written its PAIR since; that entry's HIGH is then gone with it (R230). -/
def State.fence (s : State) (k : Nat) (h : SpanHdr) (old : W × W) : State × Bool :=
  let live := decide (s.rf (aSW_FENCE0 k) 15 0 = fld old.1 15 0)
  let w := if live then s.reg (aSW_FENCE1 k) else old.2
  let e := (h.epoch + 65536 - fld w 31 16) % 65536
  let take (s : State) : State := if live then s.setReg (aSW_FENCE1 k) (BitVec.ofNat 32 (h.epoch * 65536 + 1)) else s
  if h.epv = false ∨ h.pair ≠ fld old.1 15 0 then ((s.count aSW_CNT_FENCED).swEvent 4, false)
  else if bitAt w 0 = false then (take s, true)
  else if e = 0 then (s, true)
  else if e < 32768 then (if live then (take s).fenceReset k else s, true)
  else ((s.count aSW_CNT_FENCED).swEvent 4, false)

/-- The number of bits 0 to `n` − 1 of a value that are 1. -/
def popCount (w : BitVec 128) : Nat → Nat
  | 0 => 0
  | n + 1 => popCount w n + (w.getLsbD n).toNat

/-- Whether a frame of sequence `q` is accepted by the duplicate window of stream entry `i` (R223). -/
def State.window (s : State) (i q : Nat) : State × Bool :=
  let h := s.rf (aSW_ST7 i) 31 16
  let w := FMap.get (fun _ => 0) s.win i
  let put (s : State) (h : Nat) (w : BitVec 128) : State :=
    { (s.setRf (aSW_ST7 i) 31 16 h).setRf (aSW_ST7 i) 15 15 1 with
        win := FMap.set (fun _ => 0) s.win i w, accepted := FMap.set (fun _ => 0) s.accepted i s.fab }
  let d := (q + 65536 - h) % 65536
  let b := (h + 65536 - q) % 65536
  if s.rb (aSW_ST7 i) 15 = false then (put s q 1, true)
  else if d = 0 then (s.count aSW_CNT_DUP, false)
  else if d < 32768 then
    let m := min d 128
    let lost := (m - popCount (w >>> (128 - m)) m) + (d - 128)
    (put (s.setReg aSW_CNT_LOST (satAdd (s.reg aSW_CNT_LOST) lost)) q ((w <<< d) ||| 1), true)
  else if b < 128 ∧ w.getLsbD b then (s.count aSW_CNT_DUP, false)
  else if b < 128 then (put s h (w ||| (1 <<< b)), true)
  else (s.count aSW_CNT_OLD, false)

/-- The blocks of a payload that the receiver accepts, and whether the frame is well formed (R215): `left` blocks, `plen`
bytes announced. -/
def readBlocks : Nat → Nat → List Byte → List Block × Bool
  | 0, plen, _ => ([], plen == 0)
  | n + 1, plen, l =>
    let len := beAt l 6 2 % 2048
    let size := 8 + 4 * ((len + 3) / 4)
    if len = 0 ∨ 1024 < len ∨ min plen l.length < size then ([], false)
    else
      let r := readBlocks n (plen - size) (l.drop size)
      ({ modid := beAt l 0 2, mseq := beAt l 2 2, status := beAt l 4 2, data := (l.drop 8).take len } :: r.1, r.2)

/-- A block goes to its slot (R225), now or at a later clock (R228): HELD and SAFE of the frame are set in its status. A slot that a commit has
changed since the frame's processing started takes none (R230). -/
def State.deliver (s : State) (r : Rx) (h : SpanHdr) (b : Block) (now : Bool) : State :=
  let base := fld r.w5 31 16
  let slot := fld r.w5 13 0
  if base ≤ b.modid ∧ b.modid < base + fld r.w6 13 0 ∧ slot + (b.modid - base) < 16384 ∧ s.slotV (slot + (b.modid - base))
      ∧ r.gone.contains (slot + (b.modid - base)) = false then
    s.takeBlock (slot + (b.modid - base))
      { b with status := b.status ||| (if h.held then 0x4000 else 0) ||| (if h.safe then 0x2000 else 0) } now
  else s

/-- Steps 8 to 11 for a frame of stream entry `i` whose check sequence is good (R220), under the tables as they stood when its processing
started (R230); its first `ahead` blocks reach their slots at this clock, the others later (R228). DESIGN CHOICE (log 193). -/
def State.localSteps (s : State) (r : Rx) (h : SpanHdr) (payload : List Byte) (ahead : Nat) : State :=
  if bitAt r.w0 26 = false then s
  else
    let f := if bitAt r.w0 24 then s.fence (fld r.w0 5 0) h (r.f0, r.f1) else (s, true)
    let g := if f.2 && bitAt r.w0 25 && !r.late then f.1.window r.stream h.seq else f
    if g.2 = false ∨ h.ty ≠ 1 then g.1
    else
      let bs := readBlocks h.blocks h.plen payload
      let s1 := if bs.2 then g.1 else g.1.count aSW_CNT_BADBLK
      (bs.1.zip (List.range bs.1.length)).foldl (fun s b => s.deliver r h b.1 (decide (b.2 < ahead))) s1

/-- The epoch that the header of a MIRROR frame of the partner carries is noted (R249). -/
def State.mirrorEpoch (s : State) (p : Nat) (h : SpanHdr) : State :=
  if s.member && s.syncPorts.contains p && h.epv && h.ty == 4 && h.pair == s.rf aRU_CFG 15 0 then s.noteEpoch h.epoch else s

/-- The last byte of the frame that port `p` receives; `tail` holds the rest of it, the four bytes of its check sequence
last (R219, R220). MERIDIAN frames and the bodies of LEASE and MIRROR frames act as commands of their own. -/
def State.endIn (s : State) (p : Nat) (r : Rx) (tail : List Byte) (ahead : Nat) : State :=
  let whole := r.head ++ tail
  let body := whole.take (whole.length - 4)
  let ok := decide (fcsOf body false = whole.drop (whole.length - 4))
  let more := tail.take (tail.length - 4)
  let s0 := s.setRx p none
  if r.drop then s0
  else
    let s1 := s0.finishCopies p more ok
    let s2 := if r.span ∧ r.ty ≠ 3 ∧ r.late = false then s1.debit r.stream whole.length else s1
    if ok = false then s2.count aSW_CNT_STOMP
    else if r.span ∧ r.ty ≠ 3 then
      s2.localSteps r (SpanHdr.of (r.head.drop r.hdrAt)) (body.drop (r.hdrAt + 16)) ahead
    else s2.mirrorEpoch p (SpanHdr.of (r.head.drop r.hdrAt))

/-- A frame's last byte arrives at `port`, `dt` clocks on; `ahead` of its blocks reach their slots at once (R228). DEDUCED (log 40). -/
def execFrameEndReceived (port : BitVec 7) (tail : List Byte) (ahead dt : Nat) (st : State) : Host.Outcome State Fault Refusal :=
  let s := st.elapse dt
  .next (match s.rxOf port.toNat with
    | some r => if s.clkStop then s else s.endIn port.toNat r tail ahead
    | none => s)

/-- No accepted frame of a stream for STO × 10 µs (R224). -/
def execStreamWindowTimeout (stream : BitVec 16) (dt : Nat) (st : State) : Host.Outcome State Fault Refusal :=
  let s := st.elapse dt
  let i := stream.toNat
  let sto := s.rf (aSW_ST6 i) 31 16
  .next (if sto ≠ 0 ∧ s.rb (aSW_ST7 i) 15 ∧ sto * 8000 ≤ s.fab - FMap.get (fun _ => 0) s.accepted i then s.clearWindow i else s)

/-! ### Transmission -/

/-- Whether the first frame of queue `q` may be sent now: it is whole, or a control frame forwarded cut-through to a port
whose rate is no higher than its ingress port's (R201). -/
def State.ready (s : State) (q : Nat) : Option QFrame :=
  match s.sendable q with
  | [] => none
  | f :: _ =>
    match f.from_ with
    | none => some f
    | some i => if s.qCtl q ∧ s.portRate (s.qPort q) ≤ s.portRate i then some f else none

/-- The bytes whose transmission the guard band counts (R205). -/
def State.guardLen (s : State) (q : Nat) (f : QFrame) : Nat :=
  if s.qCtl q ∧ f.maxLen ≠ 0 then f.maxLen else f.data.length + 4

/-- The queues of port `p`, class `c`, whose first frame may start now, in ascending number. -/
def State.startable (s : State) (p c : Nat) : List Nat :=
  s.busyQueues.filter (fun q => s.qValid q && s.qPort q == p && s.qClass q == c &&
    (match s.ready q with | some f => s.mayStart p c (s.guardLen q f) | none => false))

/-- The next in turn of the queues of one class: the first one after the queue served last (R202). -/
def nextInTurn (last : Nat) (qs : List Nat) : Option Nat :=
  match qs.find? (fun q => decide (last ≤ q)) with
  | some q => some q
  | none => qs.head?

/-- The queue that port `p` serves next: the highest class first. -/
def State.nextQueue (s : State) (p : Nat) : Option Nat :=
  [7, 6, 5, 4, 3, 2, 1, 0].findSome? (fun c =>
    nextInTurn (FMap.get (fun _ => 0) s.qTurn (p * 8 + c)) (s.startable p c))

/-- Port `p` starts the first frame of queue `q`. DEDUCED (log 29). -/
def State.startFrame (s : State) (p q : Nat) : State :=
  match s.sendable q with
  | [] => s
  | f :: _ =>
    let c := s.qClass q
    let t := s.port p
    let s1 := { s with qTurn := FMap.set (fun _ => 0) s.qTurn (p * 8 + c) (q + 1) }
    let dur := wireClks (s.portRate p) (f.data.length + 24)
    match f.from_ with
    | some i => s1.setPort p { t with cut := some (i, q), blkEnd := if s.fab < t.blkEnd then t.blkEnd + dur else t.blkEnd }
    | none =>
      let s2 := if s.isCtl p c then
          s1.setPort p { t with expEnd := s.fab + dur, blkEnd := if s.fab < t.blkEnd then t.blkEnd + dur else t.blkEnd }
        else s1.setPort p { t with blkEnd := s.fab + dur, blkCls := c }
      s2.sendFrame p q f

/-- Port `p` looks for a frame to start (R202, R203): nothing starts while an express frame is on the wire; while a bulk frame
is on the wire or waits to resume, only a control frame of a port with active preemption does. -/
def State.transmit (s : State) (p : Nat) : State :=
  let t := s.port p
  if (s.carries p = false) ∨ s.fab < t.expEnd ∨ t.cut.isSome ∨ s.switchOff then s
  else match s.nextQueue p with
    | none => s
    | some q =>
      if s.fab < t.blkEnd ∨ t.susp.isSome then
        (if s.qCtl q ∧ s.rb (aSW_PORT_STAT p) 1 then s.startFrame p q else s)
      else s.startFrame p q

/-- A port starts its next frame, `dt` clocks on. -/
def execPortTransmit (port : BitVec 7) (dt : Nat) (st : State) : Host.Outcome State Fault Refusal :=
  .next ((st.elapse dt).transmit port.toNat)

/-- The gate state of a port changes, `dt` clocks on: with active preemption, a bulk frame whose gate closes waits and resumes
at its next open gate (R204, R205). -/
def execGateEntryChange (port : BitVec 7) (dt : Nat) (st : State) : Host.Outcome State Fault Refusal :=
  let s := st.elapse dt
  let p := port.toNat
  let t := s.port p
  .next (if s.rb (aSW_PORT_STAT p) 1 = false then s
    else match t.susp with
      | some r => if s.gateOpen p t.blkCls then s.setPort p { t with susp := none, blkEnd := max s.fab t.expEnd + r } else s
      | none => if s.fab < t.blkEnd ∧ s.gateOpen p t.blkCls = false then
          s.setPort p { t with susp := some (t.blkEnd - s.fab), blkEnd := s.fab } else s)

end Sys2Proof.Machine
end

