-- ==== Sys2Proof/Machine/Owners.lean ====
section
/-!
DEFINITION. Owners of queues, CAN objects, mailboxes and field channels, and how they change (spec/06 R169 to R171, spec/07 R210).
A resource is named by the offset of its owner field.
-/
namespace Sys2Proof.Machine

/-- Whether offset `a` is word 0 of a queue entry. -/
def isQueueOwn (a : Nat) : Bool := decide (0xF00000 ≤ a ∧ a < 0xF80000)
/-- The owner that an owner field with value `w` names: a partition, or the device (`none`). -/
def ownerIn (a : Nat) (w : W) : Option Nat :=
  if isQueueOwn a then (if bitAt w 20 then none else some (fld w 19 10)) else (if bitAt w 31 then none else some (fld w 9 0))
/-- The owner field with the device as owner. -/
def toDevice (a : Nat) (w : W) : W := if isQueueOwn a then putBit w 20 true else putBit w 31 true
/-- The owner of the resource at `a`. -/
def State.ownerAt (s : State) (a : Nat) : Option Nat := ownerIn a (s.reg a)
/-- The value that waits for offset `a`. -/
def State.waitAt (s : State) (a : Nat) : Option W := FMap.get (fun _ => none) s.ownWait a
/-- Set the value that waits for offset `a`. -/
def State.setWait (s : State) (a : Nat) (w : Option W) : State := { s with ownWait := FMap.set (fun _ => none) s.ownWait a w }

/-! ### Clearing (table "Clearing on change of owner") -/

/-- One bit of the input or output image of partition `p` (bit 0 is I-region bit 0); unchanged where it cannot be read. -/
def State.pokeBit (s : State) (p bit : Nat) (v : Bool) : State :=
  match s.peek p true (bit / 32) with
  | some w => s.poke p true (bit / 32) (putBit w (bit % 32) v)
  | none => s.seeWord p 2 (bit / 32)

/-- Queue `q`: frames discarded, depth, drop and byte counters zero. -/
def State.clearQueue (s : State) (q : Nat) : State := ((s.flushQueue q).setReg (aQM_DROPS q) 0).setReg (aQM_BYTES q) 0

/-- Object `k`: record, identifier match, FRESH and REPL zero, disabled. DEDUCED (log 53). -/
def State.clearObj (s : State) (n k : Nat) : State :=
  let s1 := (List.range 17).foldl (fun s i => s.setReg (aOBJ_REC n k i) 0) s
  let s2 := (s1.setReg (aOBJ_CFG n k) 0).setRf (aOBJ_STAT n k) 31 29 0
  s2.setCan n { s2.can n with hold := match (s2.can n).hold with | some (j, r) => if j = k then none else some (j, r) | none => none }

/-- Mailbox `m`: request cancelled unless its frame is on the bus, contents zero. -/
def State.clearMb (s : State) (n m : Nat) : State :=
  (List.range 17).foldl (fun s i => s.setReg (aMB_DATA n m i) 0) ((s.mbCancel n m).setReg (aMB_ID n m) 0)

/-- Channel `n`: command and last command off (a forced output stays in its safe state), latches cleared, the input image bits
of the old owner's FIN descriptors zero. DEDUCED (log 54). -/
def State.clearFio (s : State) (n : Nat) : State :=
  let s1 := (s.command n false).dclrChan n
  match s1.ownerAt (aFIO_OWN n) with
  | none => s1
  | some p => (s1.descs p).foldl (fun s i =>
      if s.dKind i = 3 ∧ s.dTarget i % 32 = n then s.pokeBit p (s.rf (aMD_1 i) 17 0) false else s) s1

/-- Clear the resource whose owner field lies at `a` (R171). -/
def State.clearOwned (s : State) (a : Nat) : State :=
  if isQueueOwn a then s.clearQueue ((a - 0xF00000) / 16)
  else if a < 0x100000 then s.clearFio ((a - 0xB0104) / 16)
  else
    let n := (a - 0x1000000) / 0x10000
    let o := (a - 0x1000000) % 0x10000
    if o < 0x2000 then s.clearObj n ((o - 0x1004) / 8) else s.clearMb n ((o - 0x2004) / 128)

/-! ### The packet buffer's pool -/

/-- The queues whose registers lie in a block of 16 B entries at `base` with the word at `off` listed. -/
def State.listedQueues (s : State) (base off : Nat) : List Nat :=
  ((s.regs.map (·.1)).filter (fun a => decide (base ≤ a ∧ a < base + 0x80000 ∧ a % 16 = off))).map (fun a => (a - base) / 16)

/-- Free cells of the shared pool (R210, R211): 196,608 minus the MIN of every valid queue, minus what queues hold above MIN. -/
def State.poolFree (s : State) : Nat :=
  196608 - (((s.listedQueues 0xF00000 4).filter s.qValid).map s.qMin).foldl (· + ·) 0
    - ((s.listedQueues 0xF80000 0).map (fun q => s.rf (aQM_DEPTH q) 31 0 - s.qMin q)).foldl (· + ·) 0

/-- `QM_POOL` follows the allocation. -/
def State.refreshPool (s : State) : State := s.setReg aQM_POOL (BitVec.ofNat 32 s.poolFree)

/-- Queue `q` takes the words of its entry; a queue that leaves use is emptied. DEDUCED (log 57). -/
def State.writeQueue (s : State) (q : Nat) (ws : List W) : State :=
  let s1 := if bitAt (ws.getD 0 0) 31 = false ∧ s.qValid q then s.flushQueue q else s
  ([0, 1, 2, 3].foldl (fun s i => s.setReg (aQM_Q0 q + 4 * i) (ws.getD i 0)) s1).refreshPool

/-! ### Moves (R169, R170) -/

/-- The waiting value of `a` applies whole; the three other words of a queue entry apply with it. -/
def State.finishMove (s : State) (a : Nat) (w : W) : State :=
  if isQueueOwn a then
    let ws := w :: [4, 8, 12].map (fun d => (s.waitAt (a + d)).getD (s.reg (a + d)))
    ([0, 4, 8, 12].foldl (fun s d => s.setWait (a + d) none) s).writeQueue ((a - 0xF00000) / 16) ws
  else (s.setWait a none).setReg a w

/-- The change that waits for `a` moves on where the partition concerned is at an apply point (`at_`): a resource leaves its
owner for the device, and joins its new owner at a later apply point. DEDUCED (log 56). -/
def State.moveOne (s : State) (at_ : Nat → Bool) (a : Nat) : State :=
  match s.waitAt a with
  | none => s
  | some w =>
    match s.ownerAt a, ownerIn a w with
    | none, none => s.finishMove a w
    | none, some b => if at_ b then (s.clearOwned a).finishMove a w else s
    | some x, tgt =>
      if tgt = some x then s.finishMove a w
      else if at_ x then
        let s1 := s.clearOwned a
        if tgt = none then s1.finishMove a w else s1.setReg a (toDevice a (s1.reg a))
      else s

/-- Partition `p` is Absent or in Stop: its resources change hands at the block's own apply point (R169). -/
def State.atRest (s : State) (p : Nat) : Bool := s.mode p == 0 || s.mode p == 1

/-- The owner fields with a waiting value from `lo` up to `hi`. -/
def State.waiting (s : State) (lo hi : Nat) : List Nat :=
  (s.ownWait.map (·.1)).filter (fun a => decide (lo ≤ a ∧ a < hi) && !(isQueueOwn a && decide (a % 16 ≠ 0)))

/-- The block with registers from `lo` up to `hi` reaches its apply point. DEDUCED (log 56). -/
def State.moveBlock (s : State) (lo hi : Nat) : State := (s.waiting lo hi).foldl (fun s a => s.moveOne s.atRest a) s

/-- The boundary pause of partition `p`: what leaves it or joins it (R169). -/
def State.movePart (s : State) (p : Nat) : State :=
  (s.waiting 0 0x2000000).foldl (fun s a => s.moveOne (fun q => q == p) a) s

/-- Every resource of partition `p` passes to the device (R178, REMOVE). -/
def State.releaseAll (s : State) (p : Nat) : State :=
  let qs := (List.range s.fuse.queues).map (fun q => 0xF00000 + 16 * q)
  let fs := (List.range 32).map aFIO_OWN
  let cs := (List.range s.fuse.cans).flatMap (fun n => (List.range 512).map (aOBJ_OWN n) ++ (List.range 32).map (aMB_OWN n))
  (qs ++ fs ++ cs).foldl (fun s a =>
    if s.ownerAt a = some p then (s.clearOwned a).setReg a (toDevice a (s.reg a)) else s) s

end Sys2Proof.Machine
end

