-- ==== Sys2Proof/Machine/NetTables.lean ====
section
/-!
DEFINITION. Commits of the switch tables and of the queue allocation (spec/07 R198, R201, R204, R209 to R213, R218, R229, R230).
-/
namespace Sys2Proof.Machine

/-! ### The checks of a switch commit -/

/-- What a failed check leaves: REASON, port and class. -/
abbrev SwFail := Nat × Nat × Nat

/-- The first number below `n` that a check refuses. -/
def firstFail (n : Nat) (chk : Nat → Option SwFail) : Option SwFail := (List.range n).findSome? chk

/-- R198: width code, alignment, lanes of the device, lane mode. -/
def State.chkWidth (c : State) (p : Nat) : Option SwFail :=
  if c.configured p && (decide (c.rf (aSW_PORT_CFG p) 30 29 = 3 ∨ p % c.portWidth p ≠ 0 ∨ c.fuse.lanes < p + c.portWidth p)
      || !widthOk (c.laneMode p) (c.portWidth p)) then some (2, p, 0) else none

/-- R201: the control classes are a contiguous run that includes class 7. -/
def State.chkMask (c : State) (p : Nat) : Option SwFail :=
  if c.configured p && !([0x80, 0xC0, 0xE0, 0xF0, 0xF8, 0xFC, 0xFE, 0xFF].contains (c.rf (aSW_PORT_TC p) 7 0)) then some (5, p, 0)
  else none

/-- R204: the intervals sum to CYCLE, which lies in its range. -/
def State.chkGates (c : State) (p : Nat) : Option SwFail :=
  let n := c.rf (aSW_GATE_CNT p) 6 0
  let cyc := c.rf (aSW_GATE_CYCLE p) 23 0
  if c.configured p ∧ n ≠ 0 ∧ ¬ (n ≤ 64 ∧ 1000 ≤ cyc ∧ cyc ≤ 10000000 ∧ ((c.gateList p).map (·.2)).foldl (· + ·) 0 = cyc) then
    some (6, p, 0)
  else none

/-- The valid streams with a target queue on port `p` in class `k`. -/
def State.streamsOn (c : State) (p k : Nat) : List Nat :=
  c.validStreams.filter (fun i => (c.stA i ++ c.stB i).any (fun q => c.qValid q && c.qPort q == p && c.qClass q == k))

/-- Open windows of class `k` in one cycle of a gate list: the entries that open it, cyclically. DEDUCED (log 59). -/
def openWindows (k : Nat) (l : List (Nat × Nat)) : Nat :=
  ((l.zip (l.drop 1 ++ l.take 1)).filter (fun e => !e.1.1.testBit k && e.2.1.testBit k)).length
/-- Open time of class `k` in one cycle. -/
def openTime (k : Nat) (l : List (Nat × Nat)) : Nat := ((l.filter (fun e => e.1.testBit k)).map (·.2)).foldl (· + ·) 0

/-- Bits whose time is the preemption allowance, or MTU + 20 B without preemption (R212). -/
def State.allowBits (c : State) (p : Nat) : Nat :=
  if c.rb (aSW_PORT_CFG p) 28 then 143 * 8 else (c.rf (aSW_PORT_CFG p) 13 0 + 20) * 8

/-- R212 for port `p` and control class `k`: rates in kbit/s and Mbit/s, times in ns. -/
def State.admissible (c : State) (p k : Nat) : Bool :=
  let is := c.streamsOn p k
  let l := c.gateList p
  let open_ := if l.isEmpty then 1 else openTime k l
  let cyc := if l.isEmpty then 1 else c.rf (aSW_GATE_CYCLE p) 23 0
  let cir := (is.map (fun i => c.rf (aSW_ST3 i) 31 0)).foldl (· + ·) 0
  let cbs := (is.map (fun i => c.rf (aSW_ST4 i) 31 14)).foldl (· + ·) 0
  let mins := (((c.listedQueues 0xF00000 4).filter (fun q => c.qValid q && c.qPort q == p && c.qClass q == k)).map c.qMin).foldl
    (· + ·) 0
  decide (cir * cyc + openWindows k l * c.allowBits p * 1000000 ≤ laneRate (c.laneMode p) * c.portWidth p * 1000 * open_
    ∧ cbs ≤ 256 * mins)

/-- R212 for every control class of port `p`. -/
def State.chkAdmissible (c : State) (p : Nat) : Option SwFail :=
  if c.configured p then
    firstFail 8 (fun k => if c.isCtl p k && !c.admissible p k then some (3, p, k) else none)
  else none

/-- The first target of a list whose class is a control class of its port. -/
def State.ctlTarget (c : State) (qs : List Nat) : Option Nat := qs.find? (fun q => c.qValid q && c.qCtl q)

/-- The VLAN entries that are listed. -/
def State.vlans (c : State) : List Nat :=
  ((c.regs.map (·.1)).filter (fun a => decide (0x880000 ≤ a ∧ a < 0x890000 ∧ a % 16 = 0))).map (fun a => (a - 0x880000) / 16)

/-- R213: a VLAN entry that names a control class. DEDUCED (log 62). -/
def State.chkVlan (c : State) : Option SwFail :=
  c.vlans.findSome? (fun v => if c.rb (aSW_VLAN0 v) 31 then
    (c.ctlTarget (targets (c.reg (aSW_VLAN1 v)) ++ targets (c.reg (aSW_VLAN2 v)))).map (fun q => (4, c.qPort q, c.qClass q))
    else none)

/-- R218: a control stream without a rate, or longer than the MTU of a port it targets. DEDUCED (log 62). -/
def State.chkStream (c : State) : Option SwFail :=
  c.validStreams.findSome? (fun i =>
    let qs := (c.stA i ++ c.stB i).filter c.qValid
    match c.ctlTarget qs with
    | none => none
    | some q =>
      if c.rf (aSW_ST3 i) 31 0 = 0 then some (7, c.qPort q, c.qClass q)
      else (qs.find? (fun q => decide (c.rf (aSW_PORT_CFG (c.qPort q)) 13 0 < c.rf (aSW_ST4 i) 13 0))).map
        (fun q => (7, c.qPort q, c.qClass q)))

/-! ### Slots (R229) -/

/-- Units of 64 B that the two buffers of a slot with MAXLEN `m` take (R26). -/
def slotUnits (m : Nat) : Nat := 2 * ((m + 63) / 64)
/-- Units of image page `g` in use. -/
def State.pageUnits (s : State) (g : Nat) : Nat :=
  ((s.slotPage.filter (fun e => e.2 == g + 1)).map (fun e => slotUnits (s.slotMax e.1))).foldl (· + ·) 0
/-- The image page for a slot of `u` units: a slot page with room, else the lowest-numbered Free page. -/
def State.pageFor (s : State) (u : Nat) : Option Nat :=
  match (s.slotPage.map (fun e => e.2 - 1)).find? (fun g => decide (s.pageUnits g + u ≤ 64) && !s.pgRetp 2 g) with
  | some g => some g
  | none => (pagesWhere (fun g => s.pgState 2 g == pgFree) 4096 0).head?

/-- What a slot holds beside its entry is forgotten. -/
def State.forgetSlot (s : State) (n : Nat) : State :=
  { s with
    slotBuf := FMap.erase (FMap.erase s.slotBuf (2 * n)) (2 * n + 1)
    slotOld := FMap.erase s.slotOld n, slotT := FMap.erase s.slotT n, slotWait := FMap.erase s.slotWait n
    slotPage := FMap.erase s.slotPage n }

/-- Slot `n` releases its buffers; a page with no slot left leaves the device (R165, R229). -/
def State.freeSlot (s : State) (n : Nat) : State :=
  match FMap.get (fun _ => 0) s.slotPage n with
  | 0 => s
  | g1 + 1 =>
    let s1 := s.forgetSlot n
    if (s1.slotPage.filter (fun e => e.2 == g1 + 1)).isEmpty then s1.leaveOwner 2 g1 else s1

/-- Slot `n` is allocated with MAXLEN `m`: FULL = 0, buffers zero; none where no page has room. DESIGN CHOICE (log 23). -/
def State.allocSlot (s : State) (n m : Nat) : Option State :=
  match s.pageFor (slotUnits m) with
  | none => none
  | some g =>
    let s1 := if s.pgState 2 g = pgFree then s.setPage 2 g pgDevice 0 else s
    some { s1 with slotPage := FMap.set (fun _ => 0) s1.slotPage n (g + 1), slotT := FMap.set (fun _ => 0) s1.slotT n s1.fab }

/-- The slots that a commit from `old` to `s` concerns: their V or MAXLEN differs. -/
def slotsChanged (old s : State) : List Nat :=
  let ns := ((s.regs.map (·.1)) ++ (old.regs.map (·.1))).filter (fun a => decide (0x900000 ≤ a ∧ a < 0x940000 ∧ a % 16 = 0))
  (distinct (ns.map (fun a => (a - 0x900000) / 16))).filter
    (fun n => s.slotV n != old.slotV n || (s.slotV n && s.slotMax n != old.slotMax n))

/-- Slots follow their new entries: releases first, then allocations in ascending number. -/
def State.slotsFollow (s old : State) : Option State :=
  let ns := slotsChanged old s
  let s1 := ns.foldl (fun s n => if old.slotV n then ((((s.setRf (aSW_SLOT0 n) 26 14 0).setReg (aSW_SLOT1 n) 0).setReg
    (aSW_SLOT3 n) 0).freeSlot n) else s) s
  ns.foldl (fun o n => match o with
    | none => none
    | some s => if s.slotV n then s.allocSlot n (s.slotMax n) else some s) (some s1)

/-! ### The switch commit (R230) -/

/-- The registers of gate lists, which apply with their port's next gate cycle. -/
def isGateReg (a : Nat) : Bool :=
  decide ((0x810000 ≤ a ∧ a < 0x818000 ∧ 8 ≤ a % 256 ∧ a % 256 ≤ 0x14) ∨ (0x840000 ≤ a ∧ a < 0x850000))
/-- The port that a gate register belongs to. -/
def gatePort (a : Nat) : Nat := if a < 0x840000 then (a - 0x810000) / 256 else (a - 0x840000) / 512

/-- The whole pending state of the switch, as the checks see it. -/
def State.swCandidate (s : State) : State := s.applyRange 0x800000 0xC00000

/-- The first failing check, in the order in which R230 lists them. DEDUCED (log 33, 34). -/
def State.swCheck (s : State) : Option SwFail :=
  let c := s.swCandidate
  let L := s.fuse.lanes
  ((firstFail L c.chkWidth).orElse (fun _ => (firstFail L c.chkMask).orElse (fun _ => (firstFail L c.chkGates).orElse
    (fun _ => (firstFail L c.chkAdmissible).orElse (fun _ => c.chkVlan.orElse (fun _ => c.chkStream)))))).orElse
    (fun _ => if (c.slotsFollow s).isNone then some (8, 0, 0) else none)

/-- A port that is no longer configured carries nothing. DEDUCED (log 60). -/
def State.portOff (s : State) (p : Nat) : State :=
  if s.portUp p then ((((s.flushPort p).setPort p Port.zero).markLanes p false).setReg (aSW_PORT_STAT p) 0x100).swEvent 2 else s

/-- Ports follow their new configuration. -/
def State.portsFollow (s old : State) : State :=
  let changed (p : Nat) : Bool := decide (s.reg (aSW_PORT_CFG p) ≠ old.reg (aSW_PORT_CFG p))
  let ps := (List.range s.fuse.lanes).filter (fun p => (List.range 4).any (fun d => decide (d ≤ p) && changed (p - d)))
  ps.foldl (fun s p =>
    let s1 := if s.configured p then s.portLook p else s.portOff p
    if s1.rb (aSW_PORT_CFG p) 28 then s1 else s1.setRf (aSW_PORT_STAT p) 1 1 0) s

/-- Streams whose entry was written: window INIT = 0 (R224), SEQ 0 (R216) and a full bucket; SEEN of a fence entry whose PAIR was written is
cleared (R222); a frame whose processing started before completes under the old tables (R230). -/
def State.entriesFollow (s : State) : State :=
  let ks := (s.touched.map (·.1))
  let is := distinct ((ks.filter (fun a => decide (0xA00000 ≤ a ∧ a < 0xC00000))).map (fun a => (a - 0xA00000) / 32))
  let fs := distinct ((ks.filter (fun a => decide (0x870000 ≤ a ∧ a < 0x880000))).map (fun a => (a - 0x870000) / 8))
  let s1 := is.foldl (fun s i => { s.clearWindow i with seqs := FMap.erase s.seqs i, bucket := FMap.erase s.bucket i }) s
  let s2 := fs.foldl (fun s k => s.setRf (aSW_FENCE1 k) 0 0 0) s1
  s2.mapRx (fun r => { r with late := r.late || is.contains r.stream })

/-- Gate lists wait for their port's next gate cycle; everything else of the switch applies. -/
def State.swTake (s : State) : State :=
  let as := s.listed 0x800000 0xC00000
  let s1 := as.foldl (fun s a =>
    if isGateReg a then
      { s with gateNew := FMap.set (fun _ => none) s.gateNew a (if s.differs a then some (s.pnd a) else none) }
    else s.applyPnd a) s
  let s2 := (s1.slotsFollow s).getD s1
  let gone := slotsChanged s s1
  let s3 := s2.mapRx (fun r => { r with gone := r.gone ++ gone })
  ((s3.portsFollow s).entriesFollow).untouch 0x800000 0xC00000

/-- The switch commit at a tick: refused whole at the first failing check, applied otherwise. -/
def State.swApply (s : State) : State :=
  if s.rb aSW_COMMIT 1 then
    let s0 := s.setReg aSW_COMMIT 0
    match s.swCheck with
    | some (r, p, k) => (s0.setReg aSW_COMMIT_STAT (BitVec.ofNat 32 (p * 65536 + k * 256 + r))).swEvent 8
    | none => ((s0.swTake).setReg aSW_COMMIT_STAT 0).swEvent 8
  else s

/-- `SW_COMMIT.GO` by `src` (R55, R56). -/
def execSwitchCommitGo (src : BitVec 10) (st : State) : Host.Outcome State Fault Refusal :=
  .next (if isVf src.toNat then st else st.setRf aSW_COMMIT 1 1 1)

/-- The switch commit at the next Graticule tick, `dt` clocks on. -/
def execSwitchCommitApply (dt : Nat) (st : State) : Host.Outcome State Fault Refusal :=
  let s := st.elapse dt
  .next (if s.onTick then s.swApply else s)

/-- The gate list of a port applies at the start of its gate cycle (R230). -/
def State.gateApply (s : State) (p : Nat) : State :=
  ((s.gateNew.map (·.1)).filter (fun a => gatePort a == p)).foldl (fun s a =>
    match FMap.get (fun _ => none) s.gateNew a with
    | some w => { s.setReg a (mergeBits (s.reg a) (pendMask a) w) with gateNew := FMap.set (fun _ => none) s.gateNew a none }
    | none => s) s

/-- Port `port` begins a gate cycle, `dt` clocks on, at which a committed list applies. DEDUCED (log 61). -/
def execGateListApply (port : BitVec 7) (dt : Nat) (st : State) : Host.Outcome State Fault Refusal :=
  .next ((st.elapse dt).gateApply port.toNat)

/-! ### The queue commit (R210) -/

/-- The queues whose entry has a listed value, applied or pending. -/
def State.queuesListed (s : State) : List Nat := distinct ((s.listed 0xF00000 0xF80000).map (fun a => (a - 0xF00000) / 16))
/-- Pending word `i` of queue entry `q`. -/
def State.qPnd (s : State) (q i : Nat) : W := mergeBits (s.reg (aQM_Q0 q + 4 * i)) (pendMask (aQM_Q0 q + 4 * i)) (s.pnd (aQM_Q0 q + 4 * i))

/-- The REASON with which a queue commit fails, 0 when it passes: MIN sum, MIN above MAX, a valid queue on a port that is not
configured. DEDUCED (log 58). -/
def State.queueCheck (s : State) : Nat :=
  let qs := s.queuesListed.filter (fun q => bitAt (s.qPnd q 0) 31)
  let bad (q : Nat) : Bool := bitAt (s.qPnd q 0) 31 && !s.configured (fld (s.qPnd q 0) 30 24)
  if 196608 < (qs.map (fun q => fld (s.qPnd q 1) 17 0)).foldl (· + ·) 0 then 1
  else if qs.any (fun q => decide (fld (s.qPnd q 2) 17 0 < fld (s.qPnd q 1) 17 0)) then 2
  else if qs.any bad || (List.range (8 * s.fuse.lanes)).any bad then 3
  else 0

/-- Queue `q` takes its pending entry, or waits with all of it where its owner changes (R169, R210). DEDUCED (log 41). -/
def State.queueTake (s : State) (q : Nat) : State :=
  let ws := [0, 1, 2, 3].map (s.qPnd q)
  let a := aQM_Q0 q
  if ownerIn a (ws.getD 0 0) = s.ownerAt a then
    ([0, 1, 2, 3].foldl (fun s i => s.setWait (a + 4 * i) none) s).writeQueue q ws
  else [0, 1, 2, 3].foldl (fun s i => s.setWait (a + 4 * i) (some (ws.getD i 0))) s

/-- The queue commit at a tick. -/
def State.queueApply (s : State) : State :=
  if s.rb aQM_COMMIT 1 then
    let r := s.queueCheck
    let s0 := (s.setReg aQM_COMMIT 0).setReg aQM_STAT (BitVec.ofNat 32 r)
    if r ≠ 0 then s0
    else
      let qs := s0.queuesListed.filter (fun q => (List.range 4).any (fun i => s0.differs (aQM_Q0 q + 4 * i))
        || (s0.waitAt (aQM_Q0 q)).isSome)
      ((qs.foldl State.queueTake s0).moveBlock 0xF00000 0xF80000).untouch 0xF00000 0xF80000
  else s

/-- `QM_COMMIT.GO` by `src` (R55, R56). -/
def execQueueCommitGo (src : BitVec 10) (st : State) : Host.Outcome State Fault Refusal :=
  .next (if isVf src.toNat then st else st.setRf aQM_COMMIT 1 1 1)

/-- The queue commit at the next Graticule tick, `dt` clocks on. -/
def execQueueCommitApply (dt : Nat) (st : State) : Host.Outcome State Fault Refusal :=
  let s := st.elapse dt
  .next (if s.onTick then s.queueApply else s)

end Sys2Proof.Machine
end

