-- ==== Sys2Proof/Machine/Station.lean ====
section
/-!
DEFINITION. The station unit of the image mover (spec/07 R231 to R236): the mover commit, station ticks and the heartbeat.
-/
namespace Sys2Proof.Machine

/-! ### The station image and device descriptors -/

/-- The store offset of byte `b` of the station image, if the image holds it. -/
def State.stiAt (s : State) (b : Nat) : Option Nat := s.stiPages[b / 4096]?.map (fun g => pageBase 2 g + b % 4096)
/-- Whether the station image holds `n` bytes from `b`. -/
def State.stiHas (s : State) (b n : Nat) : Bool := decide (b + n ≤ 4096 * s.stiPages.length)
/-- The station image word that holds byte `b` is written. -/
def State.stiWrite (s : State) (b : Nat) (w : W) : State :=
  match s.stiAt (b / 4 * 4) with | some a => s.wrMem a w | none => s
/-- Byte `b` of the station image. -/
def State.stiByte (s : State) (b : Nat) : Byte := match s.stiAt b with | some a => s.rdByte a | none => 0
/-- An uncorrectable word among bytes `b` to `b + n − 1` of the station image. -/
def State.stiBad (s : State) (b n : Nat) : Option Nat :=
  (List.range (n + 3)).findSome? (fun k =>
    match s.stiAt (b / 4 * 4 + k) with
    | some a => if s.isBad (a / 4 * 4) then some (a / 4 * 4) else none
    | none => none)

/-- A device descriptor's transfer fails: counted, reported, disabled where `dis` says so (R186). DEDUCED (log 80). -/
def State.devFault (s : State) (i : Nat) (dis : Bool) : State :=
  let s1 := s.count aMOV_DEVFLT_CNT
  (if dis then s1.setRf (aMD_0 i) 27 27 1 else s1).collect 10 cContained 0x0A 0

/-- Whether the device owns the stream that SBOUT descriptor `i` names (R218). -/
def State.devStream (s : State) (i : Nat) : Option Nat :=
  match s.findStream (s.dTarget i) with
  | some e => if s.rb (aSW_ST0 e) 9 && s.rb (aSW_ST0 e) 20 then some e else none
  | none => none

/-- Whether device descriptor `i` names what it may not: a kind not for devices, a field out of range, a resource not the device's,
a slot with V = 0. DEDUCED (log 80). -/
def State.devBad (s : State) (i : Nat) : Bool :=
  let k := s.dKind i
  let t := s.dTarget i
  let w1 := s.reg (aMD_1 i)
  let w2 := s.reg (aMD_2 i)
  let w3 := s.reg (aMD_3 i)
  if k = 8 then decide (32 ≤ t) || !s.fioDev t || !s.fuse.field || decide (2 ^ 19 ≤ w1.toNat) || !s.stiHas (w1.toNat / 8) 1
  else if k = 9 then decide (32 ≤ t) || !s.fioDev t || !s.fuse.field || decide (16384 ≤ w1.toNat) || !s.slotV w1.toNat
    || decide (8192 ≤ w2.toNat)
  else if k = 10 then decide (t ≠ 0) || decide (w1.toNat % 4 ≠ 0) || !s.stiHas w1.toNat 4
  else if k = 11 then decide (s.fuse.cans * 512 ≤ t) || !s.objDev (t / 512) (t % 512) || decide (w1.toNat % 4 ≠ 0) || !s.stiHas w1.toNat 68
  else if k = 12 then decide (s.fuse.cans * 32 ≤ t) || !s.mbDev (t / 32) (t % 32) || decide (16384 ≤ w1.toNat) || !s.slotV w1.toNat
    || decide (64 < fld w3 22 16) || (bitAt w2 30 && !s.stiHas (fld w3 15 0) (fld w3 22 16))
  else if k = 13 then (s.devStream i).isNone || !decide (1 ≤ fld w2 10 0 ∧ fld w2 10 0 ≤ 1024) || !s.stiHas (fld w1 15 0) (fld w2 10 0)
  else true

/-! ### A tick (R232, R233) -/

/-- The descriptors of group `g` in descriptor order. -/
def State.groupDescs (s : State) (g : Nat) : List Nat :=
  s.devDescs.filter (fun i => s.dTask i == g && !s.dDis i && s.dKind i != 0)

/-- One descriptor of the collect phase: SFIN, SSAFE, SCANRX. The 68 B that SCANRX writes have no place for FRESH and REPL, which are
cleared. DEDUCED (log 196). -/
def State.collectDev (s : State) (i : Nat) : State :=
  let w1 := (s.reg (aMD_1 i)).toNat
  if s.dKind i = 8 then
    match s.stiAt (w1 / 32 * 4) with
    | some a => if s.isBad a then (s.storeFault a).devFault i false
        else s.wrMem a (putBit (s.rdMem a) (w1 % 32) (s.rb aFIO_IN (s.dTarget i)))
    | none => s
  else if s.dKind i = 10 then s.stiWrite w1 s.sfWord
  else if s.dKind i = 11 then
    let n := s.dTarget i / 512
    let k := s.dTarget i % 512
    let s1 := ((List.range 17).zip (s.objRecord n k)).foldl (fun s e => s.stiWrite (w1 + 4 * e.1) e.2) s
    ({ s1 with objCopy := FMap.set (fun _ => none) s1.objCopy (n * 512 + k) (some s1.fab) }).ackObj n k
  else s

/-- Whether a channel that an SFIN of group `g` reads shows XS, a latched bit of R305, or UV, OV or OVC of its group (R471). -/
def State.groupFault (s : State) (g : Nat) : Bool :=
  (s.groupDescs g).any (fun i => s.dKind i == 8 &&
    (decide (s.reg (aFIO_DIAG (s.dTarget i)) &&& 0x1F8 ≠ 0) || s.grp (s.dTarget i / 8) 0 || s.grp (s.dTarget i / 8) 1
      || s.grp (s.dTarget i / 8) 2))

/-- One SBOUT: its block from the station image. -/
def State.packDev (s : State) (g : Nat) (r : List (Nat × Block)) (i : Nat) : State × List (Nat × Block) :=
  let len := s.rf (aMD_2 i) 10 0
  let b := s.rf (aMD_1 i) 15 0
  match s.devStream i with
  | none => (s, r)
  | some e =>
    match s.stiBad b len with
    | some a => ((s.storeFault a).devFault i false, r)
    | none =>
      let k := s.mkBlock i (0x8000 + (s.groupFault g).toNat * 0x800) ((List.range len).map (fun j => s.stiByte (b + j)))
      (k.1, r ++ [(e, k.2)])

/-- Safe mode of a descriptor of group `g` that reads slot `n` (R233). -/
def State.safeMode (s : State) (g n : Nat) : Bool :=
  !s.slotFull n || decide (s.rf (aSG_TIMEOUT g) 19 0 * 800 ≤ s.slotAge n) || bitAt (s.reg (aSW_SLOT1 n)) 13

/-- SFOUT `i` of group `g`: the safe state, or the addressed bit of the slot's block. -/
def State.sfout (s : State) (g i : Nat) : State :=
  let n := s.rf (aMD_1 i) 13 0
  let c := s.dTarget i
  let b := s.rf (aMD_2 i) 12 0
  if s.safeMode g n then
    (let v := s.rf (aFIO_CFG c) 29 28
     if v = 0 then s.pass c false else if v = 1 then s.pass c true else s)
  else s.pass c (((s.slotData n).getD (b / 8) 0).getLsbD (b % 8))

/-- SCANTX loads `d` into its mailbox and requests transmission: identifier, FDF and BRS are the mailbox's own (R355). -/
def State.scantxLoad (s : State) (i : Nat) (d : List Byte) : State :=
  let n := s.dTarget i / 32
  let m := s.dTarget i % 32
  if s.mbPend n m then s
  else
    let w0 := (s.mbCtl n m &&& 0xC0000000) ||| BitVec.ofNat 32 (dlcFor d.length * 2 ^ 24)
    s.mbLoad n m (s.reg (aMB_ID n m)) (w0 :: frameWords d d.length)

/-- SCANTX `i` of group `g`. -/
def State.scantx (s : State) (g i : Nat) : State :=
  let n := s.rf (aMD_1 i) 13 0
  let w2 := s.reg (aMD_2 i)
  let len := s.rf (aMD_3 i) 22 16
  if s.safeMode g n then
    (if bitAt w2 30 then
      (let b := s.rf (aMD_3 i) 15 0
       match s.stiBad b len with
       | some a => (s.storeFault a).devFault i false
       | none => s.scantxLoad i ((List.range len).map (fun j => s.stiByte (b + j))))
     else s)
  else if bitAt w2 31 ∨ FMap.get (fun _ => 0) s.sgTick g ≤ FMap.get (fun _ => 0) s.slotT n then
    s.scantxLoad i ((List.range len).map (fun j => (s.slotData n).getD (fld w2 9 0 + j) 0))
  else s

/-- One descriptor of the apply phase; an uncorrectable word of the slot's buffer discards it (R186). -/
def State.applyDev (s : State) (g i : Nat) : State :=
  let n := s.rf (aMD_1 i) 13 0
  if s.slotPageBad n ∧ Config.bufferBad s.fresh then (s.useFresh.slotError n).devFault i false
  else
    let s1 := if s.slotPageBad n then s.useFresh else s
    if s1.dKind i = 9 then s1.sfout g i else s1.scantx g i

/-- The phases of one tick of group `g`: disable what may not run, collect, pack, apply. -/
def State.stationTick (s : State) (g : Nat) : State :=
  let s1 := (s.groupDescs g).foldl (fun s i => if s.devBad i then s.devFault i true else s) s
  let ds := s1.groupDescs g
  let s2 := (ds.filter (fun i => [8, 10, 11].contains (s1.dKind i))).foldl State.collectDev s1
  let r := (ds.filter (fun i => s1.dKind i == 13)).foldl (fun r i => r.1.packDev g r.2 i) (s2, [])
  let s3 := r.1.sendAll false false r.2
  let s4 := (ds.filter (fun i => [9, 12].contains (s1.dKind i))).foldl (fun s i => s.applyDev g i) s3
  { s4.advance (aSG_TICKS g) with sgTick := FMap.set (fun _ => 0) s4.sgTick g (s4.fab + 1) }

/-- Whether `g` is a grid instant of station group `grp` at Meridian time `t`. DEDUCED (log 82). -/
def State.groupGrid (s : State) (grp : Nat) (t : W64) : Bool :=
  let T := s.rf (aSG_PERIOD grp) 23 0
  s.rb (aSG_PERIOD grp) 31 && decide (0 < T ∧ t.toNat / 1000 % T = s.rf (aSG_PHASE grp) 23 0)

/-- Station group `g` ticks, `dt` clocks on; no instant that a step jumped over acts (R277). -/
def execStationTick (g : BitVec 4) (dt : Nat) (st : State) : Host.Outcome State Fault Refusal :=
  let s := st.elapse dt
  .next (if s.moverUp && s.onTick && decide (s.merMark.toNat < s.grid.toNat) && s.groupGrid g.toNat s.grid then s.stationTick g.toNat else s)

/-- The station unit runs: the mover works and the L-die domains are released. -/
def State.stationUp (s : State) : Bool := s.moverUp && decide (5 ≤ s.rf aRST_BOOTPH 3 0)
/-- The station unit sends the heartbeat to the F-die, every 100 µs (R236). -/
def execHeartbeatSend (dt : Nat) (st : State) : Host.Outcome State Fault Refusal :=
  let s := st.elapse dt
  let due : Bool := match s.hbSent with | some t => decide (t + 80000 ≤ s.fab) | none => true
  .next (if s.stationUp ∧ due then { s with hbSent := some s.fab, hbLink := if s.rb aFIO_BSTAT 1 then s.hbLink else s.hbLink + 1 } else s)

/-! ### The mover commit (R231, R235) -/

/-- Whether two ranges of descriptors overlap. -/
def overlap (f1 c1 f2 c2 : Nat) : Bool := decide (0 < c1 ∧ 0 < c2 ∧ f1 < f2 + c2 ∧ f2 < f1 + c1)
/-- Whether a range overlaps the applied or pending range of a partition other than `skip`. -/
def State.hitsPart (s : State) (f c : Nat) (skip : Option Nat) : Bool :=
  s.created.any (fun p => skip != some p &&
    (overlap f c (s.rf (aPD_MOV_RANGE p) 15 0) (s.rf (aPD_MOV_RANGE p) 31 16)
      || overlap f c (fld (s.pnd (aPD_MOV_RANGE p)) 15 0) (fld (s.pnd (aPD_MOV_RANGE p)) 31 16)))

/-- The state with the pending station registers and device descriptors applied. -/
def State.movCandidate (s : State) : State :=
  let c := s.applyRange 0x500000 0x510000
  let f := c.rf aMOV_DEV_RANGE 15 0
  c.applyRange (aMD_0 f) (aMD_0 (f + c.rf aMOV_DEV_RANGE 31 16))

/-- Clocks of the collect and pack descriptors of the enabled groups (R235). -/
def State.groupCost (c : State) : Nat :=
  (c.devDescs.map (fun i =>
    if c.rb (aSG_PERIOD (c.dTask i)) 31 = false then 0
    else if c.dKind i = 8 ∨ c.dKind i = 10 then 2 else if c.dKind i = 11 then 4
    else if c.dKind i = 13 then 8 + (c.rf (aMD_2 i) 10 0 + 63) / 64 else 0)).foldl (· + ·) 0

/-- The free image pages in ascending number. -/
def State.freeImages (s : State) : List Nat := pagesWhere (fun g => s.pgState 2 g == pgFree) 4096 0

/-- `MOV_STAT.REASON` of a commit with candidate `c`. -/
def State.movCheck (s c : State) : Nat :=
  let f := c.rf aMOV_DEV_RANGE 15 0
  let n := c.rf aMOV_STI 4 0
  if s.hitsPart f (c.rf aMOV_DEV_RANGE 31 16) none then 1
  else if n ≠ s.stiPages.length ∧ (16 < n ∨ s.freeImages.length < n) then 2
  else if 1520 < c.groupCost then 3
  else if (List.range 16).any (fun g => c.rb (aSG_PERIOD g) 31 &&
      !decide (20 ≤ c.rf (aSG_PERIOD g) 23 0 ∧ c.rf (aSG_PERIOD g) 23 0 ≤ 100000 ∧ c.rf (aSG_PHASE g) 23 0 < c.rf (aSG_PERIOD g) 23 0)) then 4
  else 0

/-- The station image takes its size: new zeroed pages, the old ones leave the device. DEDUCED (log 81). -/
def State.stiTake (s : State) : State :=
  let n := s.rf aMOV_STI 4 0
  if n = s.stiPages.length then s
  else
    let new := s.freeImages.take n
    let s1 := s.stiPages.foldl (fun s g => s.leaveOwner 2 g) s
    { new.foldl (fun s g => s.setPage 2 g pgDevice 0) s1 with stiPages := new }

/-- The descriptors written since their last commit, from `f` on, `n` of them: MSEQ 0 and DIS cleared (R186, R216). DEDUCED (log 81). -/
def State.descsFollow (s : State) (f n : Nat) : State :=
  ((List.range n).map (f + ·)).foldl (fun s i =>
    if (List.range 4).any (fun k => s.wasTouched (aMD_0 i + 4 * k)) then
      { s.setRf (aMD_0 i) 27 27 0 with mseqs := FMap.erase s.mseqs i, lastOut := FMap.erase s.lastOut i }
    else s) s

/-- The mover commit at a tick. -/
def State.movApply (s : State) : State :=
  if s.rb aMOV_COMMIT 1 then
    let c := s.movCandidate
    let r := s.movCheck c
    let s0 := (s.setReg aMOV_COMMIT 0).setReg aMOV_STAT (BitVec.ofNat 32 r)
    if r ≠ 0 then s0
    else
      let s1 := s0.movCandidate.stiTake
      let f := s1.rf aMOV_DEV_RANGE 15 0
      let n := s1.rf aMOV_DEV_RANGE 31 16
      ((s1.descsFollow f n).untouch (aMD_0 f) (aMD_0 (f + n))).untouch 0x500000 0x510000
  else s

/-- `MOV_COMMIT.GO` by `src` (R55, R56). -/
def execMoverCommitGo (src : BitVec 10) (st : State) : Host.Outcome State Fault Refusal :=
  .next (if isVf src.toNat then st else st.setRf aMOV_COMMIT 1 1 1)

/-- The mover commit at the next Graticule tick, `dt` clocks on. -/
def execMoverCommitApply (dt : Nat) (st : State) : Host.Outcome State Fault Refusal := .next ((st.elapse dt).movApply)

/-- A write of `MOV_DEV_RANGE` by `src`: refused where the range would run past descriptor 61,439. -/
def execMovDevRangeWrite (src : BitVec 10) (data : W) (st : State) : Host.Outcome State Fault Refusal :=
  .next (if isVf src.toNat then st
    else if st.rb aMOV_COMMIT 1 then st.refuse src.toNat (accSpace src.toNat) aMOV_DEV_RANGE 4
    else if 61440 < fld data 31 16 + fld data 15 0 ∨ 4096 < fld data 31 16 then
      st.refuse src.toNat (accSpace src.toNat) aMOV_DEV_RANGE 0x0A
    else { st.setPnd aMOV_DEV_RANGE data with touched := FMap.set (fun _ => false) st.touched aMOV_DEV_RANGE true })

end Sys2Proof.Machine
end

