-- ==== Sys2Proof/Machine/Edit.lean ====
section
/-!
DEFINITION. The online edit of a partition (spec/05 R154 to R162; spec/06 R169, R175 to R177, R186): checks, edit boundary,
migration, and what applies when the boundary pause ends.
-/
namespace Sys2Proof.Machine

/-! ### The pending maps -/

/-- The entries of partition `p` that map a page in `m`: store and physical page, in ascending entry. -/
def pagesOf (m : FMap W) (p : Nat) : List (Nat × Nat) :=
  (m.filter (fun e => decide (p * entriesPerPart ≤ e.1 ∧ e.1 < (p + 1) * entriesPerPart) && entV e.2)).map
    (fun e => (entryKind (e.1 % entriesPerPart), entPPN e.2))

/-- The keys of partition `p`'s entries whose pending value differs from the applied one. -/
def State.changedEntries (s : State) (p : Nat) : List Nat :=
  (List.range entriesPerPart).filterMap (fun i =>
    if s.entA (p * entriesPerPart + i) = s.entP (p * entriesPerPart + i) then none else some (p * entriesPerPart + i))

/-- The index of the first descriptor of `p`'s pending range. -/
def State.newFirst (s : State) (p : Nat) : Nat := fld (s.pnd (aPD_MOV_RANGE p)) 15 0
/-- The length of `p`'s pending range. -/
def State.newCount (s : State) (p : Nat) : Nat := fld (s.pnd (aPD_MOV_RANGE p)) 31 16
/-- The mover descriptors that an edit of `p` changes. DEDUCED (log 90). -/
def State.changedDescs (s : State) (p : Nat) : Nat :=
  ((List.range (s.newCount p)).filter (fun i =>
    (List.range 4).any (fun k => s.differs (aMD_0 (s.newFirst p + i) + 4 * k)))).length

/-- The offsets of `n` words of word space from `w` through the map `ent`, wrapping at 2^21; none with the corrupt entry, if that
was the reason. -/
def State.locsIn (s : State) (ent : Nat → W) (p w : Nat) : Nat → Except (Option Nat) (List Nat)
  | 0 => .ok []
  | n + 1 =>
    match s.lookIn ent p 1 (w % 2 ^ 21) with
    | .at a => (s.locsIn ent p (w + 1) n).map (fun l => a :: l)
    | .unmapped => .error none
    | .corrupt k => .error (some k)

/-! ### The migration table -/

/-- A migration entry. -/
structure Move where
  src : W
  dst : W
  len : Nat
  deriving DecidableEq, Repr

/-- The migration entries that a list of words spells. -/
def movesOf : List W → List Move
  | a :: b :: c :: r => { src := a, dst := b, len := c.toNat } :: movesOf r
  | _ => []

/-- CNT of the pending header of `p`. -/
def State.migCount (s : State) (p : Nat) : Nat := fld (s.pnd (aHDR_MIG p)) 31 24
/-- Where the migration table of `p` stands in the applied data map. DEDUCED (log 86). -/
def State.migTable (s : State) (p : Nat) : Except (Option Nat) (List Nat) :=
  s.locsIn s.entA p (fld (s.pnd (aHDR_MIG p)) 20 0) (3 * s.migCount p)
/-- The words a migration moves. -/
def moved (ms : List Move) : Nat := (ms.map (·.len)).foldl (· + ·) 0

/-- Whether a move names words that are all mapped, sources in the old map and destinations in the new one, with no bit above 20. -/
def State.moveOk (s : State) (p : Nat) (m : Move) : Bool :=
  decide (m.src.toNat < 2 ^ 21 ∧ m.dst.toNat < 2 ^ 21)
    && (s.locsIn s.entA p m.src.toNat m.len).isOk && (s.locsIn s.entP p m.dst.toNat m.len).isOk

/-- The lowest-addressed uncorrectable entry that check 0x03 meets, if any (R174). -/
def State.migCorrupt (s : State) (p : Nat) : Option Nat :=
  match s.migTable p with
  | .error k => k
  | .ok as => (movesOf (as.map s.rdMem)).findSome? (fun m =>
      match s.locsIn s.entA p m.src.toNat m.len, s.locsIn s.entP p m.dst.toNat m.len with
      | .error k, _ => k
      | _, .error k => k
      | _, _ => none)

/-! ### The checks (R156, R177) -/

/-- Whether a list names one value twice. -/
def hasTwin {α : Type} [DecidableEq α] : List α → Bool
  | [] => false
  | a :: l => l.contains a || hasTwin l

/-- Checks 0x04 to 0x08. -/
def State.lateReason (s : State) (p : Nat) : Nat :=
  let ent (t : Nat) : Nat := fld (s.pnd (aHDR_ENTRY p t)) 19 0
  if (List.range 9).any (fun t => s.enabled p t && !entV (s.entP (entryKey p 0 (ent t / 4096)))) then 4
  else if s.dtMismatch (s.pnd (aHDR_TABLE_ID p)) (s.pnd (aHDR_USED_LO p)) (s.pnd (aHDR_USED_HI p)) then 5
  else if 2048 < s.changedDescs p then 6
  else if hasTwin (pagesOf s.trP p) then 8
  else 0

/-- The REASON of the first failing check of the pending edit of `p`, 0 when it passes. -/
def State.editReason (s : State) (p : Nat) : Nat :=
  if 64 < s.migCount p then 2
  else match s.migTable p with
    | .error _ => 3
    | .ok as =>
      let ms := movesOf (as.map s.rdMem)
      if 16384 < moved ms then 2
      else if (s.locsIn s.entP p (fld (s.pnd (aHDR_MIG p)) 20 0) (3 * s.migCount p)).toOption ≠ some as then 3
      else if ms.all (s.moveOk p) = false then 3
      else s.lateReason p

/-- TB, which waited for the commit, starts its next pass in Run, and so does a step (R157). -/
def State.wakeTb (s : State) (p : Nat) : State :=
  (if s.mode p = 2 ∧ s.tstate p 8 = tIdle then (if s.enabled p 8 then s.startTb p else s.setTState p 8 tOff) else s).wakeStep p

/-- The edit of `p` ends with REASON `r` and the events `bits`: PENDING clears (R156). -/
def State.editEnd (s : State) (p r : Nat) (bits : W) : State :=
  let s1 := { (s.setReg (aPD_COMMIT p) 0).setRf (aPD_EDIT_STAT p) 15 8 r with ruEdit := FMap.set (fun _ => none) s.ruEdit p none }
  (s1.setPart p { s1.part p with edit := none, pause := none }).pdEvent p bits

/-- A refused edit keeps its pending values (R56). -/
def State.editRefuse (s : State) (p r : Nat) : State := (s.editEnd p r evEditRef).wakeTb p

/-- `PD_COMMIT.GO` by `src` (R55, R56, R156, R472): read-only through a VF, ignored while PENDING. DESIGN CHOICE (log 22). -/
def State.commitGo (s : State) (src p : Nat) : State :=
  if isVf src ∨ s.fuse.partitions ≤ p then s
  else if s.mode p = 0 then s.refuse src (accSpace src) (accOff src p 0x60) 0x0A
  else if s.editPending p then s
  else
    let s1 := s.setReg (aPD_COMMIT p) 2
    let r := s1.editReason p
    if r = 0 then s1.setPart p { s1.part p with edit := some (s1.ptime p) }
    else
      let s2 := if r = 3 then (match s1.migCorrupt p with | some k => s1.entryFault k | none => s1) else s1
      s2.editRefuse p r

/-- `PD_COMMIT.GO`; the checks take effect at once (log 22). -/
def execEditCommitGo (src : BitVec 10) (p : BitVec 9) (st : State) : Host.Outcome State Fault Refusal :=
  .next (st.commitGo src.toNat p.toNat)

/-! ### The edit boundary (R157) -/

/-- Whether entry `t` stands between passes: Idle, or Held from Idle in Hold, or Off once its EN has cleared. -/
def State.between (s : State) (p t : Nat) : Bool :=
  (!s.enabled p t && s.tstate p t == tOff) || (if s.mode p = 3 then s.tstate p t == tHeld && (s.task p t).held == tIdle && !(s.task p t).stepping
    else s.tstate p t == tIdle)

/-- Whether a standby copy has its EDIT frame and no pass stamped before it is in hand (R266). -/
def State.editReleased (s : State) (p : Nat) : Bool :=
  !s.standbyCopy p || (match FMap.get (fun _ => none) s.ruEdit p with
    | none => false
    | some (w : W) => (List.range 8).all (fun t => (s.shad p t).vecs.all (fun v => decide ((v.1 - w).toNat < 2 ^ 31))))

/-- Whether the edit boundary of `p` holds now. -/
def State.editReady (s : State) (p : Nat) : Bool :=
  (s.part p).edit.isSome && !s.inPause p && s.moverUp && s.editReleased p &&
    (if s.mode p = 1 then !(s.part p).stopping else (List.range 9).all (s.between p) && !s.dtPending)

/-! ### The migration (R161) -/

/-- A read of the words at `as`, or the first uncorrectable one. -/
def State.readAll (s : State) (as : List Nat) : Except Nat (List W) :=
  match as.find? s.isBad with | some a => .error a | none => .ok (as.map s.rdMem)

/-- One migration entry: the whole source through the old map, then the whole destination through the new one; the flag is false after a
fault. A destination page that faults leaves every word of the entry unwritten: the spec does not say how far the writes had come.
DESIGN CHOICE (log 87). -/
def State.migrateOne (s : State) (p : Nat) (m : Move) : State × Bool :=
  match s.locsIn s.entA p m.src.toNat m.len with
  | .error k => (s.badEntry k, false)
  | .ok as =>
    match s.readAll as with
    | .error a => (s.storeFault a, false)
    | .ok ws =>
      match s.locsIn s.entP p m.dst.toNat m.len with
      | .error k => (s.badEntry k, false)
      | .ok bs => (s.wrAll bs ws, true)

/-- Migration entry `k` of the pending header of `p`, read when its turn comes; none where a word cannot be read. DEDUCED (log 86). -/
def State.readMove (s : State) (p k : Nat) : State × Option Move :=
  match s.locsIn s.entA p (fld (s.pnd (aHDR_MIG p)) 20 0 + 3 * k) 3 with
  | .error e => (s.badEntry e, none)
  | .ok as => match s.readAll as with | .error a => (s.storeFault a, none) | .ok ws => (s, (movesOf ws).head?)

/-- `n` entries in order from entry `k`, up to the first fault; the entries moved, or none after a fault. DEDUCED (log 86). -/
def State.migrateAll (s : State) (p : Nat) : Nat → Nat → State × Option (List Move)
  | 0, _ => (s, some [])
  | n + 1, k =>
    match s.readMove p k with
    | (s1, none) => (s1, none)
    | (s1, some m) =>
      let r := s1.migrateOne p m
      if r.2 then (let q := r.1.migrateAll p n (k + 1); (q.1, q.2.map (fun l => m :: l))) else (r.1, none)

/-- Clocks of a pause with moves `ms` (R159). -/
def State.pauseLen (s : State) (p : Nat) (ms : List Move) : Nat :=
  64 + (s.changedEntries p).length + 2 * s.changedDescs p + (ms.map (fun m => 16 + (m.len + 1) / 2)).foldl (· + ·) 0

/-- The pause of `p` begins, with a migration that faulted or not. DESIGN CHOICE (log 88). -/
def State.beginPause (s : State) (p len : Nat) (fault : Bool) : State :=
  s.setPart p { s.part p with pause := some { start := s.fab, len := len, fault := fault } }

/-- The boundary pause of `p` starts and its migration runs (R159, R161). -/
def State.boundary (s : State) (p : Nat) : State :=
  match s.migrateAll p (s.migCount p) 0 with
  | (s1, none) => (s1.useFresh).beginPause p (Config.earlyPause s1.fresh).toNat true
  | (s1, some ms) => s1.beginPause p (s.pauseLen p ms) false

/-- The edit boundary of `p`, `dt` clocks on; nothing happens where it does not hold. DEDUCED (log 85). -/
def execEditBoundary (p : BitVec 9) (dt : Nat) (st : State) : Host.Outcome State Fault Refusal :=
  let s := st.elapse dt
  .next (if s.editReady p.toNat then s.boundary p.toNat else s)

/-! ### The end of the pause (R155, R158, R160, R162, R169, R176) -/

/-- The pages whose ownership word names partition `p` with state `v`, in the order program, data, image. -/
def State.pagesIn (s : State) (p v : Nat) : List (Nat × Nat) :=
  (s.regs.filter (fun e => decide (aTR_OWN_PROG 0 ≤ e.1 ∧ e.1 < aTR_OWN_IMG 4096 ∧ fld e.2 31 29 = v ∧ fld e.2 25 16 = p))).map
    (fun e => if e.1 < aTR_OWN_DATA 0 then (0, (e.1 - aTR_OWN_PROG 0) / 4)
      else if e.1 < aTR_OWN_IMG 0 then (1, (e.1 - aTR_OWN_DATA 0) / 4) else (2, (e.1 - aTR_OWN_IMG 0) / 4))

/-- The pending entries of `p` become the applied ones. -/
def State.applyMap (s : State) (p : Nat) : State :=
  let lo := p * entriesPerPart
  let hi := (p + 1) * entriesPerPart
  let ch := s.changedEntries p
  { s with
    trA := s.trA.filter (fun e => decide (e.1 < lo)) ++ s.trP.filter (fun e => decide (lo ≤ e.1 ∧ e.1 < hi))
      ++ s.trA.filter (fun e => decide (hi ≤ e.1))
    trBad := FMap.forget (fun k => ch.contains k) s.trBad }

/-- `PD_PAGES_PD` and `PD_PAGES_IMG` follow the applied map. -/
def State.countMapped (s : State) (p : Nat) : State :=
  let n (lo hi : Nat) : Nat := ((List.range (hi - lo)).filter (fun i => entV (s.entA (p * entriesPerPart + lo + i)))).length
  (s.setReg (aPD_PAGES_PD p) (BitVec.ofNat 32 (n 0 256 * 65536 + n 256 2304))).setReg (aPD_PAGES_IMG p)
    (BitVec.ofNat 32 (n 2368 2432 * 65536 + n 2304 2368))

/-- Pages change state with an applied map (R176): a Staged page it names is Owned, an Owned page it does not name leaves. -/
def State.settlePages (s : State) (p : Nat) : State :=
  let named := pagesOf s.trA p
  let s1 := ((s.pagesIn p pgStaged).filter named.contains).foldl (fun s e => s.setRf (ownAddr e.1 e.2) 31 29 pgOwned) s
  ((s1.pagesIn p pgOwned).filter (fun e => !named.contains e)).foldl (fun s e => s.leaveOwner e.1 e.2) s1

/-- The pending header, context base, range and descriptors of `p` apply. -/
def State.applyDescriptor (s : State) (p : Nat) : State :=
  let h := aHDR_TABLE_ID p
  let s1 := (s.applyRange h (h + 0x80)).applyRange (aPD_CTX_BASE p) (aPD_CTX_BASE p + 8)
  let f := s1.rf (aPD_MOV_RANGE p) 15 0
  let n := s1.rf (aPD_MOV_RANGE p) 31 16
  ((s1.applyRange (aMD_0 f) (aMD_0 (f + n))).descsFollow f n).untouch (aMD_0 f) (aMD_0 (f + n))

/-- The stamp in µs of the first pass of `p` after the boundary (R266): a release put off by the pause, else the next grid instant. DEDUCED (log 84). -/
def State.nextStamp (s : State) (p : Nat) : Nat :=
  let us := s.now.toNat / 1000
  let cand := ((List.range 8).filter (fun t => s.enabled p t)).map (fun t =>
    match (s.task p t).deferred with
    | some g => g.toNat / 1000
    | none =>
      let T := s.rf (aTT_PERIOD p t) 23 0
      us + 1 + (s.rf (aTT_PHASE p t) 23 0 + T - (us + 1) % T) % T)
  if s.mode p = 2 then
    (BitVec.ofNat 64 ((cand.foldl (fun b g => if b = 0 then g else min b g) 0) * 1000) - s.reg64 (aPD_OFFSET_LO p)).toNat / 1000 % 2 ^ 32
  else (s.ptime p).toNat / 1000 % 2 ^ 32

/-- An ACTIVE member tells the standby (R266, table "MIRROR kinds"). -/
def State.mirrorEdit (s : State) (p : Nat) : State :=
  if s.pairPart p && s.ruRole == 3 then s.sendMirror 5 0 p (s.nextStamp p) 0 (beBytes 4 (s.reg (aHDR_VERSION p)).toNat) else s

/-- The edit of `p` has applied: COUNT, EDITOK. -/
def State.applyEdit (s : State) (p : Nat) : State :=
  let s1 := (((((s.abandonCopy p).applyMap p).settlePages p).applyDescriptor p).countMapped p).movePart p
  ((s1.setRf (aPD_EDIT_STAT p) 31 16 (s1.rf (aPD_EDIT_STAT p) 31 16 + 1)).editEnd p 0 evEditOk).mirrorEdit p

/-- A migration that did not complete: staged pages are zero again, REASON 0x07, contained (table "Faults at each point"). DESIGN CHOICE (log 87). -/
def State.failEdit (s : State) (p : Nat) : State :=
  let s1 := ((s.pagesIn p pgStaged).filter (fun e => e.1 != 0)).foldl (fun s e => s.clearPage e.1 e.2) s
  (((s1.noteLocal p).collect 23 cContained 0x0A p).editEnd p 7 evEditRef)

/-- What waited for the pause: releases (R160), TB, a Stop or a Hold (R158). DEDUCED (log 89). -/
def State.afterPause (s : State) (p : Nat) : State :=
  let s1 := ((List.range 8).foldl (fun s t =>
    if s.ruCap.contains (p * 16 + t) then s else (s.releaseDeferred p t).shadowStart p t) s).wakeTb p
  match (s1.part p).cmd with
  | some .stop => if s1.mode p = 2 ∨ s1.mode p = 3 then s1.stopPart p 1 0 else s1
  | some .hold =>
    (match s1.holdRefusal p with
     | some r => s1.endCmd p r
     | none => if s1.mode p = 2 then (s1.enterHold p 0).endCmd p 0 else s1.endCmd p 1)
  | _ => s1

/-- The pause of `p` ends after `clk` clocks, its migration done or not. -/
def State.endPause (s : State) (p clk : Nat) (fault : Bool) : State :=
  let s1 := s.setReg (aPD_EDIT_PAUSE p) (BitVec.ofNat 32 (clk % 65536))
  ((if fault then s1.failEdit p else s1.applyEdit p).afterPause p)

/-- Whether the edit of `p` changes its program header. -/
def State.headerChanges (s : State) (p : Nat) : Bool := (List.range 32).any (fun i => s.differs (aHDR_TABLE_ID p + 4 * i))

/-- The boundary pause of `p` ends, `dt` clocks on (R159); a commit that changes the header waits while a switch of the decode table is
pending (R119). DEDUCED (log 85). -/
def execBoundaryPauseEnd (p : BitVec 9) (dt : Nat) (st : State) : Host.Outcome State Fault Refusal :=
  let s := st.elapse dt
  .next (match (s.part p.toNat).pause with
    | some q => if q.start + q.len ≤ s.fab ∧ ¬ (s.dtPending ∧ s.headerChanges p.toNat ∧ q.fault = false) then s.endPause p.toNat q.len q.fault else s
    | none => s)

/-- The edit of `p` finds no boundary within 1 s of time in Run (R156, R157). -/
def execEditTimeout (p : BitVec 9) (dt : Nat) (st : State) : Host.Outcome State Fault Refusal :=
  let s := st.elapse dt
  .next (match (s.part p.toNat).edit with
    | some t => if s.mode p.toNat = 2 ∧ s.inPause p.toNat = false ∧ t.toNat + 1000000000 ≤ (s.ptime p.toNat).toNat then
        s.editRefuse p.toNat 1 else s
    | none => s)

end Sys2Proof.Machine
end

