-- ==== Sys2Proof/Machine/NvArray.lean ====
section
/-!
DEFINITION. The NV array of the F-die: pages of 256 B, each with a completion mark (spec/15 R400 to R404).
-/
namespace Sys2Proof.Machine

/-- Page `n` of the array: its bytes, or none without a completion mark (R403). -/
def State.nvPage (s : State) (n : Nat) : Option (List Byte) := FMap.get (fun _ => none) s.nv n
/-- Write page `n`: 256 bytes, zeros after the data. -/
def State.putNv (s : State) (n : Nat) (bs : List Byte) : State :=
  { s with nv := FMap.set (fun _ => none) s.nv n (some ((bs ++ List.replicate (256 - bs.length) (0 : Byte)).take 256)),
           nvBad := FMap.set (fun _ => false) s.nvBad n false }
/-- Erase page `n`. DEDUCED (log 117). -/
def State.eraseNv (s : State) (n : Nat) : State :=
  { s with nv := FMap.set (fun _ => none) s.nv n none, nvBad := FMap.set (fun _ => false) s.nvBad n false }
/-- Whether page `n` holds an uncorrectable word. -/
def State.nvIsBad (s : State) (n : Nat) : Bool := FMap.get (fun _ => false) s.nvBad n
/-- The bytes of `k` pages from `n`, if every one can be read. -/
def State.nvPages (s : State) (n : Nat) : Nat → Option (List Byte)
  | 0 => some []
  | k + 1 =>
    match s.nvPage n, s.nvPages (n + 1) k with
    | some b, some bs => if s.nvIsBad n then none else some (b ++ bs)
    | _, _ => none
/-- Write data over as many pages as it takes, from `n` on. -/
def State.putNvPages (s : State) (n : Nat) (bs : List Byte) : Nat → State
  | 0 => s
  | k + 1 => (s.putNv n (bs.take 256)).putNvPages (n + 1) (bs.drop 256) k
/-- The little-endian word at byte `i` of a list (R466). -/
def wordAt (l : List Byte) (i : Nat) : W := wordOfBytes (l.getD i 0) (l.getD (i + 1) 0) (l.getD (i + 2) 0) (l.getD (i + 3) 0)

end Sys2Proof.Machine
end

