-- ==== Sys2Proof/Machine/EventRec.lean ====
section
/-!
DEFINITION. The event recorder (spec/15 R414 to R421): rate limit, staging, the event store, and freezing, reading and clearing it.
-/
namespace Sys2Proof.Machine

/-- An event of the recorder's group. -/
def State.evrEvent (s : State) (bits : W) : State := s.groupEvent aEVR_EVT_SEQ aEVR_EVT aEVR_EVT_EN aEVR_EVT_VEC bits
/-- Whether the recorder admits nothing now: NV recall, an F-die core restart (R402), a power-fail save (R413). -/
def State.evrShut (s : State) : Bool := s.nvBlock || s.pfHold
/-- `EVR_STAT.FROZEN`. -/
def State.frozen (s : State) : Bool := s.rb aEVR_STAT 2
/-- `EVR_STAT.FPEND`: a FREEZE waits for the page writes before it (R419). -/
def State.fpend (s : State) : Bool := s.rb aEVR_STAT 1
/-- Whether requester `src` is the holder: of the freeze, or of one that waits (R419). -/
def State.isHolder (s : State) (src : Nat) : Bool := (s.frozen || s.fpend) && (s.rb aEVR_STAT 3 == decide (src = 0x3FE))
/-- Whether requester `src` holds the freeze. -/
def State.holds (s : State) (src : Nat) : Bool := s.frozen && (s.rb aEVR_STAT 3 == decide (src = 0x3FE))

/-! ### Counters for the stamp (R406, R414) -/

/-- `NV_OPHF` now. DEDUCED (log 118). -/
def State.ophf (s : State) : Nat := min 4095 (s.rf aNV_OPHF 11 0 + (s.fab - s.opAt) / 703125000)
/-- The header of a record of code, severity, body length and origin (0 hardware, 2 partition), `supp` its code's suppressed records. -/
def State.evHeader (s : State) (code sev len origin part supp : Nat) : List W :=
  [BitVec.ofNat 32 (code * 65536 + sev * 8192 + len * 128 + origin * 32),
   BitVec.ofNat 32 (min supp 255 * 2 ^ 24 + s.rf aNV_PCC 23 0),
   BitVec.ofNat 32 (s.rf aNV_OPH 31 8 * 256),
   BitVec.ofNat 32 (s.ophf * 2 ^ 20 + (if origin = 2 then part * 1024 else 0))]
/-- Bytes of a record. -/
def EvStored.bytes (r : EvStored) : Nat := 16 + 4 * r.body.length
/-- SEV of a record. -/
def EvStored.sev (r : EvStored) : Nat := fld (r.hdr.getD 0 0) 15 13

/-! ### Admission (R416) -/

/-- The bucket of a code: tokens and suppressed records. -/
def State.bkt (s : State) (code : Nat) : Nat × Nat := FMap.get (fun _ => (16, 0)) s.evBkt code
/-- Set the bucket of a code. -/
def State.setBkt (s : State) (code : Nat) (v : Nat × Nat) : State := { s with evBkt := FMap.set (fun _ => (16, 0)) s.evBkt code v }
/-- Staging holds `l`. -/
def State.setStage (s : State) (l : List EvStored) : State := { s with evStage := l }.setRf aEVR_STAT 14 8 l.length
/-- Admit a record to staging, or count why not; the flag says that it was admitted. -/
def State.admission (s : State) (code sev origin part : Nat) (body : List W) : State × Bool :=
  let b := s.bkt code
  if b = (16, 0) ∧ 1024 ≤ s.evBkt.length then (s.count aEVR_CNT_NOBKT, false)
  else if b.1 = 0 then ((s.setBkt code (0, min (b.2 + 1) 255)).count aEVR_CNT_SUPP, false)
  else if 64 ≤ s.evStage.length then (s.count aEVR_CNT_STGOVF, false)
  else
    let r : EvStored := { hdr := s.evHeader code sev body.length origin part b.2, body := body }
    ((s.setBkt code (b.1 - 1, 0)).setStage (s.evStage ++ [r]), true)
/-- The oldest record passed to the recorder is decided on. -/
def execEventAdmission (st : State) : Host.Outcome State Fault Refusal :=
  .next (if st.evrShut then st
    else match st.evPass with
      | [] => st
      | r :: l => ({ st with evPass := l }.admission r.code.toNat r.sev.toNat 0 0 r.body).1)
/-- A code's bucket gains a token while it is below 16. -/
def execTokenRefill (code : BitVec 16) (st : State) : Host.Outcome State Fault Refusal :=
  let b := st.bkt code.toNat
  .next (if b.1 < 16 then st.setBkt code.toNat (b.1 + 1, b.2) else st)

/-- EVREC of partition `p`: body length, code, translation, admission, in this order (R91, R415). A body word with an
uncorrectable error answers 0xFFFF_FF06. DEDUCED (log 79). -/
def State.sysEvrec (s : State) (p : Nat) (c : Ctx) : State × (Ctx → Ctx) :=
  let len := fld c.a 29 24
  let code := fld c.a 15 0
  if len = 63 then sysFail s 7
  else if code < 0x8000 then sysFail s 5
  else match s.locsW p c.x.toNat len with
    | .error key => sysFail (s.badEntry key) 6
    | .ok as =>
      match as.find? s.isBad with
      | some a => sysFail (s.storeFault a) 6
      | none =>
        if s.evrShut then sysFail s 5
        else
          let r := s.admission code (fld c.a 18 16) 2 p (as.map s.rdMem)
          if r.2 then sysOk r.1 else sysFail r.1 5
/-- EVREC. -/
def execOpEvrec (e : BitVec 7) (st : State) : Host.Outcome State Fault Refusal :=
  .next (st.sys e.toNat (fun s p _ c => s.sysEvrec p c))

/-! ### The store (R417, R418) -/

/-- Bytes that a list of records takes. -/
def evBytes (l : List EvStored) : Nat := (l.map EvStored.bytes).foldl (· + ·) 0
/-- Remove the oldest records of severity at most `sev`, as many as it takes until `need` bytes are free; the number removed. -/
def makeRoom (sev need : Nat) : Nat → List EvStored → List EvStored × Nat
  | _, [] => ([], 0)
  | got, r :: l =>
    if need ≤ got then (r :: l, 0)
    else if r.sev ≤ sev then ((makeRoom sev need (got + r.bytes) l).1, (makeRoom sev need (got + r.bytes) l).2 + 1)
    else (r :: (makeRoom sev need got l).1, (makeRoom sev need got l).2)
/-- The store holds `l`. -/
def State.setStore (s : State) (l : List EvStored) : State :=
  ({ s with evStore := l, evUnw := min s.evUnw l.length }.setReg aEVR_COUNT (BitVec.ofNat 32 l.length)).setReg aEVR_BYTES
    (BitVec.ofNat 32 (evBytes l))
/-- Place a record in the store, removing older ones of its severity or lower, or drop it (R418). DESIGN CHOICE (log 119). -/
def State.place (s : State) (r : EvStored) : State :=
  let total := evBytes s.evStore + r.bytes
  let room := evBytes (s.evStore.filter (fun q => decide (q.sev ≤ r.sev)))
  if 245760 < total ∧ room < total - 245760 then (s.count aEVR_CNT_DROP).evrEvent 4
  else
    let m := makeRoom r.sev (total - 245760) 0 s.evStore
    let s1 := (List.range m.2).foldl (fun s _ => s.evrEvent 2) s
    { s1.setStore (m.1 ++ [r]) with evBuf := s1.evBuf + r.bytes, evUnw := s1.evUnw + 1 }
/-- Records of the store whose page write waits on the array. -/
def State.evQueued (s : State) : Nat := (s.nvQ.map (fun e => if e.2.2 = 3 then e.1 else 0)).foldl (· + ·) 0
/-- A page of the event store that completes `n` records enters the array's queue (R373, R401). DESIGN CHOICE (log 119). -/
def State.queuePage (s : State) (n : Nat) : State := { s with nvQ := s.nvQ ++ [(n, [], 3)] }.setRf aNV_STAT 2 2 1
/-- The page buffer is written. -/
def State.flushBuf (s : State) : State := if s.evBuf = 0 then s else { s with evBuf := 0 }.queuePage (s.evUnw - s.evQueued)
/-- The page write of `n` records, the oldest that are not wholly written, has come to nothing: they are counted in LOST (R373, R412). DEDUCED (log 117); DESIGN CHOICE (log 119). -/
def State.losePage (s : State) (n : Nat) : State :=
  let k := s.evStore.length - s.evUnw
  let s1 := s.setStore (s.evStore.take k ++ s.evStore.drop (k + n))
  { s1 with evUnw := s.evUnw - n, evLost := s.evLost + n }.setReg aEVR_CNT_LOST (satAdd (s.reg aEVR_CNT_LOST) n)
/-- The writer takes records from staging until one does not fit in the page buffer, which is then written; at most `n` are taken. -/
def State.drain : Nat → State → State
  | 0, s => s
  | n + 1, s =>
    match s.evStage with
    | [] => s
    | r :: l =>
      let s1 := (s.setStage l).place r
      if 256 < s1.evBuf then { s1 with evBuf := s1.evBuf - 256 }.queuePage (s1.evUnw - s1.evQueued - 1) else State.drain n s1
/-- The writer works while the store is not frozen. -/
def execEventPageWrite (st : State) : Host.Outcome State Fault Refusal :=
  .next (if st.frozen || st.fpend || st.evrShut then st else st.drain 64)
/-- 1 s has passed since the first record entered the page buffer. -/
def execEventBufferTimeout (st : State) : Host.Outcome State Fault Refusal :=
  .next (if st.frozen || st.fpend || st.evrShut then st else st.flushBuf)

/-! ### Freeze, read and clear (R419 to R421) -/

/-- End a recorder command with REASON `r`. -/
def State.evrDone (s : State) (r : Nat) : State := s.setRf aEVR_STAT 23 16 r
/-- FROZEN reads 1 once a freeze that waits has no page write of the store before it (R419). DESIGN CHOICE (log 119). -/
def State.freezeDone (s : State) : State :=
  if s.fpend && s.nvQ.all (fun e => e.2.2 != 3) then { (s.setRf aEVR_STAT 2 1 2).evrEvent 1 with evAccess := s.fab } else s
/-- `src` becomes the holder; the page write in progress is finished and the page buffer written, then FROZEN reads 1 (R419). -/
def State.freezeBy (s : State) (src : Nat) : State :=
  ((s.flushBuf.setRf aEVR_STAT 1 1 1).setRf aEVR_STAT 3 3 (decide (src = 0x3FE)).toNat).freezeDone
/-- The freeze ends, or one that waits does. -/
def State.unfreezeNow (s : State) : State := if s.frozen then (s.setRf aEVR_STAT 2 2 0).evrEvent 1 else s.setRf aEVR_STAT 1 1 0
/-- FREEZE by `src`, with its REASON. DEDUCED (log 120). -/
def State.evFreeze (s : State) (src : Nat) : State × Nat :=
  if s.evrShut then (s, 1) else if s.frozen || s.fpend then (s, if s.isHolder src then 1 else 3) else (s.freezeBy src, 0)
/-- UNFREEZE by `src`, with its REASON. DEDUCED (log 120). -/
def State.evUnfreeze (s : State) (src : Nat) : State × Nat :=
  if s.isHolder src then (s.unfreezeNow, 0) else (s, if s.frozen || s.fpend then 3 else 1)
/-- CLEAR by `src`, with its REASON (R421). DEDUCED (log 120). -/
def State.evClear (s : State) (src : Nat) : State × Nat :=
  if s.holds src = false then (s, 1)
  else if s.granted src 3 = false then (s, 2)
  else
    let slot := FMap.get (fun _ => 15) s.auSlot (if src = 0x3FE then 1 else 0)
    let r : EvStored := { hdr := s.evHeader 0x1402 7 2 0 0 0, body := [BitVec.ofNat 32 slot, BitVec.ofNat 32 s.evStore.length] }
    (((({ s with evBuf := 0, evUnw := 0, nvQ := s.nvQ.map (fun (e : Nat × List Byte × Nat) => if e.2.2 = 3 then (0, [], 3) else e) }.setStore []).place r).evrEvent 8).unfreezeNow, 0)
/-- `EVR_CMD` FREEZE. -/
def execEvrFreeze (src : BitVec 10) (st : State) : Host.Outcome State Fault Refusal :=
  .next (st.farWrite src.toNat aEVR_CMD aEVR_BSTAT (fun s => (s.evFreeze src.toNat).1.evrDone (s.evFreeze src.toNat).2))
/-- `EVR_CMD` UNFREEZE. -/
def execEvrUnfreeze (src : BitVec 10) (st : State) : Host.Outcome State Fault Refusal :=
  .next (st.farWrite src.toNat aEVR_CMD aEVR_BSTAT (fun s => (s.evUnfreeze src.toNat).1.evrDone (s.evUnfreeze src.toNat).2))
/-- `EVR_CMD` CLEAR. -/
def execEvrClear (src : BitVec 10) (st : State) : Host.Outcome State Fault Refusal :=
  .next (st.farWrite src.toNat aEVR_CMD aEVR_BSTAT (fun s => (s.evClear src.toNat).1.evrDone (s.evClear src.toNat).2))
/-- 30 s without an access by the holder to the read window. -/
def execFreezeTimeout (dt : Nat) (st : State) : Host.Outcome State Fault Refusal :=
  let s := st.elapse dt
  .next (if 24000000000 ≤ s.fab - s.evAccess then s.unfreezeNow else s)
/-- Record `k` for requester `src`: the read window holds it. -/
def State.loadWindow (s : State) (src k : Nat) (r : EvStored) : State :=
  let s1 := (List.range 4).foldl (fun s j => s.setRegFor src (aEVR_RD_HDR j) (r.hdr.getD j 0))
    (s.setRegFor src aEVR_RD_IDX (BitVec.ofNat 32 k))
  { (List.range 62).foldl (fun s i => s.setRegFor src (aEVR_RD_BODY i) (r.body.getD i 0)) s1 with evAccess := s.fab }
/-- A write of `EVR_RD_IDX` by `src` (R420). -/
def execEvrRdIdxWrite (src : BitVec 10) (data : W) (st : State) : Host.Outcome State Fault Refusal :=
  .next (st.farWrite src.toNat aEVR_RD_IDX aEVR_BSTAT (fun s =>
    match s.evStore[fld data 13 0]? with
    | some r => if s.holds src.toNat then s.loadWindow src.toNat (fld data 13 0) r else s.refuse src.toNat (farSpace src.toNat) aEVR_RD_IDX 0x0A
    | none => s.refuse src.toNat (farSpace src.toNat) aEVR_RD_IDX 0x0A))

end Sys2Proof.Machine
end

