-- ==== Sys2Proof/Machine/Nv.lean ====
section
/-!
DEFINITION. NV commands, the counters, the caddy and power failure (spec/15 R401 to R413).
-/
namespace Sys2Proof.Machine

/-! ### Counters (R406, R407) -/

/-- Write the counters to NV. -/
def State.saveCounters (s : State) : State :=
  { s with cntSaved := (s.rf aNV_OPH 31 8 * 4096 + s.ophf, s.rf aNV_PCC 23 0, (s.reg aNV_DUMPNO).toNat) }
/-- A whole operating hour is reached. -/
def execOperatingHour (dt : Nat) (st : State) : Host.Outcome State Fault Refusal :=
  let s := st.elapse dt
  .next ((({ s with opAt := s.fab }.setRf aNV_OPH 31 8 (s.rf aNV_OPH 31 8 + 1)).setReg aNV_OPHF 0).saveCounters)

/-! ### Commands (R401 to R405) -/

/-- End an NV command with REASON `r`. -/
def State.nvDone (s : State) (r : Nat) : State := (s.setRf aNV_STAT 23 16 r).setRf aNV_STAT 0 0 0
/-- Pages that a host READ may name. -/
def nvReadable (n : Nat) : Bool := decide (n < 24 ∨ (90 ≤ n ∧ n < 511))
/-- Pages that a host WRITE may name. -/
def nvWritable (n : Nat) : Bool := decide (90 ≤ n ∧ n < 479)
/-- Set `NV_BUF` to 64 words of a page. -/
def State.setNvBuf (s : State) (bs : List Byte) : State :=
  (List.range 64).foldl (fun s i => s.setReg (aNV_BUF i) (wordAt bs (4 * i))) s
/-- The bytes of `NV_BUF`. -/
def State.nvBuf (s : State) : List Byte := (List.range 64).flatMap (fun i => bytesOf (s.reg (aNV_BUF i)))
/-- An NV command of `src`: the checks that every command meets first. -/
def State.nvCommand (s : State) (src : Nat) (k : State → State) : State :=
  s.farWrite src aNV_CMD aNV_BSTAT (fun s =>
    if s.nvBlock then s.setRf aNV_STAT 23 16 1
    else if s.pfHold then s.setRf aNV_STAT 23 16 7
    else if s.rb aNV_STAT 0 then s.setRf aNV_STAT 23 16 3
    else k s)
/-- READ of page `NV_PAGE` (R403): pages 2 to 15, whose layout the spec does not give, read as free values. `found` is what the page's
check bits show: 0 no error, 1 a corrected one, 2 one that cannot be corrected. DESIGN CHOICE (log 116). -/
def State.nvRead (found : Nat) (st : State) : State :=
  let n := st.rf aNV_PAGE 10 0
  let s := if found = 1 then st.count aNV_CNT_CORR
    else if found = 2 then { st with nvBad := FMap.set (fun _ => false) st.nvBad n true } else st
  if nvReadable n = false then st.nvDone 2
  else if (match st.nvQ with | (m, _, kind) :: _ => decide (kind < 3 ∧ m = n) | [] => false) then st.nvDone 3
  else if s.nvIsBad n then (((s.setNvBuf []).count aNV_CNT_UNCORR).nvDone 4).collect 26 cContained 0x01 n
  else if 2 ≤ n ∧ n < 16 then (s.useFresh.setNvBuf ((List.range 256).map (fun i => Config.nvByte s.fresh i))).nvDone 0
  else match s.nvPage n with
    | none => (s.setNvBuf []).nvDone 5
    | some bs => (s.setNvBuf bs).nvDone 0
/-- `NV_CMD` READ. -/
def execNvRead (src : BitVec 10) (found : BitVec 2) (st : State) : Host.Outcome State Fault Refusal :=
  .next (st.nvCommand src.toNat (State.nvRead found.toNat))
/-- `NV_STAT.ARRAY` while a page write, a caddy save or a dump page is under way. -/
def State.showArray (s : State) : State :=
  s.setRf aNV_STAT 2 2 (decide (s.nvQ ≠ []) || s.cadSaving.isSome || s.dumpPend.isSome).toNat
/-- A page write enters the array's queue. -/
def State.nvQueue (s : State) (e : Nat × List Byte × Nat) : State := { s with nvQ := s.nvQ ++ [e] }.setRf aNV_STAT 2 2 1
/-- `NV_CMD` WRITE. -/
def execNvWrite (src : BitVec 10) (st : State) : Host.Outcome State Fault Refusal :=
  .next (st.nvCommand src.toNat (fun s =>
    let n := s.rf aNV_PAGE 10 0
    if nvWritable n = false then s.nvDone 2
    else (s.nvQueue (n, s.nvBuf, 0)).setRf aNV_STAT 0 0 1))
/-- The page write in progress ends; `ok` is false when its retry failed too (R403). DEDUCED (log 117). -/
def execNvPageWriteDone (ok : Bool) (st : State) : Host.Outcome State Fault Refusal :=
  .next (match st.nvQ with
    | [] => st
    | (n, bs, kind) :: l =>
      let s1 := { st with nvQ := l }.showArray
      let s2 := if kind = 3 then (if ok then { s1 with evUnw := s1.evUnw - n } else (s1.losePage n).collect 26 cContained 0x01 0)
        else if ok then s1.putNv n bs else (s1.eraseNv n).collect 26 cContained 0x01 n
      if kind = 0 then s2.nvDone (if ok then 0 else 6) else if kind = 3 then s2.freezeDone else s2)

/-! ### The caddy (R408 to R411) -/

/-- The words of the caddy that are not zero. -/
def State.caddy (s : State) : FMap W := (s.regs.filter (fun e => decide (0x72000 ≤ e.1 ∧ e.1 < 0x74000)))
/-- A caddy save begins. -/
def State.beginSave (s : State) (kind : Nat) : State := { s with cadSaving := some (kind, s.caddy) }.showArray
/-- `NV_CMD` CADSAVE. -/
def execCadsave (src : BitVec 10) (st : State) : Host.Outcome State Fault Refusal :=
  .next (st.nvCommand src.toNat (fun s =>
    if (match s.cadLast with | some t => decide (s.fab - t < 48000000000) | none => false) then s.nvDone 8
    else if s.cadSaving.isSome then s.nvDone 3
    else (s.beginSave 0).setRf aNV_STAT 0 0 1))
/-- `NV_CADCFG.AUTOSV` minutes have passed. -/
def execAutosave (dt : Nat) (st : State) : Host.Outcome State Fault Refusal :=
  let s := st.elapse dt
  .next (if s.rf aNV_CADCFG 10 0 = 0 ∨ s.cadSaving.isSome ∨ s.pfHold ∨ s.nvBlock then s else s.beginSave 1)
/-- Power is good again and the power-fail save stands: the caddy, the NV commands and the recorder resume (R413). DEDUCED (log 121). -/
def State.pfResume (s : State) : State :=
  if s.pfHold ∧ s.pfLow = false ∧ s.cadSaving.isNone then
    { s with pfHold := false, evLost := 0,
             evPass := { code := 0x1403, sev := 4, body := [BitVec.ofNat 32 s.evLost], time := s.now } :: s.evPass }
  else s
/-- A caddy save ends: its header stands and the other area is erased. -/
def execCaddySaveDone (dt : Nat) (st : State) : Host.Outcome State Fault Refusal :=
  let s := st.elapse dt
  .next (match s.cadSaving with
    | none => s
    | some (kind, words) =>
      let g := (s.reg aNV_CADGEN + 1)
      let s1 := ({ s with cadSaving := none, cadSaved := some (g.toNat, words, s.evLost), cadLast := some s.fab }.setReg aNV_CADGEN g).saveCounters
      let s2 := (s1.setRf aNV_STAT 4 4 0).showArray
      if kind = 0 then s2.nvDone 0 else if kind = 2 then (s2.setRf aNV_STAT 3 3 0).pfResume else s2)
/-- `PWRFAIL_N` low for 1 µs: the snapshot is taken, writes are abandoned and records not in the store are lost (R412). -/
def execPowerFail (st : State) : Host.Outcome State Fault Refusal :=
  .next (if st.pfHold then { st with pfLow := true }
    else
      let host := st.rb aNV_STAT 0
      let s1 := (match st.nvQ with | [] => st | (n, _, kind) :: _ => if kind < 3 then st.eraseNv n else st)
      let s2 := { s1 with nvQ := [], pfLow := true, pfHold := true }.setRf aNV_STAT 2 2 0
      let s3 := if host then s2.nvDone 7 else s2
      let n := s3.evStage.length + s3.evUnw
      let s4 := ((s3.setStage []).setStore (s3.evStore.take (s3.evStore.length - s3.evUnw))).unfreezeNow
      let s5 := { s4 with evBuf := 0, evUnw := 0, evLost := s4.evLost + n }.setReg aEVR_CNT_LOST (satAdd (s4.reg aEVR_CNT_LOST) n)
      (s5.beginSave 2).setRf aNV_STAT 3 3 1)
/-- `PWRFAIL_N` is high again. -/
def execPowerFailWithdrawn (st : State) : Host.Outcome State Fault Refusal :=
  .next { st with pfLow := false }.pfResume

/-- The words of partition `p`'s caddy range. -/
def cadRange (w : W) : List Nat := (List.range (fld w 27 16)).map (fun i => fld w 10 0 + i)
/-- A write of `CAD_ALLOC[p]` (R410). -/
def State.cadAlloc (s : State) (src p : Nat) (data : W) : State :=
  let a := aCAD_ALLOC p
  let data := data &&& 0x0FFF07FF
  let others := (List.range s.fuse.partitions).any (fun q => q != p && (cadRange (s.reg (aCAD_ALLOC q))).any (cadRange data).contains)
  if s.mode p = 2 ∨ s.mode p = 3 ∨ 2048 < fld data 10 0 + fld data 27 16 ∨ others then s.refuse src (farSpace src) a 0x0A
  else
    let old := cadRange (s.reg a)
    let new := cadRange data
    ((old.filter (fun w => !new.contains w) ++ new.filter (fun w => !old.contains w)).foldl (fun s w => s.setReg (aCAD_WIN w) 0) s).setReg a data
/-- A write of `CAD_ALLOC[p]` by `src`. -/
def execCadAllocWrite (src : BitVec 10) (p : BitVec 9) (data : W) (st : State) : Host.Outcome State Fault Refusal :=
  .next (st.farWrite src.toNat (aCAD_ALLOC p.toNat) aNV_BSTAT (fun s =>
    if p.toNat < s.fuse.partitions then s.cadAlloc src.toNat p.toNat data else s))

/-- The caddy word that index X of partition `p` names, or the code the service fails with. -/
def State.cadWord (s : State) (p x : Nat) : Except Nat Nat :=
  if s.nvBlock ∨ s.rb aNV_BSTAT 1 then .error 3
  else if s.rf (aCAD_ALLOC p) 27 16 ≤ x then .error 4
  else .ok (s.rf (aCAD_ALLOC p) 10 0 + x)
/-- CADRD. -/
def execOpCadrd (e : BitVec 7) (st : State) : Host.Outcome State Fault Refusal :=
  .next (st.sys e.toNat (fun s p _ c =>
    match s.cadWord p c.x.toNat with
    | .error n => sysFail s n
    | .ok w => (s, Ctx.answer (s.reg (aCAD_WIN w)) true)))
/-- CADWR: refused during a power-fail save (R413). -/
def execOpCadwr (e : BitVec 7) (st : State) : Host.Outcome State Fault Refusal :=
  .next (st.sys e.toNat (fun s p _ c =>
    if s.pfHold then sysFail s 3
    else match s.cadWord p c.x.toNat with
      | .error n => sysFail s n
      | .ok w => sysOk (s.setReg (aCAD_WIN w) c.a)))

end Sys2Proof.Machine
end

