-- ==== Sys2Proof/Machine/Pages.lean ====
section
/-!
DEFINITION. Partition and page commands (spec/06 R178), translation entries and ranges (R175, R179), zeroing (R165, R166), scrubbing
(R174, R191) and page retirement (R192 to R195).
-/
namespace Sys2Proof.Machine

/-! ### `TR_CMD` (R178) -/

/-- The command in progress ends with REASON `r`. -/
def State.endTr (s : State) (r : Nat) : State := s.setReg aTR_CMD_STAT (BitVec.ofNat 32 (r * 256))
/-- `TR_ARG0.PART`. -/
def State.trPart (s : State) : Nat := s.rf aTR_ARG0 25 16
/-- `TR_ARG0.KIND`. -/
def State.trKind (s : State) : Nat := s.rf aTR_ARG0 31 30
/-- `TR_ARG0.FIRST`. -/
def State.trFirst (s : State) : Nat := s.rf aTR_ARG0 13 0
/-- `TR_ARG1.COUNT`. -/
def State.trCount (s : State) : Nat := s.rf aTR_ARG1 14 0

/-- Descriptor, task table and header of partition `p` hold their reset values, and nothing of it is in progress. -/
def State.clearPart (s : State) (p : Nat) : State :=
  let lo := 0x300000 + 0x800 * p
  let here (a : Nat) : Bool := decide (lo ≤ a ∧ a < lo + 0x800)
  let ent (k : Nat) : Bool := decide (p * entriesPerPart ≤ k ∧ k < (p + 1) * entriesPerPart)
  let tsk (k : Nat) : Bool := decide (k / 16 = p)
  { s with
    regs := FMap.forget here s.regs, pend := FMap.forget here s.pend, touched := FMap.forget here s.touched
    trA := FMap.forget ent s.trA, trP := FMap.forget ent s.trP, trBad := FMap.forget ent s.trBad
    tasks := FMap.forget tsk s.tasks, shadow := FMap.forget tsk s.shadow, parts := FMap.erase s.parts p
    ruEdit := FMap.erase s.ruEdit p, modeWait := FMap.erase s.modeWait p, localF := FMap.erase s.localF p
    ruCap := s.ruCap.filter (fun k => !tsk k), ruResync := s.ruResync.filter (fun q => q != p) }

/-- CREATE: the partition enters Stop with everything at its reset value, and its partition time starts at 0 (R125). DEDUCED (log 27). -/
def State.trCreate (s : State) : State :=
  let p := s.trPart
  if s.fuse.partitions ≤ p then s.endTr 2
  else if s.mode p ≠ 0 then s.endTr 1
  else ((((s.clearPart p).setReg64 (aPD_OFFSET_LO p) s.now).setRf (aPD_MODE p) 2 0 1).pdEvent p evMode).endTr 0

/-- The caddy words of partition `p` are zeroed and its range is empty (R410). -/
def State.dropCaddy (s : State) (p : Nat) : State :=
  let f := s.rf (aCAD_ALLOC p) 10 0
  ((List.range (s.rf (aCAD_ALLOC p) 27 16)).foldl (fun s i => s.setReg (aCAD_WIN ((f + i) % 2048)) 0) s).setReg (aCAD_ALLOC p) 0

/-- Partition `p` gives up its pages, resources and caddy words and is Absent. -/
def State.removePart (s : State) (p : Nat) : State :=
  let pages := s.pagesIn p pgStaged ++ s.pagesIn p pgOwned
  let inOrder := [0, 1, 2].flatMap (fun k => (pagesWhere (fun n => pages.contains (k, n)) (pageCount k) 0).map (fun n => (k, n)))
  let s1 := inOrder.foldl (fun s e => s.leaveOwner e.1 e.2)
    { s with retCopy := match s.retCopy with | some c => if c.2.2.2 = p then none else some c | none => none }
  ((s1.releaseAll p).clearPart p).dropCaddy p

/-- REMOVE. DEDUCED (log 93). -/
def State.trRemove (s : State) : State :=
  let p := s.trPart
  if s.fuse.partitions ≤ p then s.endTr 2
  else if s.mode p ≠ 1 ∨ (s.part p).stopping then s.endTr 1
  else if s.pairPart p then s.endTr 7
  else (s.removePart p).endTr 0

/-- The pages of store `k` that are Free, in ascending number. -/
def State.freePages (s : State) (k : Nat) : List Nat := pagesWhere (fun n => s.pgState k n == pgFree) (pageCount k) 0

/-- STAGE. DESIGN CHOICE (log 92). -/
def State.trStage (s : State) : State :=
  let p := s.trPart
  let k := s.trKind
  if s.fuse.partitions ≤ p then s.endTr 2
  else if s.mode p = 0 then s.endTr 1
  else if k = 3 ∨ s.trCount = 0 then s.endTr 5
  else
    let l := (s.freePages k).take s.trCount
    if l.length < s.trCount then s.endTr 3
    else ((l.foldl (fun s n => s.setPage k n pgStaged p) s).setReg aTR_RESULT
      (BitVec.ofNat 32 (l.getLastD 0 * 65536 + l.headD 0))).endTr 0

/-- UNSTAGE. -/
def State.trUnstage (s : State) : State :=
  let p := s.trPart
  let k := s.trKind
  if s.fuse.partitions ≤ p then s.endTr 2
  else if k = 3 ∨ s.trCount = 0 ∨ pageCount k < s.trFirst + s.trCount then s.endTr 5
  else
    let l := (List.range s.trCount).map (fun i => s.trFirst + i)
    let named := pagesOf s.trP p
    if l.all (fun n => s.pgState k n == pgStaged && s.pgPart k n == p && !named.contains (k, n)) = false then s.endTr 4
    else (l.foldl (fun s n => s.toZeroing k n) s).endTr 0

/-- RETCLR by `src`. DEDUCED (log 93). -/
def State.trRetclr (s : State) (src : Nat) : State :=
  let k := s.trKind
  let n := s.trFirst
  if k = 3 ∨ pageCount k ≤ n then s.endTr 5
  else if s.pgState k n ≠ pgRetired then s.endTr 4
  else if s.granted src 4 = false then s.endTr 6
  else { s.toZeroing k n with retList := FMap.erase s.retList (retKey k n) }.endTr 0

/-- Serve command `c` of `src`. -/
def State.trDo (s : State) (src c : Nat) : State :=
  if c = 1 then s.trCreate else if c = 2 then s.trRemove else if c = 3 then s.trStage else if c = 4 then s.trUnstage
  else s.trRetclr src

/-- A write of command `c` to `TR_CMD` by `src` (R34, R178). DESIGN CHOICE (log 92). -/
def State.trCmd (s : State) (src c : Nat) : State :=
  if isVf src then s
  else if s.rb aTR_CMD_STAT 0 then s.setRf aTR_CMD_STAT 15 8 8
  else if s.mgmt then { s.setRf aTR_CMD_STAT 0 0 1 with held := s.held ++ [(false, src * 16 + c)] }
  else if s.supRun = false then s.endTr 0xFF
  else s.trDo src c

/-- TR_CMD CREATE. -/
def execCreate (src : BitVec 10) (st : State) : Host.Outcome State Fault Refusal := .next (st.trCmd src.toNat 1)
/-- TR_CMD REMOVE. -/
def execRemove (src : BitVec 10) (st : State) : Host.Outcome State Fault Refusal := .next (st.trCmd src.toNat 2)
/-- TR_CMD STAGE. -/
def execStage (src : BitVec 10) (st : State) : Host.Outcome State Fault Refusal := .next (st.trCmd src.toNat 3)
/-- TR_CMD UNSTAGE. -/
def execUnstage (src : BitVec 10) (st : State) : Host.Outcome State Fault Refusal := .next (st.trCmd src.toNat 4)
/-- TR_CMD RETCLR. -/
def execRetclr (src : BitVec 10) (st : State) : Host.Outcome State Fault Refusal := .next (st.trCmd src.toNat 5)

/-! ### Zeroing (R165, R166, R183) -/

/-- Whether a boundary pause of any partition runs. -/
def State.anyPause (s : State) : Bool := s.parts.any (fun e => e.2.pause.isSome)

/-- The page at the head of the bulk unit's queue is zero and Free. -/
def State.zeroHead (s : State) : State :=
  match s.zeroQ with
  | [] => s
  | (k, n) :: r => { (s.clearPage k n).setPage k n pgFree 0 with zeroQ := r }

/-- The bulk unit has zeroed a page, `dt` clocks on; a boundary pause and a retirement copy come first. -/
def execPageZeroed (dt : Nat) (st : State) : Host.Outcome State Fault Refusal :=
  let s := st.elapse dt
  .next (if s.moverUp && !s.anyPause && s.retCopy.isNone then s.zeroHead else s)

/-! ### Entries and ranges (R175, R179) -/

/-- A write of pending entry `i` of the partition that `src` selects. DEDUCED (log 91). -/
def State.entryWrite (s : State) (src i : Nat) (d : W) : State :=
  let p := fld (s.regFor src aTR_PSEL) 9 0
  let k := entryKind i
  let n := entPPN d
  let a := 0x410000 + 4 * i
  if isVf src ∨ s.fuse.partitions ≤ p ∨ entriesPerPart ≤ i then s
  else if s.mode p = 0 then s.refuse src (accSpace src) a 0x0A
  else if s.editPending p then s.refuse src (accSpace src) a 4
  else if entV d ∧ (pageCount k ≤ n ∨ ¬ ((s.pgState k n = pgStaged ∨ s.pgState k n = pgOwned) ∧ s.pgPart k n = p)) then
    s.refuse src (accSpace src) a 0x0A
  else s.setEntP (p * entriesPerPart + i) (d &&& 0x80003FFF)

/-- A write of `data` to entry `idx` of the window by `src` (R175). -/
def execTrEntryWrite (src : BitVec 10) (idx : BitVec 12) (data : W) (st : State) : Host.Outcome State Fault Refusal :=
  .next (st.entryWrite src.toNat idx.toNat data)

/-- A write of `PD_MOV_RANGE` of partition `p` by `src` (R179, R56, R472). -/
def State.rangeWrite (s : State) (src p : Nat) (d : W) : State :=
  let off := accOff src p 0x394
  let f := fld d 15 0
  let n := fld d 31 16
  if isVf src ∨ s.fuse.partitions ≤ p then s
  else if s.mode p = 0 then s.refuse src (accSpace src) off 0x0A
  else if s.editPending p then s.refuse src (accSpace src) off 4
  else if 61440 < f + n ∨ 4096 < n ∨ s.hitsPart f n (some p) ∨ overlap f n (s.rf aMOV_DEV_RANGE 15 0) (s.rf aMOV_DEV_RANGE 31 16)
      ∨ overlap f n (fld (s.pnd aMOV_DEV_RANGE) 15 0) (fld (s.pnd aMOV_DEV_RANGE) 31 16) then
    s.refuse src (accSpace src) off 0x0A
  else s.setPnd (aPD_MOV_RANGE p) d

/-- A write of `PD_MOV_RANGE` (R179). -/
def execPdMovRangeWrite (src : BitVec 10) (p : BitVec 9) (data : W) (st : State) : Host.Outcome State Fault Refusal :=
  .next (st.rangeWrite src.toNat p.toNat data)

/-! ### Scrubbing (R174, R191, table "Page states") -/

/-- A page in Zeroing that shows an uncorrectable error is Retired. -/
def State.zeroingBad (s : State) (k n : Nat) : State :=
  if s.pgState k n = pgZeroing then { s.retireNow k n with zeroQ := s.zeroQ.filter (fun e => e != (k, n)) } else s

/-- The scrubber reads the store word at BAR2 offset `a` and finds an error it corrects (1), or one it cannot (2), or none. -/
def State.scrubWord (s : State) (a found : Nat) : State :=
  let k := (pageOf a).1
  if found = 1 then s.collect (6 + k) cCorrected 0x02 (pageOf a).2
  else if found = 2 ∨ s.isBad a then ((s.setBad a true).storeFault a).zeroingBad k (pageOf a).2
  else s

/-- The scrubber reads translation entry `key`. -/
def State.scrubEntry (s : State) (key found : Nat) : State :=
  if found = 1 then s.collect 9 cCorrected 0x02 (key / entriesPerPart)
  else if found = 2 ∨ FMap.get (fun _ => false) s.trBad key then s.entryFault key
  else s

/-- One read of the scrubber: a store word by its BAR2 offset below 0xD00_0000, or translation entry `a − 0xE00_0000`; `found` is what
its check bits show (0 no error, 1 corrected, 2 uncorrectable). DESIGN CHOICE (log 94). -/
def execScrub (a : BitVec 28) (found : BitVec 2) (st : State) : Host.Outcome State Fault Refusal :=
  let o := a.toNat
  .next (if o < 0xD000000 then st.scrubWord (o / 4 * 4) found.toNat
    else if 0xE000000 ≤ o ∧ o < 0xE000000 + 512 * entriesPerPart then st.scrubEntry (o - 0xE000000) found.toNat
    else st)

/-! ### Retirement (R192, R193) -/

/-- The retirement copy of an Owned page with RETP begins: its partition is in Stop and a page is Free. DEDUCED (log 95). -/
def State.startRetire (s : State) (k n : Nat) : State :=
  let p := s.pgPart k n
  match s.freePages k with
  | [] => s
  | f :: _ =>
    if s.mode p = 1 ∧ (s.part p).stopping = false ∧ s.retCopy = none ∧ s.anyPause = false ∧ s.moverUp then
      { s.setPage k f pgOwned p with retCopy := some (k, n, f, p) }
    else s

/-- A slot whose buffers move to image page `g`: no complete block until the next one arrives. DEDUCED (log 96). -/
def State.moveSlot (s : State) (i g : Nat) : State :=
  { ((s.setRf (aSW_SLOT0 i) 26 11 0).setReg (aSW_SLOT1 i) 0) with
    slotBuf := FMap.erase (FMap.erase s.slotBuf (2 * i)) (2 * i + 1)
    slotOld := FMap.erase s.slotOld i, slotWait := FMap.erase s.slotWait i
    slotPage := FMap.set (fun _ => 0) s.slotPage i (g + 1) }

/-- A Device page with RETP is retired at once; what an image page held moves to a Free page (R193). DEDUCED (log 96). -/
def State.retireDevice (s : State) (k n : Nat) : State :=
  if k ≠ 2 then s.retireNow k n
  else match s.freePages 2 with
    | [] => s
    | g :: _ =>
      let s1 := (s.slotPage.filter (fun e => e.2 == n + 1)).foldl (fun s e => s.moveSlot e.1 g) (s.setPage 2 g pgDevice 0)
      { s1.retireNow 2 n with stiPages := s1.stiPages.map (fun m => if m = n then g else m) }

/-- A page with RETP leaves its owner for good, or begins to. -/
def State.retirePage (s : State) (k n : Nat) : State :=
  if s.pgRetp k n then
    (if s.pgState k n = pgOwned then s.startRetire k n else if s.pgState k n = pgDevice then s.retireDevice k n else s)
  else s

/-- The retirement of page `n` of store `k`, `dt` clocks on. -/
def execPageRetirement (k : BitVec 2) (n : BitVec 14) (dt : Nat) (st : State) : Host.Outcome State Fault Refusal :=
  let s := st.elapse dt
  .next (if k.toNat < 3 ∧ n.toNat < pageCount k.toNat then s.retirePage k.toNat n.toNat else s)

/-- Copy page `n` of store `k` into page `f`, uncorrectable words as 0 or, in a program page, 0x0E00 (R192); the lines the mover writes
are dirty (R254). -/
def State.copyPage (s : State) (k n f : Nat) : State :=
  (List.range (pageBytes k / 4)).foldl (fun s i =>
    let a := pageBase k n + 4 * i
    s.wrMem (pageBase k f + 4 * i) (if s.isBad a then (if k = 0 then 0x0E00 else 0) else s.rdMem a)) s

/-- The entries of `p` for store `k` that name page `n` name page `f`. -/
def State.switchEntry (s : State) (p k n f : Nat) : State :=
  (List.range (entryCount k)).foldl (fun s v =>
    let key := entryKey p k v
    let sub (w : W) : W := if entV w ∧ entPPN w = n then putFld w 13 0 f else w
    (s.setEntA key (sub (s.entA key))).setEntP key (sub (s.entP key))) s

/-- The retirement copy in progress is done: the entry names the copy and the old page is Retired (R192). DEDUCED (log 95). -/
def State.endRetire (s : State) : State :=
  match s.retCopy with
  | none => s
  | some (k, n, f, p) =>
    if s.mode p ≠ 1 then s.abandonCopy p
    else { ((s.copyPage k n f).switchEntry p k n f).retireNow k n with retCopy := none }

/-- The retirement copy is done, `dt` clocks on; a boundary pause comes first (R183). -/
def execRetirementCopyDone (dt : Nat) (st : State) : Host.Outcome State Fault Refusal :=
  let s := st.elapse dt
  .next (if s.moverUp && !s.anyPause then s.endRetire else s)

end Sys2Proof.Machine
end

