-- ==== Sys2Proof/Machine/SafetyUnit.lean ====
section
/-!
DEFINITION. The safety unit (spec/11 R314 to R340): two channels that filter, evaluate, compare and switch, the parameter set and the
unit commands. On a variant without the unit none of these events has an effect (R4).
-/
namespace Sys2Proof.Machine

/-! ### The applied set and the functions -/

/-- Word of the applied set at its offset less 0x1000. -/
def State.sfp (s : State) (o : Nat) : W := FMap.get (fun _ => 0) s.sfSet o
/-- Function `f` as channel `ch` (0 A, 1 B) sees it. -/
def State.sfc (s : State) (f ch : Nat) : SfChan := FMap.get (fun _ => SfChan.zero) s.sf (2 * f + ch)
/-- Set function `f` of channel `ch`. -/
def State.setSfc (s : State) (f ch : Nat) (c : SfChan) : State :=
  { s with sf := FMap.set (fun _ => SfChan.zero) s.sf (2 * f + ch) c }
/-- Output `n`. -/
def State.sqr (s : State) (n : Nat) : Sq := FMap.get (fun _ => Sq.zero) s.sq n
/-- Set output `n`. -/
def State.setSq (s : State) (n : Nat) (q : Sq) : State := { s with sq := FMap.set (fun _ => Sq.zero) s.sq n q }
/-- The numbers of the functions. -/
def sfAll : List Nat := List.range 16
/-- The numbers of the outputs. -/
def sqAll : List Nat := List.range 8

/-- `SFP_CFG.TYPE`. -/
def sfType (cfg : W) : Nat := fld cfg 31 28
/-- Inputs that a type uses (table "Function types"). -/
def sfInputs (ty : Nat) : Nat := if ty = 1 ∨ ty = 2 ∨ ty = 5 then 2 else if ty = 3 ∨ ty = 4 then 4 else 0
/-- The inputs of a type as a mask. -/
def sfMask (ty : Nat) : BitVec 4 := BitVec.ofNat 4 (2 ^ sfInputs ty - 1)
/-- The healthy levels of CH0 to CH3. -/
def sfHealthy (cfg : W) : BitVec 4 :=
  if (sfType cfg = 2 ∨ sfType cfg = 3) ∧ bitAt cfg 23 then 0b1101 &&& sfMask (sfType cfg) else sfMask (sfType cfg)
/-- Channel number of CHi. -/
def sfCh (inw : W) (i : Nat) : Nat := fld inw (8 * i + 4) (8 * i)
/-- Whether CHi is fed, and by which test-pulse output. -/
def sfFeed (tp : W) (i : Nat) : Option Nat := if bitAt tp (4 * i + 3) then some (fld tp (4 * i + 1) (4 * i)) else none
/-- Whether function `f` of the applied set is used. -/
def State.sfUsed (s : State) (f : Nat) : Bool := decide (sfType (s.sfp (0x20 * f)) ≠ 0)
/-- The levels of CH0 to CH3 in a word of channel samples. -/
def sfBits (inw w : W) : BitVec 4 :=
  BitVec.ofNat 4 ((bitAt w (sfCh inw 0)).toNat + 2 * (bitAt w (sfCh inw 1)).toNat + 4 * (bitAt w (sfCh inw 2)).toNat
    + 8 * (bitAt w (sfCh inw 3)).toNat)

/-! ### Filters (R315) -/

/-- One sample of CHi: a level that differs for `n` samples becomes the filtered level. -/
def SfChan.sampleOne (n : Nat) (b : BitVec 4) (c : SfChan) (i : Nat) : SfChan :=
  if b.getLsbD i = c.lvl.getLsbD i then { c with run := c.run.set i 0 }
  else if n ≤ c.run.getD i 0 + 1 then { c with run := c.run.set i 0, lvl := c.lvl ^^^ (BitVec.ofNat 4 (2 ^ i)) }
  else { c with run := c.run.set i (c.run.getD i 0 + 1) }
/-- One sample of every input of a function. -/
def SfChan.sample (cfg inw : W) (c : SfChan) (w : W) : SfChan :=
  let c0 := if c.run.length = 4 then c else { c with run := [0, 0, 0, 0] }
  (List.range (sfInputs (sfType cfg))).foldl (SfChan.sampleOne (10 * fld cfg 15 8) (sfBits inw w)) c0

/-! ### Test pulses (R320) -/

/-- One check of CHi at a pulse of test-pulse output `t`: `last` its last sample, `around` the samples beside the pulse. -/
def SfChan.pulseOne (cfg inw tp : W) (t : Nat) (last around : W) (c : SfChan) (i : Nat) : SfChan :=
  let k := 4 * i + t
  match sfFeed tp i with
  | none => c
  | some u =>
    if (sfHealthy cfg).getLsbD i = false then c
    else
      let bad := if u = t then bitAt last (sfCh inw i) && c.lvl.getLsbD i
                 else !bitAt last (sfCh inw i) && bitAt around (sfCh inw i)
      { c with cs := c.cs.set k (if bad then min (c.cs.getD k 0 + 1) 2 else 0) }
/-- The checks at one pulse. -/
def SfChan.pulse (cfg inw tp : W) (t : Nat) (last around : W) (c : SfChan) : SfChan :=
  let c0 := if c.cs.length = 16 then c else { c with cs := List.replicate 16 0 }
  (List.range (sfInputs (sfType cfg))).foldl (SfChan.pulseOne cfg inw tp t last around) c0

/-! ### Discrepancy and hands (R323, R326) -/

/-- The inputs that are open. -/
def sfOpen (cfg : W) (l : BitVec 4) : BitVec 4 := (l ^^^ sfHealthy cfg) &&& sfMask (sfType cfg)
/-- One discrepancy pair (2k, 2k + 1) over an evaluation, told from its open inputs before and now (R323): the second input is awaited from the
instant at which one input alone left its healthy level (kind 1) or returned to it (kind 2), for `lim` evaluations; a wait that has failed ends
when both are open. The number beside the evaluations is the kind, plus 4 where the second input of the pair changed first. DEDUCED (log 107). -/
def discStep (lim : Nat) (was now : BitVec 4) (k : Nat) (d : Option (Nat × Nat)) : Option (Nat × Nat) :=
  let o (l : BitVec 4) (j : Nat) : Bool := l.getLsbD (2 * k + j)
  let fresh : Option (Nat × Nat) :=
    if o now 0 = o now 1 then none
    else if o now 0 ≠ o was 0 ∧ o now 1 ≠ o was 1 then none
    else if o now 0 ≠ o was 0 then some (0, if o now 0 then 1 else 2)
    else if o now 1 ≠ o was 1 then some (0, if o now 1 then 5 else 6)
    else none
  match d with
  | none => fresh
  | some (n, x) =>
    let other := 1 - x / 4
    if lim ≤ n then (if o now 0 && o now 1 then none else d)
    else if o now other = decide (x % 4 = 1) ∧ (x % 4 = 2 ∨ o was other = false) then fresh
    else some (n + 1, x)
/-- Hand `h` is actuated: NO reads 1 and NC reads 0. -/
def handOn (l : BitVec 4) (h : Nat) : Bool := l.getLsbD (2 * h + 1) && !l.getLsbD (2 * h)
/-- Hand `h` is released. -/
def handOff (l : BitVec 4) (h : Nat) : Bool := l.getLsbD (2 * h) && !l.getLsbD (2 * h + 1)
/-- The evaluations since a hand was actuated, and those for which its contacts read the same level. -/
def SfChan.hands (c : SfChan) : SfChan :=
  { c with
    acts := [0, 1].map (fun h => if handOn c.lvl h then some (match c.acts.getD h none with | some n => min (n + 1) 100000 | none => 0) else none)
    eq := [0, 1].map (fun h => if c.lvl.getLsbD (2 * h) = c.lvl.getLsbD (2 * h + 1) then min (c.eq.getD h 0 + 1) 20000 else 0) }

/-! ### Network inputs (R327) -/

/-- The CRC of a safety state word under a SRCID. DEDUCED (log 108). -/
def sfCrc (srcid scnt run : Nat) : Nat := (crc8 (beBytes 2 srcid ++ beBytes 1 scnt ++ beBytes 2 run)).toNat
/-- The word of a NETIN function that fails its CRC under the sender's SRCID. -/
def netBad (net0 : W) (w : Option W) : Bool :=
  match w with
  | none => false
  | some w => decide (fld w 31 24 ≠ sfCrc (fld net0 31 16) (fld w 23 16) (fld w 15 0))
/-- A NETIN function at an evaluation instant; `w` is the word in its slot, if a block stands there. DEDUCED (log 108). -/
def SfChan.netin (net0 net1 : W) (c : SfChan) (w : Option W) : SfChan :=
  let win := 2 * fld net1 6 0
  let c1 : SfChan := { c with wd := min (c.wd + 1) 1000 }
  let c2 : SfChan :=
    match w with
    | none => c1
    | some w =>
      if fld w 31 24 ≠ sfCrc (fld net0 31 16) (fld w 23 16) (fld w 15 0) then { c1 with rej := min (c1.rej + 1) 8 }
      else
        let c3 : SfChan := { c1 with rej := 0 }
        let k := (fld w 23 16 + 256 - c3.base) % 256
        if c3.armed = false then { c3 with base := fld w 23 16, armed := true }
        else if k = 0 then c3
        else if k ≤ win then { c3 with base := fld w 23 16, wd := 0, level := bitAt w (fld net1 11 8) }
        else { c3 with armed := false }
  if c2.wd = win then { c2 with level := false, armed := false, cause := if c2.st = 0 ∨ c2.st = 4 then c2.cause else 6 } else c2

/-! ### Transitions (R322 to R326) -/

/-- What drives a function at an evaluation instant: the cause of a fault, open inputs, health, every input open, and a reset. DEDUCED (log 106). -/
structure SfIn where
  fault : Option Nat
  open_ : Bool
  healthy : Bool
  ended : Bool
  reset : Bool
  trip : Nat
  deriving DecidableEq, Repr

/-- One transition by the first row of the table that applies; the flag says that a reset was accepted. DEDUCED (log 109). -/
def SfChan.move (auto : Bool) (i : SfIn) (c : SfChan) : SfChan × Bool :=
  if c.st = 0 then (c, false)
  else if c.st = 4 then (if i.ended then { c with st := 1 } else c, false)
  else match i.fault with
    | some k => ({ c with st := 4, cause := k }, false)
    | none =>
      if (c.st = 2 ∨ c.st = 3) ∧ i.open_ then ({ c with st := 1, cause := i.trip }, false)
      else if c.st = 1 ∧ i.healthy then ({ c with st := 2 }, false)
      else if c.st = 2 ∧ i.reset then ({ c with st := 3, startup := false }, true)
      else if c.st = 2 ∧ auto ∧ c.startup = false then ({ c with st := 3 }, false)
      else (c, false)

/-- The cause of a fault that stands in a channel of a contact function (R320, R321, R323, R326). -/
def SfChan.fault (cfg tp : W) (tpBad : Nat → Bool) (c : SfChan) : Option Nat :=
  let lim := 20 * fld tp 31 16
  if sfType cfg = 4 ∧ c.eq.any (fun n => decide (lim < n)) then some 5
  else match (c.disc.filterMap id).find? (fun d => decide (lim ≤ d.1)) with
    | some d => some (d.2 % 4)
    | none =>
      if c.cs.contains 2 then some 3
      else if (List.range (sfInputs (sfType cfg))).any (fun i => match sfFeed tp i with | some t => tpBad t | none => false) then some 4
      else none

/-- What drives a channel of a TWOHAND function; `o` is the other channel's record. DEDUCED (log 107). -/
def SfChan.twohand (fault : Option Nat) (c o : SfChan) : SfIn :=
  let off := handOff c.lvl 0 && handOff c.lvl 1
  let both := handOn c.lvl 0 && handOn c.lvl 1
  let a := (c.acts.getD 0 none).getD 0
  let b := (c.acts.getD 1 none).getD 0
  let quick := decide (a ≤ b + 10000 ∧ b ≤ a + 10000)
  { fault := fault, open_ := if c.st = 3 then !both else both && !quick, healthy := off
    ended := off && handOff o.lvl 0 && handOff o.lvl 1 && fault.isNone, reset := both && quick, trip := 0 }

/-- What drives a channel of a function with contacts: an input counts as open when it is open in either channel, and a discrepancy that is
still awaited holds the function in TRIP (R322, R324). DEDUCED (log 109). -/
def SfChan.contact (cfg : W) (fault : Option Nat) (reset : Bool) (c o : SfChan) : SfIn :=
  let oc := sfOpen cfg c.lvl
  let oo := sfOpen cfg o.lvl
  { fault := fault, open_ := decide (oc ||| oo ≠ 0), healthy := decide (oc ||| oo = 0) && c.disc.all Option.isNone
    ended := decide (oc &&& oo = sfMask (sfType cfg)) && fault.isNone, reset := reset, trip := 0 }

/-- What drives a channel of a NETIN function. -/
def SfChan.net (net1 : W) (reset : Bool) (c o : SfChan) : SfIn :=
  { fault := if 8 ≤ c.rej then some 7 else none, open_ := !c.level, healthy := c.level
    ended := !c.level && !o.level && decide (c.rej = 0), reset := reset, trip := if 2 * fld net1 6 0 ≤ c.wd then 6 else 0 }

/-! ### Events and reports -/

/-- An event of the unit's group; IDX names the first (table "Safety unit registers"). -/
def State.sfEvent (s : State) (bits : W) (idx : Nat) : State :=
  let s1 := if s.rf aSF_EVT 4 0 = 0 then s.setRf aSF_EVT 12 8 idx else s
  s1.groupEvent aSF_EVT_SEQ aSF_EVT aSF_EVT_EN aSF_EVT_VEC bits
/-- The state that a function shows: RUN only while both channels are in RUN (R322); where they differ, FAULT of either, else the one further
from RUN; channel B's while channel A is lost. DEDUCED (log 109). -/
def State.sfShown (s : State) (f : Nat) : Nat :=
  let a := (s.sfc f 0).st
  let b := (s.sfc f 1).st
  if s.rb aSF_UNIT 4 then b else if a = 4 ∨ b = 4 then 4 else min a b
/-- The fields of `SF_FSTAT` that follow the channels. -/
def State.sfWordOf (s : State) (f : Nat) : W :=
  let a := s.sfc f 0
  let b := s.sfc f 1
  let m := sfMask (sfType (s.sfp (0x20 * f)))
  BitVec.ofNat 32 ((if s.sfShown f = a.st then a.cause else b.cause) * 2 ^ 24 + (b.lvl &&& m).toNat * 2 ^ 20
    + (a.lvl &&& m).toNat * 2 ^ 16 + a.st * 256 + b.st * 16 + s.sfShown f)
/-- Function `f` is reported: its status, the unit's state word, its departures from RUN and the events of a change. -/
def State.sfReport (s : State) (f : Nat) : State :=
  let old := s.rf (aSF_FSTAT f) 3 0
  let new := s.sfShown f
  let s1 := ((s.setReg (aSF_FSTAT f) (s.sfWordOf f)).setRf aSF_STATE f f (decide (new = 3)).toNat).setRf aSF_STATE (16 + f) (16 + f)
    (decide (new = 4)).toNat
  let s2 := if old = 3 ∧ new ≠ 3 then s1.count (aSF_FTRIPS f) else s1
  if old = new then s2 else s2.sfEvent (if new = 4 then 3 else 1) f
/-- Every function is reported. -/
def State.sfReports (s : State) : State := sfAll.foldl State.sfReport s

/-- Bit f: SFf is RUN in channel `ch`. -/
def State.sfRun (s : State) (ch : Nat) : Nat :=
  (sfAll.map (fun f => if (s.sfc f ch).st = 3 then 2 ^ f else 0)).foldl (· + ·) 0
/-- The next safety state word: RUN in both channels (table "Safety state word"). -/
def State.nextWord (s : State) : W :=
  let run := (BitVec.ofNat 16 (s.sfRun 0) &&& BitVec.ofNat 16 (s.sfRun 1)).toNat
  let n := (s.sfScnt + 1) % 256
  BitVec.ofNat 32 (sfCrc (fld (s.sfp 0x244) 15 0) n run * 2 ^ 24 + n * 65536 + run)

/-! ### Outputs (R329 to R331) -/

/-- OFAULT of output `n`. -/
def State.sqFaulty (s : State) (n : Nat) : Bool := decide (s.rf (aSQ_STAT n) 1 0 = 3)
/-- Output `n` goes to OFAULT with a cause: both switches open (R330). -/
def State.sqFail (s : State) (n cause : Nat) : State :=
  (((s.setSq n Sq.zero).setRf (aSQ_STAT n) 15 8 cause).setRf (aSQ_STAT n) 1 0 3).sfEvent 4 (16 + n)
/-- The fatal line or a stopped alive line holds every output open (R331). -/
def State.sqGated (s : State) : Bool := s.rb aFIO_FORCE 1 || s.rb aFIO_FORCE 2
/-- Whether channel A runs: phase 2 of the L-die boot has released it (table of spec/14, R338 aside), and the L-die's clocks run (R19). -/
def State.chanA (s : State) : Bool := decide (2 ≤ s.rf aRST_BOOTPH 3 0) && !s.clkStop
/-- Whether each channel learns what the other saw: channel A runs, and the die link stands. -/
def State.sfLinked (s : State) : Bool := s.chanA && !s.rb aSF_BSTAT 1
/-- The command of output `n` in channel `ch`; channel B holds SQnH open while channel A is lost (R318). -/
def State.sqCmd (s : State) (n ch : Nat) : Bool :=
  let cfg := s.sfp (0x200 + 8 * n)
  bitAt cfg 31 && !s.sqFaulty n && !s.sqGated && !(ch == 1 && s.rb aSF_UNIT 4) && sfAll.all (fun f => !bitAt cfg f || decide ((s.sfc f ch).st = 3))
/-- Whether a readback of an output fails: `on` since 1 ms with both switches closed, or off. -/
def readbackFails (on : Bool) (p : SqPins) : Bool :=
  if on then decide (p.high ≠ 3 ∨ p.low ≠ 0) else decide (2 ≤ p.high.toNat ∨ 2 ≤ p.low.toNat)
/-- Output `n` at an evaluation instant: commands, switches, readback (R329, R330). -/
def State.sqStep (s : State) (n : Nat) (pa pb : SqPins) : State :=
  let q := s.sqr n
  let ca := s.sqCmd n 0 && s.chanA
  let cb := s.sqCmd n 1
  let wasOn := q.cmdA && q.cmdB
  let on := ca && cb
  let dark := if on then q.dark else 0
  let onFor := if on && wasOn then min (q.onFor + 1) 20 else 0
  let check := if on then decide (20 ≤ onFor ∧ dark = 0) else !ca && !cb && !q.cmdA && !q.cmdB
  let ba := if check && readbackFails on pa then q.badA + 1 else 0
  let bb := if check && readbackFails on pb then q.badB + 1 else 0
  let q' : Sq := { hi := cb && (q.hi || !q.cmdB) && !(dark == 1), lo := ca && (q.lo || !q.cmdA) && !(dark == 2), cmdA := ca, cmdB := cb,
                   onFor := onFor, badA := ba, badB := bb, dark := dark }
  let s1 := (s.setRf (aSQ_STAT n) 5 5 (decide (2 ≤ pb.low.toNat)).toNat).setRf (aSQ_STAT n) 4 4 (decide (2 ≤ pb.high.toNat)).toNat
  if s.sqFaulty n then s1
  else if 2 ≤ ba ∨ 2 ≤ bb then s1.sqFail n (if on then 4 else 3)
  else (s1.setSq n q').setRf (aSQ_STAT n) 1 0 (if on then (if dark = 0 then 1 else 2) else 0)
/-- Every output opens; an output in OFAULT stays there. -/
def State.openAll (s : State) : State :=
  sqAll.foldl (fun s n => if s.sqFaulty n then s else (s.setSq n Sq.zero).setRf (aSQ_STAT n) 1 0 0) s
/-- A SQnL switch opens; a low-side dark test of it ends without a verdict. -/
def Sq.openLo (q : Sq) : Sq := { q with lo := false, dark := if q.dark = 2 then 0 else q.dark }
/-- Every SQnL switch opens (R13, R316). -/
def State.openLow (s : State) : State := { s with sq := FMap.mapV (fun _ => Sq.zero) Sq.openLo s.sq }
/-- Every SQnH switch opens (R318). -/
def State.openHigh (s : State) : State :=
  { s with sq := FMap.mapV (fun _ => Sq.zero) (fun q => { q with hi := false, dark := if q.dark = 1 then 0 else q.dark }) s.sq }

/-! ### Evaluation (R315, R317, R318) -/

/-- The reset input of function `f` as channel `ch` sees it in its own samples (R314, R325): the evaluations it has read 1 at their last
sample, and whether its falling edge counts. DESIGN CHOICE (log 110). -/
def State.pressOf (s : State) (f ch : Nat) (samples : List W) : Nat × Bool :=
  let rst := s.sfp (0x20 * f + 0xC)
  let n := FMap.get (fun _ => 0) s.sfPress (2 * f + ch)
  match samples.getLast? with
  | none => (n, false)
  | some w =>
    if bitAt rst 31 = false then (0, false)
    else if bitAt w (fld rst 28 24) then (min (n + 1) 100001, false)
    else (0, decide (2000 ≤ n ∧ n ≤ 100000))
/-- `SFP_CFG.RSRC` permits the reset input. -/
def rsrcInput (cfg : W) : Bool := decide (sfType cfg ≠ 4 ∧ (fld cfg 25 24 = 0 ∨ fld cfg 25 24 = 2))
/-- `SFP_CFG.RSRC` permits requests. -/
def rsrcRequest (cfg : W) : Bool := decide (sfType cfg ≠ 4 ∧ (fld cfg 25 24 = 1 ∨ fld cfg 25 24 = 2))
/-- The word that the slot of NETIN function `f` holds now (R327, R466). -/
def State.netWord (s : State) (f : Nat) : Option W :=
  let n := fld (s.sfp (0x20 * f + 0x10)) 13 0
  let o := 4 * fld (s.sfp (0x20 * f + 0x14)) 31 24
  if s.slotV n && s.slotFull n && decide (o + 4 ≤ s.slotLen n) then some (wordAt (s.slotData n) o) else none
/-- Channel `ch` takes the inputs of function `f` (R315): filters, pulses, discrepancies, hands, the network word, which channel B receives over
the die link (R327). -/
def State.evalIn (s : State) (f ch : Nat) (samples : List W) (pulses : List (Nat × W × W)) : SfChan :=
  let cfg := s.sfp (0x20 * f)
  let inw := s.sfp (0x20 * f + 4)
  let tp := s.sfp (0x20 * f + 8)
  let c := s.sfc f ch
  if sfType cfg = 6 then
    c.netin (s.sfp (0x20 * f + 0x10)) (s.sfp (0x20 * f + 0x14)) (if ch = 1 ∧ s.rb aSF_BSTAT 1 then none else s.netWord f)
  else
    let c1 := samples.foldl (SfChan.sample cfg inw) c
    let c2 := pulses.foldl (fun c p => c.pulse cfg inw tp p.1 p.2.1 p.2.2) c1
    if sfType cfg = 4 then c2.hands
    else { c2 with disc := (List.range (sfInputs (sfType cfg) / 2)).map (fun k =>
        discStep (20 * fld tp 31 16) (sfOpen cfg c.lvl) (sfOpen cfg c2.lvl) k (c.disc.getD k none)) }
/-- A channel with record `c` makes its transition of function `f`; `o` is the other channel's record after its inputs. -/
def State.evalMove (s : State) (f : Nat) (reset : Bool) (c o : SfChan) : SfChan × Bool :=
  let cfg := s.sfp (0x20 * f)
  let flt := c.fault cfg (s.sfp (0x20 * f + 8)) s.tpFault
  if sfType cfg = 6 then c.move (bitAt cfg 27) (c.net (s.sfp (0x20 * f + 0x14)) reset o)
  else if sfType cfg = 4 then c.move false (c.twohand flt o)
  else c.move (bitAt cfg 27) (c.contact cfg flt reset o)
/-- A channel that disagreement has put in FAULT leaves it only when the vectors agree and the fatal line is released. DESIGN CHOICE (log 110). -/
def State.keepNine (s : State) (old new : SfChan) : SfChan :=
  if old.st = 4 ∧ old.cause = 9 ∧ (s.sfDiff ≠ 0 ∨ s.sqGated) then { new with st := 4, cause := 9 } else new
/-- Both channels evaluate function `f`; channel B stands still while channel A is lost (R318), and a reset that is not accepted is refused
(R325). -/
def State.evalFn (sa sb : List W) (pu : List Pulse) (s : State) (f : Nat) : State :=
  if s.sfUsed f = false then s
  else
    let cfg := s.sfp (0x20 * f)
    let lost := s.rb aSF_UNIT 4
    let pa := s.pressOf f 0 sa
    let pb := s.pressOf f 1 sb
    let reset (p : Nat × Bool) : Bool := (p.2 && rsrcInput cfg) || s.sfReq.getLsbD f
    let a0 := s.sfc f 0
    let b0 := s.sfc f 1
    let a1 := s.evalIn f 0 sa (pu.map (fun p => (p.tp.toNat, p.lastA, p.aroundA)))
    let b1 := s.evalIn f 1 sb (pu.map (fun p => (p.tp.toNat, p.lastB, p.aroundB)))
    let ra := if s.chanA then s.evalMove f (reset pa) a1 (if s.sfLinked then b1 else a1) else (a0, false)
    let rb := if lost then (b0, false) else s.evalMove f (reset pb) b1 (if s.sfLinked then a1 else b1)
    let press := FMap.set (fun _ => 0) (FMap.set (fun _ => 0) s.sfPress (2 * f) pa.1) (2 * f + 1) pb.1
    let s1 := ({ s with sfPress := press }.setSfc f 0 (s.keepNine a0 ra.1)).setSfc f 1 (s.keepNine b0 rb.1)
    let s2 := if sfType cfg = 6 ∧ netBad (s.sfp (0x20 * f + 0x10)) (s.netWord f) then s1.count aSF_NETERR else s1
    if ((reset pa && s.chanA) || reset pb) && !ra.2 && !rb.2 then s2.sfEvent 8 f else s2
/-- Every used function goes to a state with a cause in the channels `chs`; `pend` sets STARTUP pending where `SFP_CFG.STARTUP` is 1. A
stopped function stays stopped unless `all`. -/
def State.sfForce (s : State) (chs : List Nat) (st cause : Nat) (pend all : Bool) : State :=
  (sfAll.foldl (fun s f =>
    if s.sfUsed f && (all || decide ((s.sfc f 1).st ≠ 0)) then
      chs.foldl (fun s ch => s.setSfc f ch { s.sfc f ch with
        st := st, cause := cause, startup := if pend then bitAt (s.sfp (0x20 * f)) 26 else (s.sfc f ch).startup }) s
    else s) s).sfReports
/-- A fatal fault of the unit (R316, R317, R322): every function goes to FAULT and every output opens in the channels `chs` that know of it;
`srcs` are the sources that report it. DEDUCED (log 109). -/
def State.sfFatal (s : State) (chs srcs : List Nat) (code : Nat) : State :=
  let s0 := s.sfForce chs 4 9 false true
  let s1 := ((if chs.contains 1 then s0.openAll else s0.openLow).setRf aSF_UNIT 3 3 1).sfEvent 16 0
  (srcs.foldl (fun (r : State × Bool) k => (r.1.collectIn r.2 k cFatal code 0, true)) ({ s1 with sfDiff := 0 }, false)).1
/-- Channel A runs again in the states of channel B where a reset has cleared its own (R318, R379). DEDUCED (log 106). -/
def State.sfJoin (s : State) : State :=
  sfAll.foldl (fun s f =>
    if (s.sfc f 0).st = 0 then s.setSfc f 0 { SfChan.zero with
      st := (s.sfc f 1).st, cause := (s.sfc f 1).cause, startup := (s.sfc f 1).startup } else s) s
/-- Whether the vectors differ: any function state or output command (R317). -/
def State.vectorsDiffer (s : State) : Bool :=
  s.rb aSF_BSTAT 1 || sfAll.any (fun f => decide ((s.sfc f 0).st ≠ (s.sfc f 1).st))
    || sqAll.any (fun n => s.sqCmd n 0 != s.sqCmd n 1)
/-- The word of this instant; channel A releases it to the L-die copy. -/
def State.sfPublish (s : State) : State :=
  { s with sfScnt := (s.sfScnt + 1) % 256, sfWord := if s.chanA && !s.rb aSF_BSTAT 1 then s.nextWord else s.sfWord }
/-- One evaluation instant: `sa` and `sb` are the samples of both paths since the last one, oldest first, one bit for each FIO channel;
`pa` and `pb` the pins of the outputs; `pu` the test pulses that ended. DEDUCED (log 106). -/
def State.evaluate (s : State) (sa sb : List W) (pa pb : List SqPins) (pu : List Pulse) : State :=
  let s0 := if s.rb aSF_UNIT 4 && s.sfLinked then (s.sfJoin.setRf aSF_UNIT 4 4 0).sfEvent 16 0 else s
  if 2 < s0.sfDiff then
    (if s0.rb aSF_BSTAT 1 then s0.sfFatal [0] [17] 8 else s0.sfFatal [0, 1] [17, 28] 8).sfPublish
  else
    let s1 := { sfAll.foldl (State.evalFn sa sb pu) s0 with sfReq := 0 }
    let s2 := { s1 with sfDiff := if s1.chanA && s1.vectorsDiffer then s1.sfDiff + 1 else 0 }
    ((sqAll.foldl (fun s n => s.sqStep n (pa.getD n ⟨0, 0⟩) (pb.getD n ⟨0, 0⟩)) s2).sfReports).sfPublish
/-- An evaluation instant (R315). -/
def execSafetyEvaluation (sa sb : List W) (pinsA pinsB : List SqPins) (pulses : List Pulse) (dt : Nat) (st : State) :
    Host.Outcome State Fault Refusal :=
  let s := st.elapse dt
  .next (if s.fuse.field then s.evaluate sa sb pinsA pinsB pulses else s)
/-- A sample interval out of tolerance, or none for 20 µs (R316). DEDUCED (log 111). -/
def execSampleIntervalFault (st : State) : Host.Outcome State Fault Refusal :=
  .next (if st.fuse.field ∧ st.chanA then (st.openLow.sfFatal [0, 1] [17] 6) else st)
/-- No vector from channel A for two evaluation periods (R318). -/
def execChannelALost (st : State) : Host.Outcome State Fault Refusal :=
  .next (if st.fuse.field then
      (let s := (((st.setRf aSF_UNIT 4 4 1).sfForce [1] 1 8 true false).openHigh)
       if st.rb aSF_UNIT 4 then s else s.sfEvent 16 0)
    else st)

/-! ### Dark tests and faults of outputs (R330) -/

/-- Output `n` is on and no dark test runs. -/
def State.sqOn (s : State) (n : Nat) : Bool := decide (s.rf (aSQ_STAT n) 1 0 = 1)
/-- Channel B opens SQnH for a dark test. -/
def execDarkTestHigh (n : BitVec 3) (st : State) : Host.Outcome State Fault Refusal :=
  .next (if st.sqOn n.toNat then
      (st.setSq n.toNat { st.sqr n.toNat with hi := false, dark := 1 }).setRf (aSQ_STAT n.toNat) 1 0 2 else st)
/-- Channel A stops the enable of SQnL for a dark test. -/
def execDarkTestLow (n : BitVec 3) (st : State) : Host.Outcome State Fault Refusal :=
  .next (if st.sqOn n.toNat ∧ st.chanA then
      (st.setSq n.toNat { st.sqr n.toNat with lo := false, dark := 2 }).setRf (aSQ_STAT n.toNat) 1 0 2 else st)
/-- The test that runs on an output fails with these pins. -/
def darkFails (dark : Nat) (p : SqPins) : Bool := if dark = 1 then decide (p.high ≠ 0) else decide (p.low.toNat < 2)
/-- A dark test ends: its verdict by both channels' last samples, then its one switch closes again. -/
def execDarkTestEnd (n : BitVec 3) (pinsA pinsB : SqPins) (st : State) : Host.Outcome State Fault Refusal :=
  let q := st.sqr n.toNat
  .next (if q.dark = 0 then st
    else if darkFails q.dark pinsA || darkFails q.dark pinsB then st.sqFail n.toNat q.dark
    else (st.setSq n.toNat { q with hi := q.hi || q.dark == 1, lo := q.lo || q.dark == 2, dark := 0 }).setRf (aSQ_STAT n.toNat) 1 0 1)
/-- An output 5 ms in current limit, or at its shutdown temperature (`thermal`), turns off (R329). -/
def execSqOverload (n : BitVec 3) (thermal : Bool) (st : State) : Host.Outcome State Fault Refusal :=
  let k := st.rf (aSQ_STAT n.toNat) 1 0
  .next (if k = 1 ∨ k = 2 then st.sqFail n.toNat (if thermal then 6 else 5) else st)
/-- The enable of SQnL stops toggling: the switch opens (R13). -/
def execSqlEnableLost (n : BitVec 3) (st : State) : Host.Outcome State Fault Refusal :=
  .next (st.setSq n.toNat (st.sqr n.toNat).openLo)

/-! ### Parameter sets (R334, R335) -/

/-- Staging word at offset `o` less 0x1000. -/
def State.stg (s : State) (o : Nat) : W := s.reg (0xC1000 + o)
/-- The CRC of the staged set (R334). -/
def State.stgCrc (s : State) : W := crc32 ((List.range 151).flatMap (fun i => bytesOf (s.stg (4 * i))))
/-- The channels that function `f` of the staged set names as inputs. -/
def State.stgChans (s : State) (f : Nat) : List Nat :=
  (List.range (sfInputs (sfType (s.stg (0x20 * f))))).map (sfCh (s.stg (0x20 * f + 4)))
/-- The reset channel of function `f` of the staged set. -/
def State.stgReset (s : State) (f : Nat) : List Nat :=
  if sfType (s.stg (0x20 * f)) ≠ 0 ∧ bitAt (s.stg (0x20 * f + 0xC)) 31 then [fld (s.stg (0x20 * f + 0xC)) 28 24] else []
/-- The test-pulse outputs that feed inputs of function `f` of the staged set. -/
def State.stgFeeds (s : State) (f : Nat) : List Nat :=
  (List.range (sfInputs (sfType (s.stg (0x20 * f))))).filterMap (sfFeed (s.stg (0x20 * f + 8)))
/-- WIDTH of TPt in the staged set. -/
def State.stgWidth (s : State) (t : Nat) : Nat := fld (s.stg 0x24C) (4 * t + 3) (4 * t)
/-- Whether a list names nothing twice. -/
def noTwice : List Nat → Bool
  | [] => true
  | x :: l => !l.contains x && noTwice l
/-- Whether function `f` of the staged set is well formed (R335). DEDUCED (log 112). -/
def State.stgFn (s : State) (f : Nat) : Bool :=
  let cfg := s.stg (0x20 * f)
  let ty := sfType cfg
  let tp := s.stg (0x20 * f + 8)
  let n1 := s.stg (0x20 * f + 0x14)
  let chans := s.stgChans f
  let feeds := s.stgFeeds f
  decide (ty ≤ 6) && decide (cfg &&& 0x007F00FF = 0) && decide (fld cfg 25 24 ≠ 3) && decide (s.stg (0x20 * f + 4) &&& 0xE0E0E0E0 = 0)
    && decide (tp &&& 0x4444 = 0) && decide (s.stg (0x20 * f + 0xC) &&& 0x60FFF800 = 0)
    && decide (s.stg (0x20 * f + 0x10) &&& 0xC000 = 0) && decide (n1 &&& 0x00FFF080 = 0)
    && noTwice chans && !(List.range f).any (fun g => (s.stgChans g).any chans.contains)
    && !sfAll.any (fun g => (s.stgReset g).any chans.contains)
    && (decide (sfInputs ty = 0) ||
        (decide ((if ty = 5 then 15 else 5) ≤ fld cfg 15 8 ∧ fld cfg 15 8 ≤ 200) && decide (10 ≤ fld tp 31 16 ∧ fld tp 31 16 ≤ 500)))
    && (decide (ty ≠ 6) || decide (5 ≤ fld n1 6 0 ∧ fld n1 6 0 ≤ 60))
    && (decide (ty ≠ 5) || feeds.isEmpty) && noTwice feeds
    && feeds.all (fun t => decide (s.stgWidth t ≠ 0 ∧ s.stgWidth t + 4 ≤ 2 * fld cfg 15 8))
/-- Whether output `n` of the staged set is well formed. -/
def State.stgSq (s : State) (n : Nat) : Bool :=
  let cfg := s.stg (0x200 + 8 * n)
  let d := s.stg (0x204 + 8 * n)
  decide (cfg &&& 0x7FFF0000 = 0) && decide (d &&& 0xFFC0 = 0)
    && (!bitAt cfg 31 || (sfAll.all (fun f => !bitAt cfg f || decide (sfType (s.stg (0x20 * f)) ≠ 0))
      && decide (10 ≤ fld d 31 16 ∧ fld d 31 16 ≤ 6000) && decide (10 ≤ fld d 5 0 ∧ fld d 5 0 ≤ 40)))
/-- Whether the global entries of the staged set are well formed. DEDUCED (log 112). -/
def State.stgGlobal (s : State) : Bool :=
  let w := s.stg 0x24C
  decide (s.stg 0x244 &&& 0xFFFF0000 = 0) && decide (s.stg 0x248 &&& 0xFFFFFC00 = 0) && decide (w &&& 0xFFFF0000 = 0)
    && decide (s.stg 0x250 = 0 ∧ s.stg 0x254 = 0 ∧ s.stg 0x258 = 0)
    && [0, 1, 2, 3].all (fun t => decide (s.stgWidth t = 0 ∨ (2 ≤ s.stgWidth t ∧ s.stgWidth t ≤ 10)))
    && decide (10 ≤ fld (s.stg 0x248) 9 0 ∧ fld (s.stg 0x248) 9 0 ≤ 1000)
/-- The first faulty entry of the staged set (R335): a function, 0x10 + n for SQn, or 0x18. -/
def State.stgBad (s : State) : Option Nat :=
  match sfAll.find? (fun f => !s.stgFn f) with
  | some f => some f
  | none =>
    match sqAll.find? (fun n => !s.stgSq n) with
    | some n => some (16 + n)
    | none => if s.stgGlobal then none else some 24
/-- Every channel that the staged set names is owned by the device, and a reset channel is an input. -/
def State.stgOwned (s : State) : Bool :=
  sfAll.all (fun f => (s.stgChans f).all s.fioDev && (s.stgReset f).all (fun c => s.fioDev c && !s.isOut c))

/-! ### Unit commands (R336, table "Unit commands") -/

/-- `SF_UNIT.USTATE`. -/
def State.ustate (s : State) : Nat := s.rf aSF_UNIT 1 0
/-- End a unit command with REASON `r`. -/
def State.sfDone (s : State) (r : Nat) : State := s.setReg aSF_CMD_STAT (BitVec.ofNat 32 (r * 256))
/-- A unit command of `src`: authorisation, BUSY, then the command's own checks and effect. -/
def State.sfCommand (s : State) (src : Nat) (k : State → State) : State :=
  if s.fuse.field = false then s
  else s.farWrite src aSF_CMD aSF_BSTAT (fun s =>
    if s.granted src 0 = false then s.setRf aSF_CMD_STAT 15 8 1
    else if s.rb aSF_CMD_STAT 0 then s.setRf aSF_CMD_STAT 15 8 6
    else k s)
/-- The unit becomes ACTIVE: every used function in TRIP (R338, START). -/
def State.sfActivate (s : State) : State :=
  let s1 := { s with sf := FMap.mapV (fun _ => SfChan.zero) (fun c => { c with base := 0, armed := false, wd := 1000, level := false, rej := 0, disc := [], cs := [] }) s.sf }
  (((s1.sfForce [0, 1] 1 0x0A true true).setRf aSF_UNIT 1 0 2).sfEvent 16 0)
/-- START. -/
def execSfStart (src : BitVec 10) (st : State) : Host.Outcome State Fault Refusal :=
  .next (st.sfCommand src.toNat (fun s =>
    if s.ustate ≠ 1 ∨ s.rb aSF_UNIT 5 = false then s.sfDone 2 else { s.sfActivate with sfStop := false }.sfDone 0))
/-- STOP. DEDUCED (log 114). -/
def execSfStopCmd (src : BitVec 10) (st : State) : Host.Outcome State Fault Refusal :=
  .next (st.sfCommand src.toNat (fun s =>
    if s.ustate ≠ 2 then s.sfDone 2
    else
      let s1 : State := { s.sfForce [0, 1] 0 0 false true with sfStop := true, sfReq := 0 }
      (((sqAll.foldl (fun s n => if s.sqFaulty n then s else (s.setSq n Sq.zero).setRf (aSQ_STAT n) 1 0 0) s1).setRf aSF_UNIT 1 0 1).sfEvent 16 0).sfDone 0))
/-- APPLY: the checks in the order of the outcomes; the set takes effect later (R334 to R336). -/
def execSfApply (src : BitVec 10) (st : State) : Host.Outcome State Fault Refusal :=
  .next (st.sfCommand src.toNat (fun s =>
    if 1 < s.ustate then s.sfDone 2
    else if s.stgCrc ≠ s.stg 0x25C then s.sfDone 3
    else match s.stgBad with
      | some e => s.setReg aSF_CMD_STAT (BitVec.ofNat 32 (e * 65536 + 4 * 256))
      | none => if s.stgOwned then s.setReg aSF_CMD_STAT 1 else s.sfDone 5))
/-- RESET of function `SF_ARG.INDEX` (R325). DESIGN CHOICE (log 110). -/
def execSfReset (src : BitVec 10) (st : State) : Host.Outcome State Fault Refusal :=
  .next (st.sfCommand src.toNat (fun s =>
    let f := s.rf aSF_ARG 3 0
    if s.sfShown f ≠ 2 then (s.sfEvent 8 f).sfDone 2
    else if rsrcRequest (s.sfp (0x20 * f)) = false then s.sfDone 2
    else { s with sfReq := s.sfReq ||| BitVec.ofNat 16 (2 ^ f) }.sfDone 0))
/-- OCLR of output `SF_ARG.INDEX` (R330). DESIGN CHOICE (log 110). -/
def execSfOclr (src : BitVec 10) (st : State) : Host.Outcome State Fault Refusal :=
  .next (st.sfCommand src.toNat (fun s =>
    let n := s.rf aSF_ARG 3 0
    if 7 < n ∨ s.sqFaulty (n % 8) = false then s.sfDone 2
    else (((s.setSq n Sq.zero).setRf (aSQ_STAT n) 15 8 0).setRf (aSQ_STAT n) 1 0 0).sfDone 0))

/-! ### A set takes effect (R336, R338) -/

/-- The channels that the applied set assigns to safety functions. -/
def State.sfChans (s : State) : List Nat :=
  sfAll.flatMap (fun f => (List.range (sfInputs (sfType (s.sfp (0x20 * f))))).map (sfCh (s.sfp (0x20 * f + 4))))
/-- FILT that the applied set gives channel `n` (R297). -/
def State.sfFilt (s : State) (n : Nat) : Nat :=
  ((sfAll.find? (fun f => ((List.range (sfInputs (sfType (s.sfp (0x20 * f))))).map (sfCh (s.sfp (0x20 * f + 4)))).contains n)).map
    (fun f => fld (s.sfp (0x20 * f)) 15 8)).getD 10
/-- Channel `n` becomes a safety input with the set's filter, or is one no longer (R297); R303 does not act on it (R320). DEDUCED (log 113). -/
def State.sfClaim (s : State) (n : Nat) : State :=
  if s.sfChans.contains n then
    (((((((s.setReg (aFIO_OWN n) (s.reg (aFIO_OWN n) ||| 0xC0000000)).setRf (aFIO_CFG n) 31 31 0).setRf (aFIO_CFG n) 7 0 (s.sfFilt n)).setRf
      (aFIO_DIAG n) 1 1 0).setRf (aFIO_DIAG n) 8 8 0).setChan n { s.chan n with drive := false, since := false }).drivePin n).reportIn n
  else s.setRf (aFIO_OWN n) 30 30 0
/-- A TP that the applied set uses is enabled with its width, in its pending value as well, so that no strobe puts an older one in its place
(R336). DEDUCED (log 113). -/
def State.sfTp (s : State) (t : Nat) : State :=
  let w := BitVec.ofNat 32 (2 ^ 31 + fld (s.sfp 0x24C) (4 * t + 3) (4 * t))
  if s.tpUsed t then ((s.setReg (aTP_CFG t) w).setPnd (aTP_CFG t) w).tpTake t else s
/-- The TP period of the applied set (R336). DEDUCED (log 113). -/
def State.sfPeriod (s : State) : State :=
  let w := BitVec.ofNat 32 (fld (s.sfp 0x248) 9 0)
  (s.tpPeriod w).setPnd aTP_PERIOD w
/-- A set of 152 words becomes the applied set: safety inputs, test pulses and the set's identity. DEDUCED (log 113). -/
def State.sfLoad (s : State) (w : Nat → W) : State :=
  let s1 : State := { s with sfSet := (List.range 152).foldl (fun m i => FMap.set (fun _ => 0) m (4 * i) (w (4 * i))) [],
                             sf := [], sfPress := [], sfReq := 0, sfDiff := 0 }
  let s2 := (List.range 32).foldl State.sfClaim s1
  let s3 := s2.sfPeriod
  let s4 := (([0, 1, 2, 3].foldl State.sfTp s3).setReg aSF_ACT_ID (s3.sfp 0x240)).setReg aSF_ACT_CRC (s3.sfp 0x25C)
  ((s4.setRf aSF_UNIT 5 5 1).setRf aSF_UNIT 1 0 1).sfReports.sfEvent 16 0
/-- An APPLY ends: the set stands in both NV copies and takes effect at this evaluation instant, or its write failed. -/
def execSetTakesEffect (nvOk : Bool) (dt : Nat) (st : State) : Host.Outcome State Fault Refusal :=
  let s := st.elapse dt
  .next (if s.rb aSF_CMD_STAT 0 = false then s
    else if nvOk = false then s.sfDone 7
    else
      let bs := (List.range 152).flatMap (fun i => bytesOf (s.stg (4 * i)))
      ((((s.putNvPages 16 bs 3).putNvPages 19 bs 3).sfLoad s.stg)).sfDone 0)
/-- A copy of the set in NV that checks good. -/
def State.nvSet (s : State) (page : Nat) : Option (List Byte) :=
  match s.nvPages page 3 with
  | some bs => if crc32 (bs.take 604) = wordAt bs 604 then some bs else none
  | none => none
/-- The reload of the set after a reset of the F-die (R338). -/
def State.sfReload (s : State) : State :=
  match (s.nvSet 16).orElse (fun _ => s.nvSet 19) with
  | none => s
  | some bs =>
    let s1 := s.sfLoad (fun o => wordAt bs o)
    if s1.sfStop then s1 else s1.sfActivate

/-! ### SYS services (R339, R340) -/

/-- SFf is assigned to partition `p`. -/
def State.sfAssigned (s : State) (f p : Nat) : Bool :=
  bitAt (s.sfp (0x20 * f + 0xC)) 10 && decide (fld (s.sfp (0x20 * f + 0xC)) 9 0 = p)
/-- SFRD: the states of the functions assigned to the partition. -/
def execOpSfrd (e : BitVec 7) (st : State) : Host.Outcome State Fault Refusal :=
  .next (st.sys e.toNat (fun s p _ _ =>
    if s.fuse.field = false then sysFail s 2
    else
      let m := (sfAll.map (fun f => if s.sfAssigned f p then 65537 * 2 ^ f else 0)).foldl (· + ·) 0
      (s, Ctx.answer (s.reg aSF_STATE &&& BitVec.ofNat 32 m) true)))
/-- SFRST: a reset request for an assigned function; a silent member passes none (R239). DEDUCED (log 115); DESIGN CHOICE (log 110). -/
def execOpSfrst (e : BitVec 7) (st : State) : Host.Outcome State Fault Refusal :=
  .next (st.sys e.toNat (fun s p _ c =>
    let f := c.x.toNat
    if s.fuse.field = false then sysFail s 2
    else if s.silent p then sysOk s
    else if 15 < f ∨ s.sfAssigned (f % 16) p = false then sysFail s 1
    else if s.sfShown f ≠ 2 then sysFail (s.sfEvent 8 f) 5
    else if rsrcRequest (s.sfp (0x20 * f)) = false then sysFail s 5
    else sysOk { s with sfReq := s.sfReq ||| BitVec.ofNat 16 (2 ^ f) }))

end Sys2Proof.Machine
end

