-- ==== Sys2Proof/Machine/Resets.lean ====
section
/-!
DEFINITION. Resets (spec/14 R379 to R387, spec/02 R32): cold, warm, engine, block and partition resets, their causes, commands and
releases.
-/
namespace Sys2Proof.Machine

/-! ### Pins (R380) -/

/-- The pins of table "Pins while in reset" whose level is no other state. -/
inductive PinGroup where
  | lane (n : Nat) | pcie | servicePort | can (n : Nat) | xspi | pps
  deriving DecidableEq, Repr
/-- What the pins of a group drive while their die or block is in reset. -/
inductive PinLevel where
  /-- Electrical idle; the link is down. -/
  | idle
  /-- Recessive (high). -/
  | recessive
  /-- Chip select high, clock low, data inputs. -/
  | deselected
  | low
  deriving DecidableEq, Repr
/-- The block code of a group; none for a pin of no wrapped block. -/
def PinGroup.block : PinGroup → Option Nat
  | .lane n => some (0x20 + n / 8) | .pcie => some 0x13 | .servicePort => some 0x11 | .can n => some n | .xspi => some 0x12 | .pps => none
/-- The level of a group while its die or block is in reset; none while the block drives it. -/
def State.pinLevel (s : State) (g : PinGroup) : Option PinLevel :=
  if decide (s.rf aRST_BOOTPH 3 0 = 0) || (g.block.map s.inReset).getD false then
    some (match g with | .lane _ | .pcie | .servicePort => .idle | .can _ => .recessive | .xspi => .deselected | .pps => .low)
  else none

/-! ### What ends with a reset -/

/-- The grant of requester `src` ends (R431). -/
def State.endGrant (s : State) (src : Nat) : State :=
  let s1 := if src = 0x3FE then s.setRf aSP_STAT 2 2 0 else s
  { s1.setRegFor src aAU_GRANT 0 with auEnd := FMap.erase s1.auEnd (if src = 0x3FE then 1 else 0) }
/-- The session of the service port ends (R424): its grant, its freeze and the breakpoints set through it. -/
def State.endSession (s : State) : State :=
  let s1 := (s.endGrant 0x3FE).setReg aSP_STAT (s.reg aSP_STAT &&& 1)
  let s2 := if s1.isHolder 0x3FE then s1.unfreezeNow else s1
  { s2 with parts := FMap.mapV (fun _ => Part.zero) (fun p => { p with brk := [] }) s2.parts, spLast := 0, spReply := none }
/-- The PCIe endpoint and its register state are reset (R32): configuration space, whose VFs are disabled again, MSI-X tables, pending bits
and latches of PF0 and every VF; PF0's grant ends. -/
def State.resetEndpoint (s : State) : State :=
  { s.endGrant 0 with vfEnable := false, numVfs := 0, fnMask := [], vecMask := [], vecPend := [], latch := s.latch.filter (fun e => decide (e.1 = 0x3FE)) }
/-- A function-level reset of VF `k` (R32). -/
def State.resetVf (s : State) (k : Nat) : State :=
  let g := aPD_ACC_SEQ (k - 1)
  { (s.zeroRegs [g, g + 4, g + 8, g + 12]) with
    fnMask := FMap.erase s.fnMask k, latch := FMap.erase s.latch k
    vecMask := FMap.forget (fun v => decide (v / 2048 = k)) s.vecMask
    vecPend := FMap.forget (fun v => decide (v / 2048 = k)) s.vecPend }

/-! ### Cold and warm resets (R379, R383) -/

/-- A reset source asserts: its bit of `RST_CAUSE` is set. -/
def State.noteReset (s : State) (b : Nat) : State := (s.advance aRST_CAUSE_SEQ).setRf aRST_CAUSE b b 1
/-- Registers of the RTC, which no reset changes (R287). -/
def rtcReg (a : Nat) : Bool := decide (0x60000 ≤ a ∧ a < 0x70000)
/-- Registers of the reset recorder. -/
def causeReg (a : Nat) : Bool := decide (0x30000 ≤ a ∧ a < 0x30040)
/-- Registers that a warm reset keeps: all F-die state, `FLT_PREV`, the reset recorder and the watchdog evidence (R379); the staging area
of the safety unit is held on the L-die. DEDUCED (log 122). -/
def warmReg (a : Nat) : Bool :=
  decide (0x60000 ≤ a ∧ a < 0xA0000) || decide (0xB0000 ≤ a ∧ a < 0xC1000) || decide (a = aFLT_PREV) || causeReg a
    || decide (0x40110 ≤ a ∧ a < 0x40124) || decide (0x40150 ≤ a ∧ a < 0x40164)
    || decide (0x41000 ≤ a ∧ a < 0x42000 ∧ a % 16 = 8)
/-- A byte of the dump area. -/
def dumpByte (a : Nat) : Bool := decide (0xB800000 ≤ a ∧ a < 0xC000000)
/-- The retirement list is applied (R168, R195). -/
def State.applyRetired (s : State) : State :=
  s.retList.foldl (fun s e => if e.2 then s.setPage (e.1 / 16384) (e.1 % 16384) pgRetired 0 else s) s
/-- `BSTAT` of the far blocks on the F-die. -/
def fdieBstat : List Nat := [aRTC_BSTAT, aNV_BSTAT, aEVR_BSTAT, aAU_BSTAT, aFIO_BSTAT, aSF_BSTAT]
/-- The pages that are Retired and not in the list: they become Free again and an event says so (R195). -/
def State.unlisted (s : State) : List (Nat × Nat) :=
  [0, 1, 2].flatMap (fun k => (pagesWhere (fun n => s.pgState k n == pgRetired && !s.listedRet k n) (pageCount k) 0).map (fun n => (k, n)))
/-- The records of pages that left a full retirement list. -/
def State.listRecords (s : State) : List EvRec :=
  s.unlisted.map (fun e => { code := 0x1404, sev := 5, body := [BitVec.ofNat 32 e.1, BitVec.ofNat 32 e.2], time := s.now })
/-- What every reset of the device leaves: fused values, the RTC, NV, the recorder of resets and the model's own counters. -/
def State.kept (s : State) : State :=
  { State.reset with
    fuse := s.fuse, fab := s.fab, fresh := s.fresh, outbox := s.outbox, pending := s.pending
    rtcSec := s.rtcSec, rtcSub := s.rtcSub, rtcFold := s.rtcFold, rtcDst := s.rtcDst, rtcSetDue := s.rtcSetDue, rtcRun := s.rtcRun, meas := s.meas
    nv := s.nv, nvBad := s.nvBad, cntSaved := s.cntSaved, cadSaved := s.cadSaved, evStore := s.evStore, retList := s.retList
    sfStop := s.sfStop, dumpNew := s.dumpNew, auKeys := s.auKeys, auWrites := s.auWrites, auLevel := s.auLevel, auLock := s.auLock
    slots := s.slots, bootRec := s.bootRec, fRec := s.fRec, lpg := s.lpg }
/-- A member that has left OFF is in WAIT after a cold or warm reset (R252); with RU_CFG.EN at its reset value it does nothing there until a
commit. DEDUCED (log 197). -/
def State.waitAfter (s : State) (role : Nat) : State :=
  if role = 0 then s else { s.setRf aRU_ROLE 3 0 1 with ru := { s.ru with waitAt := s.fab } }
/-- A cold reset with cause bit `b` (R379, R383): a write in progress on the array is left without its completion mark. A rate measurement against
Meridian is aborted (R293), and a posted write to the RTC is gone. -/
def State.cold (st : State) (b : Nat) : State :=
  let s := st.measAbortMer
  let s0 := match s.nvQ with | [] => s | (n, _, kind) :: _ => if kind < 3 then s.eraseNv n else s
  let cause := if s.coldRst then s.reg aRST_CAUSE else 0
  let r := { s0.kept with
    regs := s0.regs.filter (fun e => rtcReg e.1)
    pend := s0.pend.filter (fun e => rtcReg e.1)
    evStore := s0.evStore.take (s0.evStore.length - s0.evUnw)
    evPass := s0.listRecords }
  ((((r.setRf aRTC_BSTAT 0 0 0).setReg aRST_CAUSE cause).noteReset b).applyRetired).waitAfter (if b = 0 then 0 else s.ruRole)
/-- The L-die is reset (R379): everything of it but the dump area; the F-die keeps its state, forces its outputs (R311) and opens every
SQnL (R13). DEDUCED (log 104, 122). -/
def State.resetL (s : State) : State :=
  let s0 := (s.measAbortMer).endSession.endGrant 0
  let failed := s0.regs.filter (fun e => decide (0x200000 ≤ e.1 ∧ e.1 < 0x300000 ∧ e.1 % 0x2000 = 0x80 ∧ fld e.2 15 8 = 2))
  let r := { s0.kept with
    mem := s0.mem.filter (fun e => dumpByte e.1), bad := s0.bad.filter (fun e => dumpByte e.1)
    regs := s0.regs.filter (fun e => warmReg e.1)
    evPass := s0.evPass ++ s0.listRecords, evBkt := s0.evBkt, evStage := s0.evStage, evBuf := s0.evBuf, evUnw := s0.evUnw
    evLost := s0.evLost, evAccess := s0.evAccess, opAt := s0.opAt, nvQ := s0.nvQ, nvBlock := s0.nvBlock
    cadSaving := s0.cadSaving, cadLast := s0.cadLast, pfLow := s0.pfLow, pfHold := s0.pfHold
    fio := s0.fio, forceHist := s0.forceHist, hbRun := s0.hbRun, lastHb := s0.lastHb, tpLow := s0.tpLow, tpWin := s0.tpWin, tpLast := s0.tpLast, fPause := s0.fPause
    fioHeld := s0.fioHeld, sf := FMap.forget (fun k => decide (k % 2 = 0)) s0.sf, sq := s0.sq, sfReq := s0.sfReq, spRegs := s0.spRegs, sfSet := s0.sfSet, sfScnt := s0.sfScnt, sfPress := s0.sfPress
    fPh := s0.fPh, coldRst := s0.coldRst, opt := s0.opt, bootFault := s0.bootFault, bootFails := s0.bootFails
    aliveStop := s0.aliveStop, clkStop := s0.clkStop, fltMsg := s0.fltMsg, dumpPend := s0.dumpPend, lines := s0.lines.filter (fun e => decide (25 ≤ e.1 ∧ e.1 ≤ 29)), auFails := s0.auFails }
  let r1 := (failed.foldl (fun (s : State) (e : Nat × W) => s.setReg e.1 0x200) r).setReg aFLT_CFG (if s0.opt.frst then 2 else 0)
  (((fdieBstat.foldl (fun (s : State) a => s.setRf a 0 0 0) r1.applyRetired.openLow).causeEnds 2).forceCause 3).waitAfter s.ruRole
/-- A warm reset with cause bit `b`. -/
def State.warm (s : State) (b : Nat) : State := s.resetL.noteReset b

/-! ### Engine resets (R379, R381, R398) -/

/-- Whether engine `e` is in reset. -/
def State.engInReset (s : State) (e : Nat) : Bool := FMap.get (fun _ => false) s.engRst e
/-- The created partitions with a task on engine `e`. -/
def State.partsOn (s : State) (e : Nat) : List Nat :=
  s.created.filter (fun p => (List.range 9).any (fun t => s.enabled p t && decide (s.rf (aTT_CTL p t) 6 0 = e)))
/-- The periodic tasks of `p` that are in the middle of a pass. -/
def State.midPass (s : State) (p : Nat) : List Nat :=
  (List.range 8).filter (fun t =>
    decide (tInput ≤ s.tstate p t ∧ s.tstate p t ≤ tOutput) || (s.tstate p t == tHeld && (s.task p t).heldMid))
/-- Partition `p` stops with STOPCAUSE 0x04; each of its passes ends by another contained fault (R265). -/
def State.faultStop (s : State) (p : Nat) : State :=
  let ts := if s.mode p = 2 ∨ s.mode p = 3 then s.midPass p else []
  ts.foldl (fun s t => s.passFault p t 3 0) (s.stopPart p 4 evFault)
/-- Engine `e` stops at once: the instruction in progress is abandoned and every partition with a task on it stops with STOPCAUSE 0x04. DEDUCED (log 125). -/
def State.haltEngine (s : State) (e : Nat) : State :=
  let s1 := { s with engRst := FMap.set (fun _ => false) s.engRst e true }.setEng e { Eng.zero with last := (s.eng e).last }
  (s1.partsOn e).foldl State.faultStop s1
/-- An engine reset of `e`: recorded, and the engine is held; its watchdog channel is held with it (R394). -/
def State.resetEngine (s : State) (e : Nat) : State :=
  let s1 := ((s.noteReset 10).setRf (aRST_ENG_MAP (e / 32)) (e % 32) (e % 32) 1).haltEngine e
  { s1 with wdgExp := FMap.erase s1.wdgExp e, wdgReq := FMap.erase s1.wdgReq e }.setReg (aWDG_ESTAT e) 0

/-! ### Block resets (R361, R384, R385) -/

/-- The map register and bit of a block code (`RST_BLK_MAP`). -/
def blockBit (code : Nat) : Option (Bool × Nat) :=
  if code < 0x14 then some (false, code) else if 0x20 ≤ code ∧ code < 0x30 then some (true, code - 0x20) else none
/-- Whether a block code names a block that is present. -/
def State.blockPresent (s : State) (code : Nat) : Bool :=
  if code < 16 then decide (code < s.fuse.cans) else if code < 20 then true
  else decide (0x20 ≤ code ∧ 8 * (code - 0x20) < s.fuse.lanes ∧ code < 0x30)
/-- Set the bit of a block in a pair of map registers. -/
def State.markBlock (s : State) (lo hi code : Nat) (v : Bool) : State :=
  match blockBit code with
  | some (false, b) => s.setRf lo b b v.toNat
  | some (true, b) => s.setRf hi b b v.toNat
  | none => s
/-- The lanes of group `g`. -/
def groupLanes (g : Nat) : List Nat := (List.range 8).map (fun i => 8 * g + i)
/-- A posted write that the instance whose `BSTAT` lies at `b` had not applied is dropped and recorded (R384). -/
def State.dropPosted (s : State) (b : Nat) : State :=
  match FMap.get (fun _ => none) s.posted b with
  | some (src, a, _) => ({ s with posted := FMap.set (fun _ => none) s.posted b none }.setRf b 0 0 0).refuse src (farSpace src) a 3
  | none => s
/-- The registers of controller `n` that a block reset puts back: RO, WS and RWP ones, and what the applied configuration and the object
records leave of `CAN_STAT` and `MB_STAT` (R361, R379). -/
def State.resetCanRegs (s : State) (n : Nat) : State :=
  let s1 := s.zeroRegs ([aCAN_CFGERR n, aCAN_CFGOBJ n, aCAN_LOOPD n, aCAN_CMD n, aCAN_CMD_STAT n, aCAN_TTSTAT n, aCAN_EVT_SEQ n, aCAN_EVT n,
    aCAN_EVT_EN n, aCAN_EVT_VEC n, aCAN_CNT_RX n, aCAN_CNT_TX n, aCAN_CNT_NOMATCH n, aCAN_CNT_ERR n, aCAN_CNT_BOFF n]
    ++ (List.range 32).flatMap (fun m => aMB_ID n m :: (List.range 17).map (fun i => aMB_DATA n m i)))
  (List.range 32).foldl (fun s m => s.setRf (aMB_STAT n m) 15 0 0) (s1.setReg (aCAN_STAT n) (s1.reg (aCAN_STAT n) &&& 0xC0000000))
/-- A block reset of controller `n` (R361): its events go to no vector any more. -/
def State.resetCan (s : State) (n : Nat) : State :=
  let s0 := (s.dropPosted (aCAN_BSTAT n)).zeroRegs [aCAN_EVT_EN n]
  let s1 := (s0.cancelAll n).setCan n Can.zero
  ((s1.setCounts n 0 0).resetCanRegs n).setRf (aCAN_BSTAT n) 1 1 1
/-- The mover's units stop (R385): a block in copy is discarded whole, so its image keeps the block before it. -/
def State.dropCopies (s : State) : State :=
  (s.cu.filter (fun j => decide (j.cur ≠ []))).foldl (fun s j => s.wrCells j.undo) { s with cu := [] }
/-- The own effects of a block reset (table "Blocks with isolation wrappers"); the line of a lane group is asserted once for all its ports. The flash
access that a reset of the xSPI block ends is never in progress between two commands. DEDUCED (log 125). -/
def State.blockEffect (s : State) (code : Nat) : State :=
  if code < 16 then
    s.resetCan code
  else if code = 0x10 then
    let s1 := (s.parts.map (·.1)).foldl (fun s p =>
      match (s.part p).pause with
      | some q => s.endPause p (s.fab - q.start) true
      | none => s) s.dropCopies
    s1.created.foldl State.faultStop s1
  else if code = 0x11 then s.endSession
  else if code = 0x13 then s.resetEndpoint
  else if 0x20 ≤ code then
    let src := 48 + (code - 0x20)
    let r := (groupLanes (code - 0x20)).foldl (fun s n =>
      let s1 := ((s.dropPosted (aLN_BSTAT n)).setLane n 0 2 false).setRf (aLN_BSTAT n) 1 1 1
      match s1.portOf n with
      | some p =>
        let s2 := s1.portDown p n 0x0B
        if s2.reg aFLT_SEQ = s1.reg aFLT_SEQ then s2 else { s2 with lines := FMap.set (fun _ => 0) s2.lines src cContained }
      | none => s1) s
    { r with lines := FMap.set (fun _ => 0) r.lines src (FMap.get (fun _ => 0) s.lines src) }
  else s
/-- A block reset of the block `code`. -/
def State.resetBlock (s : State) (code : Nat) : State :=
  let s1 := { ((s.noteReset 11).markBlock aRST_BLK_MAP_LO aRST_BLK_MAP_HI code true) with
    blkRst := FMap.set (fun _ => false) s.blkRst code true }
  s1.blockEffect code
/-- Whether BLOCKHOLD holds a block. -/
def State.blockHeld (s : State) (code : Nat) : Bool :=
  match blockBit code with
  | some (false, b) => s.rb aRST_HELD_LO b
  | some (true, b) => s.rb aRST_HELD_HI b
  | none => false
/-- The block restarts from its applied configuration. -/
def State.restartBlock (s : State) (code : Nat) : State :=
  let s1 := { s with blkRst := FMap.set (fun _ => false) s.blkRst code false }
  if code < 16 then (s1.setRf (aCAN_BSTAT code) 1 1 0).canJoin code
  else if code = 0x10 then { s1 with hbSent := none }
  else if 0x20 ≤ code then (groupLanes (code - 0x20)).foldl (fun s n => s.setRf (aLN_BSTAT n) 1 1 0) s1
  else s1
/-- A block reset releases, 4 µs after its last source; not while BLOCKHOLD holds it. -/
def execBlockResetRelease (code : BitVec 10) (dt : Nat) (st : State) : Host.Outcome State Fault Refusal :=
  let s := st.elapse dt
  .next (if s.inReset code.toNat ∧ s.blockHeld code.toNat = false then s.restartBlock code.toNat else s)

/-! ### Partition reset (R386) -/

/-- The pending values of `p` equal the applied ones: entries, header, context base, range and descriptors. -/
def State.dropPending (s : State) (p : Nat) : State :=
  let lo := p * entriesPerPart
  let hi := (p + 1) * entriesPerPart
  let f := s.rf (aPD_MOV_RANGE p) 15 0
  let n := s.rf (aPD_MOV_RANGE p) 31 16
  let here (a : Nat) : Bool := decide (0x300000 + 0x800 * p ≤ a ∧ a < 0x300800 + 0x800 * p) || decide (aMD_0 f ≤ a ∧ a < aMD_0 (f + n))
  let s1 : State := { s with trP := s.trP.filter (fun (e : Nat × W) => decide (e.1 < lo)) ++ s.trA.filter (fun (e : Nat × W) => decide (lo ≤ e.1 ∧ e.1 < hi))
                            ++ s.trP.filter (fun (e : Nat × W) => decide (hi ≤ e.1)) }
  ((s1.pend.map (·.1) ++ s1.regs.map (·.1)).filter here).foldl (fun s a => if pendMask a = 0 then s else s.setPnd a (s.reg a)) s1
/-- A pending edit commit whose pause has not begun is discarded; a pause that runs completes first. -/
def State.settleEdit (s : State) (p : Nat) : State :=
  match (s.part p).pause with
  | some q => s.endPause p q.len q.fault
  | none =>
    if s.editPending p then
      (({ s with ruEdit := FMap.erase s.ruEdit p }.setRf (aPD_COMMIT p) 1 1 0).setPart p { s.part p with edit := none }).dropPending p
    else s
/-- Words 0 to 23 of the context area of task `t` that lie in mapped pages are zeroed. -/
def State.zeroCtx (s : State) (p t : Nat) : State :=
  (List.range 24).foldl (fun s i => s.pokeAt p false ((s.ctxBase p t + i) % 2 ^ 21) 0) s
/-- The registers of task `t` that a partition reset clears. -/
def State.clearTask (s : State) (p t : Nat) : State :=
  let k := s.task p t
  let s1 := (s.zeroCtx p t).setTask p t { k with ctx := { k.ctx with csd := 0, f := k.ctx.f &&& 0x0F } }
  (((s1.setRf (aPD_TSTAT p t) 7 4 0).setReg (aPD_TPASS p t) 0).setReg (aPD_TLAST p t) 0).setReg (aPD_TMAX p t) 0
/-- A partition reset of `p`. DEDUCED (log 125). -/
def State.resetPart (s : State) (p : Nat) : State :=
  let s0 := s.settleEdit p
  let s1 := if s0.mode p = 2 ∨ s0.mode p = 3 then s0.stopPart p 1 0 else s0
  let s2 := (List.range 9).foldl (fun s t => s.clearTask p t) s1
  let s3 := (s2.descs p).foldl (fun s i => (s.setRf (aMD_0 i) 27 27 0).setPnd (aMD_0 i) (putBit (s.pnd (aMD_0 i)) 27 false)) s2
  s3.zeroRegs [aPD_EVT p, aPD_MOVFLT p, aPD_MOVFLT_CNT p]

/-! ### Commands of `RST_CMD` (R387) -/

/-- A reset command of `src` ends with REASON `r`; a VF reaches no such register. -/
def State.rstDone (s : State) (r : Nat) : State := s.setReg aRST_CMD_STAT (BitVec.ofNat 32 (r * 256))
/-- A reset command of `src`. DESIGN CHOICE (log 123). -/
def State.rstCmd (s : State) (src : Nat) (k : State → State) : State := if isVf src then s else k s
/-- COLD. -/
def execCold (src : BitVec 10) (st : State) : Host.Outcome State Fault Refusal :=
  .next (st.rstCmd src.toNat (fun s => if s.granted src.toNat 1 then s.cold 3 else s.rstDone 2))
/-- WARM. -/
def execWarm (src : BitVec 10) (st : State) : Host.Outcome State Fault Refusal :=
  .next (st.rstCmd src.toNat (fun s => if s.granted src.toNat 1 then s.warm 9 else s.rstDone 2))
/-- ENGINE. -/
def execEngineCmd (src : BitVec 10) (arg : BitVec 10) (st : State) : Host.Outcome State Fault Refusal :=
  .next (st.rstCmd src.toNat (fun s => if s.fuse.engines ≤ arg.toNat then s.rstDone 1 else (s.resetEngine arg.toNat).rstDone 0))
/-- BLOCK. -/
def execBlockCmd (src : BitVec 10) (arg : BitVec 10) (st : State) : Host.Outcome State Fault Refusal :=
  .next (st.rstCmd src.toNat (fun s => if s.blockPresent arg.toNat then (s.resetBlock arg.toNat).rstDone 0 else s.rstDone 1))
/-- BLOCKHOLD. -/
def execBlockhold (src : BitVec 10) (arg : BitVec 10) (st : State) : Host.Outcome State Fault Refusal :=
  .next (st.rstCmd src.toNat (fun s =>
    if s.blockPresent arg.toNat then ((s.resetBlock arg.toNat).markBlock aRST_HELD_LO aRST_HELD_HI arg.toNat true).rstDone 0 else s.rstDone 1))
/-- BLOCKREL. -/
def execBlockrel (src : BitVec 10) (arg : BitVec 10) (st : State) : Host.Outcome State Fault Refusal :=
  .next (st.rstCmd src.toNat (fun s =>
    if s.blockPresent arg.toNat = false then s.rstDone 1
    else if s.blockHeld arg.toNat = false then s.rstDone 3
    else (s.markBlock aRST_HELD_LO aRST_HELD_HI arg.toNat false).rstDone 0))
/-- PARTITION. -/
def execPartitionCmd (src : BitVec 10) (arg : BitVec 10) (st : State) : Host.Outcome State Fault Refusal :=
  .next (st.rstCmd src.toNat (fun s =>
    let p := arg.toNat
    if s.fuse.partitions ≤ p then s.rstDone 1
    else if s.pairPart p ∧ (s.ruRole = 4 ∨ s.ruRole = 5) then s.rstDone 3
    else (((s.noteReset 12).setReg aRST_LASTPART (BitVec.ofNat 32 p)).resetPart p).rstDone 0))

/-! ### Sources on pins and supplies (R379, R447, R448, R451) -/

/-- The RTC as it stands when VBAT and VAO were both lost: every register and the calendar at their reset values, VALID 0 (R287). -/
def State.loseRtc (s : State) : State :=
  { s with regs := s.regs.filter (fun e => !rtcReg e.1), pend := s.pend.filter (fun e => !rtcReg e.1), rtcSec := 0, rtcSub := 0, rtcFold := none
           rtcDst := none, rtcSetDue := false, rtcRun := true, meas := none }
/-- VAO power-on; `vbat` tells whether VBAT held while VAO was off. -/
def execVaoPowerOn (vbat : Bool) (st : State) : Host.Outcome State Fault Refusal :=
  .next { (if vbat then st else st.loseRtc).cold 0 with lpg := false }
/-- VAO below 2.9 V for 10 µs. -/
def execVaoBrownout (st : State) : Host.Outcome State Fault Refusal := .next (st.cold 1)
/-- `RESET_N` low for `ns` nanoseconds: ignored below 0.5 µs, taken from 1 µs on, and between them taken or not. DESIGN CHOICE (log 183). -/
def execResetN (ns : Nat) (st : State) : Host.Outcome State Fault Refusal :=
  .next (if 1000 ≤ ns then st.cold 2
    else if ns < 500 then st
    else if Config.resetTaken st.fresh then st.useFresh.cold 2 else st.useFresh)
/-- All five L-die supplies have been in range for 100 µs. -/
def execLdiePowerGood (dt : Nat) (st : State) : Host.Outcome State Fault Refusal := .next { st.elapse dt with lpg := true }
/-- An L-die supply has failed: a warm reset, until power is good again (R389, R448). -/
def execLdiePowerGoodLoss (st : State) : Host.Outcome State Fault Refusal := .next { st.warm 4 with lpg := false }
/-- `PCIE_PERST_N` low for 1 µs or more: a block reset of the endpoint. DEDUCED (log 124). -/
def execPciePerst (st : State) : Host.Outcome State Fault Refusal := .next (st.resetBlock 0x13)
/-- A function-level reset of VF `k`. -/
def execVfFlr (k : BitVec 10) (st : State) : Host.Outcome State Fault Refusal :=
  .next (if isVf k.toNat then st.resetVf k.toNat else st)
/-- A function-level or hot reset of PF0, or the PCIe link goes down: recorded as a block reset of the endpoint (R379). DEDUCED (log 124). -/
def execPf0Reset (st : State) : Host.Outcome State Fault Refusal := .next (st.resetBlock 0x13)

end Sys2Proof.Machine
end

