-- ==== Sys2Proof/Machine/AuthUnit.lean ====
section
/-!
DEFINITION. The authorisation unit on the F-die (spec/16 R430 to R434): exchanges, grants, lockout and the key store. Requester 0 is PF0,
0x3FE the service port; slot 15 names the device key.
-/
namespace Sys2Proof.Machine

/-- The index of a requester: 0 PF0, 1 the service port. -/
def auIdx (src : Nat) : Nat := if src = 0x3FE then 1 else 0
/-- CLK_FAB clocks in `n` seconds. -/
def fabSeconds (n : Nat) : Nat := n * 800000000
/-- Whether a time of `n` s that ends at clock count `t` may have run out: the F-die times it within ±3 % (R21). -/
def State.fdieDue (s : State) (t n : Nat) : Bool := decide (t ≤ s.fab + fabSeconds n * 3 / 100)

/-- Key and rights of slot `n`, if it holds a key; the device key carries every right. -/
def State.auKey (s : State) (n : Nat) : Option (List Byte × Nat) :=
  if n = 15 then some ((List.range 32).map Config.deviceKey, 0xFF)
  else if n < 8 then FMap.get (fun _ => none) s.auKeys n else none
/-- The 30-byte message of an exchange (table "Authorisation message"). -/
def State.auMessage (s : State) (x : Exch) : List Byte :=
  x.nonce ++ [BitVec.ofNat 8 (auIdx x.req), BitVec.ofNat 8 x.slot] ++ beBytes 2 x.rights ++ beBytes 6 s.fuse.lotL.toNat
    ++ beBytes 4 (gazetteerWord s.fuse 0x8008).toNat
/-- The MAC that the unit expects: the first 16 bytes of HMAC-SHA-256 (R430). -/
def State.auMac (s : State) (x : Exch) (key : List Byte) : List Byte := (hmacSha256 key (s.auMessage x)).take 16

/-- Requester `src` holds a grant with rights `r` of slot `n` (R430, R431). -/
def State.giveGrant (s : State) (src n r : Nat) : State :=
  let s1 := s.setRegFor src aAU_GRANT (BitVec.ofNat 32 (r % 65536))
  { (if src = 0x3FE then s1.setRf aSP_STAT 2 2 1 else s1) with
    auEnd := FMap.set (fun _ => 0) s1.auEnd (auIdx src) (s1.fab + fabSeconds 600)
    auSlot := FMap.set (fun _ => 0) s1.auSlot (auIdx src) n }
/-- Whether `src` holds a grant. -/
def State.hasGrant (s : State) (src : Nat) : Bool := decide (FMap.get (fun _ => 0) s.auEnd (auIdx src) ≠ 0)

/-- CHALLENGE of `src`, naming a slot and rights; its REASON (R430, R432, R433). -/
def State.auChallenge (s : State) (src slot rights : Nat) : State × Nat :=
  if s.auExch.isSome then (s, 1)
  else if s.auLock.isSome then (s, 4)
  else if (s.auKey slot).isNone ∨ rights = 0 then (s, 3)
  else
    let nonce := (List.range 16).map (Config.nonce s.fresh)
    let s1 := (List.range 4).foldl (fun (s : State) i => s.setRegFor src (aAU_NONCE i) (wordAt nonce (4 * i))) s.useFresh
    ({ s1 with auExch := some { req := src, slot := slot, rights := rights, nonce := nonce, at_ := s1.fab } }, 0)
/-- An exchange has failed: counted, and the fifth failure in a row locks the unit out (R433). -/
def State.auFail (s : State) : State :=
  let s1 := { s with auExch := none }.passEvent 0x0205 6 []
  if s1.auFails = 4 then
    let n := 60 * 2 ^ s1.auLevel
    { (s1.passEvent 0x0206 6 []) with auFails := 0, auLevel := min 6 (s1.auLevel + 1), auLock := some (s1.fab + fabSeconds n, n) }
  else { s1 with auFails := s1.auFails + 1 }
/-- RESPONSE of `src` with a MAC; its REASON. -/
def State.auResponse (s : State) (src : Nat) (mac : List Byte) : State × Nat :=
  match s.auExch with
  | none => (s, 6)
  | some x =>
    if x.req ≠ src then (s, 5)
    else match s.auKey x.slot with
      | none => (s.auFail, 2)
      | some (key, rights) =>
        if mac = s.auMac x key then
          ({ s with auExch := none, auFails := 0, auLevel := 0 }.giveGrant src x.slot ((BitVec.ofNat 16 x.rights &&& BitVec.ofNat 16 rights).toNat), 0)
        else (s.auFail, 2)

/-- A command in `AU_CMD` of `src` ends with a REASON, in that requester's copy of `AU_STAT`. -/
def State.auDone (src : Nat) (r : State × Nat) : State := r.1.setRegFor src aAU_STAT (BitVec.ofNat 32 (r.2 % 256 * 2 ^ 24))
/-- A command of `src` written to `AU_CMD`. -/
def State.auCmd (s : State) (src : Nat) (k : State → State × Nat) : State :=
  s.farWrite src aAU_CMD aAU_BSTAT (fun s => State.auDone src (k s))
/-- `AU_ARG.SLOT` of `src`. -/
def State.auArgSlot (s : State) (src : Nat) : Nat := fld (s.regFor src aAU_ARG) 19 16
/-- `AU_ARG.RIGHTS` of `src`. -/
def State.auArgRights (s : State) (src : Nat) : Nat := fld (s.regFor src aAU_ARG) 15 0
/-- The bytes of `AU_MAC0` to `3`. -/
def State.auMacRegs (s : State) : List Byte := (List.range 4).flatMap (fun i => bytesOf (s.reg (aAU_MAC i)))
/-- CHALLENGE through `AU_CMD`. -/
def State.cmdChallenge (src : Nat) (s : State) : State × Nat := s.auChallenge src (s.auArgSlot src) (s.auArgRights src)
/-- RESPONSE through `AU_CMD`. -/
def State.cmdResponse (src : Nat) (s : State) : State × Nat := s.auResponse src s.auMacRegs
/-- RELINQUISH. DEDUCED (log 141). -/
def State.cmdRelinquish (src : Nat) (s : State) : State × Nat := (s.endGrant src, 0)

/-- CHALLENGE of PF0. -/
def execAuChallenge (st : State) : Host.Outcome State Fault Refusal := .next (st.auCmd 0 (State.cmdChallenge 0))
/-- RESPONSE of PF0. -/
def execAuResponse (st : State) : Host.Outcome State Fault Refusal := .next (st.auCmd 0 (State.cmdResponse 0))
/-- RELINQUISH of PF0. -/
def execAuRelinquish (st : State) : Host.Outcome State Fault Refusal := .next (st.auCmd 0 (State.cmdRelinquish 0))

/-! ### The key store (R434) -/

/-- What a change of slot `n` ends: the grants of the slot, and an exchange on it (R431, table "Exchanges that meet"). -/
def State.slotChanged (s : State) (n : Nat) : State :=
  let ends (src : Nat) (s : State) : State :=
    if s.hasGrant src ∧ FMap.get (fun _ => 0) s.auSlot (auIdx src) = n then s.endGrant src else s
  let s1 := ends 0x3FE (ends 0 s)
  if (match s1.auExch with | some x => x.slot == n | none => false) then { s1 with auExch := none } else s1
/-- The bytes of `AU_KEYBUF0` to `7`. -/
def State.keyBuf (s : State) : List Byte := (List.range 8).flatMap (fun j => bytesOf (s.reg (aAU_KEYBUF j)))
/-- KEYSET of `src`. DEDUCED (log 139). -/
def State.keyset (src : Nat) (s : State) : State × Nat :=
  let n := s.auArgSlot src
  let r := s.auArgRights src % 256
  if s.granted src 7 = false then (s, 8)
  else if 8 ≤ n then (s, (Config.keyReason (BitVec.ofNat 4 n)).toNat)
  else if 1000 ≤ FMap.get (fun _ => 0) s.auWrites n then (s, 7)
  else
    let s1 := { s with auKeys := FMap.set (fun _ => none) s.auKeys n (some (s.keyBuf, r))
                       auWrites := FMap.set (fun _ => 0) s.auWrites n (FMap.get (fun _ => 0) s.auWrites n + 1) }
    ((((s1.zeroRegs ((List.range 8).map aAU_KEYBUF)).setReg (aAU_RIGHTS n) (BitVec.ofNat 32 (2 ^ 31 + r))).slotChanged n), 0)
/-- KEYCLR of `src`. -/
def State.keyclr (src : Nat) (s : State) : State × Nat :=
  let n := s.auArgSlot src
  if s.granted src 7 = false then (s, 8)
  else if 8 ≤ n then (s, (Config.keyReason (BitVec.ofNat 4 n)).toNat)
  else (({ s with auKeys := FMap.set (fun _ => none) s.auKeys n none }.setReg (aAU_RIGHTS n) 0).slotChanged n, 0)
/-- `AU_CMD` KEYSET by `src`. -/
def execKeyset (src : BitVec 10) (st : State) : Host.Outcome State Fault Refusal := .next (st.auCmd src.toNat (State.keyset src.toNat))
/-- `AU_CMD` KEYCLR by `src`. -/
def execKeyclr (src : BitVec 10) (st : State) : Host.Outcome State Fault Refusal := .next (st.auCmd src.toNat (State.keyclr src.toNat))

/-! ### Times that run out -/

/-- 10 s without the owner's RESPONSE: the exchange closes without a failure (R432). -/
def execExchangeTimeout (dt : Nat) (st : State) : Host.Outcome State Fault Refusal :=
  let s := st.elapse dt
  .next (match s.auExch with
    | some x => if s.fdieDue (x.at_ + fabSeconds 10) 10 then { s with auExch := none } else s
    | none => s)
/-- The grant of PF0, or of the service port, ends 600 s after it was given (R431). -/
def execGrantExpiry (sp : Bool) (dt : Nat) (st : State) : Host.Outcome State Fault Refusal :=
  let s := st.elapse dt
  let src := if sp then 0x3FE else 0
  .next (if s.hasGrant src ∧ s.fdieDue (FMap.get (fun _ => 0) s.auEnd (auIdx src)) 600 then s.endGrant src else s)
/-- The lockout time runs out (R433). -/
def execLockoutEnd (dt : Nat) (st : State) : Host.Outcome State Fault Refusal :=
  let s := st.elapse dt
  .next (match s.auLock with
    | some (t, n) => if s.fdieDue t n then { s with auLock := none } else s
    | none => s)

end Sys2Proof.Machine
end

