-- ==== Sys2Proof/Machine/Strobes.lean ====
section
/-!
DEFINITION. Strobe groups (spec/02 R52 to R54, R468) and how the field channels (spec/10 R312, R313) and the CAN FD controllers
(spec/12 R344 to R348) apply theirs.
-/
namespace Sys2Proof.Machine

/-! ### `GCTL_UPDATE` -/

/-- The offsets of a strobe group, by its bit in `GCTL_UPDATE`: from the first to the one past the last. -/
def groupRange (b : Nat) : Nat × Nat :=
  if b < 16 then (0x1000000 + 0x10000 * b, 0x1000000 + 0x10000 * (b + 1))
  else if b = 16 then (0xB0000, 0xC0000) else if b = 17 then (0x40000, 0x50000) else (0x60000, 0x70000)
/-- Whether the unit of strobe group `b` is present (R54). -/
def State.groupPresent (s : State) (b : Nat) : Bool :=
  if b < 16 then decide (b < s.fuse.cans) else if b = 16 then s.fuse.field else decide (b < 19)
/-- Whether the block of strobe group `b` is unreachable (R51). The watchdog stands on the L-die. -/
def State.groupUnreach (s : State) (b : Nat) : Bool :=
  if b < 16 then s.rb (aCAN_BSTAT b) 1 else if b = 16 then s.rb aFIO_BSTAT 1 else if b = 18 then s.rb aRTC_BSTAT 1 else false

/-- The value that the snapshot holds for offset `a`: what was pending when it was taken. -/
def State.snapW (s : State) (a : Nat) : W := (FMap.get (fun _ => none) s.snap a).getD (regReset s.fuse a)
/-- A snapshot of the pending values from `lo` up to `hi`. -/
def State.takeSnap (s : State) (lo hi : Nat) : State :=
  ((s.pend.map (·.1)).filter (fun a => decide (lo ≤ a ∧ a < hi))).foldl
    (fun s a => { s with snap := FMap.set (fun _ => none) s.snap a (some (s.pnd a)) }) s
/-- The snapshot from `lo` up to `hi` is spent. -/
def State.dropSnap (s : State) (lo hi : Nat) : State :=
  { s with snap := FMap.forget (fun a => decide (lo ≤ a ∧ a < hi)) s.snap }
/-- The value that the snapshot gives the register at `a`: its RO bits stay. -/
def State.snapped (s : State) (a : Nat) : W := mergeBits (s.reg a) (pendMask a) (s.snapW a)
/-- The register at `a` takes the snapshot's value. -/
def State.applySnap (s : State) (a : Nat) : State := s.setReg a (s.snapped a)
/-- Strobe group `b` is applying. -/
def State.applying (s : State) (b : Nat) : Bool := s.rb aGCTL_UPDATE_STAT b
/-- Strobe group `b` has applied, or was refused by its block. -/
def State.endStrobe (s : State) (b : Nat) : State :=
  (s.dropSnap (groupRange b).1 (groupRange b).2).setRf aGCTL_UPDATE_STAT b b 0

/-- A write of `GCTL_UPDATE` (R52, R53, R54, R468). DEDUCED (log 55). -/
def State.updateWrite (s : State) (src : Nat) (data : W) : State :=
  if isVf src then s
  else
    let named := (List.range 19).filter (fun b => bitAt data b && s.groupPresent b)
    if named.any s.applying then s.refuse src (farSpace src) aGCTL_UPDATE 5
    else if named.any s.groupUnreach then s.refuse src (farSpace src) aGCTL_UPDATE 3
    else named.foldl (fun s b => (s.takeSnap (groupRange b).1 (groupRange b).2).setRf aGCTL_UPDATE_STAT b b 1) s

/-- A write of `data` to `GCTL_UPDATE` that names FIO, and any other group beside it. -/
def execUpdateFio (src : BitVec 10) (data : W) (st : State) : Host.Outcome State Fault Refusal :=
  .next (st.updateWrite src.toNat (putBit data 16 true))
/-- A write of `data` to `GCTL_UPDATE` that names CANn, and any other group beside it. -/
def execUpdateCan (src : BitVec 10) (n : BitVec 4) (data : W) (st : State) : Host.Outcome State Fault Refusal :=
  .next (st.updateWrite src.toNat (putBit data n.toNat true))
/-- A write of `data` to `GCTL_UPDATE` that names WDG, and any other group beside it. -/
def execUpdateWdg (src : BitVec 10) (data : W) (st : State) : Host.Outcome State Fault Refusal :=
  .next (st.updateWrite src.toNat (putBit data 17 true))
/-- A write of `data` to `GCTL_UPDATE` that names RTC, and any other group beside it. -/
def execUpdateRtc (src : BitVec 10) (data : W) (st : State) : Host.Outcome State Fault Refusal :=
  .next (st.updateWrite src.toNat (putBit data 18 true))

/-! ### Owner fields in a snapshot -/

/-- The owner field at `a` takes the snapshot's value, or waits with it where the owner changes. -/
def State.ownSnap (s : State) (a : Nat) : State :=
  let w := s.snapped a
  if ownerIn a w = s.ownerAt a then (s.setWait a none).setReg a w else s.setWait a (some w)

/-! ### Field channels (R312, R313) -/

/-- Channel `n` takes its configuration: a new output stays off or takes its safe state, a new input turns its switch off, and
a changed safe state acts at once while FORCED. -/
def State.fioCfgSnap (s : State) (n : Nat) : State :=
  let old := s.reg (aFIO_CFG n)
  let lvl := s.rb aFIO_OUTST n
  let s1 := s.applySnap (aFIO_CFG n)
  let out := s1.isOut n
  let safe := safeLevel (s1.rf (aFIO_CFG n) 29 28)
  if bitAt old 31 ∧ out = false then
    (((s1.setChan n { s1.chan n with drive := false, since := false }).setRf (aFIO_DIAG n) 1 1 0).drivePin n).reportIn n
  else if bitAt old 31 = false ∧ out then
    (s1.setChan n { s1.chan n with drive := s1.forced && safe false, since := false }).drivePin n
  else if s1.forced ∧ fld old 29 28 ≠ s1.rf (aFIO_CFG n) 29 28 then
    (s1.setChan n { s1.chan n with drive := safe lvl }).drivePin n
  else s1.reportIn n

/-- The FIO snapshot applies at one F-die clock edge; a channel and a TP that a safety function uses, and the period of an applied set, keep
what the set gave them (R297, R336). -/
def State.fioApply (s : State) : State :=
  if s.applying 16 ∧ s.rb aFIO_BSTAT 1 = false then
    let free := (List.range 32).filter (fun n => !s.rb (aFIO_OWN n) 30)
    let s1 := free.foldl (fun s n => (s.fioCfgSnap n).ownSnap (aFIO_OWN n)) (s.applySnap aFIO_HB)
    let s1 := if s1.sfApplied then s1 else s1.tpPeriod (s1.snapped aTP_PERIOD)
    let s2 := ((List.range 4).filter (fun n => !s.tpUsed n)).foldl (fun s n => (s.applySnap (aTP_CFG n)).tpTake n) s1
    let s3 := (List.range 32).foldl State.reportIn s2
    (s3.moveBlock 0xB0000 0xC0000).endStrobe 16
  else s

/-- The FIO strobe applies, `dt` clocks on. -/
def execFioStrobeApply (dt : Nat) (st : State) : Host.Outcome State Fault Refusal := .next ((st.elapse dt).fioApply)

/-! ### CAN FD controllers -/

/-- Whether nominal bit timing `w` lies in the table "Bit-timing ranges" (R344). -/
def nbtOk (w : W) : Bool :=
  let brp := fld w 31 24 + 1
  let t1 := fld w 23 16 + 1
  let t2 := fld w 15 9 + 1
  let bit := brp * (1 + t1 + t2)
  decide (2 ≤ t1 ∧ 2 ≤ t2 ∧ fld w 8 2 + 1 ≤ t2 ∧ 80 ≤ bit ∧ bit ≤ 8000)

/-- Whether data bit timing `w` lies in the table, beside nominal timing `nbt`. -/
def dbtOk (nbt w : W) : Bool :=
  let t1 := fld w 20 16 + 1
  let t2 := fld w 11 8 + 1
  let bit := (fld w 31 24 + 1) * (1 + t1 + t2)
  decide (fld w 3 0 + 1 ≤ t2 ∧ 10 ≤ bit ∧ bit ≤ (fld nbt 31 24 + 1) * (3 + fld nbt 23 16 + fld nbt 15 9))

/-- Whether the snapshot's bit timing is valid (R344, R345): data settings and SSPEN only while FDE = 1. -/
def State.canTimingOk (s : State) (n : Nat) : Bool :=
  let ctl := s.snapW (aCAN_CTL n)
  let nbt := s.snapW (aCAN_NBT n)
  let dbt := s.snapW (aCAN_DBT n)
  nbtOk nbt && (!bitAt ctl 2 || (dbtOk nbt dbt && (!bitAt ctl 5 || decide (fld dbt 31 24 + 1 ≤ 2))))

/-- The higher-numbered of two enabled objects with one identifier, if there are two (R348): the lowest such. -/
def State.canDuplicate (s : State) (n : Nat) : Option Nat :=
  (List.range 512).find? (fun k => bitAt (s.snapW (aOBJ_CFG n k)) 31 &&
    (List.range k).any (fun j => bitAt (s.snapW (aOBJ_CFG n j)) 31
      && canId (s.snapW (aOBJ_CFG n j)) == canId (s.snapW (aOBJ_CFG n k))))

/-- Whether the snapshot's time-triggered registers lie in their ranges; they count only with TT ≠ 0. DEDUCED (log 44). -/
def State.canTtOk (s : State) (n : Nat) : Bool :=
  let tt := fld (s.snapW (aCAN_CTL n)) 7 6
  let cyc := fld (s.snapW (aCAN_TTCYC n)) 19 0
  tt == 0 || (tt != 3 && decide (100 ≤ cyc ∧ cyc ≤ 1000000 ∧ fld (s.snapW (aCAN_TTPH n)) 19 0 < cyc)
    && (List.range 32).all (fun m => !bitAt (s.snapW (aMB_TRIG n m)) 31 || decide (fld (s.snapW (aMB_TRIG n m)) 23 20 ≤ 6)))

/-- The REASON with which the snapshot of controller `n` is refused, 0 when it passes. DEDUCED (log 53). -/
def State.canCheck (s : State) (n : Nat) : Nat :=
  if s.canTimingOk n = false then 1 else if (s.canDuplicate n).isSome then 2 else if s.canTtOk n = false then 3 else 0

/-- The snapshot of controller `n` applies: owners first, then the rest; entering CONFIG cancels every request, and
leaving it the controller integrates on the bus (R346). DEDUCED (log 53). -/
def State.canTake (s : State) (n : Nat) : State :=
  let was := s.canMode n
  let r := groupRange n
  let s1 := (List.range 512).foldl (fun s k => s.ownSnap (aOBJ_OWN n k)) s
  let s2 := ((List.range 32).foldl (fun s m => s.ownSnap (aMB_OWN n m)) s1).moveBlock r.1 r.2
  let s3 := (List.range 512).foldl (fun s k => (s.applySnap (aOBJ_CFG n k)).setRf (aOBJ_STAT n k) 29 29
    (bitAt (s.snapW (aOBJ_CFG n k)) 31).toNat) s2
  let s4 := (List.range 32).foldl (fun s m => (s.applySnap (aMB_TRIG n m)).applySnap (aMB_WIN n m)) s3
  let s5 := [aCAN_CTL n, aCAN_NBT n, aCAN_DBT n, aCAN_SSP n, aCAN_TTREF n, aCAN_TTCYC n, aCAN_TTPH n].foldl State.applySnap s4
  let s6 := (s5.setRf (aCAN_STAT n) 31 30 (s5.canMode n)).setReg (aCAN_CFGERR n) 0
  let s7 := if s6.canTt n = 0 then (s6.setRf (aCAN_STAT n) 26 26 0).setCan n { s6.can n with seen := false, refReq := none, ceded := false } else s6
  if was ≠ 0 ∧ s7.canMode n = 0 then s7.cancelAll n else if was = 0 ∧ s7.canMode n ≠ 0 then s7.canJoin n else s7

/-- The CANn strobe at a bus-idle point, in CONFIG or in bus-off (R346); a refused snapshot applies nothing. -/
def State.canApply (s : State) (n : Nat) : State :=
  if n < s.fuse.cans ∧ s.applying n ∧ s.rb (aCAN_BSTAT n) 1 = false
      ∧ (s.canMode n = 0 ∨ s.canEst n = 2 ∨ (s.can n).bus.isNone) then
    let r := s.canCheck n
    (if r = 0 then s.canTake n
     else
      let s1 := s.setReg (aCAN_CFGERR n) (BitVec.ofNat 32 (r * 256))
      let s2 := if r = 2 then s1.setReg (aCAN_CFGOBJ n) (BitVec.ofNat 32 ((s.canDuplicate n).getD 0)) else s1
      s2.canEvent n 8).endStrobe n
  else s

/-- The CANn strobe applies, `dt` clocks on. -/
def execCanStrobeApply (n : BitVec 4) (dt : Nat) (st : State) : Host.Outcome State Fault Refusal :=
  .next ((st.elapse dt).canApply n.toNat)

end Sys2Proof.Machine
end

