-- ==== Sys2Proof/Machine/Rtc.lean ====
section
/-!
DEFINITION. The real-time clock (spec/09 R285 to R295): calendar, SET, corrections, summer time, measurement, alarms and its strobe. A
command's RTC tick is an operand where it matters; commands take effect when their row comes.
-/
namespace Sys2Proof.Machine

/-! ### The calendar (R285) -/

/-- Seconds of the calendar's 400 years. -/
def calSeconds : Nat := 146097 * 86400
/-- Ticks of the calendar's 400 years. -/
def calTicks : Nat := calSeconds * 32768

/-- Year, month and day of day `d` since 2000-01-01. DEDUCED (log 103). -/
def civil (d : Nat) : Nat × Nat × Nat :=
  let doe := (d + 146037) % 146097
  let yoe := (doe - doe / 1460 + doe / 36524 - doe / 146096) / 365
  let doy := doe - (365 * yoe + yoe / 4 - yoe / 100)
  let mp := (5 * doy + 2) / 153
  let m := if mp < 10 then mp + 3 else mp - 9
  (2000 + (yoe + (if m ≤ 2 then 1 else 0)) % 400, m, doy - (153 * mp + 2) / 5 + 1)

/-- The day since 2000-01-01 of a date. -/
def dayOf (y m d : Nat) : Nat :=
  let yoe := (y - 2000 + 400 - (if m ≤ 2 then 1 else 0)) % 400
  let doy := (153 * (if 2 < m then m - 3 else m + 9) + 2) / 5 + d - 1
  (yoe * 365 + yoe / 4 - yoe / 100 + doy + 60) % 146097

/-- `RTC_TIME0` of a calendar value. -/
def time0 (sec sub : Nat) : W :=
  BitVec.ofNat 32 (sub * 131072 + sec % 86400 / 3600 * 4096 + sec % 3600 / 60 * 64 + sec % 60)
/-- `RTC_TIME1` of a calendar value: 1 Monday to 7 Sunday. -/
def time1 (sec : Nat) : W :=
  let d := sec / 86400
  let c := civil d
  BitVec.ofNat 32 (c.1 * 2 ^ 20 + c.2.1 * 2 ^ 16 + c.2.2 * 2 ^ 11 + ((d + 5) % 7 + 1) * 256)

/-- The calendar in ticks. -/
def State.rtcTicks (s : State) : Nat := s.rtcSec * 32768 + s.rtcSub
/-- The calendar takes a value in ticks. -/
def State.setTicks (s : State) (t : Nat) : State := { s with rtcSec := t / 32768 % calSeconds, rtcSub := t % 32768 }
/-- `RTC_STAT.VALID`. -/
def State.rtcValid (s : State) : Bool := s.rb aRTC_STAT 0

/-- FOLD ends when the calendar has reached the end of the fold (R291). -/
def State.foldDone (s : State) : State :=
  match s.rtcFold with
  | some e => if e ≤ s.rtcTicks then { s.setRf aRTC_STAT 4 4 0 with rtcFold := none } else s
  | none => s

/-- The event falls at tick `sub` of the present second; a fold that has ended by then is over (R291). DESIGN CHOICE (log 102). -/
def State.atTick (s : State) (sub : BitVec 15) : State := { s with rtcSub := max s.rtcSub sub.toNat }.foldDone

/-- The calendar steps by `n` ticks (R289, R291): a backward step sets FOLD up to the value it would have shown, or a later end of a fold
that runs; a step past the end of the calendar sets WRAP and ends the fold. -/
def State.calStep (s : State) (n : Int) : State :=
  let old := s.rtcTicks
  let new := (old : Int) + n
  let s1 := s.setTicks (new % (calTicks : Int)).toNat
  if (calTicks : Int) ≤ new then { (s1.setRf aRTC_STAT 6 6 1).setRf aRTC_STAT 4 4 0 with rtcFold := none }
  else if n < 0 then { s1.setRf aRTC_STAT 4 4 1 with rtcFold := some (max old (s1.rtcFold.getD 0)) }
  else s1.foldDone

/-! ### Commands -/

/-- `RTC_CMD_STAT.REASON`. -/
def State.rtcReason (s : State) (r : Nat) : State := s.setReg aRTC_CMD_STAT (BitVec.ofNat 32 r)
/-- A write of a command to `RTC_CMD` by `src`: a posted write to the far block (R48, R49), ignored with REASON 0x01 while a SET waits for its
tick. DESIGN CHOICE (log 102). -/
def State.rtcCmd (s : State) (src : Nat) (k : State → State) : State :=
  s.farWrite src aRTC_CMD aRTC_BSTAT (fun s => if s.rtcSetDue then s.rtcReason 1 else k s)
/-- The slew ends with its remainder discarded, or goes on with `r` ticks. -/
def State.setSlew (s : State) (r : Int) : State :=
  (s.setReg aRTC_SLEWREM (BitVec.ofInt 32 r)).setRf aRTC_STAT 2 2 (if r = 0 then 0 else 1)

/-- Whether a date exists within the calendar. -/
def dateOk (y m d : Nat) : Bool :=
  decide (2000 ≤ y ∧ y ≤ 2399 ∧ 1 ≤ m ∧ m ≤ 12 ∧ 1 ≤ d ∧ d ≤ 31) && civil (dayOf y m d) == (y, m, d)

/-- Whether `RTC_SET0` and `RTC_SET1` hold a date and time that exist. -/
def State.rtcSetOk (s : State) : Bool :=
  let w0 := s.reg aRTC_SET0
  let w1 := s.reg aRTC_SET1
  dateOk (fld w1 31 20) (fld w1 19 16) (fld w1 15 11) && decide (fld w0 16 12 ≤ 23 ∧ fld w0 11 6 ≤ 59 ∧ fld w0 5 0 ≤ 59)
/-- SET takes effect at a tick: the calendar with SUB = 0, VALID = 1, no slew, FOLD and WRAP clear. -/
def State.rtcLoad (s : State) : State :=
  let w0 := s.reg aRTC_SET0
  let w1 := s.reg aRTC_SET1
  let s1 := { s.measAbort 1 with
    rtcSec := dayOf (fld w1 31 20) (fld w1 19 16) (fld w1 15 11) * 86400 + fld w0 16 12 * 3600 + fld w0 11 6 * 60 + fld w0 5 0
    rtcSub := 0, rtcFold := none, rtcSetDue := false }
  s.oneEvent aRTC_EVT_SEQ (((((s1.setRf aRTC_STAT 0 0 1).setSlew 0).setRf aRTC_STAT 4 4 0).setRf aRTC_STAT 6 6 0).rtcReason 0 |>.rtcEvent 4)
/-- SET (R288): it applies at the next tick, which this command's time is while the crystal runs; with the crystal stopped it waits for the
first tick after that. DESIGN CHOICE (log 102). -/
def State.rtcSet (s : State) : State :=
  if s.rtcSetOk = false then s.rtcReason 2 else if s.rtcRun then s.rtcLoad else { s with rtcSetDue := true }

/-- RTC_CMD SET. -/
def execRtcSet (src : BitVec 10) (st : State) : Host.Outcome State Fault Refusal := .next (st.rtcCmd src.toNat State.rtcSet)

/-- The ticks of a correction of `c` µs, to the nearest, halves away from zero (R289). -/
def corrTicks (c : Int) : Int :=
  let n := (c.natAbs * 65536 + 1000000) / 2000000
  if c < 0 then -(n : Int) else (n : Int)

/-- CORR (R289, R290). DEDUCED (log 103). -/
def State.rtcCorr (s : State) : State :=
  if s.rtcValid = false then s.rtcReason 6
  else
    let c := (s.reg aRTC_CORR).toInt
    let s1 := (s.measAbort 1).rtcReason 0
    if c.natAbs < 1000000 then s1.setSlew (corrTicks c)
    else s.oneEvent aRTC_EVT_SEQ <| ((s1.setSlew 0).calStep (corrTicks c)).rtcEvent 4

/-- RTC_CMD CORR, applied at tick `sub` of the second. -/
def execCorr (src : BitVec 10) (sub : BitVec 15) (st : State) : Host.Outcome State Fault Refusal :=
  .next (st.rtcCmd src.toNat (fun s => (s.atTick sub).rtcCorr))

/-- A DST command (R294): it waits for the next second boundary. -/
def State.dstCmd (s : State) (fwd : Bool) : State :=
  let next : Int := (s.rtcSec : Int) + 1 + (if fwd then 3600 else -3600)
  if s.rtcDst.isSome then s.rtcReason 3
  else if s.rb aRTC_STAT 3 = fwd then s.rtcReason 5
  else if next < 0 ∨ (calSeconds : Int) ≤ next then s.rtcReason 2
  else if s.rtcValid = false then s.rtcReason 6
  else { (s.measAbort 2).rtcReason 0 with rtcDst := some fwd }

/-- RTC_CMD DSTFWD. -/
def execDstfwd (src : BitVec 10) (st : State) : Host.Outcome State Fault Refusal :=
  .next (st.rtcCmd src.toNat (fun s => s.dstCmd true))
/-- RTC_CMD DSTBACK. -/
def execDstback (src : BitVec 10) (st : State) : Host.Outcome State Fault Refusal :=
  .next (st.rtcCmd src.toNat (fun s => s.dstCmd false))

/-! ### Measurement (R293) -/

/-- The measurement's state and elapsed seconds. -/
def State.measShow (s : State) (secs st : Nat) : State :=
  s.setReg aRTC_MEAS_STAT (BitVec.ofNat 32 (secs % 65536 * 65536 + st))

/-- MEAS. -/
def State.measStart (s : State) : State :=
  let cfg := s.reg aRTC_MEASCFG
  let src := fld cfg 31 30
  let w := fld cfg 13 0
  if s.rb aRTC_STAT 2 ∨ ¬ (src = 1 ∨ src = 2) ∨ (src = 1 ∧ s.merValid = false) ∨ ¬ (100 ≤ w ∧ w ≤ 10000) ∨ s.meas.isSome then
    s.rtcReason 4
  else if s.rtcValid = false then s.rtcReason 6
  else
    { (s.rtcReason 0).measShow 0 1 with
      meas := some { mains := src == 2, win := w, hz60 := bitAt cfg 29, start := none, last := 0, secs := 0, n := 0, e := 0 } }

/-- RTC_CMD MEAS. DEDUCED (log 104). -/
def execMeasCmd (src : BitVec 10) (st : State) : Host.Outcome State Fault Refusal := .next (st.rtcCmd src.toNat State.measStart)
/-- RTC_CMD MEASSTOP. -/
def execMeasstop (src : BitVec 10) (st : State) : Host.Outcome State Fault Refusal :=
  .next (st.rtcCmd src.toNat (fun s => (s.measAbort 7).rtcReason 0))

/-- `a / b` to the nearest integer, halves away from zero. -/
def nearest (a : Int) (b : Nat) : Int :=
  let n := (2 * a.natAbs + b) / (2 * b)
  if a < 0 then -(n : Int) else (n : Int)

/-- ERR in ppb as numerator and denominator: (W − M) / M against Meridian, (E − N/f) / (N/f) against the mains. -/
def Meas.ratio (m : Meas) : Int × Nat :=
  if m.mains then
    let f := if m.hz60 then 60 else 50
    (((m.e * f : Nat) : Int) - ((m.n * 16000000 : Nat) : Int), m.n * 16000000)
  else
    let d : Int := (m.last.toNat : Int) - ((m.start.getD 0).toNat : Int)
    (((m.win * 1000000000 : Nat) : Int) - d, d.toNat)

/-- Whether the window has ended. DESIGN CHOICE (log 105). -/
def Meas.ended (m : Meas) : Bool :=
  if m.mains then m.start.isSome && decide (m.win * 16000000 ≤ m.e) else decide (m.win ≤ m.secs)

/-- The measurement is done and ERR is stored. -/
def State.measDone (s : State) (m : Meas) : State :=
  let r := m.ratio
  let v := nearest (r.1 * 1000000000) r.2
  let fits := decide (r.2 ≠ 0 ∧ -(2 ^ 31) ≤ v ∧ v < 2 ^ 31)
  let s1 := if fits then s.setReg aRTC_MEAS_ERR (BitVec.ofInt 32 v)
    else s.useFresh.setReg aRTC_MEAS_ERR (Config.measErr s.fresh)
  ({ s1.measShow m.secs 2 with meas := none }).rtcEvent 8

/-- The measurement window ends, `dt` clocks on. -/
def execMeasComplete (dt : Nat) (st : State) : Host.Outcome State Fault Refusal :=
  let s := st.elapse dt
  .next (match s.meas with
    | some m => if m.ended then s.measDone m else s
    | none => s)

/-- A rising mains crossing, `e` units of 62.5 ns of RTC time after the one before it, `dt` clocks on. -/
def execMainsCrossing (e dt : Nat) (st : State) : Host.Outcome State Fault Refusal :=
  let s := st.elapse dt
  .next (match s.meas with
    | some m =>
      if m.mains = false ∨ m.ended then s
      else if m.start.isNone then { s with meas := some { m with start := some s.now } }
      else { s.measShow ((m.e + e) / 16000000) 1 with
        meas := some { m with n := m.n + 1, e := m.e + e, secs := (m.e + e) / 16000000 } }
    | none => s)

/-- No mains crossing for 100 ms. -/
def execMainsTimeout (dt : Nat) (st : State) : Host.Outcome State Fault Refusal :=
  let s := st.elapse dt
  .next (match s.meas with
    | some m => if m.mains then s.measAbort 6 else s
    | none => s)

/-! ### Second boundaries (R294, R295) -/

/-- Whether alarm `n` matches the calendar. -/
def State.almMatch (s : State) (n : Nat) : Bool :=
  let t0 := time0 s.rtcSec 0
  let t1 := time1 s.rtcSec
  let a0 := s.reg (aRTC_ALM_T0 n)
  let a1 := s.reg (aRTC_ALM_T1 n)
  let m := s.reg (aRTC_ALM_MASK n)
  bitAt a0 31 && !(s.rb aRTC_STAT 4 && !bitAt a0 30)
    && (!bitAt m 6 || fld a1 31 20 == fld t1 31 20) && (!bitAt m 5 || fld a1 10 8 == fld t1 10 8)
    && (!bitAt m 4 || fld a1 19 16 == fld t1 19 16) && (!bitAt m 3 || fld a1 15 11 == fld t1 15 11)
    && (!bitAt m 2 || fld a0 16 12 == fld t0 16 12) && (!bitAt m 1 || fld a0 11 6 == fld t0 11 6)
    && (!bitAt m 0 || fld a0 5 0 == fld t0 5 0)

/-- The alarms that match fire. -/
def State.alarms (s : State) : State :=
  let bits := (if s.almMatch 0 then 1 else 0) + (if s.almMatch 1 then 2 else 0)
  if bits = 0 then s else s.rtcEvent (BitVec.ofNat 32 bits)

/-- The next second: the calendar, a waiting DST command, the end of a fold. -/
def State.nextSecond (s : State) : State :=
  let s0 := ({ s with rtcSub := 0 }.calStep 32768).foldDone
  match s0.rtcDst with
  | none => s0
  | some fwd =>
    let z := (s0.reg aRTC_ZONE).toInt + (if fwd then 3600 else -3600)
    let s1 := ({ s0 with rtcDst := none }.setReg aRTC_ZONE (BitVec.ofInt 32 z)).setRf aRTC_STAT 3 3 fwd.toNat
    (s1.calStep (if fwd then 3600 * 32768 else -(3600 * 32768))).rtcEvent 4

/-- A measurement against Meridian takes a boundary's timestamp. -/
def State.measTick (s : State) : State :=
  match s.meas with
  | some m =>
    if m.mains ∨ m.ended then s
    else if m.start.isNone then { s with meas := some { m with start := some s.now, last := s.now } }
    else { s.measShow (m.secs + 1) 1 with meas := some { m with last := s.now, secs := m.secs + 1 } }
  | none => s

/-- A second boundary of the RTC, `dt` clocks on. -/
def execRtcSecondBoundary (dt : Nat) (st : State) : Host.Outcome State Fault Refusal :=
  let s := st.elapse dt
  .next (if s.rtcRun then s.nextSecond.measTick.alarms else s)

/-- Every 2,000 crystal ticks a slew inserts or drops one tick (R289), at tick `sub` of the second. -/
def execSlewStep (sub : BitVec 15) (st : State) : Host.Outcome State Fault Refusal :=
  let r := (st.reg aRTC_SLEWREM).toInt
  let s := st.atTick sub
  .next (if st.rtcRun = false ∨ r = 0 then st
    else if 0 < r then ({ s with rtcSub := min 32767 (s.rtcSub + 1) }.foldDone).setSlew (r - 1)
    else { s with rtcSub := s.rtcSub - 1 }.setSlew (r + 1))

/-- The crystal stops for more than 1 ms (R287). -/
def execCrystalStop (st : State) : Host.Outcome State Fault Refusal :=
  .next (let s := { st.measAbort 5 with rtcRun := false }
    ((s.setRf aRTC_STAT 5 5 1).setRf aRTC_STAT 0 0 0).rtcEvent 0x10)

/-- The crystal runs again: the calendar restarts at 2000-01-01 00:00:00, and a SET that waited for a tick applies (R288). -/
def execCrystalResume (st : State) : Host.Outcome State Fault Refusal :=
  .next (if st.rtcRun then st
    else
      let s := { st with rtcRun := true, rtcSec := 0, rtcSub := 0 }
      if s.rtcSetDue then s.rtcLoad else s)

/-! ### The RTC strobe (R292, R295) -/

/-- The RTC snapshot applies: trim, measurement configuration and alarms; a strobe of the trim aborts a measurement (R293).
DEDUCED (log 104). -/
def State.rtcApply (s : State) : State :=
  if s.applying 18 ∧ s.rb aRTC_BSTAT 1 = false then
    let s1 := s.measAbort 3
    (([aRTC_TRIM, aRTC_MEASCFG] ++ [0, 1].flatMap (fun n => [aRTC_ALM_T0 n, aRTC_ALM_T1 n, aRTC_ALM_MASK n])).foldl
      State.applySnap s1).endStrobe 18
  else s

/-- The RTC strobe applies, `dt` clocks on. -/
def execRtcStrobeApply (dt : Nat) (st : State) : Host.Outcome State Fault Refusal := .next ((st.elapse dt).rtcApply)

end Sys2Proof.Machine
end

