-- ==== Sys2Proof/Machine/Dump.lean ====
section
/-!
DEFINITION. The dump (spec/13 R373 to R375): the dump page of NV, the dump area, its header and sections.
-/
namespace Sys2Proof.Machine

/-- Bytes of a list of words (R466). -/
def wordBytes (ws : List W) : List Byte := ws.flatMap bytesOf
/-- `n` zero bytes. -/
def zeros (n : Nat) : List Byte := List.replicate n (0 : Byte)
/-- The first `n` bytes of a list, zeros after its end. -/
def fit (n : Nat) (l : List Byte) : List Byte := (l ++ zeros (n - l.length)).take n
/-- The collector's state (R372): `FLT_STAT`, `FLT_CLASS0` to `3`, `FLT_FATAL`, `FLT_FIRST`, and with them
`FLT_CFG`. -/
def State.fltWords (s : State) : List W :=
  [s.reg aFLT_STAT_LO, s.reg aFLT_STAT_HI, s.reg (aFLT_CLASS 0), s.reg (aFLT_CLASS 1), s.reg (aFLT_CLASS 2), s.reg (aFLT_CLASS 3),
   s.reg aFLT_FATAL_LO, s.reg aFLT_FATAL_HI, s.reg aFLT_FIRST,
   s.reg aFLT_CFG]
/-- P of the running or last task of engine `e`. -/
def State.engP (s : State) (e : Nat) : Nat :=
  match (s.eng e).last with | some k => (s.task (k / 16) (k % 16)).ctx.p.toNat | none => 0
/-- The captures of S0 and S1: P and the time of the last accepted service. -/
def State.captures (s : State) : List W :=
  [s.reg (aWDG_SCAP_P 0), s.reg (aWDG_SCAP_T_LO 0), s.reg (aWDG_SCAP_T_HI 0),
   s.reg (aWDG_SCAP_P 1), s.reg (aWDG_SCAP_T_LO 1), s.reg (aWDG_SCAP_T_HI 1)]

/-- A dump page (table "Dump page"): WRITER 0x01 the sequencer, 0x03 the F-die alone; `msg` is the collector's state it holds. -/
def State.dumpPage (s : State) (writer cause : Nat) (msg : List W) : List Byte :=
  let alone := decide (writer = 3)
  let body :=
    wordBytes [0x4E444450, BitVec.ofNat 32 (writer * 256), s.reg aNV_DUMPNO, BitVec.ofNat 32 cause, time0 s.rtcSec s.rtcSub, time1 s.rtcSec]
    ++ (if alone then zeros 8 else wordBytes [s.reg aFLT_FIRST_T_LO, s.reg aFLT_FIRST_T_HI])
    ++ (List.range 28).map (Config.dumpPart (msg.take 9)) ++ zeros 4
    ++ wordBytes [s.reg aFIO_FORCE, s.reg aSF_UNIT] ++ zeros 56
    ++ wordBytes ((List.range 128).map (fun e => if alone ∨ s.fuse.engines ≤ e then 0 else BitVec.ofNat 32 (2 ^ 31 + s.engP e)))
    ++ wordBytes s.captures ++ zeros 104
    ++ wordBytes ((List.range 128).map (fun e => s.reg (aWDG_ECNT e)))
  let page := fit 0xFFC body
  page ++ bytesOf (crc32 page)
/-- The NV area that the next dump page goes to: the one that does not hold the newest dump (R373). -/
def State.dumpArea (s : State) : Nat := if s.dumpNew = some 479 then 495 else 479
/-- A dump page is passed to the F-die: the write in progress on the array is abandoned for it: a host WRITE ends with 0x09, and the
records of a page of the event store are lost (R373). DESIGN CHOICE (log 119). -/
def State.passDump (s : State) (page : List Byte) : State :=
  let s1 := match s.nvQ with
    | [] => s
    | (n, _, kind) :: _ =>
      if kind = 3 then { s.losePage n with nvQ := s.nvQ.drop 1 }.freezeDone
      else
        let s2 := { s.eraseNv n with nvQ := s.nvQ.drop 1 }
        if kind = 0 then s2.nvDone 9 else s2
  { s1 with dumpPend := some (s1.dumpArea, page) }.showArray
/-- A new dump is counted (R406, R407). -/
def State.countDump (s : State) : State := (s.setReg aNV_DUMPNO (s.reg aNV_DUMPNO + 1)).saveCounters

/-- Base of the dump area in PF0 BAR2. -/
def dumpBase : Nat := 0xB800000
/-- A section table entry: offset, length, CRC-32, reserved. -/
def sectionEntry (off : Nat) (bs : List Byte) : List Byte :=
  wordBytes [BitVec.ofNat 32 off, BitVec.ofNat 32 bs.length, if bs.isEmpty then 0 else crc32 bs, 0]
/-- The dump header (table "Dump area header") for sections given as offset and bytes. -/
def State.dumpHeader (s : State) (writer : Nat) (secs : List (Nat × List Byte)) : List Byte :=
  let body :=
    wordBytes [0x4E444450, BitVec.ofNat 32 (0x10000 + writer * 256), s.reg aNV_DUMPNO, 0, s.reg aFLT_FIRST_T_LO, s.reg aFLT_FIRST_T_HI]
    ++ (List.range 8).map (Config.dumpStamp (s.rf aNV_OPH 31 8) s.ophf (s.rf aNV_PCC 23 0))
    ++ zeros 96 ++ secs.flatMap (fun e => sectionEntry e.1 e.2)
  let page := fit 0xFFC body
  page ++ bytesOf (crc32 page)
/-- Section 0. -/
def State.section0 (s : State) : List Byte :=
  fit 4096 (wordBytes (s.fltWords.take 9 ++ [s.reg aFLT_FIRST_T_LO, s.reg aFLT_FIRST_T_HI]
    ++ (List.range 64).map (fun i => s.reg (aFLT_DET i)) ++ (List.range 64).map (fun i => s.reg (aFLT_CNT i))
    ++ [s.reg aRST_CAUSE] ++ s.captures ++ [s.reg (aWDG_SCNT 0), s.reg (aWDG_SCNT 1)]))
/-- Section 1: 0x100 bytes for each engine. -/
def State.section1 (s : State) : List Byte :=
  (List.range 128).flatMap (fun e => fit 256 (wordBytes
    ([BitVec.ofNat 32 (s.engP e),
      BitVec.ofNat 32 (match (s.eng e).last with | some k => k / 16 * 65536 + taskCode (k % 16) * 4096 | none => 0),
      s.reg (aENG_TRAP_SEQ e), s.reg (aENG_TRAP e), s.reg (aENG_TRAP_P e), s.reg (aENG_TRAP_ADDR e), 0, 0]
     ++ (List.range 24).map (fun i => s.reg (aENG_SAVE e i)))))
/-- Section 2: the partition descriptors. -/
def State.section2 (s : State) : List Byte := wordBytes ((List.range 262144).map (fun i => s.reg (0x300000 + 4 * i)))
/-- Section 3: words 0 to 23 of each task's context area, 96 B per task, partition-major, TB last; words that cannot be read are 0. -/
def State.section3 (s : State) : List Byte :=
  fit 0x80000 ((List.range 4608).flatMap (fun k => wordBytes ((List.range 24).map (fun i =>
    (s.peek (k / 9) false ((s.ctxBase (k / 9) (k % 9) + i) % 2 ^ 21)).getD 0))))
/-- Section 4: the page ownership table. -/
def State.section4 (s : State) : List Byte :=
  fit 0x20000 (wordBytes ((List.range 8192).map (fun i => s.reg (aTR_OWN_PROG i)) ++ (List.range 16384).map (fun i => s.reg (aTR_OWN_DATA i))
    ++ (List.range 4096).map (fun i => s.reg (aTR_OWN_IMG i))))
/-- Firmware reads every context area of section 3; a word that cannot be read is reported (R174, R191). -/
def State.readAreas (s : State) : State :=
  s.created.foldl (fun s p => (List.range 9).foldl (fun s t => (List.range 24).foldl (fun s i =>
    s.seeWord p 1 ((s.ctxBase p t + i) % 2 ^ 21)) s) s) s
/-- Section 5, whose layout the spec does not give, from the copies taken at the fatal event. DESIGN CHOICE (log 134). -/
def State.section5 (s : State) : List Byte := (List.range 0x50000).map (Config.dumpSurvey s.fatalRegs)

/-- The hardware sequencer writes its minimum set (R373): header, sections 0 and 1, and the dump page. DESIGN CHOICE (log 134). -/
def State.sequence (s : State) : State :=
  let s1 := s.countDump
  let a := s1.section0
  let b := s1.section1
  let s2 := ((s1.wrBytes dumpBase (s1.dumpHeader 1 [(0x1000, a), (0x2000, b)])).wrBytes (dumpBase + 0x1000) a).wrBytes (dumpBase + 0x2000) b
  (s2.setReg aFLT_DUMP 2).passDump (s2.dumpPage 1 1 s2.fltWords)
/-- Firmware writes the remaining sections (R374); section 6 holds what firmware gives. -/
def State.writeSections (s : State) (sec6 : List Byte) : State :=
  (((((s.wrBytes (dumpBase + 0x10000) s.section2).wrBytes (dumpBase + 0x110000) s.section3).wrBytes (dumpBase + 0x190000) s.section4).wrBytes
    (dumpBase + 0x1B0000) s.section5).wrBytes (dumpBase + 0x200000) (sec6.take 0x200000)).wrBytes (dumpBase + 0x400000) s.fatalPages
/-- Firmware rewrites the header last, with the CRCs of the sections as they stand in the dump area (R374). DESIGN CHOICE (log 134). -/
def State.finishDump (s : State) (sec6 : List Byte) : State :=
  let at_ (off n : Nat) : Nat × List Byte := (off, s.rdBytes (dumpBase + off) n)
  let secs : List (Nat × List Byte) :=
    [at_ 0x1000 4096, at_ 0x2000 0x8000, at_ 0x10000 0x100000, at_ 0x110000 0x80000, at_ 0x190000 0x20000, at_ 0x1B0000 0x50000,
     at_ 0x200000 (min sec6.length 0x200000), at_ 0x400000 s.fatalPages.length]
  (s.wrBytes dumpBase (s.dumpHeader 2 secs)).setReg aFLT_DUMP 4

end Sys2Proof.Machine
end

