-- ==== Sys2Proof/Machine/Watchdog.lean ====
section
/-!
DEFINITION. The watchdog (spec/14 R393 to R399) and engine resets that release. A channel is numbered 0 to 127 for E0 to E127, 0xF0 for S0
and 0xF1 for S1, as `WDG_EVT.CH`.
-/
namespace Sys2Proof.Machine

/-- The S channel that a number names. -/
def wdgS (ch : Nat) : Bool := decide (ch = 0xF0 ∨ ch = 0xF1)
/-- Whether channel `ch` exists (R393). -/
def State.wdgHas (s : State) (ch : Nat) : Bool := wdgS ch || decide (ch < s.fuse.engines)
/-- `WDG_SPER` or `WDG_EPER` of a channel. -/
def wdgPer (ch : Nat) : Nat := if wdgS ch then aWDG_SPER (ch - 0xF0) else aWDG_EPER ch
/-- `WDG_SSTAT` or `WDG_ESTAT` of a channel. -/
def wdgStat (ch : Nat) : Nat := if wdgS ch then aWDG_SSTAT (ch - 0xF0) else aWDG_ESTAT ch
/-- `WDG_SCNT` or `WDG_ECNT` of a channel. -/
def wdgCnt (ch : Nat) : Nat := if wdgS ch then aWDG_SCNT (ch - 0xF0) else aWDG_ECNT ch
/-- Whether a channel runs: the CLK_PER domain is released, its engine is not in reset and it has not expired (R394). -/
def State.wdgRuns (s : State) (ch : Nat) : Bool :=
  s.wdgHas ch && decide (2 ≤ s.rf aRST_BOOTPH 3 0) && !s.clkStop && decide (FMap.get (fun _ => 0) s.wdgExp ch = 0)
    && (wdgS ch || !s.engInReset ch)
/-- CLK_FAB clocks of a channel's period. DEDUCED (log 155). -/
def State.wdgLen (s : State) (ch : Nat) : Nat := s.rf (wdgPer ch) 9 0 * 800000
/-- CLK_FAB clocks since the period of a channel began. -/
def State.wdgAge (s : State) (ch : Nat) : Nat := s.fab - FMap.get (fun _ => 0) s.wdgAt ch
/-- Whether the open window of a channel has begun (R395). -/
def State.wdgOpen (s : State) (ch : Nat) : Bool := decide (3 * s.wdgLen ch ≤ 4 * s.wdgAge ch)
/-- A period of channel `ch` begins, with the armed length if one is armed (R399). -/
def State.wdgBegin (s : State) (ch : Nat) : State :=
  let s1 := if s.rb (wdgStat ch) 29 then (s.setRf (wdgPer ch) 9 0 (s.rf (wdgStat ch) 26 17)).setReg (wdgStat ch) 0 else s
  { s1 with wdgAt := FMap.set (fun _ => 0) s1.wdgAt ch s1.fab, wdgReq := FMap.set (fun _ => false) s1.wdgReq ch false }
/-- Channel `ch` is released with the period the option bytes give (R394). -/
def State.wdgRelease (s : State) (ch : Nat) : State :=
  let per := if wdgS ch then s.opt.sper else s.opt.eper
  (((s.setReg (wdgPer ch) (BitVec.ofNat 32 per)).setPnd (wdgPer ch) (BitVec.ofNat 32 per)).setReg (wdgStat ch) 0).wdgBegin ch

/-- The registers of the task that runs on engine `e` go to the save registers (R190, R398). -/
def State.saveToEngine (s : State) (e : Nat) : State :=
  match (s.eng e).run with
  | none => s
  | some k =>
    let w := (s.task (k / 16) (k % 16)).ctx.words
    (List.range 24).foldl (fun s i => s.setReg (aENG_SAVE e i) (w.getD i 0)) s
/-- Channel `ch` expires (R398); `p` is the supervisor's P. Both supervisor cores take a non-maskable trap. -/
def State.wdgExpire (s : State) (ch : Nat) (p : W) : State :=
  let s1 := (s.setRf (wdgStat ch) 30 30 1).setReg (wdgCnt ch) (BitVec.ofNat 32 (min (s.rf (wdgCnt ch) 15 0 + 1) 0xFFFF))
  let s2 := if s1.rf aWDG_EVT 1 0 = 0 then s1.setRf aWDG_EVT 15 8 ch else s1
  let s3 := { s2.groupEvent aWDG_EVT_SEQ aWDG_EVT aWDG_EVT_EN aWDG_EVT_VEC (if wdgS ch then 1 else 2) with
    wdgExp := FMap.set (fun _ => 0) s2.wdgExp ch (s2.fab + 1) }
  let s4 := if wdgS ch then
      ((s3.setReg (aWDG_SCAP_P (ch - 0xF0)) p).setReg (aWDG_SCAP_T_LO (ch - 0xF0)) (lo32 (FMap.get (fun _ => 0) s3.wdgSvc ch))).setReg
        (aWDG_SCAP_T_HI (ch - 0xF0)) (hi32 (FMap.get (fun _ => 0) s3.wdgSvc ch))
    else (s3.saveToEngine ch).haltEngine ch
  s4.collect 22 cContained 0x09 ch
/-- A service of channel `ch` arrives (R395): in the open window it is accepted, anywhere else it is an expiry; while the hard timer runs
it is ignored. -/
def State.wdgService (s : State) (ch : Nat) (p : W) : State :=
  if s.wdgRuns ch = false then s
  else if s.wdgLen ch ≤ s.wdgAge ch ∨ s.wdgOpen ch = false then s.wdgExpire ch p
  else
    let s1 := s.wdgBegin ch
    if wdgS ch then { s1 with wdgSvc := FMap.set (fun _ => 0) s1.wdgSvc ch s1.now } else s1

/-- The open window of a channel begins: an E channel sends its engine a service request (R396). -/
def execWatchdogWindowOpen (ch : BitVec 8) (dt : Nat) (st : State) : Host.Outcome State Fault Refusal :=
  let s := st.elapse dt
  .next (if s.wdgRuns ch.toNat && !wdgS ch.toNat && s.wdgOpen ch.toNat then
      { s with wdgReq := FMap.set (fun _ => false) s.wdgReq ch.toNat true } else s)
/-- Engine `e` answers its service request at a permitted boundary (R396). -/
def execEngineWatchdogAnswer (e : BitVec 7) (dt : Nat) (st : State) : Host.Outcome State Fault Refusal :=
  let s := st.elapse dt
  .next (if FMap.get (fun _ => false) s.wdgReq e.toNat then s.wdgService e.toNat 0 else s)
/-- Firmware writes `WDG_SSVC` of channel Sn (R397); `p` is the supervisor's P. -/
def execWdgSsvc (n : BitVec 1) (key : BitVec 16) (p : W) (dt : Nat) (st : State) : Host.Outcome State Fault Refusal :=
  let s := st.elapse dt
  let ch := 0xF0 + n.toNat
  .next (if s.supRun = false then s
    else if key = 0xA5C3 then s.wdgService ch p
    else if s.wdgRuns ch then s.wdgExpire ch p else s)
/-- The period of a channel has passed without an accepted service. -/
def execWatchdogExpiry (ch : BitVec 8) (p : W) (dt : Nat) (st : State) : Host.Outcome State Fault Refusal :=
  let s := st.elapse dt
  .next (if s.wdgRuns ch.toNat ∧ s.wdgLen ch.toNat ≤ s.wdgAge ch.toNat then s.wdgExpire ch.toNat p else s)
/-- 1 ms after an expiry the hard timer asserts the channel's reset; an expiry of S0 and of S1 gives one warm reset with both bits. -/
def execHardTimerExpiry (ch : BitVec 8) (dt : Nat) (st : State) : Host.Outcome State Fault Refusal :=
  let s := st.elapse dt
  let c := ch.toNat
  let t := FMap.get (fun _ => 0) s.wdgExp c
  .next (if t = 0 ∨ s.fab + 1 < t + 800000 then s
    else if wdgS c then
      let other := if c = 0xF0 then 0xF1 else 0xF0
      let s1 := s.warm (7 + (c - 0xF0))
      (if FMap.get (fun _ => 0) s.wdgExp other = t then s1.noteReset (7 + (other - 0xF0)) else s1)
    else s.resetEngine c)
/-- An engine reset releases, 10 µs after its last source; its channel starts anew (R381, R394). -/
def execEngineResetRelease (e : BitVec 7) (dt : Nat) (st : State) : Host.Outcome State Fault Refusal :=
  let s := st.elapse dt
  .next (if s.engInReset e.toNat ∧ FMap.get (fun _ => 0) s.wdgExp e.toNat = 0 then
      { s with engRst := FMap.set (fun _ => false) s.engRst e.toNat false }.wdgRelease e.toNat
    else s)

/-- A channel whose snapshot differs from its period is armed with it (R399). -/
def State.wdgArm (s : State) (ch : Nat) : State :=
  let new := fld (s.snapped (wdgPer ch)) 9 0
  if s.wdgHas ch ∧ new ≠ s.rf (wdgPer ch) 9 0 then (s.setRf (wdgStat ch) 29 29 1).setRf (wdgStat ch) 26 17 new else s
/-- The WDG strobe applies at one CLK_PER edge. -/
def execWdgStrobeApply (dt : Nat) (st : State) : Host.Outcome State Fault Refusal :=
  let s := st.elapse dt
  .next (if s.applying 17 then (([0xF0, 0xF1] ++ List.range 128).foldl State.wdgArm s).endStrobe 17 else s)

end Sys2Proof.Machine
end

