-- ==== Sys2Proof/Machine/Faults.lean ====
section
/-!
DEFINITION. Fault sources, isolation and reaction (spec/13 R362 to R378; spec/01 R13 to R20, R28): what an error line does, the fatal line
and the alive line on the F-die, `FAULT_N`, dumps, and the engine self-test.
-/
namespace Sys2Proof.Machine

/-! ### Sources (table "Fault sources") -/

/-- The classes a source reports: corrected, contained, fatal. -/
def sourceClasses (src : Nat) : Bool × Bool × Bool :=
  if src = 0 then (false, true, false) else if src = 1 then (true, false, true) else if src ≤ 4 then (false, false, true)
  else if src = 5 then (true, false, true) else if src ≤ 9 then (true, true, false) else if src = 10 then (true, true, true)
  else if src = 11 then (true, true, false) else if src = 12 then (true, true, true) else if src = 13 then (true, true, false)
  else if src = 14 then (true, true, true) else if src = 15 then (false, true, false) else if src = 16 then (true, false, true)
  else if src = 17 then (false, false, true) else if src ≤ 19 then (true, true, false) else if src ≤ 23 then (false, true, false)
  else if src = 24 then (true, false, true) else if src = 25 then (false, true, false) else if src = 26 then (true, true, false)
  else if src = 27 then (false, true, false) else if src = 28 then (false, false, true) else if src = 29 then (false, true, false)
  else if src = 30 then (false, false, true) else if src = 31 then (false, true, false) else if src < 48 then (true, true, false)
  else (false, true, false)
/-- Whether source `src` may report class `cls`. -/
def classAllowed (src cls : Nat) : Bool :=
  if cls = cCorrected then (sourceClasses src).1 else if cls = cContained then (sourceClasses src).2.1
  else if cls = cFatal then (sourceClasses src).2.2 else false
/-- Whether the unit of source `src` is present (R365). -/
def State.sourcePresent (s : State) (src : Nat) : Bool :=
  if src = 17 ∨ src = 27 ∨ src = 28 then s.fuse.field
  else if 32 ≤ src ∧ src < 48 then decide (8 * (src - 32) < s.fuse.engines)
  else if 48 ≤ src then decide (8 * (src - 48) < s.fuse.lanes) else true

/-- Channel `n` is held until the F-die is reset. -/
def State.keepOff (s : State) (n : Nat) : State := { s with fioHeld := FMap.set (fun _ => false) s.fioHeld n true }
/-- The supervisor fails (R28): a management pause it was in ends, and the commands the pause held are refused (R34). DEDUCED (log 142). -/
def State.supFail (s : State) : State :=
  let l := s.held
  let s1 := { s with supRun := false, mgmt := false, held := [] }.setRf aUPD_STAT 5 5 0
  l.foldl (fun (s : State) e => if e.1 then s.endRu 0xFF else s.endTr 0xFF) s1
/-- The F-die image that runs, as the update registers show it (R443). -/
def State.showFdie (s : State) : State :=
  let v := match FMap.get (fun _ => none) s.slots (2 + s.fRec.slot) with | some m => wordAt m.cart 8 | none => 0
  ((s.setRf aUPD_STAT 15 15 s.fRec.steep.toNat).setRf aUPD_STAT 14 14 s.fRec.slot).setReg aUPD_FVER v
/-- A trial image of the F-die that meets the fault falls back: the other slot, and the trial slot is emptied. -/
def State.dropTrial (s : State) : State :=
  let s1 : State := { s with
    fRec := { slot := 1 - s.fRec.slot, steep := false }
    slots := FMap.set (fun _ => none) s.slots (2 + s.fRec.slot) none }
  s1.showFdie
/-- The isolation of a contained fault: `unit` as `FLT_DET` shows it, `item` the entry, descriptor, table word, queue or slot (bit
16 set) that it concerns, `nth` the place of a frame in its queue. DEDUCED (log 128). -/
def State.isolate (s : State) (src code unit item nth : Nat) : State :=
  if src = 0 then s.supFail
  else if 6 ≤ src ∧ src ≤ 8 then
    (if unit < pageCount (src - 6) then (s.markRetp (pageBase (src - 6) unit)).retirePage (src - 6) unit else s)
  else if src = 9 then (if item < entriesPerPart ∧ unit < s.fuse.partitions then s.entryFault (unit * entriesPerPart + item) else s)
  else if src = 10 then (if unit < s.fuse.partitions ∧ (s.descs unit).contains item then s.movFault unit item 2 false else s)
  else if src = 11 then { s with dtBad := FMap.set (fun _ => false) s.dtBad (s.dtActive * 64 + item % 64) true }
  else if src = 12 then
    (if 65536 ≤ item then s.setRf (aSW_SLOT0 (item % 16384)) 31 31 0 else s.setRf (aSW_ST0 item) 31 31 0)
  else if src = 13 then
    (match (s.frames item)[nth]? with
     | none => s
     | some f => (s.setDepth item (s.rf (aQM_DEPTH item) 31 0 - f.cells)).setFrames item ((s.frames item).eraseIdx nth))
  else if src = 14 then s.flushQueue item
  else if src = 15 then ({ s with merLock := 0 }.setRf aMER_STAT 1 1 0).merEvent 2
  else if src = 18 then (if unit < s.fuse.cans then s.resetBlock unit else s)
  else if src = 19 then s.resetBlock 0x13
  else if src = 20 then s.resetBlock 0x11
  else if src = 23 then s.stopPart unit 4 evFault
  else if src = 25 then
    (let s1 : State := { s with nvBlock := true }
     if s.fRec.steep then s1.dropTrial else s1)
  else if src = 27 then
    (if unit < 32 then (s.forceChan unit).keepOff unit else s)
  else if src = 31 then (if s.rf aFLT_DUMP 7 0 = 1 then s.setReg aFLT_DUMP 5 else s)
  else if 32 ≤ src ∧ src < 48 then (if unit / 8 = src - 32 then s.resetEngine unit else s)
  else if 48 ≤ src then (if unit / 8 = src - 48 then (s.setLane unit 0 (if code = 6 then 2 else s.downCause unit) false).laneFails unit 0x0B else s)
  else s
/-- `FLT_CFG.FRST`. -/
def State.frst (s : State) : Bool := s.rb aFLT_CFG 1
/-- The warm reset of R370, where FRST asks for it. -/
def State.fatalReset (s : State) : State := if s.fatal ∧ s.frst then s.warm 6 else s
/-- A supervisor that fails once the sequencer has finished brings the reset of R370. -/
def State.lateSup (s : State) : State := if s.rf aFLT_DUMP 7 0 = 2 ∨ s.rf aFLT_DUMP 7 0 = 3 then s.fatalReset else s
/-- A contained fault of source `src`: its isolation, and the reset of R370 where the supervisor fails. -/
def State.contain (s : State) (src code unit item nth : Nat) : State :=
  if src = 0 then (s.isolate 0 code unit item nth).lateSup else s.isolate src code unit item nth
/-- The line of source `src` is asserted in class `cls`: an event where the class rises, and the isolation of a contained fault (R362, R365). DEDUCED (log 129). -/
def State.assertLine (s : State) (same : Bool) (src cls code unit item nth : Nat) : State :=
  let s1 := { s.collectIn same src cls code unit with lines := FMap.set (fun _ => 0) s.lines src cls }
  if cls = cContained then s1.contain src code unit item nth else s1
/-- The error line of source `src` (R362, R363): class 0 releases it; another asserts it, or raises its class. `same` tells that the event is of
the same clock as the one before. While the clocks of the L-die stand, only sources of the F-die act. DEDUCED (log 129). -/
def execFaultEvent (src : BitVec 6) (cls : BitVec 2) (code : BitVec 8) (unit : BitVec 16) (item : BitVec 17) (nth : Nat) (same : Bool) (st : State) :
    Host.Outcome State Fault Refusal :=
  let k := src.toNat
  .next (if cls.toNat = 0 then { st with lines := FMap.erase st.lines k }
    else if classAllowed k cls.toNat && st.sourcePresent k && decide (FMap.get (fun _ => 0) st.lines k < cls.toNat)
        && (!st.clkStop || decide (25 ≤ k ∧ k ≤ 29)) then
      st.assertLine same k cls.toNat code.toNat unit.toNat item.toNat nth
    else st)
/-- The supervisor's lockstep comparison fails (R28): a contained fault, and both cores are held in reset. -/
def execSupervisorLockstepFail (st : State) : Host.Outcome State Fault Refusal :=
  .next ((st.collect 0 cContained 0x04 0).contain 0 4 0 0 0)
/-- An L-die supply outside its operating range for 1 µs (R448). -/
def execSupplyOutOfRange (st : State) : Host.Outcome State Fault Refusal := .next (st.collect 30 cFatal 0x07 0)

/-! ### The F-die's view (R14 to R16, R371, R372) -/

/-- A preceding fatal fault is recorded in `FLT_PREV`, provided VALID is 0 (R371). -/
def State.notePrev (s : State) (src cause : Nat) : State :=
  if s.rb aFLT_PREV 31 then s else s.setReg aFLT_PREV (BitVec.ofNat 32 (2 ^ 31 + src * 65536 + cause))
/-- Every SQ and every FIO output goes to its safe state for forcing cause `b`. -/
def State.makeSafe (s : State) (b : Nat) : State := (s.forceCause b).openAll
/-- The fatal line is asserted at the F-die (R14, R371). -/
def execFatalLineAsserted (st : State) : Host.Outcome State Fault Refusal :=
  .next (if st.fatal then ({ st with fatalLine := true }.makeSafe 2).notePrev st.fatalSrc 1 else st)
/-- The collector's state message reaches the F-die (R372). -/
def execCollectorStateMessage (st : State) : Host.Outcome State Fault Refusal :=
  .next (if st.rb aFIO_BSTAT 1 ∨ st.clkStop ∨ st.rf aRST_BOOTPH 3 0 < 1 then st
    else { st with colSent := true, fltMsg := st.fltWords })
/-- No edge on the alive line for 1 µs (R15): outputs safe, the cause recorded, the dump page written by the F-die alone, and a warm reset. DEDUCED (log 131). -/
def execAliveLineTimeout (st : State) : Host.Outcome State Fault Refusal :=
  let s1 := (({ st with aliveStop := true }.makeSafe 1).notePrev 0x3F 2).countDump
  .next ((s1.passDump (s1.dumpPage 3 2 s1.fltMsg)).warm 5)
/-- The root PLL loses lock: all L-die clocks stop (R19), and with CLK_PER the enables of SQnL (R13). DESIGN CHOICE (log 132). -/
def execRootPllLoss (st : State) : Host.Outcome State Fault Refusal := .next { st.openLow with clkStop := true, supRun := false }
/-- The level of `FAULT_N`, which the F-die drives from what it holds: low while any condition of R372 holds. It is a function of the state and
has no home of its own. DEDUCED (log 135). -/
def State.faultN (s : State) : Bool :=
  let w (i : Nat) : W := s.fltMsg.getD i 0
  let uncorrected := (List.range 64).any (fun i => bitAt (w (2 + i / 16)) (2 * (i % 16) + 1))
  !(s.fatalLine || s.aliveStop || uncorrected || (bitAt (w 9) 0 && decide (w 0 ≠ 0 ∨ w 1 ≠ 0)) || s.rb aFLT_PREV 31 || !s.colSent)

/-- Channel `n` is held off until the F-die is reset (R376). DEDUCED (log 130). -/
def State.holdOff (s : State) (n : Nat) : State :=
  let s1 := s.keepOff n
  (s1.setChan n { s1.chan n with drive := false }).drivePin n
/-- The RC oscillator of the F-die stops or leaves ±10 % (R376): every FIO output is off and every SQnH open; FCORE and a fatal SFA are
reported. -/
def execRcOscillatorFail (st : State) : Host.Outcome State Fault Refusal :=
  let s1 := if st.fuse.field then
      (List.range 32).foldl (fun (s : State) n => s.holdOff n) st.openAll
    else st
  let s2 := ((s1.collect 25 cContained 0x06 0).isolate 25 6 0 0 0)
  .next (if st.fuse.field then s2.collect 17 cFatal 0x06 0 else s2)

/-- The die link is down for 2 µs: fatal, and the F-die blocks are unreachable (R51, R365). -/
def execDieLinkDown (st : State) : Host.Outcome State Fault Refusal :=
  .next ({ fdieBstat.foldl (fun (s : State) a => s.setRf a 1 1 1) st with hbLink := 0 }.assertLine false 24 cFatal 0x0B 0 0 0)
/-- The die link is up again (R468): held snapshots apply at their groups' instants. -/
def execDieLinkRestored (st : State) : Host.Outcome State Fault Refusal :=
  .next (fdieBstat.foldl (fun (s : State) a => s.setRf a 1 1 0) { st with lines := FMap.erase st.lines 24 })

/-! ### Dump and reset after a fatal fault (R370, R373, R374) -/

/-- The sequencer is done: with the supervisor failed, the reset follows at once. -/
def execDumpSequencerDone (st : State) : Host.Outcome State Fault Refusal :=
  .next (if st.rf aFLT_DUMP 7 0 = 1 then
      (let s1 := st.sequence
       if s1.rb aFLT_STAT_LO 0 ∨ s1.supRun = false then s1.fatalReset else s1)
    else st)
/-- The dump page is in NV; the other dump area is erased. -/
def execDumpPageWritten (st : State) : Host.Outcome State Fault Refusal :=
  .next (match st.dumpPend with
    | none => st
    | some (a, page) =>
      let other := if a = 479 then 495 else 479
      let s1 := { st.putNvPages a page 16 with dumpPend := none, dumpNew := some a }
      ((List.range 16).foldl (fun s i => s.eraseNv (other + i)) s1).showArray)
/-- Firmware writes the dump (R374): the remaining sections, with STATE 0x03, and with `last` the header too, and the dump is complete; `sec6` is
what it writes into section 6. DESIGN CHOICE (log 134). -/
def execDumpComplete (sec6 : List Byte) (last : Bool) (st : State) : Host.Outcome State Fault Refusal :=
  .next (if st.supRun ∧ (st.rf aFLT_DUMP 7 0 = 2 ∨ st.rf aFLT_DUMP 7 0 = 3) then
      (let s1 := (if st.rf aFLT_DUMP 7 0 = 2 then (st.readAreas.writeSections sec6).setReg aFLT_DUMP 3 else st)
       if last then (s1.finishDump sec6).fatalReset else s1)
    else st)
/-- 100 ms after the first fatal event. -/
def execFatalResetTimeout (st : State) : Host.Outcome State Fault Refusal := .next st.fatalReset

/-! ### Engine self-test (R378) -/

/-- Whether an applied task table entry with EN = 1 names engine `e`. -/
def State.engBound (s : State) (e : Nat) : Bool := decide (s.partsOn e ≠ [])
/-- `ENG_TEST.GO`. DEDUCED (log 136). -/
def execEngineBist (src : BitVec 10) (e : BitVec 7) (st : State) : Host.Outcome State Fault Refusal :=
  .next (if isVf src.toNat ∨ st.fuse.engines ≤ e.toNat ∨ st.rb (aENG_TEST e.toNat) 1 then st
    else if st.rf (aENG_TEST e.toNat) 15 8 = 2 then st
    else if st.engBound e.toNat then st.setReg (aENG_TEST e.toNat) 0x300
    else st.setReg (aENG_TEST e.toNat) 2)
/-- The self-test of engine `e` ends. -/
def execBistDone (e : BitVec 7) (pass : Bool) (st : State) : Host.Outcome State Fault Refusal :=
  let k := e.toNat
  .next (if st.rb (aENG_TEST k) 1 = false then st
    else if pass then st.setReg (aENG_TEST k) 0x100
    else ((st.setReg (aENG_TEST k) 0x200).collect (32 + k / 8) cContained 0x03 k).resetEngine k)

end Sys2Proof.Machine
end

