-- ==== Sys2Proof/Machine/Witness.lean ====
section
/-!
DEFINITION. A lease witness (spec/08 R241, R246, R247): the table of the pairs it serves and its answers. A command carries the
fields of the LEASE body that arrived; the entry is the one that names the body's PAIR.
-/
namespace Sys2Proof.Machine

/-- The witness table entry that serves `pair`, if any. -/
def State.witEntry (s : State) (pair : Nat) : Option Nat :=
  (List.range 16).find? (fun k => s.rb (aWT_0 k) 31 && s.rf (aWT_0 k) 15 0 == pair)
/-- The holder of entry `k`: none, or a member. -/
def State.witHolder (s : State) (k : Nat) : Option Bool :=
  if s.rb (aWT_2 k) 31 then some (s.rb (aWT_2 k) 30) else none
/-- Expiry instant X of entry `k`, as a CLK_FAB count. -/
def State.witExpiry (s : State) (k : Nat) : Nat := FMap.get (fun _ => 0) s.witX k
/-- Microseconds left until X, 0 once passed. -/
def State.witRem (s : State) (k : Nat) : Nat := (s.witExpiry k - s.fab + 799) / 800
/-- Entry `k` grants to member `m` with epoch `e` for `len` µs. -/
def State.witSet (s : State) (k : Nat) (m : Bool) (e len : Nat) : State :=
  { s.setReg (aWT_2 k) (BitVec.ofNat 32 (2 ^ 31 + m.toNat * 2 ^ 30 + e)) with witX := FMap.set (fun _ => 0) s.witX k (s.fab + len * 800) }
/-- HIGH of entry `k`. -/
def State.witHigh (s : State) (k : Nat) : Nat := s.rf (aWT_3 k) 15 0
/-- Set HIGH. DEDUCED (log 72). -/
def State.setWitHigh (s : State) (k e : Nat) : State := s.setReg (aWT_3 k) (BitVec.ofNat 32 e)

/-- Entry `k` sends a GRANT (3) or DENY (4) to member `m` on its grant stream, with EPV = 0 (R242). -/
def State.witSend (s : State) (k op : Nat) (m : Bool) (reason rnum len : Nat) : State :=
  let b : LeaseBody :=
    { op := op, member := m, widx := s.rf (aWT_0 k) 26 24, reason := reason, pair := s.rf (aWT_0 k) 15 0
      epoch := s.rf (aWT_2 k) 15 0, rnum := rnum, len := len, rem := s.witRem k, high := s.witHigh k, succ := false
      holder := reason == 1 && (s.witHolder k).getD false, swapT := 0 }
  match s.findStream (s.rf (aWT_1 k) 19 0) with
  | some i => if s.rb (aSW_ST0 i) 9 && s.rb (aSW_ST0 i) 20 then s.originate i 2 false false false 0 b.bytes else s
  | none => s

/-- A LEASE frame for `pair`: counted where no entry serves it; quiet and LEN come before the operation (R246, R247). DEDUCED (log 71). -/
def State.witness (s : State) (m : Bool) (pair rnum len : Nat) (k : State → Nat → State) : State :=
  match (if s.clkStop then none else s.witEntry pair) with
  | none => if s.clkStop then s else s.count aSW_CNT_NOSTREAM
  | some i =>
    if s.rb (aWT_2 i) 29 then s.witSend i 4 m 3 rnum len
    else if ¬ (200 ≤ len ∧ len ≤ 2000) then s.witSend i 4 m 4 rnum len
    else k s i

/-- A REQUEST of `member` reaches this witness, `dt` clocks on. -/
def execWitnessRequest (member : Bool) (pair epoch rnum len : BitVec 16) (dt : Nat) (st : State) :
    Host.Outcome State Fault Refusal :=
  .next ((st.elapse dt).witness member pair.toNat rnum.toNat len.toNat (fun s k =>
    if s.witHolder k = some member ∧ s.rf (aWT_2 k) 15 0 = epoch.toNat then
      (s.witSet k member epoch.toNat len.toNat).witSend k 3 member 0 rnum.toNat len.toNat
    else s.witSend k 4 member 1 rnum.toNat len.toNat))

/-- A CLAIM of `member` reaches this witness, `dt` clocks on. -/
def execWitnessClaim (member : Bool) (pair epoch rnum len : BitVec 16) (dt : Nat) (st : State) :
    Host.Outcome State Fault Refusal :=
  .next ((st.elapse dt).witness member pair.toNat rnum.toNat len.toNat (fun s k =>
    if newer epoch.toNat (s.witHigh k) = false then s.witSend k 4 member 2 rnum.toNat len.toNat
    else if s.witHolder k = none ∨ s.witHolder k = some member ∨ s.witExpiry k + 40000 ≤ s.fab then
      ((s.setWitHigh k epoch.toNat).witSet k member epoch.toNat len.toNat).witSend k 3 member 0 rnum.toNat len.toNat
    else s.witSend k 4 member 1 rnum.toNat len.toNat))

/-- A RELEASE of `member` reaches this witness, `dt` clocks on; it is not answered. -/
def execWitnessRelease (member : Bool) (pair epoch rnum len : BitVec 16) (dt : Nat) (st : State) :
    Host.Outcome State Fault Refusal :=
  .next ((st.elapse dt).witness member pair.toNat rnum.toNat len.toNat (fun s k =>
    if s.witHolder k = some member ∧ s.rf (aWT_2 k) 15 0 = epoch.toNat then s.setRf (aWT_2 k) 31 31 0 else s))

/-- A HANDOVER of `member` to `succ` reaches this witness, `dt` clocks on: the grant moves, and an unsolicited GRANT goes to the
successor. -/
def execWitnessHandover (member succ : Bool) (pair epoch rnum len : BitVec 16) (dt : Nat) (st : State) :
    Host.Outcome State Fault Refusal :=
  .next ((st.elapse dt).witness member pair.toNat rnum.toNat len.toNat (fun s k =>
    let e' := (epoch.toNat + 1) % 65536
    if s.witHolder k = some member ∧ s.rf (aWT_2 k) 15 0 = epoch.toNat ∧ newer e' (s.witHigh k) then
      ((s.setWitHigh k e').witSet k succ e' len.toNat).witSend k 3 succ 0 0 len.toNat
    else s))

/-- Entry `k` becomes quiet for 2,100 µs and holds no holder (R247). -/
def State.witHush (s : State) (k : Nat) : State :=
  { s.setReg (aWT_2 k) 0x20000000 with
    witX := FMap.erase s.witX k, witQuiet := FMap.set (fun _ => 0) s.witQuiet k (s.fab + 2100 * 800) }

/-- The quiet time of entry `k` ends, `dt` clocks on (R247). -/
def execWitnessQuietEnd (k : BitVec 4) (dt : Nat) (st : State) : Host.Outcome State Fault Refusal :=
  let s := st.elapse dt
  let i := k.toNat
  .next (if s.rb (aWT_2 i) 29 ∧ FMap.get (fun _ => 0) s.witQuiet i ≤ s.fab then
      { s.setRf (aWT_2 i) 29 29 0 with witQuiet := FMap.erase s.witQuiet i }
    else s)

end Sys2Proof.Machine
end

