-- ==== Sys2Proof/Machine/Boot.lean ====
section
/-!
DEFINITION. The boot of the F-die and of the L-die (spec/14 R388 to R392).
-/
namespace Sys2Proof.Machine

/-- Phase F1: the power-on reset of the F-die is released; NV recall begins (R402). -/
def execFdiePorRelease (st : State) : Host.Outcome State Fault Refusal :=
  .next (if st.fPh = 0 then { st with fPh := 1 }.setRf aNV_STAT 1 1 1 else st)
/-- Phase F2 ends: NV is recalled (R402). -/
def execNvRecallDone (st : State) : Host.Outcome State Fault Refusal :=
  .next (if st.fPh = 1 then { st with fPh := 2, nvBlock := false }.setRf aNV_STAT 1 1 0 else st)

/-- The option bytes of a copy, if it is valid (table "Option-byte copy"). -/
def optOf (copyB : Bool) (page : Option (List Byte)) : Option Opt :=
  match page with
  | none => none
  | some bs =>
    let w (i : Nat) : W := wordAt bs i
    let o : Opt := { eper := fld (w 8) 25 16, sper := fld (w 8) 9 0, dtr := bitAt (w 12) 8, xmhz := fld (w 12) 7 0
                     autorun := bitAt (w 16) 1, frst := bitAt (w 16) 0, gen := (w 4).toNat, copyB := copyB }
    if fld (w 0) 31 16 = 0x4F42 ∧ crc32 (bs.take 252) = w 252 ∧ 1 ≤ o.eper ∧ o.eper ≤ 1000 ∧ 1 ≤ o.sper ∧ o.sper ≤ 1000
        ∧ 25 ≤ o.xmhz ∧ o.xmhz ≤ 200 then some o else none
/-- Page `n` as the boot state machine reads it. -/
def State.bootPage (s : State) (n : Nat) : Option (List Byte) := if s.nvIsBad n then none else s.nvPage n
/-- Whether generation `a` is newer than `b` (R390). -/
def genNewer (a b : Nat) : Bool := decide (1 ≤ (a + 2 ^ 32 - b) % 2 ^ 32 ∧ (a + 2 ^ 32 - b) % 2 ^ 32 ≤ 2 ^ 31 - 1)
/-- The copy to use and the CODE of a fault of source BOOT (table "Option-byte selection"). DEDUCED (log 126). -/
def State.chooseOpt (s : State) : Opt × Option Nat :=
  match optOf false (s.bootPage 0), optOf true (s.bootPage 1) with
  | some a, some b =>
    if s.bootPage 0 = s.bootPage 1 then (a, none)
    else if genNewer a.gen b.gen then (a, none) else if genNewer b.gen a.gen then (b, none) else (a, some 3)
  | some a, none => (a, some 1)
  | none, some b => (b, some 1)
  | none, none => (Opt.factory, some 1)
/-- Phase F3: the option bytes are read (R390). -/
def execOptionBytesRead (st : State) : Host.Outcome State Fault Refusal :=
  .next (if st.fPh = 2 then
      (let r := st.chooseOpt
       { st with fPh := 3, opt := r.1, bootFault := r.2 }.setReg aFLT_CFG (if r.1.frst then 2 else 0))
    else st)

/-- The counters are restored, and the power-cycle count advances by 1 (R406, R407). -/
def State.recallCounters (s : State) : State :=
  let c := s.cntSaved
  ({ ((((s.setReg aNV_OPH (BitVec.ofNat 32 (c.1 / 4096 * 256))).setReg aNV_OPHF (BitVec.ofNat 32 (c.1 % 4096))).setReg aNV_PCC
    (BitVec.ofNat 32 ((c.2.1 + 1) % 2 ^ 24))).setReg aNV_DUMPNO (BitVec.ofNat 32 c.2.2)) with opAt := s.fab }).saveCounters
/-- The caddy is restored from the newest good save; without one it starts at zero and CADINV is set (R408). -/
def State.recallCaddy (s : State) : State :=
  match s.cadSaved with
  | some (g, words, lost) =>
    { (words.foldl (fun s e => s.setReg e.1 e.2) s).setReg aNV_CADGEN (BitVec.ofNat 32 g) with evLost := lost }
  | none => s.setRf aNV_STAT 4 4 1
/-- The key store shows its slots, and a lockout that was in force starts again in full (R433, R434). -/
def State.recallKeys (s : State) : State :=
  let s1 := s.auKeys.foldl (fun s e => match e.2 with
    | some k => s.setReg (aAU_RIGHTS e.1) (BitVec.ofNat 32 (2 ^ 31 + k.2 % 65536))
    | none => s) s
  { s1 with auLock := s1.auLock.map (fun l => (s1.fab + l.2 * 800000000, l.2)) }
/-- The first record after the recall: LOST and CADINV (R406, R408). -/
def State.noteRecall (s : State) : State :=
  let r : EvRec := { code := 0x1401, sev := 4, time := s.now, body := [BitVec.ofNat 32 s.evLost, BitVec.ofNat 32 (s.rb aNV_STAT 4).toNat] }
  { s with evLost := 0, evPass := s.evPass ++ [r] }
/-- Phase F4: the F-die core runs (R338, R406, R408). DESIGN CHOICE (log 127). -/
def execFdieBootComplete (st : State) : Host.Outcome State Fault Refusal :=
  .next (if st.fPh = 3 then
      (let s1 := (({ st with fPh := 4 }.recallCounters.recallCaddy.recallKeys).setStore st.evStore)
       let s2 := if s1.fuse.field then s1.sfReload else s1
       s2.noteRecall)
    else st)

/-- The record of a cold or warm reset (R383). -/
def State.noteBoot (s : State) : State :=
  if s.rstNote then { s.passEvent 0x1400 6 [s.reg aRST_CAUSE] with rstNote := false } else s
/-- The root PLL locks and phases 1 to 5 release the L-die domains in order (table "Boot of the L-die"): `us` is the time of phase 1 from
the boot origin. -/
def State.releaseL (s : State) (us : W) : State :=
  let s0 : State := { s with clkStop := false, aliveStop := false, coldRst := false, mer := 0, seedDue := s.rtcValid, bootFault := none }
  let s1 := (List.range 5).foldl (fun s k => s.setReg (aRST_BOOTT (k + 1)) (us + BitVec.ofNat 32 k)) (s0.setReg aRST_BOOTPH 5)
  let s2 := ([0xF0, 0xF1] ++ (List.range s1.fuse.engines)).foldl State.wdgRelease s1
  let s3 := ((List.range 16).foldl State.witHush ((s2.causeEnds 1).causeEnds 3)).noteBoot
  match s.bootFault with
  | some c => s3.collect 29 cContained c 0
  | none => s3
/-- The root PLL is locked; it starts only with good supplies and the F-die at phase F4, and not after three failed boots. -/
def execRootPllLocked (us : W) (st : State) : Host.Outcome State Fault Refusal :=
  .next (if st.lpg ∧ st.fPh = 4 ∧ st.bootFails < 3 ∧ st.rf aRST_BOOTPH 3 0 = 0 then st.releaseL us else st)
/-- The reset-time tests end (R388): phase 6, or the releases are withdrawn, the F-die writes a dump page and the boot starts again. -/
def execResetTimeTestsDone (pass : Bool) (us : W) (st : State) : Host.Outcome State Fault Refusal :=
  .next (if st.rf aRST_BOOTPH 3 0 ≠ 5 then st
    else if pass then { (st.setReg aRST_BOOTPH 6).setReg (aRST_BOOTT 6) us with bootFails := 0 }
    else
      let s1 := st.countDump
      { (s1.passDump (s1.dumpPage 3 1 s1.fltMsg)).resetL with bootFails := st.bootFails + 1, rstNote := false })

/-- An FCORE restart of the F-die core ends: NV, the caddy and the recorder serve again (R402). -/
def execFcoreRestartDone (st : State) : Host.Outcome State Fault Refusal :=
  .next (if st.fPh = 4 ∧ st.fPause = false then { st with nvBlock := false } else st)

end Sys2Proof.Machine
end

