-- ==== Sys2Proof/Machine/EngTimer.lean ====
section
/-!
DEFINITION. Timers and counters (spec/03 R77 to R80).
-/
namespace Sys2Proof.Machine

/-- A timer block (table "Timer block"): preset, elapsed, stamp and the flags IN, Q, RUN and INIT. -/
structure Tmr where
  pt : W
  et : W
  stamp : W
  inp : Bool
  q : Bool
  run : Bool
  init : Bool
  deriving DecidableEq, Repr

/-- The block that four words hold. -/
def Tmr.ofWords (l : List W) : Tmr :=
  let f := l.getD 3 0
  { pt := l.getD 0 0, et := l.getD 1 0, stamp := l.getD 2 0, inp := bitAt f 0, q := bitAt f 1, run := bitAt f 2, init := bitAt f 3 }

/-- The four words of a block; the reserved flag bits are written as zero. -/
def Tmr.words (b : Tmr) : List W :=
  [b.pt, b.et, b.stamp, BitVec.ofNat 32 (b.inp.toNat + 2 * b.q.toNat + 4 * b.run.toNat + 8 * b.init.toNat)]

/-- The time step of R78 from the stamp `t` in µs: the block with its STAMP taken, and d. -/
def Tmr.step (b : Tmr) (t : W) : Tmr × W :=
  if b.init = false then ({ b with stamp := t, init := true }, 0)
  else
    let d := t - b.stamp
    if bitAt d 31 then (b, 0) else ({ b with stamp := t }, d)

/-- min(PT, ET + d) without wrap. -/
def Tmr.run' (b : Tmr) (d : W) : W := BitVec.ofNat 32 (min b.pt.toNat (b.et.toNat + d.toNat))

/-- TON after the step: the block and its Q. -/
def Tmr.ton (b : Tmr) (d : W) (i : Bool) : Tmr :=
  let et := if i && b.inp then b.run' d else 0
  { b with et := et, q := i && decide (b.pt.toNat ≤ et.toNat), inp := i }

/-- TOF after the step. -/
def Tmr.tof (b : Tmr) (d : W) (i : Bool) : Tmr :=
  if i then { b with et := 0, q := true, inp := i }
  else if b.inp then { b with et := 0, q := decide (b.pt ≠ 0), inp := i }
  else if b.q then { b with et := b.run' d, q := decide ((b.run' d).toNat < b.pt.toNat), inp := i }
  else { b with inp := i }

/-- TP after the step. -/
def Tmr.tp (b : Tmr) (d : W) (i : Bool) : Tmr :=
  if b.run then
    (if b.pt.toNat ≤ (b.run' d).toNat then { b with et := b.run' d, run := false, q := false, inp := i }
     else { b with et := b.run' d, inp := i })
  else if i && !b.inp then { b with et := 0, run := decide (b.pt ≠ 0), q := decide (b.pt ≠ 0), inp := i }
  else if i = false then { b with et := 0, inp := i }
  else { b with inp := i }

/-- TRS with LR = 1. -/
def Tmr.reset (b : Tmr) : Tmr := { b with et := 0, q := false, run := false, inp := false }

/-- A counter block (table "Counter block"): preset, count, UI and DI. -/
structure Ctr where
  pv : W
  cv : W
  ui : Bool
  di : Bool
  deriving DecidableEq, Repr

/-- The block that three words hold. -/
def Ctr.ofWords (l : List W) : Ctr :=
  { pv := l.getD 0 0, cv := l.getD 1 0, ui := bitAt (l.getD 2 0) 0, di := bitAt (l.getD 2 0) 1 }
/-- QU = (CV ≥ PV). -/
def Ctr.qu (b : Ctr) : Bool := decide (b.pv.toInt ≤ b.cv.toInt)
/-- QD = (CV ≤ 0). -/
def Ctr.qd (b : Ctr) : Bool := decide (b.cv.toInt ≤ 0)
/-- The three words of a block. -/
def Ctr.words (b : Ctr) : List W :=
  [b.pv, b.cv, BitVec.ofNat 32 (b.ui.toNat + 2 * b.di.toNat + 4 * b.qu.toNat + 8 * b.qd.toNat)]
/-- CV + 1, saturating at 0x7FFF_FFFF. -/
def satUp (v : W) : W := if v = 0x7FFFFFFF then v else v + 1
/-- CV − 1, saturating at 0x8000_0000. -/
def satDown (v : W) : W := if v = 0x80000000 then v else v - 1
/-- CTU. -/
def Ctr.up (b : Ctr) (l : Bool) : Ctr := { b with cv := if l && !b.ui then satUp b.cv else b.cv, ui := l }
/-- CTD. -/
def Ctr.down (b : Ctr) (l : Bool) : Ctr := { b with cv := if l && !b.di then satDown b.cv else b.cv, di := l }
/-- CRS. -/
def Ctr.reset (b : Ctr) (l : Bool) : Ctr := { b with cv := if l then 0 else b.cv }
/-- CLD. -/
def Ctr.load (b : Ctr) (l : Bool) : Ctr := { b with cv := if l then b.pv else b.cv }

/-- The release stamp of the running pass in whole µs, modulo 2^32 (R78, R127). -/
def State.stampUs (st : State) (p t : Nat) : W := BitVec.ofNat 32 ((st.task p t).stamp.toNat / 1000)

/-- An instruction on a block of `n` words: `f` gives the new words and LR. Its words are read and translated one by
one, then stored whole (R77). -/
def State.blockOp (st : State) (e n extra : Nat) (o : Opnd) (f : Nat → Nat → Bool → List W → List W × Bool) : State :=
  st.issue e o.words (o.words + extra) (fun p t c =>
    let w := o.ea c .word
    (st.readBlock c p w n).bind (fun l =>
      let r := f p t c.lr l
      (st.storeBlock p w r.1).map (fun m => { ctx := { c with lr := r.2 }, wr := m, jump := none, late := none })))

/-- TON, TOF and TP: the step of R78, then the timer's own rule; LR ← Q. -/
def State.timerOp (st : State) (e : Nat) (o : Opnd) (f : Tmr → W → Bool → Tmr) : State :=
  st.blockOp e 4 3 o (fun p t l ws =>
    let r := (Tmr.ofWords ws).step (st.stampUs p t)
    let b := f r.1 r.2 l
    (b.words, b.q))

/-- CTU, CTD, CRS and CLD. -/
def State.counterOp (st : State) (e : Nat) (o : Opnd) (f : Ctr → Bool → Ctr) (out : Ctr → Bool → Bool) : State :=
  st.blockOp e 3 2 o (fun _ _ l ws => let b := f (Ctr.ofWords ws) l; (b.words, out b l))

/-- TON (R78, R80). -/
def execOpTon (e : BitVec 7) (mode : BitVec 2) (s : BitVec 6) (w1 : BitVec 14) (st : State) : Host.Outcome State Fault Refusal :=
  .next (st.timerOp e.toNat ⟨mode, s, w1⟩ Tmr.ton)

/-- TOF (R78, R80). -/
def execOpTof (e : BitVec 7) (mode : BitVec 2) (s : BitVec 6) (w1 : BitVec 14) (st : State) : Host.Outcome State Fault Refusal :=
  .next (st.timerOp e.toNat ⟨mode, s, w1⟩ Tmr.tof)

/-- TP (R78, R80). -/
def execOpTp (e : BitVec 7) (mode : BitVec 2) (s : BitVec 6) (w1 : BitVec 14) (st : State) : Host.Outcome State Fault Refusal :=
  .next (st.timerOp e.toNat ⟨mode, s, w1⟩ Tmr.tp)

/-- TRS: with LR = 1 the timer is reset; LR unchanged, no step (R80). With LR = 0 the block is written back all the same. DESIGN CHOICE (log 199). -/
def execOpTrs (e : BitVec 7) (mode : BitVec 2) (s : BitVec 6) (w1 : BitVec 14) (st : State) : Host.Outcome State Fault Refusal :=
  .next (st.blockOp e.toNat 4 2 ⟨mode, s, w1⟩ (fun _ _ l ws => ((if l then (Tmr.ofWords ws).reset else Tmr.ofWords ws).words, l)))

/-- CTU: count up on a rising LR; LR ← QU (R80). -/
def execOpCtu (e : BitVec 7) (mode : BitVec 2) (s : BitVec 6) (w1 : BitVec 14) (st : State) : Host.Outcome State Fault Refusal :=
  .next (st.counterOp e.toNat ⟨mode, s, w1⟩ Ctr.up (fun b _ => b.qu))

/-- CTD: count down on a rising LR; LR ← QD (R80). -/
def execOpCtd (e : BitVec 7) (mode : BitVec 2) (s : BitVec 6) (w1 : BitVec 14) (st : State) : Host.Outcome State Fault Refusal :=
  .next (st.counterOp e.toNat ⟨mode, s, w1⟩ Ctr.down (fun b _ => b.qd))

/-- CRS: with LR = 1 the count is cleared (R80). -/
def execOpCrs (e : BitVec 7) (mode : BitVec 2) (s : BitVec 6) (w1 : BitVec 14) (st : State) : Host.Outcome State Fault Refusal :=
  .next (st.counterOp e.toNat ⟨mode, s, w1⟩ Ctr.reset (fun _ l => l))

/-- CLD: with LR = 1 the count takes the preset (R80). -/
def execOpCld (e : BitVec 7) (mode : BitVec 2) (s : BitVec 6) (w1 : BitVec 14) (st : State) : Host.Outcome State Fault Refusal :=
  .next (st.counterOp e.toNat ⟨mode, s, w1⟩ Ctr.load (fun _ l => l))

end Sys2Proof.Machine
end

