-- ==== Sys2Proof/Machine/PairCfg.lean ====
section
/-!
DEFINITION. The redundancy commit (spec/08 R237, R238, R241, R247, R255, table "Redundancy commit outcomes").
-/
namespace Sys2Proof.Machine

/-- The pending value of a register with its RO bits as applied. -/
def State.cand (s : State) (a : Nat) : W := mergeBits (s.reg a) (pendMask a) (s.pnd a)

/-- The state with the pending redundancy registers applied, as the checks see it. -/
def State.ruCandidate (s : State) : State := s.applyRange 0xD0000 0xE0000

/-- Whether port `p` is the target of a stream or VLAN entry. -/
def State.targeted (s : State) (p : Nat) : Bool :=
  s.validStreams.any (fun i => (s.stA i ++ s.stB i).any (fun q => s.qValid q && s.qPort q == p))
    || s.vlans.any (fun v => s.rb (aSW_VLAN0 v) 31 &&
      (targets (s.reg (aSW_VLAN1 v)) ++ targets (s.reg (aSW_VLAN2 v))).any (fun q => s.qValid q && s.qPort q == p))

/-- The REASON of a redundancy commit that fails, 0 when it passes; `c` is the candidate. DEDUCED (log 73). -/
def State.ruCheck (s c : State) : Nat :=
  let wc := c.rf aRU_CFG 18 16
  let len := c.rf aRU_TIMING 10 0
  let sm := c.rf aRU_TIMING 31 16
  let lanes := (c.syncPorts.map c.portWidth).foldl (· + ·) 0
  let moved (a : Nat) (m : W) : Bool := decide ((s.reg a ^^^ c.reg a) &&& m ≠ 0)
  if c.member ∧ s.fuse.pair = false then 1
  else if c.member ∧ (¬ (200 ≤ len ∧ len ≤ 2000) ∨ ¬ (wc = 3 ∨ wc = 5 ∨ wc = 7) ∨ ¬ (sm = 0 ∨ (60 ≤ sm ∧ sm ≤ 43200))
      ∨ ((List.range 7).filter (fun i => c.rb (aRU_WIT i) 31)).length ≠ wc) then 2
  else if c.member ∧ (c.syncPorts.any (fun p => !c.configured p || c.targeted p) ∨ ¬ (2 ≤ lanes ∧ lanes ≤ 8)) then 3
  else if s.member ∧ s.ruRole ≠ 0 ∧ s.ruRole ≠ 6 ∧ (moved aRU_CFG 0x7FFFFFFF ∨ moved aRU_TIMING 0x7FF ∨ moved aRU_SYNC 0xFFFFFFFF
      ∨ (List.range 7).any (fun i => moved (aRU_WIT i) 0xFFFFFFFF) ∨ (List.range 16).any (fun i => moved (aRU_PARTS i) 0xFFFFFFFF)) then 4
  else if c.pairParts.any (fun p => c.enabled p 8 || decide (c.mode p = 0)
      || (List.range 32).any (fun n => c.ownerAt (aFIO_OWN n) == some p)) then 5
  else if c.member ∧ (c.witEntry (c.rf aRU_CFG 15 0)).isSome then 6
  else 0

/-- Partitions join and leave the pair: `RU_PSTEP` (table "Redundancy status and command registers"). -/
def State.stepsFollow (s old : State) : State :=
  (List.range 512).foldl (fun s p =>
    if s.pairPart p then (if old.pairPart p then s else s.setReg (aRU_PSTEP p) 0x30000000) else s.setReg (aRU_PSTEP p) 0) s

/-- The role after a commit (R252): EN taken away releases the active role first; EN given begins in WAIT. -/
def State.roleFollows (s old : State) : State :=
  let s1 := { s with ru := { s.ru with waitAt := s.fab } }
  if s1.member then (if old.member then s1 else { s1 with ru := { Ru.zero with waitAt := s1.fab, rnum := s1.ru.rnum } }.setRole 1)
  else if old.member ∨ s1.ruRole ≠ 0 then { (s1.setRole 0) with ru := { Ru.zero with rnum := s1.ru.rnum }, shadow := [], ruResync := [], ruForced := [] }
  else s1

/-- Pair partitions whose mirror ranges changed resynchronise (R255). -/
def State.rangesFollow (s old : State) : State :=
  let ps := s.pairParts.filter (fun p => old.pairPart p && decide (s.ranges p ≠ old.ranges p))
  if s.ruRole = 3 then ps.foldl (fun s p => { (s.forceLines p).setPstep p 2 with ruResync := distinct (s.ruResync ++ [p]) }) s
  else if s.ruRole = 4 ∨ s.ruRole = 5 then ps.foldl (fun s p => s.outOfStep p) s
  else s

/-- The redundancy commit at a tick. -/
def State.ruApply (s : State) : State :=
  if s.rb aRU_COMMIT 1 then
    let c := s.ruCandidate
    let r := s.ruCheck c
    let s0 := (s.setReg aRU_COMMIT 0).setReg aRU_STAT (BitVec.ofNat 32 r)
    if r ≠ 0 then s0.ruEvent 0x80
    else
      let s1 := if s.ruRole = 3 ∧ c.member = false then s0.sendLease 5 s0.ruEpoch false 0 else s0
      let s2 := s1.ruCandidate
      let wits := (List.range 16).filter (fun k => s.wasTouched (aWT_0 k) || s.wasTouched (aWT_1 k))
      let s3 := wits.foldl State.witHush s2
      (((((s3.stepsFollow s).roleFollows s).rangesFollow s).refreshPair).untouch 0xD0000 0xE0000).ruEvent 0x80
  else s

/-- `RU_COMMIT.GO` by `src` (R55, R56). -/
def execRuCommitGo (src : BitVec 10) (st : State) : Host.Outcome State Fault Refusal :=
  .next (if isVf src.toNat then st else st.setRf aRU_COMMIT 1 1 1)

/-- The redundancy commit at the next Graticule tick, `dt` clocks on. -/
def execRuCommitApply (dt : Nat) (st : State) : Host.Outcome State Fault Refusal :=
  let s := st.elapse dt
  .next (if s.onTick then s.oneEvent aRU_EVT_SEQ s.ruApply else s)

end Sys2Proof.Machine
end

