-- ==== Sys2Proof/Machine/Session.lean ====
section
/-!
DEFINITION. The service port's frames and session (spec/16 R422 to R426): which requests execute, which are answered again, and the replies.
-/
namespace Sys2Proof.Machine

/-- What a request does: the state after it, the reply's STATUS and its body. -/
abbrev Answer := State × Nat × List Byte

/-- Whether frames reach the port: its domain is released (phase 5) and the block is not in reset. DESIGN CHOICE (log 132). -/
def State.spUp (s : State) : Bool := decide (5 ≤ s.rf aRST_BOOTPH 3 0) && !s.inReset 0x11 && !s.clkStop
/-- The open session, 0 for none. -/
def State.spSession (s : State) : Nat := s.rf aSP_STAT 31 16
/-- Send a reply. -/
def State.reply (s : State) (op status : Nat) (body : List Byte) : State := s.emit (.spReply op status body)
/-- A service frame is taken: the link is up. DEDUCED (log 143). -/
def State.spHeard (s : State) : State := s.setRf aSP_STAT 0 0 1
/-- A request of OP `op` outside the session's order: hardware answers while the supervisor does not serve (R426). -/
def State.serveAny (s : State) (op : Nat) (k : State → State) : State :=
  if s.spUp = false then s
  else if s.mgmt then s.spHeard.reply op 1 [1]
  else if s.supRun = false then s.spHeard.reply op 1 [2]
  else k s.spHeard
/-- The request executes: its reply is kept for a repetition. -/
def State.execute (s : State) (seq op : Nat) (k : State → Answer) : State :=
  let r := k s
  { (r.1.reply op r.2.1 r.2.2) with spLast := seq, spReply := some { op := op, status := r.2.1, body := r.2.2 } }
/-- A request of session `sess` with number `seq` and OP `op` (R425). DEDUCED (log 144). -/
def State.serve (s : State) (sess seq : BitVec 16) (op : Nat) (k : State → Answer) : State :=
  let mine := decide (s.spSession ≠ 0 ∧ s.spSession = sess.toNat)
  let s0 := if mine ∧ s.spUp then { s with spAt := s.fab } else s
  s0.serveAny op (fun s =>
    if mine = false then s.reply op 2 []
    else if seq.toNat = s.spLast then
      (match s.spReply with | some r => s.reply r.op r.status r.body | none => s.reply op 6 [])
    else if seq.toNat = (s.spLast + 1) % 65536 then s.execute seq.toNat op k
    else s.reply op 6 [])
/-- A request that needs right `r` (table "Service commands"). -/
def State.serveR (s : State) (r : Nat) (sess seq : BitVec 16) (op : Nat) (k : State → Answer) : State :=
  s.serve sess seq op (fun s => if s.granted 0x3FE r then k s else (s, 3, []))

/-- OPEN from source address `peer` (R424). DEDUCED (log 144); DESIGN CHOICE (log 147). -/
def State.spOpen (s : State) (peer : BitVec 48) : State :=
  s.serveAny 2 (fun s =>
    if s.spSession ≠ 0 ∧ s.spPeer ≠ peer.toNat then s.reply 2 1 []
    else
      let s1 := s.endSession
      let drawn := (Config.session s1.fresh).toNat
      let n := if drawn = 0 then 1 else drawn
      let body := beBytes 2 n
      let s2 : State := { s1.useFresh with
        spPeer := peer.toNat, spLast := 0, spAt := s1.fab, spReply := some { op := 2, status := 0, body := body } }
      (s2.setReg aSP_STAT (BitVec.ofNat 32 (n * 65536 + 3))).reply 2 0 body)
/-- OPEN. -/
def execOpenSession (peer : BitVec 48) (st : State) : Host.Outcome State Fault Refusal :=
  .next (st.spOpen peer)
/-- CLOSE. -/
def execCloseSession (sess : BitVec 16) (seq : BitVec 16) (st : State) : Host.Outcome State Fault Refusal :=
  .next (st.serve sess seq 3 (fun s => (s.endSession, 0, [])))
/-- 60 s without a request of the session. -/
def execSessionTimeout (dt : Nat) (st : State) : Host.Outcome State Fault Refusal :=
  let s := st.elapse dt
  .next (if s.spSession ≠ 0 ∧ fabSeconds 60 ≤ s.fab - s.spAt then s.endSession else s)

/-- The bytes of a register, most significant first. -/
def be32 (w : W) : List Byte := beBytes 4 w.toNat
/-- The body of IDENTIFY. DEDUCED (log 146). -/
def State.identity (s : State) : List Byte :=
  [0x00, 0x04, 0x08, 0x8020, 0x8000, 0x8004, 0x8008].flatMap (fun a => be32 (s.reg a))
    ++ beBytes 2 (s.rf aSP_MAC_HI 15 0) ++ be32 (s.reg aSP_MAC_LO)
    ++ [aUPD_STAT, aUPD_VER_A, aUPD_VER_B, aUPD_FVER].flatMap (fun a => be32 (s.reg a))
/-- IDENTIFY: no session and no number. -/
def execIdentify (st : State) : Host.Outcome State Fault Refusal :=
  .next (st.serveAny 1 (fun s => s.reply 1 0 s.identity))
/-- A frame that is no valid service frame for `SP_MAC` (R423). -/
def execSpFrameDiscard (st : State) : Host.Outcome State Fault Refusal :=
  .next (if st.spUp then st.spHeard.count aSP_CNT_DISC else st)
/-- A write of `SP_CFG` by `src`: the link goes down and retrains; `up` says whether its partner answers. DEDUCED (log 143). -/
def execSpCfgWrite (src : BitVec 10) (data : W) (up : Bool) (st : State) : Host.Outcome State Fault Refusal :=
  .next (if 1 ≤ src.toNat ∧ src.toNat ≤ 512 then st else (st.setReg aSP_CFG (data &&& 3)).setRf aSP_STAT 0 0 up.toNat)
/-- A write of `SP_MAC_LO`, or `SP_MAC_HI`, by `src`: the open session ends. -/
def execSpMacWrite (src : BitVec 10) (hi : Bool) (data : W) (st : State) : Host.Outcome State Fault Refusal :=
  .next (if 1 ≤ src.toNat ∧ src.toNat ≤ 512 then st
    else (if hi then st.setReg aSP_MAC_HI (data &&& 0xFFFF) else st.setReg aSP_MAC_LO data).endSession)

/-! ### Exchanges through the port -/

/-- The reply to a CHALLENGE: BUSY as STATUS 0x01, a lockout as 0x09 with its seconds, any other refusal with its REASON. DEDUCED (log 145). -/
def State.challengeReply (r : State × Nat) : Answer :=
  if r.2 = 0 then (r.1, 0, match r.1.auExch with | some x => x.nonce | none => [])
  else if r.2 = 1 then (r.1, 1, [])
  else if r.2 = 4 then
    (r.1, 9, beBytes 2 (match r.1.auLock with | some (t, _) => (t - r.1.fab + 799999999) / 800000000 | none => 0))
  else (r.1, 4, [BitVec.ofNat 8 r.2])
/-- CHALLENGE through the port. -/
def execSpChallenge (sess seq : BitVec 16) (slot : Byte) (rights : BitVec 16) (st : State) : Host.Outcome State Fault Refusal :=
  .next (st.serve sess seq 8 (fun s => State.challengeReply (s.auChallenge 0x3FE slot.toNat rights.toNat)))
/-- RESPONSE through the port; the MAC's first byte is its most significant. -/
def execSpResponse (sess seq : BitVec 16) (mac : BitVec 128) (st : State) : Host.Outcome State Fault Refusal :=
  .next (st.serve sess seq 9 (fun s =>
    let r := s.auResponse 0x3FE (beBytes 16 mac.toNat)
    if r.2 = 0 then (r.1, 0, beBytes 2 (fld (r.1.regFor 0x3FE aAU_GRANT) 15 0)) else (r.1, 4, [BitVec.ofNat 8 r.2])))
/-- RELINQUISH through the port. -/
def execSpRelinquish (sess seq : BitVec 16) (st : State) : Host.Outcome State Fault Refusal :=
  .next (st.serve sess seq 10 (fun s => (s.endGrant 0x3FE, 0, [])))

end Sys2Proof.Machine
end

