-- ==== Sys2Proof/Machine/Update.lean ====
section
/-!
DEFINITION. Images, activation, steeping and the boot of the supervisor (spec/16 R435 to R443, spec/14 R391, R392). Flash slots A and B are
slots 0 and 1, F-die slots A and B 2 and 3.
-/
namespace Sys2Proof.Machine

/-! ### Images (R435) -/

/-- The most body bytes of an image of a KIND. -/
def maxBody (kind : Nat) : Nat := if kind = 1 then 0x1000000 - 256 else 0x10000 - 512
/-- Settings generation of an image. -/
def Img.gen (m : Img) : Nat := fld (wordAt m.cart 0x14) 15 0
/-- Whether the device accepts a Cartouche and a body as an image of a KIND. -/
def State.imageOk (s : State) (kind : Nat) (m : Img) : Bool :=
  let w (i : Nat) : W := wordAt m.cart i
  decide (m.cart.length = 256 ∧ w 0 = 0x4E444354 ∧ fld (w 4) 31 16 = 1 ∧ fld (w 4) 15 8 = kind ∧ crc32 (m.cart.take 252) = w 252)
    && bitAt (w 0x10) (8 + (s.fuse.code - 1)) && decide (fld (w 0x10) 7 0 ≤ fld (gazetteerWord s.fuse 0x8020) 7 0)
    && decide ((w 12).toNat = m.body.length ∧ m.body.length ≤ maxBody kind ∧ sha256 m.body = (m.cart.drop 32).take 32)
    && Config.sigOk (m.cart.take 64) ((m.cart.drop 64).take 64)
/-- The image in slot `n`. -/
def State.img (s : State) (n : Nat) : Option Img := FMap.get (fun _ => none) s.slots n
/-- Slot `n` holds `m`. -/
def State.setImg (s : State) (n : Nat) (m : Option Img) : State := { s with slots := FMap.set (fun _ => none) s.slots n m }
/-- The version of the image in slot `n`, 0 when empty. -/
def State.imgVersion (s : State) (n : Nat) : W := match s.img n with | some m => wordAt m.cart 8 | none => 0
/-- Whether an image of a KIND is steeping. -/
def State.steeping (s : State) (kind : Nat) : Bool := if kind = 1 then s.bootRec.steep else s.fRec.steep
/-- The inactive slot of a KIND. -/
def State.inactive (s : State) (kind : Nat) : Nat := if kind = 1 then 1 - s.bootRec.act else 3 - s.fRec.slot

/-! ### The update registers -/

/-- The registers that follow the slots and records. -/
def State.showSlots (s : State) : State :=
  let s1 := ((s.setReg aUPD_VER_A (s.imgVersion 0)).setReg aUPD_VER_B (s.imgVersion 1)).setReg aUPD_SETGEN
    (BitVec.ofNat 32 (s.bootRec.set1 % 65536 * 65536 + s.bootRec.set0 % 65536))
  (((s1.setRf aUPD_STAT 17 16 s.bootRec.tries).setRf aUPD_STAT 7 7 s.bootRec.steep.toNat).setRf aUPD_STAT 4 4 s.xfer.isSome.toNat).showFdie
/-- `UPD_STAT.REASON`. -/
def State.updReason (s : State) (r : Nat) : State := (s.showSlots).setRf aUPD_STAT 31 24 r
/-- An update command ends applied, with a reply body. -/
def State.updOk (s : State) (body : List Byte) : Answer := (s.updReason 0, 0, body)
/-- An update command is refused with a REASON and the STATUS that carries it. -/
def State.updNo (s : State) (status r : Nat) : Answer := (s.updReason r, status, [BitVec.ofNat 8 r])

/-! ### Transfer (R437) -/

/-- XBEGIN: the inactive slot of the KIND is erased. DEDUCED (log 150). -/
def State.xbegin (kind : Nat) (cart : List Byte) (s : State) : Answer :=
  if ¬ (kind = 1 ∨ kind = 2) ∨ cart.length ≠ 256 then (s, 5, [])
  else if s.steeping kind then s.updNo 4 3
  else if maxBody kind < (wordAt cart 12).toNat then s.updNo 4 6
  else
    let n := s.inactive kind
    { (s.setImg n none) with xfer := some (kind, cart, []) }.updOk [BitVec.ofNat 8 (n % 2)]
/-- XDATA. DEDUCED (log 151). -/
def State.xdata (off : Nat) (data : List Byte) (s : State) : Answer :=
  if data.length = 0 ∨ 1024 < data.length then (s, 5, [])
  else match s.xfer with
    | none => s.updNo 4 7
    | some (kind, cart, body) =>
      if off ≠ body.length then s.updNo 4 7
      else if maxBody kind < off + data.length then s.updNo 4 6
      else { s with xfer := some (kind, cart, body ++ data) }.updOk []
/-- XEND: the image is checked as it stands in the target; the verdict is 0 when it passes. DEDUCED (log 151). -/
def State.xend (s : State) : Answer :=
  match s.xfer with
  | none => s.updNo 4 7
  | some (kind, cart, body) =>
    let s1 := { s with xfer := none }
    let m : Img := { cart := cart, body := body.take (wordAt cart 12).toNat }
    if s1.imageOk kind m then (s1.setImg (s1.inactive kind) (some m)).updOk [0]
    else s1.updNo 8 2
/-- XBEGIN through the port. -/
def execXbegin (sess seq : BitVec 16) (kind : Byte) (cart : List Byte) (st : State) : Host.Outcome State Fault Refusal :=
  .next (st.serveR 2 sess seq 0x18 (State.xbegin kind.toNat cart))
/-- XDATA through the port. -/
def execXdata (sess seq : BitVec 16) (off : W) (data : List Byte) (st : State) : Host.Outcome State Fault Refusal :=
  .next (st.serveR 2 sess seq 0x19 (State.xdata off.toNat data))
/-- XEND through the port. -/
def execXend (sess seq : BitVec 16) (st : State) : Host.Outcome State Fault Refusal :=
  .next (st.serveR 2 sess seq 0x1A State.xend)

/-! ### Settings banks (R436, R439, R440) -/

/-- Whether a bank holds settings of generation `g`. -/
def BootRec.has (b : BootRec) (g : Nat) : Bool := b.set0 == g || b.set1 == g
/-- The bank of generation `g` is emptied. -/
def BootRec.drop (b : BootRec) (g : Nat) : BootRec :=
  { b with set0 := if b.set0 = g then 0 else b.set0, set1 := if b.set1 = g then 0 else b.set1 }
/-- A bank of generation `new` is written, into the bank that does not hold `old`. DEDUCED (log 154). -/
def BootRec.convert (b : BootRec) (old new : Nat) : BootRec := if b.set1 = old then { b with set0 := new } else { b with set1 := new }
/-- Settings generation of the image in flash slot `n`. -/
def State.slotGen (s : State) (n : Nat) : Nat := match s.img n with | some m => m.gen | none => 0
/-- The boot record after a fall-back: ACT is PREV, confirmed, and the bank of the image left is emptied where there were two generations. -/
def State.fellBack (s : State) : BootRec :=
  let b := { s.bootRec with act := s.bootRec.prev, steep := false, tries := 0 }
  if s.slotGen s.bootRec.act = s.slotGen s.bootRec.prev then b else b.drop (s.slotGen s.bootRec.act)

/-! ### The boot of the supervisor (R441, R442) -/

/-- The supervisor's image passes R435 in flash slot `n`. -/
def State.slotBoots (s : State) (n : Nat) : Bool := match s.img n with | some m => s.imageOk 1 m | none => false
/-- A fall-back is recorded. -/
def State.noteFallback (s : State) : State := s.passEvent 0x0203 5 []
/-- The supervisor runs the image in flash slot `n`, or the Benchmark image (2). A new settings generation that no bank holds begins a
conversion. DESIGN CHOICE (log 152). -/
def State.runImage (s : State) (n : Nat) : State :=
  let g := s.slotGen n
  let conv := n ≠ 2 ∧ s.bootRec.steep ∧ g ≠ s.slotGen s.bootRec.prev ∧ s.bootRec.has g = false
  let s1 := { s with supRun := true, mgmt := false }.setReg aUPD_VER_RUN (if n = 2 then Config.benchVersion else s.imgVersion n)
  (((s1.setRf aUPD_STAT 11 8 n).setRf aUPD_STAT 6 6 (if conv then 1 else 0)).setRf aUPD_STAT 5 5 0).showSlots
/-- A boot chooses its image and runs it. DEDUCED (log 154). -/
def State.bootImage (s : State) : State :=
  let b := s.bootRec
  let s1 := if b.steep then
      (if 3 ≤ b.tries then { s with bootRec := s.fellBack }.noteFallback else { s with bootRec := { b with tries := b.tries + 1 } })
    else s
  let n := s1.bootRec.act
  if s1.slotBoots n then s1.runImage n
  else if s1.slotBoots (1 - n) then
    ({ s1 with bootRec := { s1.bootRec with act := 1 - n, steep := false } }.noteFallback).runImage (1 - n)
  else (s1.passEvent 0x0204 5 []).runImage 2
/-- Phases 7 and 8: pages are zeroed, and the supervisor runs; `us7` and `us8` are their times from the boot origin. -/
def execFirmwareLoaded (us7 us8 : W) (dt : Nat) (st : State) : Host.Outcome State Fault Refusal :=
  let s := st.elapse dt
  .next (if s.rf aRST_BOOTPH 3 0 ≠ 6 ∨ s.fatal then s
    else (((s.setReg aRST_BOOTPH 8).setReg (aRST_BOOTT 7) us7).setReg (aRST_BOOTT 8) us8).bootImage)

/-! ### Activate, Confirm, Fallback (R438 to R440, R443) -/

/-- The management pause begins: S0 and S1 run 1,000 ms from here (R438, R399). DEDUCED (log 155). -/
def State.beginMgmt (s : State) : State :=
  let arm (s : State) (ch : Nat) : State := ((s.setRf (wdgStat ch) 29 29 1).setRf (wdgStat ch) 26 17 1000).wdgBegin ch
  { (arm (arm s 0xF0) 0xF1) with mgmt := true, supRun := false }.setRf aUPD_STAT 5 5 1
/-- The update pause of the F-die begins (R443). -/
def State.beginFPause (s : State) : State := { s with fPause := true, nvBlock := true }
/-- ACTIVATE. DEDUCED (log 149). -/
def State.activate (kind : Nat) (s : State) : Answer :=
  if ¬ (kind = 1 ∨ kind = 2) then (s, 5, [])
  else match s.img (s.inactive kind) with
    | none => s.updNo 4 1
    | some m =>
      if s.steeping 1 ∨ s.steeping 2 then s.updNo 4 3
      else if kind = 1 ∧ s.slotGen s.bootRec.act < fld (wordAt m.cart 0x14) 31 16 then s.updNo 4 4
      else
        let s1 := s.passEvent 0x0201 4 []
        if kind = 1 then
          let r := { s1 with bootRec := { s1.bootRec with act := 1 - s1.bootRec.act, prev := s1.bootRec.act, steep := true, tries := 0 } }.updOk []
          (r.1.beginMgmt, r.2)
        else
          let r := { s1 with fRec := { slot := 1 - s1.fRec.slot, steep := true } }.updOk []
          (r.1.beginFPause, r.2)
/-- CONFIRM. DEDUCED (log 148). -/
def State.confirm (kind : Nat) (s : State) : Answer :=
  if ¬ (kind = 1 ∨ kind = 2) then (s, 5, [])
  else if s.steeping kind = false then s.updNo 4 3
  else if kind = 1 ∧ s.rb aUPD_STAT 6 then s.updNo 4 5
  else
    let s1 := s.passEvent 0x0202 4 []
    if kind = 1 then
      let b := { s1.bootRec with steep := false, tries := 0 }
      let old := s1.slotGen b.prev
      { s1 with bootRec := if old = s1.slotGen b.act then b else b.drop old }.updOk []
    else { s1 with fRec := { s1.fRec with steep := false } }.updOk []
/-- FALLBACK. DEDUCED (log 148, 149). -/
def State.fallback (kind : Nat) (s : State) : Answer :=
  if ¬ (kind = 1 ∨ kind = 2) then (s, 5, [])
  else if s.steeping kind = false then s.updNo 4 3
  else if kind = 1 ∧ s.rb aUPD_STAT 6 then s.updNo 4 5
  else
    let s1 := s.noteFallback
    if kind = 1 then
      let r := { s1 with bootRec := s1.fellBack }.updOk []
      (r.1.beginMgmt, r.2)
    else
      let r := s1.dropTrial.updOk []
      (r.1.beginFPause, r.2)
/-- ACTIVATE through the port. -/
def execActivate (sess seq : BitVec 16) (kind : Byte) (st : State) : Host.Outcome State Fault Refusal :=
  .next (st.serveR 2 sess seq 0x1C (State.activate kind.toNat))
/-- CONFIRM through the port. -/
def execConfirm (sess seq : BitVec 16) (kind : Byte) (st : State) : Host.Outcome State Fault Refusal :=
  .next (st.serveR 2 sess seq 0x1D (State.confirm kind.toNat))
/-- FALLBACK through the port. -/
def execFallback (sess seq : BitVec 16) (kind : Byte) (st : State) : Host.Outcome State Fault Refusal :=
  .next (st.serveR 2 sess seq 0x1E (State.fallback kind.toNat))

/-- Serve one command that a management pause held. DEDUCED (log 142). -/
def State.serveHeld (s : State) (e : Bool × Nat) : State := if e.1 then s.ruDo e.2 else s.trDo (e.2 / 16) (e.2 % 16)
/-- The new firmware serves commands again: the restart of its cores is a boot (R440), and held commands are served in arrival order. -/
def execManagementPauseEnd (dt : Nat) (st : State) : Host.Outcome State Fault Refusal :=
  let s := st.elapse dt
  .next (if s.mgmt then
      (let s1 := { s with held := [] }.bootImage
       s.held.foldl State.serveHeld s1)
    else s)
/-- The converted settings bank stands (R439). -/
def execSettingsConversionDone (dt : Nat) (st : State) : Host.Outcome State Fault Refusal :=
  let s := st.elapse dt
  .next (if s.rb aUPD_STAT 6 then
      ({ s with bootRec := s.bootRec.convert (s.slotGen s.bootRec.prev) (s.slotGen s.bootRec.act) }.setRf aUPD_STAT 6 6 0).showSlots
    else s)
/-- The F-die core runs its other slot; commands that arrived in the pause apply in arrival order (R443). -/
def execFdieUpdatePauseEnd (dt : Nat) (st : State) : Host.Outcome State Fault Refusal :=
  let s := st.elapse dt
  .next (if s.fPause then
      (let s1 : State := { s with fPause := false, nvBlock := false, fioLink := [] }
       (s.fioLink.foldl (fun (s : State) e => s.command e.1 e.2) s1).showFdie)
    else s)

/-! ### Option bytes (R391) -/

/-- An option-byte copy with generation `gen` and the words at 0x08, 0x0C and 0x10. -/
def optCopy (gen w8 wc w10 : W) : List Byte :=
  let head := [0x4F420000, gen, w8 &&& 0x03FF03FF, wc &&& 0x1FF, w10 &&& 3].flatMap bytesOf
  let body := head ++ List.replicate (252 - head.length) (0 : Byte)
  body ++ bytesOf (crc32 body)
/-- OPTWR: the copy not used at the last boot is written first, then the other one. DEDUCED (log 156). -/
def State.optwr (w8 wc w10 : W) (s : State) : Answer :=
  let gen : W := BitVec.ofNat 32 s.opt.gen + 1
  let page := optCopy gen w8 wc w10
  if (optOf false (some page)).isNone then (s, 5, [])
  else if s.nvBlock then (s, 4, [1])
  else if s.pfHold then (s, 4, [7])
  else
    let first := if s.opt.copyB then 0 else 1
    (((s.nvQueue (first, page, 1)).nvQueue (1 - first, page, 2)), 0, be32 gen)
/-- OPTWR through the port, with bytes 0x08 to 0x13 of the copy as three words. -/
def execOptwr (sess seq : BitVec 16) (w8 wc w10 : W) (st : State) : Host.Outcome State Fault Refusal :=
  .next (st.serveR 2 sess seq 0x1F (State.optwr w8 wc w10))

end Sys2Proof.Machine
end

