-- ==== Sys2Proof/Machine/HostRegs.lean ====
section
/-!
DEFINITION. Writes of the host and the service port to registers (spec/02 R40 to R56, R44, R469): the check of a value's range, status
groups, commands, RW registers, pending values and posted writes.
-/
namespace Sys2Proof.Machine

/-- The state that a meaning which answers a next state leaves. -/
def ran (s : State) (o : Host.Outcome State Fault Refusal) : State :=
  match o with
  | .next t => t
  | _ => s
/-- Refuse an access of `src` to the register at offset `a` of PF0 BAR0; the record of a VF names the offset in its own BAR. -/
def State.deny (s : State) (src a c : Nat) : State :=
  s.refuse src (accSpace src) (if isVf src then a - (0x300000 + 0x800 * (src - 1)) else a) c
/-- `BSTAT` of the far instance that holds offset `a`, if one does (R48). -/
def farBstat (a : Nat) : Option Nat :=
  if (0x60000 ≤ a ∧ a < 0xA0000) ∨ (0xB0000 ≤ a ∧ a < 0xD0000) ∨ (0x1000000 ≤ a ∧ a < 0x1100000) then some (a / 0x10000 * 0x10000)
  else if 0xC00000 ≤ a ∧ a < 0xE00000 then some (a / 0x4000 * 0x4000)
  else none
/-- The partition whose descriptor holds offset `a`. -/
def pdIdx (a : Nat) : Nat := (a - 0x300000) / 0x800
/-- Whether offset `a` lies in a partition descriptor. -/
def inPd (a : Nat) : Bool := decide (0x300000 ≤ a ∧ a < 0x400000)
/-- Whether a number lies in a closed range. -/
def within (lo hi v : Nat) : Bool := decide (lo ≤ v ∧ v ≤ hi)

/-! ### Status groups (R45 to R47) -/

/-- `n` registers from offset `a`. -/
def words (a n : Nat) : List Nat := (List.range n).map (fun i => a + 4 * i)
/-- The status, capture and count registers that the SEQ register at offset `a` guards. -/
def groupRegs (a : Nat) : List Nat :=
  if a = aFLT_SEQ then words 0x20008 6 ++ words 0x20028 4 ++ words 0x20100 64 ++ words 0x20200 64
  else if a = aRST_CAUSE_SEQ then aRST_CAUSE :: (words 0x30010 6 ++ [aRST_LASTPART])
  else if a = aMER_EVT_SEQ then [aMER_EVT, aMER_PPSIN_LO, aMER_PPSIN_HI, aMER_CNT_SYNC, aMER_CNT_DISC]
  else if a = aEVR_EVT_SEQ then aEVR_EVT :: words aEVR_CNT_SUPP 5
  else if a = aRU_EVT_SEQ then aRU_EVT :: words aRU_CNT_CMP 8
  else if a = aSW_EVT_SEQ then aSW_EVT :: words aSW_CNT_BADHDR 12
  else if 0x1000000 ≤ a then (a + 4) :: words (a + 0x20) 5
  else if a = aGCTL_ACC_ERR_SEQ ∨ (0x200000 ≤ a ∧ a < 0x300000) ∨ (inPd a ∧ a % 0x800 = 0x20) then words (a + 4) 3
  else if a = aTR_ERR_SEQ ∨ (inPd a ∧ a % 0x800 = 0x3B0) then words (a + 4) 2
  else [a + 4]
/-- The group clears when the value written equals its SEQ; any other value is ignored (R46). -/
def State.clearGroup (s : State) (a : Nat) (d : W) : State := if d = s.reg a then s.zeroRegs (groupRegs a) else s
/-- A write of `src` to the SEQ register at offset `a`; to one of a far block it is a posted write. DEDUCED (log 160). -/
def State.seqWrite (s : State) (src a : Nat) (d : W) : State :=
  match farBstat a with
  | some b => s.farWrite src a b (fun s => s.clearGroup a d)
  | none => s.clearGroup a d

/-! ### Survey (R57, R58) -/

/-- The counters among the rows. DEDUCED (log 19); DESIGN CHOICE (log 187). -/
def counterRows : List RegRow := regBlocks.flatMap (fun b => b.2.2.filter (fun r => r.cnt))
/-- Whether offset `a` holds a counter. -/
def isCounter (a : Nat) : Bool := match regRow a with | some r => r.cnt | none => false
/-- Whether offset `a` lies in a block of the F-die. -/
def onFdie (a : Nat) : Bool := decide ((0x60000 ≤ a ∧ a < 0xA0000) ∨ (0xB0000 ≤ a ∧ a < 0xD0000))
/-- Capture the counters of one die: the holding copies of that die take the counters' values. DEDUCED (log 19). -/
def State.surveyCapture (s : State) (fdie : Bool) : State :=
  let keep := FMap.forget (fun a => onFdie a == fdie) s.survey
  let new := s.regs.filter (fun (e : Nat × W) => onFdie e.1 == fdie && isCounter e.1)
  let m := new.foldl (fun (m : FMap W) (e : Nat × W) => FMap.set (fun _ => 0) m e.1 e.2) keep
  { s with survey := if fdie then FMap.set (fun _ => 0) m aNV_OPHF (BitVec.ofNat 32 s.ophf) else m }
/-- `GCTL_SURVEY.GO` by `src`; while BUSY every write of `GCTL_SURVEY` is refused (R58). DEDUCED (log 170). -/
def State.surveyStart (s : State) (src : Nat) : State :=
  if s.rb aGCTL_SURVEY_STAT 0 then s.deny src aGCTL_SURVEY 6
  else ((s.surveyCapture false).setReg64 aGCTL_SURVEY_TIME_LO s.now).setReg aGCTL_SURVEY_STAT
    (BitVec.ofNat 32 ((s.rf aGCTL_SURVEY_STAT 31 16 + 1) % 65536 * 65536 + 1))
/-- The F-die counters are captured; BUSY clears. FDONE stays 0 where the die link is down. -/
def State.surveyEnd (s : State) : State :=
  if s.rb aGCTL_SURVEY_STAT 0 = false then s
  else if s.rb aNV_BSTAT 1 then s.setRf aGCTL_SURVEY_STAT 1 0 0
  else (s.surveyCapture true).setRf aGCTL_SURVEY_STAT 1 0 2

/-! ### Command registers (R469) -/

/-- A command field of `src`: code 0 has no effect, a code above `n` is refused with CAUSE 0x0A. -/
def State.coded (s : State) (src a code n : Nat) (k : State → State) : State :=
  if code = 0 then s else if n < code then s.deny src a 0x0A else k s
/-- `RST_CMD`. -/
def State.rstWrite (s : State) (o : BitVec 10) (d : W) : State :=
  let arg := BitVec.ofNat 10 (fld d 25 16)
  s.coded o.toNat aRST_CMD (fld d 3 0) 7 (fun s => ran s
    (match fld d 3 0 with
    | 1 => execCold o s
    | 2 => execWarm o s
    | 3 => execEngineCmd o arg s
    | 4 => execBlockCmd o arg s
    | 5 => execBlockhold o arg s
    | 6 => execBlockrel o arg s
    | _ => execPartitionCmd o arg s))
/-- `PD_CMD` of partition `p`. -/
def State.pdWrite (s : State) (o : BitVec 10) (p : Nat) (d : W) : State :=
  let q := BitVec.ofNat 9 p
  s.coded o.toNat (aPD_CMD p) (fld d 3 0) 5 (fun s => ran s
    (match fld d 3 0 with
    | 1 => execPdRun o q s
    | 2 => execPdStop o q s
    | 3 => execPdHold o q s
    | 4 => execPdResume o q s
    | _ => execPdStep o q (BitVec.ofNat 8 (fld d 15 8)) s))
/-- A write of GO = 1 to the COMMIT register at offset `a`, or of another start bit. -/
def State.goWrite (s : State) (o : BitVec 10) (a : Nat) : State :=
  ran s
    (if a = aRU_COMMIT then execRuCommitGo o s
     else if a = aDSP_COMMIT then execDispatcherCommitGo o s
     else if a = aMOV_COMMIT then execMoverCommitGo o s
     else if a = aDT_SWITCH then execDtSwitch o s
     else if a = aSW_COMMIT then execSwitchCommitGo o s
     else if a = aQM_COMMIT then execQueueCommitGo o s
     else if inPd a then execEditCommitGo o (BitVec.ofNat 9 (pdIdx a)) s
     else execEngineBist o (BitVec.ofNat 7 ((a - 0x200080) / 0x2000)) s)
/-- A write of `src` to a WO register of the L-die. -/
def State.cmdWrite (s : State) (src a : Nat) (d : W) : State :=
  let o := BitVec.ofNat 10 src
  let code := fld d 3 0
  if a = aGCTL_UPDATE then s.updateWrite src d
  else if a = aGCTL_SURVEY then (if bitAt d 0 || s.rb aGCTL_SURVEY_STAT 0 then s.surveyStart src else s)
  else if a = aRST_CMD then s.rstWrite o d
  else if a = aWDG_SSVC 0 ∨ a = aWDG_SSVC 1 then s.deny src a 0x0A
  else if a = aMER_CMD then s.coded src a code 2 (fun s => ran s (if code = 1 then execMerStep o s else execMerSeed o s))
  else if a = aRU_CMD then s.coded src a code 5 (fun s => s.ruCmd src code)
  else if a = aTR_CMD then s.coded src a code 5 (fun s => s.trCmd src code)
  else if inPd a ∧ a % 0x800 = 4 then s.pdWrite o (pdIdx a) d
  else if bitAt d 0 then s.goWrite o a
  else s

/-! ### RW registers -/

/-- The RW bits of the register at offset `a`. DEDUCED (log 162). -/
def rwMask (a : Nat) : W := match regRow a with | some r => BitVec.ofNat 32 r.rw | none => 0
/-- The RWP bits of the register at offset `a`; the key buffer is written the same way. -/
def rwpMask (a : Nat) : W :=
  match regRow a with
  | some r => BitVec.ofNat 32 r.rwp ||| (if 0x90100 ≤ a ∧ a < 0x90120 then BitVec.ofNat 32 r.wo else 0)
  | none => 0
/-- The value of the register at offset `a` after a write of its RW bits. -/
def State.rwSet (s : State) (a : Nat) (d : W) : State := s.setReg a (mergeBits (s.reg a) (rwMask a) d)
/-- The pages that `FLT_DREG` would name with `FLT_DREG_CNT` at offset `a` holding `n`. -/
def State.dregSum (s : State) (a n : Nat) : Nat :=
  ((List.range 8).map (fun i => if aFLT_DREG_CNT i = a then n else s.rf (aFLT_DREG_CNT i) 10 0)).foldl (· + ·) 0
/-- Whether the decode-table location at offset `a` may not be written (R116). DEDUCED (log 165). -/
def State.dtShut (s : State) (a : Nat) : Bool :=
  let b := if a = aDT_ID0 ∨ a = aDT_CRC0 then 0 else if a < 0x610000 then 1 else (a - 0x610000) / 0x10000
  s.dtPending || b == s.dtActive
/-- Whether a value of an RW register is refused with CAUSE 0x0A (R44 and the register's own chapter). DEDUCED (log 159, 162). -/
def State.rwBad (s : State) (a : Nat) (d : W) : Bool :=
  if 0x20080 ≤ a ∧ a < 0x200C0 then
    (if a % 8 = 0 then decide (fld d 31 30 = 3) else decide (1024 < s.dregSum a (fld d 10 0)))
  else if a = aMER_CFG2 then !within 1 1000 (fld d 9 0)
  else if a = aMER_PPS then !within 1 500 (fld d 8 0)
  else if a = aTR_ARG0 then decide (fld d 31 30 = 3)
  else if a = aTR_ARG1 then !within 1 16384 (fld d 14 0)
  else if 0xC1000 ≤ a ∧ a < 0xC1260 then s.rb aSF_CMD_STAT 0
  else if 0x600000 ≤ a ∧ a < 0x640000 then s.dtShut a
  else false
/-- A write of `src` to an RW register. DEDUCED (log 165). -/
def State.rwWrite (s : State) (src a : Nat) (d : W) : State :=
  let o := BitVec.ofNat 10 src
  if s.rwBad a d then s.deny src a 0x0A
  else if a = aMER_FRAC then ran s (execMerFracWrite o d s)
  else if a = aMER_PPS then { s.rwSet a d with ppsOut := s.ppsOut && bitAt d 31 }
  else if a = aMER_CFG ∨ (0x51000 ≤ a ∧ a < 0x52000 ∧ a % 16 = 0) then (s.rwSet a d).refreshMer
  else if a = aSP_MAC_LO ∨ a = aSP_MAC_HI then ran s (execSpMacWrite o (decide (a = aSP_MAC_HI)) d s)
  else if a = aSP_CFG then ran s (execSpCfgWrite o d false s)
  else if inPd a ∧ a % 0x800 = 0x30 then ran s (execPdOptWrite o (BitVec.ofNat 9 (pdIdx a)) d s)
  else if a = aTR_PSEL then s.setRegFor src a (d &&& 0x3FF)
  else if 0x610000 ≤ a ∧ a < 0x630000 then
    { s.rwSet a d with dtBad := FMap.set (fun _ => false) s.dtBad ((a - 0x610000) / 256) false }
  else s.rwSet a d

/-! ### Pending values (R44, R55, R56, R468) -/

/-- Whether descriptor `i` belongs to a block whose commit is pending: to a partition by its applied or pending range, or to the device. DEDUCED (log 166). -/
def State.descShut (s : State) (i : Nat) : Bool :=
  let held (w : W) : Bool := decide (fld w 15 0 ≤ i ∧ i < fld w 15 0 + fld w 31 16)
  s.created.any (fun p => s.editPending p && (held (s.reg (aPD_MOV_RANGE p)) || held (s.pnd (aPD_MOV_RANGE p))))
    || (s.rb aMOV_COMMIT 1 && (held (s.reg aMOV_DEV_RANGE) || held (s.pnd aMOV_DEV_RANGE)))
/-- Whether the commit of the block of an RWN register is pending (R56). -/
def State.commitShut (s : State) (a : Nat) : Bool :=
  if inPd a then (if 0x200 ≤ a % 0x800 ∧ a % 0x800 < 0x300 then s.rb aDSP_COMMIT 1 else s.editPending (pdIdx a))
  else if 0xD0000 ≤ a ∧ a < 0xE0000 then s.rb aRU_COMMIT 1
  else if 0x500000 ≤ a ∧ a < 0x510000 then s.rb aMOV_COMMIT 1
  else if 0x510000 ≤ a ∧ a < 0x600000 then s.descShut ((a - 0x510000) / 16)
  else if 0x800000 ≤ a ∧ a < 0xC00000 then s.rb aSW_COMMIT 1
  else if 0xE00000 ≤ a ∧ a < 0x1000000 then s.rb aQM_COMMIT 1
  else false
/-- Whether a pending value of a field-channel register is refused. -/
def State.fioBad (s : State) (a : Nat) (d : W) : Bool :=
  if a = aFIO_HB then !within 1 1000 (fld d 9 0)
  else if a = aTP_PERIOD then !within 10 1000 (fld d 9 0) || s.sfApplied
  else if a < 0xB0100 then !within 2 10 (fld d 3 0) || s.tpUsed ((a - 0xB0068) / 4)
  else
    let n := (a - 0xB0100) / 16
    s.rb (aFIO_OWN n) 30
      || (if a % 16 = 0 then !within 1 200 (fld d 7 0) || decide (fld d 29 28 = 3 ∨ fld d 27 26 = 3)
          else !bitAt d 31 && s.pairPart (fld d 9 0))
/-- Whether a pending value is refused with CAUSE 0x0A when it is written (R44 and the register's own chapter). DEDUCED (log 162). -/
def State.pendBad (s : State) (a : Nat) (d : W) : Bool :=
  if 0x40100 ≤ a ∧ a < 0x41000 then true
  else if 0x41000 ≤ a ∧ a < 0x42000 then !within 1 1000 (fld d 9 0)
  else if a = aRTC_MEASCFG then !within 100 10000 (fld d 13 0)
  else if a = aRTC_TRIM then decide (200000 < d.toInt.natAbs)
  else if 0xB0000 ≤ a ∧ a < 0xC0000 then s.fioBad a d
  else if 0xD0200 ≤ a ∧ a < 0xD0300 ∧ a % 16 = 0 then decide (fld d 26 24 = 7)
  else if 0xD8000 ≤ a ∧ a < 0xE0000 then
    (if a % 8 = 0 then decide (8 ≤ fld d 27 24) || (bitAt d 30 && !within 0x10000 0x1FFFF (fld d 20 0)) else !within 1 2097152 (fld d 21 0))
  else if a = aMOV_STI then decide (16 < fld d 4 0)
  else if 0x500100 ≤ a ∧ a < 0x500300 ∧ a % 32 = 8 then !within 100 1000000 (fld d 19 0)
  else if 0x810000 ≤ a ∧ a < 0x818000 ∧ a % 256 = 0 then !within 1518 9216 (fld d 13 0)
  else if 0x810000 ≤ a ∧ a < 0x818000 ∧ a % 256 = 0x14 then decide (64 < fld d 6 0)
  else if 0x900000 ≤ a ∧ a < 0xA00000 ∧ a % 16 = 0 then !within 1 1024 (fld d 10 0)
  else false
/-- Whether an offset holds RWS values, which a strobe applies. -/
def isStrobed (a : Nat) : Bool := decide (a < 0xD0000 ∨ 0x1000000 ≤ a)
/-- A write of `src` to an RWS or RWN register. -/
def State.pendWrite (s : State) (src a : Nat) (d : W) : State :=
  let o := BitVec.ofNat 10 src
  if 0x410000 ≤ a ∧ a < 0x420000 then ran s (execTrEntryWrite o (BitVec.ofNat 12 ((a - 0x410000) / 4)) d s)
  else if inPd a ∧ a % 0x800 = 0x394 then ran s (execPdMovRangeWrite o (BitVec.ofNat 9 (pdIdx a)) d s)
  else if a = aMOV_DEV_RANGE then ran s (execMovDevRangeWrite o d s)
  else if s.commitShut a then s.deny src a 4
  else if s.pendBad a d then s.deny src a 0x0A
  else
    let s1 := s.setPnd a (mergeBits (s.pnd a) (pendMask a) d)
    if isStrobed a then s1 else { s1 with touched := FMap.set (fun _ => false) s1.touched a true }

/-! ### Posted writes (R48 to R51) -/

/-- The highest assigned code of a command register of a far block. -/
def farCodes (a : Nat) : Option Nat :=
  if a = aRTC_CMD then some 6
  else if a = aNV_CMD ∨ a = aEVR_CMD then some 3
  else if a = aAU_CMD ∨ a = aSF_CMD then some 5
  else if a = aFIO_CMD then some 2
  else if 0x1000000 ≤ a ∧ a % 0x10000 = 0x40 then some 4
  else none
/-- Whether a value of an RWP register lies outside its range (R44). -/
def rwpBad (a : Nat) (d : W) : Bool :=
  if a = aRTC_ZONE then decide (64800 < d.toInt.natAbs)
  else if a = aNV_CADCFG then decide (fld d 10 0 ≠ 0) && !within 10 1440 (fld d 10 0)
  else if a = aAU_ARG then within 8 14 (fld d 19 16)
  else if 0xC00000 ≤ a ∧ a < 0xE00000 then decide (4 ≤ fld d 15 12)
  else false
/-- A write of `src` to an RWP register: the fabric checks code and range, then reachability and BUSY, and posts it. DEDUCED (log 161). -/
def State.postWrite (s : State) (src a : Nat) (d : W) : State :=
  match farBstat a with
  | none => s
  | some b =>
    if isVf src then s
    else if farCodes a ≠ none ∧ fld d 3 0 = 0 then s
    else if ((farCodes a).map (fun n => decide (n < fld d 3 0))).getD false || rwpBad a d then s.deny src a 0x0A
    else if s.rb b 1 then s.deny src a 3
    else if s.rb b 0 then s.deny src a 2
    else { s.setRf b 0 0 1 with posted := FMap.set (fun _ => none) s.posted b (some (src, a, d)) }

/-- Whether the far block refuses a posted value for a reason in its own status (CAUSE 0x0A). DEDUCED (log 164). -/
def State.farShut (s : State) (a : Nat) : Bool :=
  if a = aNV_PAGE ∨ (0x70100 ≤ a ∧ a < 0x70200) then s.rb aNV_STAT 0 || s.nvBlock
  else if 0x70000 ≤ a ∧ a < 0x72000 then s.nvBlock
  else if 0x72000 ≤ a ∧ a < 0x74000 then s.pfHold || s.nvBlock
  else if 0x1000000 ≤ a ∧ 0x2000 ≤ a % 0x10000 ∧ a % 0x10000 < 0x3000 then
    (let m := (a % 0x10000 - 0x2000) / 128
     let n := (a - 0x1000000) / 0x10000
     s.mbPend n m || !s.mbDev n m)
  else false
/-- The command of a posted write; `sub` is the tick of the RTC at which it applies, `found` what a page that NV reads shows. -/
def State.farCommand (s : State) (src a : Nat) (d : W) (sub : BitVec 15) (found : BitVec 2) : State :=
  let o := BitVec.ofNat 10 src
  let code := fld d 3 0
  let n := BitVec.ofNat 4 ((a - 0x1000000) / 0x10000)
  let arg := BitVec.ofNat 9 (fld d 24 16)
  ran s
    (if a = aRTC_CMD then
      (match code with
       | 1 => execRtcSet o s
       | 2 => execCorr o sub s
       | 3 => execDstfwd o s
       | 4 => execDstback o s
       | 5 => execMeasCmd o s
       | _ => execMeasstop o s)
     else if a = aNV_CMD then (match code with | 1 => execNvRead o found s | 2 => execNvWrite o s | _ => execCadsave o s)
     else if a = aEVR_CMD then (match code with | 1 => execEvrFreeze o s | 2 => execEvrUnfreeze o s | _ => execEvrClear o s)
     else if a = aAU_CMD then
      (match code with
       | 1 => .next (s.auCmd src (State.cmdChallenge src))
       | 2 => .next (s.auCmd src (State.cmdResponse src))
       | 3 => .next (s.auCmd src (State.cmdRelinquish src))
       | 4 => execKeyset o s
       | _ => execKeyclr o s)
     else if a = aFIO_CMD then (if code = 1 then execFioRecover o s else execDclr o s)
     else if a = aSF_CMD then
      (match code with
       | 1 => execSfStart o s
       | 2 => execSfStopCmd o s
       | 3 => execSfApply o s
       | 4 => execSfReset o s
       | _ => execSfOclr o s)
     else
      (match code with
       | 1 => execCanRecover o n s
       | 2 => execCanAck o n arg s
       | 3 => execReqCmd o n arg s
       | _ => execCancelCmd o n arg s))
/-- A posted write of `src` takes effect in its far block. DEDUCED (log 163). -/
def State.farApply (s : State) (src a : Nat) (d : W) (sub : BitVec 15) (found : BitVec 2) : State :=
  let o := BitVec.ofNat 10 src
  if farCodes a ≠ none then s.farCommand src a d sub found
  else if s.farShut a then s.deny src a 0x0A
  else if 0x71000 ≤ a ∧ a < 0x71800 then ran s (execCadAllocWrite o (BitVec.ofNat 9 ((a - 0x71000) / 4)) d s)
  else if a = aEVR_RD_IDX then ran s (execEvrRdIdxWrite o d s)
  else if a = aFIO_HOSTCMD then ran s (execFioHostcmdWrite o d s)
  else if 0xC00000 ≤ a ∧ a < 0xE00000 then ran s (execLnModeWrite o (BitVec.ofNat 7 ((a - 0xC00000) / 0x4000)) d s)
  else if a = aAU_ARG then s.setRegFor src a (mergeBits (s.regFor src a) (rwpMask a) d)
  else s.setReg a (mergeBits (s.reg a) (rwpMask a) d)
/-- The far instance whose `BSTAT` lies at `b` applies its posted write, if that has not taken effect yet, and BUSY clears; not while it is
unreachable. -/
def State.settle (s : State) (b : Nat) (sub : BitVec 15) (found : BitVec 2) : State :=
  if s.rb b 1 then s
  else match FMap.get (fun _ => none) s.posted b with
    | some (src, a, d) =>
      (({ s with posted := FMap.set (fun _ => none) s.posted b none }.setRf b 0 0 0).farApply src a d sub found).setRf b 0 0 0
    | none => s.setRf b 0 0 0
/-- The `BSTAT` of far instance `inst`: 0 RTC, 1 NV, 2 event recorder, 3 authorisation, 4 field channels, 5 safety unit, 16 to 31 CAN FD
controllers, 128 to 255 lanes. -/
def instBstat (inst : Nat) : Nat :=
  if inst < 6 then fdieBstat.getD inst 0
  else if inst < 16 then aSF_BSTAT
  else if inst < 128 then aCAN_BSTAT ((inst - 16) % 16)
  else aLN_BSTAT (inst - 128)

/-! ### One register write -/

/-- A 32-bit write of `src` to the register at offset `a` of PF0 BAR0 by its type (table "Register type codes"): reserved locations and
units that the Legend reports absent take no write and record nothing (R4, R42), nor do registers of type RO (R43). -/
def State.regWrite (s : State) (src a : Nat) (d : W) : State :=
  if addrPresent s.fuse a = false then s
  else match regRow a with
    | none => s
    | some r =>
      if inPd a ∧ isVf src = false ∧ s.mode (pdIdx a) = 0 ∧ a % 0x800 ≠ 4 ∧ r.ws = 0 then s.deny src a 0x0A
      else if r.ws ≠ 0 then s.seqWrite src a d
      else if rwpMask a ≠ 0 then s.postWrite src a d
      else if r.wo ≠ 0 then s.cmdWrite src a d
      else if r.rw ≠ 0 then s.rwWrite src a d
      else if r.pend ≠ 0 then s.pendWrite src a d
      else if a = aFLT_DUMP then s.deny src a 0x0A
      else s

end Sys2Proof.Machine
end

