-- ==== Sys2Proof/Machine/HostReads.lean ====
section
/-!
DEFINITION. Reads of the host and the service port (spec/02 R35, R38, R40 to R43, R50, R57 to R60): what a register shows, the high-word
latches, aliases, holding copies and pending values, the store windows and the image window.
-/
namespace Sys2Proof.Machine

/-! ### What a register shows where it is a function of the state -/

/-- `WDG_SSTAT` or `WDG_ESTAT`: OPEN, the time to the end of the period, and what the register keeps. -/
def State.wdgShown (s : State) (ch : Nat) : W :=
  let kept := s.reg (wdgStat ch) &&& 0x67FE0000
  if s.wdgRuns ch then kept ||| BitVec.ofNat 32 ((s.wdgOpen ch).toNat * 2 ^ 31 + min 0x1FFFF ((s.wdgLen ch - s.wdgAge ch) / 8000))
  else kept
/-- The number of unit entries from `a`, `stride` apart and `n` in all, that partition `p` owns. -/
def State.ownedBy (s : State) (a stride n p : Nat) : Nat :=
  ((List.range n).filter (fun i => s.ownerAt (a + stride * i) == some p)).length
/-- The queues of `p`: those listed under another owner than their reset value gives, and the others. -/
def State.queuesOwned (s : State) (p : Nat) : Nat := s.ownedBy (aQM_Q0 0) 16 s.fuse.queues p
/-- `PD_RES`. -/
def State.resShown (s : State) (p : Nat) : W :=
  let objs := ((List.range s.fuse.cans).map (fun n => s.ownedBy (aOBJ_OWN n 0) 8 512 p)).foldl (· + ·) 0
  BitVec.ofNat 32 (s.queuesOwned p * 65536 + min 0x3FF objs)
/-- `PD_FIO`. -/
def State.fioShown (s : State) (p : Nat) : W :=
  if s.fuse.field then maskOf ((List.range 32).filter (fun n => s.ownerAt (aFIO_OWN n) == some p)) else 0
/-- `PD_TSTAT` with its P: of a Held or Pre-empted task, the entry point otherwise. -/
def State.tstatShown (s : State) (p t : Nat) : W :=
  let st := s.tstate p t
  let pc := if st = tHeld ∨ st = tPreempted then (s.task p t).ctx.p.toNat else s.rf (aHDR_ENTRY p t) 19 0
  BitVec.ofNat 32 (pc * 256) ||| (s.reg (aPD_TSTAT p t) &&& 0xFF)
/-- CLK_FAB clocks left of the grants in `m`, of those that still count. -/
def State.grantsLeft (s : State) (m : FMap Nat) : List Nat :=
  ((List.range 7).map (fun w => let g := FMap.get (fun _ => 0) m w; if g = 0 then 0 else g - 1 + s.leaseClks - s.fab)).filter (fun r => decide (0 < r))
/-- The clocks until fewer than a majority of the grants in `l` count. -/
def State.majorityLeft (s : State) (l : List Nat) : Nat :=
  (l.filter (fun r => decide (s.majority ≤ (l.filter (fun q => decide (r ≤ q))).length))).foldl max 0
/-- `RU_LEASE`: the own lease while it is valid, the partner's as observed otherwise. -/
def State.leaseShown (s : State) : W :=
  let l := s.grantsLeft (if s.leaseValid then s.ru.ownG else s.ru.peerG)
  BitVec.ofNat 32 (s.leaseValid.toNat * 2 ^ 31 + l.length * 2 ^ 24 + min 0x7FF ((s.majorityLeft l + 799) / 800))
/-- `AU_STAT` as requester `src` reads it. -/
def State.auShown (s : State) (src : Nat) : W :=
  (s.regFor src aAU_STAT &&& 0xFF000000) ||| BitVec.ofNat 32
    (s.auFails % 16 * 2 ^ 20 + s.auLevel % 16 * 2 ^ 16 + s.auLock.isSome.toNat * 2 ^ 15 + (s.hasGrant src).toNat * 2 ^ 14
      + s.auExch.isSome.toNat * 2 ^ 13 + (match s.auExch with | some x => auIdx x.req | none => 0) * 2 ^ 12
      + (if s.hasGrant src then FMap.get (fun _ => 0) s.auSlot (auIdx src) % 16 else 0) * 2 ^ 8)
/-- `AU_GRANT` as requester `src` reads it. -/
def State.grantShown (s : State) (src : Nat) : W :=
  if s.hasGrant src then
    BitVec.ofNat 32 (fld (s.regFor src aAU_GRANT) 15 0 + (FMap.get (fun _ => 0) s.auEnd (auIdx src) - s.fab + 799999999) / 800000000 * 65536)
  else 0
/-- `AU_LOCKREM`. -/
def State.lockShown (s : State) : W :=
  match s.auLock with | some (t, _) => BitVec.ofNat 32 ((t - s.fab + 799999) / 800000) | none => 0

/-- A location of a partition descriptor as it shows, `o` its offset. -/
def State.pdShown (s : State) (p o : Nat) : W :=
  if o = 0x40 then lo32 (s.ptime p)
  else if o = 0x44 then hi32 (s.ptime p)
  else if 0x100 ≤ o ∧ o < 0x190 ∧ o % 16 = 0 then s.tstatShown p ((o - 0x100) / 16)
  else if o = 0x398 then s.resShown p
  else if o = 0x39C then s.fioShown p
  else s.reg (0x300000 + 0x800 * p + o)
/-- The locations that requesters hold separately: `TR_PSEL`, the argument, rights and nonce of an exchange, the read window of events. -/
def perRequester (a : Nat) : Bool :=
  decide (a = aTR_PSEL ∨ a = aAU_ARG ∨ (0x90030 ≤ a ∧ a < 0x90040) ∨ a = aEVR_RD_IDX ∨ (0x80044 ≤ a ∧ a < 0x80054) ∨ (0x80100 ≤ a ∧ a < 0x801F8))
/-- The value that the register at offset `a` of PF0 BAR0 shows to `src`, its WO bits apart. -/
def State.raw (s : State) (src a : Nat) : W :=
  if inPd a then s.pdShown (pdIdx a) (a % 0x800)
  else if perRequester a then s.regFor src a
  else if a = aMER_TIME_LO then lo32 s.now
  else if a = aMER_TIME_HI then hi32 s.now
  else if a = aRTC_TIME0 then time0 s.rtcSec s.rtcSub
  else if a = aRTC_TIME1 then time1 s.rtcSec
  else if a = aNV_OPHF then BitVec.ofNat 32 s.ophf
  else if a = aAU_STAT then s.auShown src
  else if a = aAU_GRANT then s.grantShown src
  else if a = aAU_LOCKREM then s.lockShown
  else if a = aRU_LEASE then s.leaseShown
  else if a = aRU_ROLE then putFld (s.reg a) 9 8 s.pairStat
  else if a = aWDG_SSTAT 0 ∨ a = aWDG_SSTAT 1 then s.wdgShown (0xF0 + (a - 0x40108) / 64)
  else if 0x41000 ≤ a ∧ a < 0x42000 ∧ a % 16 = 4 then s.wdgShown ((a - 0x41000) / 16)
  else if 0xD0200 ≤ a ∧ a < 0xD0300 ∧ a % 16 = 8 then
    (let k := (a - 0xD0200) / 16
     putFld (putFld (s.reg a) 26 16 (s.witRem k)) 29 29 (decide (s.fab < FMap.get (fun _ => 0) s.witQuiet k)).toNat)
  else if 0x410000 ≤ a ∧ a < 0x420000 then
    s.entA (fld (s.regFor src aTR_PSEL) 9 0 * entriesPerPart + (a - 0x410000) / 4)
  else if 0x900000 ≤ a ∧ a < 0xA00000 ∧ a % 16 = 4 then
    (s.reg a &&& 0xFFFF0000) ||| BitVec.ofNat 32 (s.slotStatus ((a - 0x900000) / 16) % 65536)
  else if 0x1000000 ≤ a ∧ a % 0x10000 = 0x48 then
    (s.reg a &&& 0x003F0000) ||| BitVec.ofNat 32 (if (s.can ((a - 0x1000000) / 0x10000)).seen then min 0xFFFF (s.canCt ((a - 0x1000000) / 0x10000)) else 0)
  else s.reg a
/-- The value that a read of the register at offset `a` returns: WO bits read zero (R43). -/
def State.shown (s : State) (src a : Nat) : W :=
  match regRow a with
  | some r => if addrPresent s.fuse a then s.raw src a &&& ~~~(BitVec.ofNat 32 r.wo) else 0
  | none => 0

/-! ### Reads of registers -/

/-- What a read gives: the state after it and the word, none where the read is refused. -/
abbrev Got := State × Option W
/-- The offset of the high word that a read of the low word at offset `a` latches (R41, R286). -/
def highOf (a : Nat) : Option Nat :=
  if a = aMER_TIME_LO ∨ a = aFLT_STAT_LO ∨ a = aRTC_TIME0 ∨ (inPd a ∧ a % 0x800 = 0x40) ∨ (0xC00000 ≤ a ∧ a < 0xE00000 ∧ a % 0x4000 = 0x20)
  then some (a + 4) else none
/-- The high word that `src` holds latched for offset `a`. DEDUCED (log 169). -/
def State.latched (s : State) (src a : Nat) : Option W :=
  let l := FMap.get (fun _ => (0, 0)) s.latch src
  if l.1 = a ∧ 0 < a then some l.2 else none
/-- A read of `src` that is served: the latch of R41 is taken or used up, and `CAN_STAT.LASTERR` clears. -/
def State.served (s : State) (src a : Nat) : Got :=
  match highOf a with
  | some h => ({ s with latch := FMap.set (fun _ => (0, 0)) s.latch src (h, s.shown src h) }, some (s.shown src a))
  | none =>
    match s.latched src a with
    | some w => ({ s with latch := FMap.set (fun _ => (0, 0)) s.latch src (0, 0) }, some w)
    | none => ((if 0x1000000 ≤ a ∧ a % 0x10000 = 0x30 then s.setRf a 3 0 0 else s), some (s.shown src a))
/-- Whether the register fabric of the L-die serves a read of the far register at offset `a`: `BSTAT`, the copies that the field channels
and the safety unit keep there, and the staging area. -/
def servedHere (a : Nat) : Bool :=
  decide (farBstat a = some a ∨ (0xB0010 ≤ a ∧ a < 0xB0050)
    ∨ (0xC0000 ≤ a ∧ a < 0xD0000 ∧ ¬ (a = aSF_CMD ∨ a = aSF_ARG ∨ (0xC0080 ≤ a ∧ a < 0xC0090))))
/-- Whether offset `a` lies in the read window of the event recorder. -/
def inEvWindow (a : Nat) : Bool := decide ((0x80040 ≤ a ∧ a < 0x80054) ∨ (0x80100 ≤ a ∧ a < 0x801F8))
/-- A read of `src` from a far instance, its posted write applied first (R50): refused while the instance is unreachable (R51), for the
read window by others than the holder (R420), and for NV during recall. DEDUCED (log 168). -/
def State.farRead (s0 : State) (src a b : Nat) (sub : BitVec 15) : Got :=
  let s := s0.settle b sub 0
  if s.rb b 1 then (s.deny src a 3, none)
  else if inEvWindow a then
    (if s.holds src then { s with evAccess := s.fab }.served src a else (s.deny src a 0x0A, none))
  else if s.nvBlock ∧ ((0x70100 ≤ a ∧ a < 0x70200) ∨ (0x72000 ≤ a ∧ a < 0x74000)) then (s.deny src a 0x0A, none)
  else s.served src a
/-- A 32-bit read of `src` of the register at offset `a` of PF0 BAR0; the descriptor of an Absent partition reads its reset values
(R472). DEDUCED (log 168). -/
def State.readReg (s : State) (src a : Nat) (sub : BitVec 15) : Got :=
  if (regRow a).isNone ∨ addrPresent s.fuse a = false then (s, some 0)
  else if inPd a ∧ s.mode (pdIdx a) = 0 then (s, some (if a % 0x800 = 0x380 then regReset s.fuse a else 0))
  else match farBstat a with
    | some b => if servedHere a then s.served src a else s.farRead src a b sub
    | none => s.served src a
/-- The pending value that the view shows at offset `a` (R35, table "PF0 BAR0 regions"). -/
def State.pendShown (s : State) (src a : Nat) : W :=
  if addrPresent s.fuse a = false then 0
  else if 0x410000 ≤ a ∧ a < 0x420000 ∧ (regRow a).isSome then
    s.entP (fld (s.regFor src aTR_PSEL) 9 0 * entriesPerPart + (a - 0x410000) / 4)
  else s.pnd a &&& pendMask a
/-- The register whose bit a register alias names, and the bit (R59). -/
def aliasOf (x : Nat) : Nat × Nat := (x / 128 * 4, x % 128 / 4)
/-- A 32-bit read at offset `off` of PF0 BAR0 by its region. -/
def State.read0 (s : State) (src off : Nat) (sub : BitVec 15) : Got :=
  if off < 0x8000000 then s.readReg src off sub
  else if off < 0xA000000 then
    (let al := aliasOf (off - 0x8000000)
     let g := s.readReg src al.1 sub
     (g.1, g.2.map (fun w => if bitAt w al.2 then 1 else 0)))
  else if off < 0xC000000 then (s, some (FMap.get (fun _ => 0) s.survey (off - 0xA000000)))
  else if off < 0xE000000 then (s, some (s.pendShown src (off - 0xC000000)))
  else (s, some 0)

/-! ### Stores -/

/-- The word at BAR2 offset `a` as a host reads it; an access that meets an uncorrectable word reports it and is refused (R187, R42), recorded
by `k`. DEDUCED (log 172). -/
def State.fetchWord (s : State) (a : Nat) (k : State → State) : Got :=
  if s.isBad a then (k (s.storeFault a), none) else (s, some (s.rdMem a))
/-- Whether page `n` of store `k` holds module slots. -/
def State.slotPageOf (s : State) (k n : Nat) : Bool := k == 2 && s.slotPage.any (fun e => decide (e.2 = n + 1))
/-- A read of the word at BAR2 offset `a` by `src` (R36, R164, table "Page states"). -/
def State.read2 (s : State) (src a : Nat) : Got :=
  if 0xD000000 ≤ a then (s, some 0)
  else
    let k := (pageOf a).1
    let n := (pageOf a).2
    let st := s.pgState k n
    if st = pgFree ∨ st = pgZeroing ∨ st = pgRetired then
      (s.refuse src (if src = 0x3FE then 3 else 1) a 0x0A, none)
    else if s.slotPageOf k n ∧ st = pgDevice then (s.useFresh, some (Config.slotWord s.fresh a))
    else
      let r := s.fetchWord a (fun s => s.refuse src (if src = 0x3FE then 3 else 1) a 0x0A)
      (r.1, r.2.map (fun w => if k = 0 then w &&& 0x3FFF else w))

/-! ### The image window (R38) -/

/-- The record of a refused access of `src` at offset `off` of a VF's BAR0: of the VF itself, or of the service port (R427). -/
def State.vfRefuse (s : State) (src off c : Nat) : State := s.refuse src (if src = 0x3FE then 3 else 2) off c
/-- The BAR2 offset of image word `w` of partition `p`; none, with the access refused and an uncorrectable entry reported, where it lies
beyond the partition's allocation. -/
def State.imageLoc (s : State) (src p off w : Nat) : State × Option Nat :=
  match s.look p 2 w with
  | .at a => (s, some a)
  | .unmapped => (s.vfRefuse src off 9, none)
  | .corrupt key => ((s.entryFault key).vfRefuse src off 9, none)
/-- A read of image word `w` by `src`. -/
def State.readImageWord (s : State) (src p off w : Nat) : Got :=
  match s.imageLoc src p off w with
  | (s1, some a) => s1.fetchWord a (fun s => s.vfRefuse src off 0x0A)
  | (s1, none) => (s1, none)
/-- A 32-bit read at offset `off` of VF `vf` BAR0 by `src`: the VF, or the service port. -/
def State.readVf (s : State) (src vf off : Nat) : Got :=
  let p := vf - 1
  let al := aliasOf (off - 0x1000000)
  if vf = 0 ∨ s.fuse.partitions ≤ p then (s, some 0)
  else if (0x800 ≤ off ∧ off < 0x80000) ∨ (0x100000 ≤ off ∧ off < 0x1000000) ∨ 0x2000000 ≤ off then (s, some 0)
  else if s.mode p = 0 then (s.vfRefuse src off 9, none)
  else if off < 0x800 then
    (if (regRow (0x300000 + 0x800 * p + off)).isNone then (s, some 0) else s.served src (0x300000 + 0x800 * p + off))
  else if off < 0x100000 then s.readImageWord src p off ((off - 0x80000) / 4)
  else
    let g := s.readImageWord src p off (al.1 / 4)
    (g.1, g.2.map (fun w => if bitAt w al.2 then 1 else 0))

/-! ### A read of several words -/

/-- Read the words at the offsets of `l` as one access: where one of them is refused the access is, with one record (R42). -/
def readWhole (rd : State → Nat → Got) : State → List Nat → State × Option (List W)
  | s, [] => (s, some [])
  | s, o :: l =>
    match rd s o with
    | (s1, none) => (s1, none)
    | (s1, some w) => let r := readWhole rd s1 l; (r.1, r.2.map (fun ws => w :: ws))
/-- Read the words at the offsets of `l`, each an access of its own, in order; a refused word reads zero (R40, R42). -/
def readAll (rd : State → Nat → Got) : State → List Nat → State × List W
  | s, [] => (s, [])
  | s, o :: l =>
    let g := rd s o
    let r := readAll rd g.1 l
    (r.1, g.2.getD 0 :: r.2)
/-- The offsets of the words that hold bytes `off` to `off + n − 1`. -/
def wordsIn (off n : Nat) : List Nat := (List.range ((off % 4 + n + 3) / 4)).map (fun i => off / 4 * 4 + 4 * i)
/-- Read `n` bytes from offset `off`, as one access of a window (`whole`) or as accesses of words; a refused one gives zeros. -/
def readBytes (rd : State → Nat → Got) (whole : Bool) (s : State) (off n : Nat) : State × List Byte :=
  let cut (ws : List W) : List Byte := ((ws.flatMap bytesOf).drop (off % 4)).take n
  if whole then (let r := readWhole rd s (wordsIn off n); (r.1, match r.2 with | some ws => cut ws | none => zeros n))
  else let r := readAll rd s (wordsIn off n); (r.1, cut r.2)
/-- Whether register space accepts the size and alignment (R40). -/
def sizeOk (off n : Nat) : Bool := decide ((n = 4 ∧ off % 4 = 0) ∨ (n = 8 ∧ off % 8 = 0))
/-- Whether offset `off` of a VF's BAR0 lies in its image window. -/
def inImage (off : Nat) : Bool := decide (0x80000 ≤ off ∧ off < 0x100000)
/-- A host read of `n` bytes at offset `off` by `src`, of BAR2 where `bar2` holds and of its BAR0 otherwise; a VF that is
not enabled is not served (R32). -/
def State.hostRead (s : State) (src : Nat) (bar2 : Bool) (off n : Nat) (sub : BitVec 15) : State :=
  let windowed := if isVf src then inImage off else bar2
  if s.fnOn src = false || (bar2 && isVf src) || (windowed && decide (4096 < off % 4096 + n)) then s
  else if !windowed && !sizeOk off n then
    (s.refuse src (if isVf src then 2 else accSpace src) off 1).emit (.readData src (zeros n))
  else
    let rd : State → Nat → Got := fun s o =>
      if isVf src then s.readVf src src o else if bar2 then s.read2 src o else s.read0 src o sub
    let r := readBytes rd windowed s off n
    r.1.emit (.readData src r.2)

end Sys2Proof.Machine
end

