-- ==== Sys2Proof/Machine/HostAccess.lean ====
section
/-!
DEFINITION. The commands of a host (spec/02 R36 to R62, R451): register writes and reads, bit aliases, store and image windows, posted
writes, status groups, Survey and configuration requests.
-/
namespace Sys2Proof.Machine

/-! ### Writes by region -/

/-- The state `t` that an access at `a` left, its refusal filed under the offset `off` that the requester used. DEDUCED (log 167). -/
def State.refile (s t : State) (src a off : Nat) : State :=
  if a ≠ off ∧ s.rb aGCTL_ACC_ERR 0 = false ∧ t.rb aGCTL_ACC_ERR 0 ∧ t.rf aGCTL_ACC_ERR 29 20 = src then
    t.setReg aGCTL_ACC_ERR_ADDR (BitVec.ofNat 32 (off / 4 * 4 + accSpace src))
  else t
/-- A write of bit `v` to the register alias `x` by `src` (R59 to R61). DEDUCED (log 167). -/
def State.aliasWrite (s : State) (src x : Nat) (v : Bool) : State :=
  let o := (aliasOf x).1
  let b := (aliasOf x).2
  let off := 0x8000000 + x
  match regRow o with
  | none => s
  | some r =>
    if 0x100000 ≤ o ∨ addrPresent s.fuse o = false then s
    else if (rwpMask o).getLsbD b || r.wo.testBit b || r.ws.testBit b then s.refuse src (accSpace src) off 7
    else if r.rw.testBit b then s.refile (s.regWrite src o (putBit (s.raw src o) b v)) src o off
    else if r.pend.testBit b then s.refile (s.regWrite src o (putBit (s.pnd o) b v)) src o off
    else s
/-- A 32-bit write at offset `off` of PF0 BAR0 by its region; holding copies and the pending-value view are read-only. -/
def State.write0 (s : State) (src off : Nat) (d : W) : State :=
  if off < 0x8000000 then s.regWrite src off d
  else if off < 0xA000000 then s.aliasWrite src (off - 0x8000000) (bitAt d 0)
  else s
/-- The cause for which a host may not write the page that holds BAR2 offset `a` (R37, R154, R164, table "Page states"). DEDUCED (log 171). -/
def State.pageShut (s : State) (a : Nat) : Option Nat :=
  let k := (pageOf a).1
  let n := (pageOf a).2
  let st := s.pgState k n
  if k = 0 ∧ s.trA.any (fun e => entryKind (e.1 % entriesPerPart) == 0 && entV e.2 && entPPN e.2 == n) then some 8
  else if st = pgOwned ∨ (st = pgStaged ∧ k = 0) then none
  else some 0x0A
/-- The word at BAR2 offset `o` takes those bytes of `data`, written from `off` upwards, that lie in it; a write of part of a word that
holds an uncorrectable error reports it and changes nothing. DEDUCED (log 171). -/
def State.putWord (s : State) (o off : Nat) (data : List Byte) : State :=
  let covered (i : Nat) : Bool := decide (off ≤ o + i ∧ o + i < off + data.length)
  let byte (i : Nat) : Byte := if covered i then data.getD (o + i - off) 0 else s.rdByte (o + i)
  let whole := covered 0 && covered 1 && covered 2 && covered 3
  let w := wordOfBytes (byte 0) (byte 1) (byte 2) (byte 3)
  if s.isBad o && !whole then s.storeFault o else s.wrMem o (if o < 0x8000000 then w &&& 0x3FFF else w)
/-- A write of the bytes of `data` from BAR2 offset `off` upwards; one that meets an uncorrectable word in part is refused too (R187), recorded by
`k`. DEDUCED (log 171). -/
def State.putWords (s : State) (off : Nat) (data : List Byte) (k : State → State) : State :=
  let part (o : Nat) : Bool := decide (o < off ∨ off + data.length < o + 4)
  match (wordsIn off data.length).find? (fun o => s.isBad o && part o) with
  | some o => k (s.storeFault o)
  | none => (wordsIn off data.length).foldl (fun s o => s.putWord o off data) s
/-- A write of bytes at BAR2 offset `off` by PF0, within one page; the reserved part above the stores takes none. -/
def State.write2 (s : State) (src off : Nat) (data : List Byte) : State :=
  if 0xD000000 ≤ off then s
  else match s.pageShut off with
    | some c => s.refuse src (if src = 0x3FE then 3 else 1) off c
    | none => s.putWords off data (fun s => s.refuse src (if src = 0x3FE then 3 else 1) off 0x0A)
/-- Whether a VF may write descriptor location `o` (R122). DEDUCED (log 167). -/
def vfMay (o : Nat) : Bool :=
  decide (o = 4 ∨ o = 0x10 ∨ o = 0x18 ∨ o = 0x20 ∨ (0x100 ≤ o ∧ o < 0x190 ∧ o % 16 = 12))
/-- A write of bytes to the image window at offset `off` of VF `vf` by `src`, within one page (R38). -/
def State.imageWrite (s : State) (src vf off : Nat) (data : List Byte) : State :=
  let p := vf - 1
  if s.mode p = 0 then s.vfRefuse src off 9
  else match s.imageLoc src p off ((off - 0x80000) / 4) with
    | (s1, none) => s1
    | (s1, some a) =>
      s1.putWords (a + off % 4) data (fun s => s.vfRefuse src off 0x0A)
/-- A write of bit `v` to image alias `x` of VF `vf` by `src` (R59, R61). -/
def State.imageAlias (s : State) (src vf x : Nat) (v : Bool) : State :=
  let p := vf - 1
  let off := 0x1000000 + x
  if s.mode p = 0 then s.vfRefuse src off 9
  else match s.imageLoc src p off ((aliasOf x).1 / 4) with
    | (s1, none) => s1
    | (s1, some a) => if s1.isBad a then (s1.storeFault a).vfRefuse src off 0x0A else s1.wrMem a (putBit (s1.rdMem a) (aliasOf x).2 v)
/-- A 32-bit write at offset `off` of VF `vf` BAR0 by `src`: the VF, or the service port (R38, R122). -/
def State.writeVf (s : State) (src vf off : Nat) (d : W) : State :=
  let p := vf - 1
  if vf = 0 ∨ s.fuse.partitions ≤ p then s
  else if (0x800 ≤ off ∧ off < 0x80000) ∨ (0x100000 ≤ off ∧ off < 0x1000000) ∨ 0x2000000 ≤ off then s
  else if inImage off then s.imageWrite src vf off (bytesOf d)
  else if 0x1000000 ≤ off then s.imageAlias src vf (off - 0x1000000) (bitAt d 0)
  else if s.mode p = 0 then s.vfRefuse src off 9
  else if vfMay off then s.refile (s.regWrite src (0x300000 + 0x800 * p + off) d) src (0x300000 + 0x800 * p + off) off
  else s
/-- A 32-bit write of `src` in register space: of PF0's BAR0, or of a VF's; a VF that is not enabled is
not served (R32). -/
def State.write1 (s : State) (src off : Nat) (d : W) : State :=
  if s.fnOn src = false then s else if isVf src then s.writeVf src src off d else s.write0 src off d

/-! ### Register accesses -/

/-- A write of `size` bytes by `src` at offset `off` of its BAR0, `full` byte enables: 4 aligned bytes, or 8 as two accesses in ascending
order, are checked and served; any other size, alignment or enable is refused with CAUSE 0x01 (R40). -/
def execRegisterWrite (src : BitVec 10) (off : BitVec 28) (size : BitVec 4) (full : Bool) (data : W64) (st : State) :
    Host.Outcome State Fault Refusal :=
  let o := off.toNat
  .next (if st.fnOn src.toNat = false then st
    else if !full || !sizeOk o size.toNat then st.refuse src.toNat (accSpace src.toNat) o 1
    else if size = 4 then st.write1 src.toNat o (lo32 data)
    else (st.write1 src.toNat o (lo32 data)).write1 src.toNat (o + 4) (hi32 data))
/-- A read of `len` bytes by `src` at offset `off` of its BAR0, or of PF0's BAR2 (R40, R42). -/
def execRegisterRead (src : BitVec 10) (bar2 : Bool) (off : BitVec 28) (len : BitVec 13) (st : State) : Host.Outcome State Fault Refusal :=
  .next (st.hostRead src.toNat bar2 off.toNat len.toNat 0)
/-- A read by `src` of the low word of a live 64-bit counter at offset `off` of its BAR0: the high word is latched (R41). -/
def execCounterLowRead (src : BitVec 10) (off : BitVec 28) (st : State) : Host.Outcome State Fault Refusal :=
  .next (st.hostRead src.toNat false off.toNat 4 0)
/-- A write of `data` to the RWP register at offset `off` by `src` (R48, R49, R51). -/
def execRwpWrite (src : BitVec 10) (off : BitVec 28) (data : W) (st : State) : Host.Outcome State Fault Refusal :=
  .next (if rwpMask off.toNat = 0 then st else st.write1 src.toNat off.toNat data)
/-- Far instance `inst` applies its posted write, `dt` clocks on; a command of the RTC at its tick `sub`, an NV READ finding `found`. DEDUCED (log 163). -/
def execRwpApplied (inst : BitVec 8) (sub : BitVec 15) (found : BitVec 2) (dt : Nat) (st : State) : Host.Outcome State Fault Refusal :=
  .next ((st.elapse dt).settle (instBstat inst.toNat) sub found)
/-- A read by `src` of the far register at offset `off` completes, at tick `sub` of the RTC, after a posted write has applied (R50). -/
def execFarReadComplete (src : BitVec 10) (off : BitVec 28) (sub : BitVec 15) (st : State) : Host.Outcome State Fault Refusal :=
  .next ((if farBstat off.toNat = some aRTC_BSTAT then st.atTick sub else st).hostRead src.toNat false off.toNat 4 sub)
/-- A write of `data` to the SEQ register of a status group at offset `off` by `src` (R46). -/
def execSeqWrite (src : BitVec 10) (off : BitVec 28) (data : W) (st : State) : Host.Outcome State Fault Refusal :=
  .next (st.write1 src.toNat off.toNat data)
/-- `GCTL_SURVEY.GO` by `src` (R57). -/
def execSurvey (src : BitVec 10) (st : State) : Host.Outcome State Fault Refusal :=
  .next (if isVf src.toNat then st else st.surveyStart src.toNat)
/-- The counters of the F-die are captured, `dt` clocks on (R58). -/
def execSurveyFdieCapture (dt : Nat) (st : State) : Host.Outcome State Fault Refusal := .next ((st.elapse dt).surveyEnd)
/-- A write of `bit` by `src` to the alias at offset `off` of its BAR0. -/
def execAliasWrite (src : BitVec 10) (off : BitVec 28) (bit : Bool) (st : State) : Host.Outcome State Fault Refusal :=
  .next (st.write1 src.toNat off.toNat (if bit then 1 else 0))

/-! ### Windows -/

/-- Whether a write of `n` bytes at offset `off` fits one PCIe request: up to the largest payload, within 4 KiB. PRESUMED (log 70). -/
def onePacket (off n : Nat) : Bool := decide (1 ≤ n ∧ n ≤ 512 ∧ off % 4096 + n ≤ 4096)
/-- A write of `data` by PF0 through BAR2 at offset `off` (R36, R37). -/
def execStoreWindowWrite (off : BitVec 28) (data : List Byte) (st : State) : Host.Outcome State Fault Refusal :=
  .next (if onePacket off.toNat data.length then st.write2 0 off.toNat data else st)
/-- A write of `data` by VF `vf` to its image window at offset `off` of its BAR0 (R38). -/
def execImageWindowWrite (vf : BitVec 10) (off : BitVec 28) (data : List Byte) (st : State) : Host.Outcome State Fault Refusal :=
  .next (if isVf vf.toNat ∧ st.fnOn vf.toNat ∧ vf.toNat ≤ st.fuse.partitions ∧ inImage off.toNat ∧ onePacket off.toNat data.length then
      st.imageWrite vf.toNat vf.toNat off.toNat data
    else st)

/-! ### Configuration requests (R39, R451) -/

/-- A pending vector is sent once neither mask holds it back. -/
def State.flushVec (s : State) (f v : Nat) : State :=
  if FMap.get (fun _ => false) s.vecPend (f * 2048 + v) then
    { s with vecPend := FMap.set (fun _ => false) s.vecPend (f * 2048 + v) false }.sendVec f v
  else s
/-- The MSI-X mask of function `f` (1), or of its vector `v` (2), takes a value; what it held back is sent. -/
def State.maskVec (s : State) (f kind v : Nat) (mask : Bool) : State :=
  if kind = 1 then
    ((s.vecPend.map (·.1)).filter (fun e => decide (e / 2048 = f))).foldl (fun (s : State) e => s.flushVec f (e % 2048))
      { s with fnMask := FMap.set (fun _ => false) s.fnMask f mask }
  else if kind = 2 then
    { s with vecMask := FMap.set (fun _ => true) s.vecMask (f * 2048 + v) mask }.flushVec f v
  else s
/-- Whether the endpoint answers configuration requests: its domain is released and the block is not in reset; `ready` says that its
link has come up. DEDUCED (log 179); DESIGN CHOICE (log 132). -/
def State.pcieUp (s : State) (ready : Bool) : Bool := ready && decide (5 ≤ s.rf aRST_BOOTPH 3 0) && !s.inReset 0x13 && !s.clkStop
/-- A write of the SR-IOV capability of PF0: VF Enable and NumVFs, of which VFs beyond TotalVFs do not exist (R31). PRESUMED (log 173). -/
def State.setVfs (s : State) (fn kind n : Nat) (on : Bool) : State :=
  if fn = 0 ∧ kind = 3 then { s with vfEnable := on, numVfs := min n s.fuse.partitions } else s
/-- What a configuration read of function `fn` shows of SR-IOV: TotalVFs, NumVFs and VF Enable of PF0 (R31). -/
def State.sriov (s : State) (fn : Nat) : List Nat := if fn = 0 then [s.fuse.partitions, s.numVfs, s.vfEnable.toNat] else []
/-- A configuration request to function `fn`; `msix` says what it writes: nothing, the function's MSI-X mask (1), the mask of vector `vec` (2), or
SR-IOV's VF Enable (`mask`) and NumVFs (`vec`) (3). A VF that is not enabled gives no answer. PRESUMED (log 173). -/
def execConfigurationRequest (fn : BitVec 10) (ready : Bool) (msix : BitVec 2) (vec : BitVec 11) (mask : Bool) (st : State) :
    Host.Outcome State Fault Refusal :=
  .next (if st.pcieUp ready then
      (if st.fnOn fn.toNat = false then st
       else
        let s1 := (st.maskVec fn.toNat msix.toNat vec.toNat mask).setVfs fn.toNat msix.toNat vec.toNat mask
        s1.emit (.config fn.toNat false (s1.sriov fn.toNat)))
    else st.emit (.config fn.toNat true []))

end Sys2Proof.Machine
end

