-- ==== Sys2Proof/Machine/ServicePort.lean ====
section
/-!
DEFINITION. READ, WRITE, event, dump and debug requests of the service port (spec/16 R427, R429).
-/
namespace Sys2Proof.Machine

/-! ### READ and WRITE (R427) -/

/-- The CAUSE with which an access is refused, if it is. -/
def State.refusedBy (s : State) (k : State → State) : Option Nat :=
  let t := k (s.setReg aGCTL_ACC_ERR 0)
  if t.rb aGCTL_ACC_ERR 0 then some (t.rf aGCTL_ACC_ERR 15 8) else none
/-- A reply that says the access was refused: CAUSE and the bytes done before it. DEDUCED (log 174). -/
def refusedReply (s : State) (cause done : Nat) : Answer := (s, 7, BitVec.ofNat 8 cause :: beBytes 2 done)
/-- Whether a space of the port is register space at offset `off`. -/
def spRegs (space off : Nat) : Bool := space == 0 || (space == 2 && !inImage off)
/-- A read of the word at offset `o` of `space` by the port. -/
def State.spGet (s : State) (space fn o : Nat) : Got :=
  if space = 0 then s.read0 0x3FE o 0 else if space = 1 then s.read2 0x3FE o else s.readVf 0x3FE fn o
/-- Read words until one is refused: the words, and the refused word's offset and CAUSE. -/
def spGets (space fn : Nat) : State → List Nat → State × List W × Option (Nat × Nat)
  | s, [] => (s, [], none)
  | s, o :: l =>
    let g := s.spGet space fn o
    match g.2 with
    | some w => let r := spGets space fn g.1 l; (r.1, w :: r.2.1, r.2.2)
    | none => (g.1, [], some (o, (s.refusedBy (fun s => (s.spGet space fn o).1)).getD 0))
/-- A write of the bytes of `data`, from offset `off` upwards, that lie in the word at offset `o` of `space`. -/
def State.spPut (s : State) (space fn o off : Nat) (data : List Byte) : State :=
  let byte (i : Nat) : Byte := data.getD (o + i - off) 0
  let d := wordOfBytes (byte 0) (byte 1) (byte 2) (byte 3)
  let part := (data.drop (o - off)).take (min (o + 4) (off + data.length) - max o off)
  if space = 0 then s.write0 0x3FE o d
  else if space = 1 then s.write2 0x3FE (max o off) part
  else if inImage o then s.imageWrite 0x3FE fn (max o off) part
  else s.writeVf 0x3FE fn o d
/-- The port waits until the far instance of the word at offset `o` has applied what it posted there before. -/
def State.spWait (s : State) (space o : Nat) : State :=
  if space = 0 then (match farBstat o with | some b => s.settle b 0 0 | none => s) else s
/-- Write words until one is refused: the refused word's offset and CAUSE. `first` holds for the first word. DEDUCED (log 174). -/
def spPuts (space fn off : Nat) (data : List Byte) : State → Bool → List Nat → State × Option (Nat × Nat)
  | s, _, [] => (s, none)
  | s, first, o :: l =>
    let s0 := if first then s else s.spWait space o
    let t := s0.spPut space fn o off data
    match s0.refusedBy (fun s => s.spPut space fn o off data) with
    | some c => (t, some (o, c))
    | none => spPuts space fn off data t false l
/-- Whether the arguments of READ or WRITE are valid for the OP. -/
def spArgs (space fn n : Nat) : Bool := decide (space ≤ 1 ∨ (space = 2 ∧ isVf fn)) && decide (n ≤ 1024)
/-- An access of the port whose size or alignment register space does not accept (R40). -/
def State.spSize (s : State) (off : Nat) : Answer := refusedReply (s.refuse 0x3FE 3 off 1) 1 0
/-- READ. -/
def execSpRead (sess seq : BitVec 16) (space : Byte) (fn : BitVec 16) (off : W) (count : BitVec 16) (st : State) :
    Host.Outcome State Fault Refusal :=
  let sp := space.toNat
  let o := off.toNat
  let n := count.toNat
  .next (st.serve sess seq 0x10 (fun s =>
    if !spArgs sp fn.toNat n then (s, 5, [])
    else if spRegs sp o && decide (o % 4 ≠ 0 ∨ n % 4 ≠ 0) then s.spSize o
    else
      let r := spGets sp fn.toNat s (if n = 0 then [] else wordsIn o n)
      match r.2.2 with
      | some (a, c) => refusedReply r.1 c (a - o)
      | none => (r.1, 0, ((r.2.1.flatMap bytesOf).drop (o % 4)).take n)))
/-- WRITE. -/
def execSpWrite (sess seq : BitVec 16) (space : Byte) (fn : BitVec 16) (off : W) (data : List Byte) (st : State) :
    Host.Outcome State Fault Refusal :=
  let sp := space.toNat
  let o := off.toNat
  let n := data.length
  .next (st.serveR 5 sess seq 0x11 (fun s =>
    if !spArgs sp fn.toNat n then (s, 5, [])
    else if spRegs sp o && decide (o % 4 ≠ 0 ∨ n % 4 ≠ 0) then s.spSize o
    else
      let r := spPuts sp fn.toNat o data s true (if n = 0 then [] else wordsIn o n)
      match r.2 with
      | some (a, c) => refusedReply r.1 c (a - o)
      | none => (r.1, 0, beBytes 2 n)))

/-! ### Events and dumps (R419 to R421, R429) -/

/-- The reply to a recorder command: its body when it applied, its REASON otherwise. -/
def evReply (r : State × Nat) (body : State → List Byte) : Answer := if r.2 = 0 then (r.1, 0, body r.1) else (r.1, 4, [BitVec.ofNat 8 r.2])
/-- EVFREEZE. -/
def execEvfreeze (sess seq : BitVec 16) (st : State) : Host.Outcome State Fault Refusal :=
  .next (st.serve sess seq 0x20 (fun s => evReply (s.evFreeze 0x3FE) (fun t => beBytes 2 (t.rf aEVR_COUNT 15 0))))
/-- EVREAD of record `k`: an access to the read window. DEDUCED (log 175). -/
def execEvread (sess seq : BitVec 16) (k : BitVec 16) (st : State) : Host.Outcome State Fault Refusal :=
  .next (st.serve sess seq 0x21 (fun s =>
    if s.holds 0x3FE = false then refusedReply s 0x0A 0
    else match s.evStore[k.toNat]? with
      | some r => ({ s with evAccess := s.fab }, 0, (r.hdr ++ r.body).flatMap bytesOf)
      | none => refusedReply { s with evAccess := s.fab } 0x0A 0))
/-- EVUNFREEZE. -/
def execEvunfreeze (sess seq : BitVec 16) (st : State) : Host.Outcome State Fault Refusal :=
  .next (st.serve sess seq 0x22 (fun s => evReply (s.evUnfreeze 0x3FE) (fun _ => [])))
/-- EVCLEAR. -/
def execEvclear (sess seq : BitVec 16) (st : State) : Host.Outcome State Fault Refusal :=
  .next (st.serveR 3 sess seq 0x23 (fun s => evReply (s.evClear 0x3FE) (fun _ => beBytes 2 s.evStore.length)))
/-- The bytes of the dump page in NV: its 16 pages from page `n` on. -/
def State.nvDump (s : State) (n : Nat) : List Byte := (List.range 16).flatMap (fun i => fit 256 ((s.nvPage (n + i)).getD []))
/-- DUMPREAD of the dump area (0), or of the dump page in NV (1). DEDUCED (log 175). -/
def execDumpread (sess seq : BitVec 16) (source : Byte) (off : W) (count : BitVec 16) (st : State) : Host.Outcome State Fault Refusal :=
  let o := off.toNat
  let n := count.toNat
  .next (st.serve sess seq 0x24 (fun s =>
    if 1024 < n ∨ 1 < source.toNat ∨ (if source = 0 then 0x800000 else 4096) < o + n then (s, 5, [])
    else if source = 0 then
      (let as := (List.range (n / 4 + 2)).map (fun i => (dumpBase + o) / 4 * 4 + 4 * i)
       (as.foldl (fun s a => if a < dumpBase + o + n ∧ s.isBad a then s.storeFault a else s) s, 0, s.rdBytes (dumpBase + o) n))
    else match s.dumpNew with
      | some p => (s, 0, ((s.nvDump p).drop o).take n)
      | none => (s, 4, [5])))

/-! ### Debug requests (R144 to R151, R429) -/

/-- A debug request on partition `part`, which needs the right DEBUG; a partition that the Legend reports absent is refused as unit
absent (R5). DEDUCED (log 176). -/
def State.debug (s : State) (sess seq : BitVec 16) (op : Nat) (part : BitVec 16) (k : State → Nat → Answer) : State :=
  s.serveR 6 sess seq op (fun s => if s.fuse.partitions ≤ part.toNat then (s, 4, [1]) else k s part.toNat)
/-- The `PD_CMD_STAT.REASON` that a command leaves, as a reply body. -/
def State.pdReason (s : State) (p : Nat) : List Byte := [BitVec.ofNat 8 (s.rf (aPD_CMD_STAT p) 23 16)]
/-- HOLD. -/
def execSpHold (sess seq : BitVec 16) (part : BitVec 16) (st : State) : Host.Outcome State Fault Refusal :=
  .next (st.debug sess seq 0x28 part (fun s p =>
    let t := ran s (execPdHold 0x3FE (BitVec.ofNat 9 p) s)
    (t, 0, t.pdReason p)))
/-- RESUME. -/
def execSpResume (sess seq : BitVec 16) (part : BitVec 16) (st : State) : Host.Outcome State Fault Refusal :=
  .next (st.debug sess seq 0x29 part (fun s p =>
    let t := ran s (execPdResume 0x3FE (BitVec.ofNat 9 p) s)
    (t, 0, t.pdReason p)))
/-- STEP of the task that `task` codes: REASON, then P of the task. -/
def execSpStep (sess seq : BitVec 16) (part : BitVec 16) (task : Byte) (st : State) : Host.Outcome State Fault Refusal :=
  .next (st.debug sess seq 0x2A part (fun s p =>
    let t := ran s (execPdStep 0x3FE (BitVec.ofNat 9 p) task s)
    let pc := match (if task.toNat < 16 then taskEntry task.toNat else none) with | some e => (t.task p e).ctx.p.toNat | none => 0
    (t, 0, t.pdReason p ++ beBytes 3 pc)))
/-- BRKSET: not armed where Hold is refused for the partition. DEDUCED (log 176). -/
def execBrkset (sess seq : BitVec 16) (part : BitVec 16) (index : Byte) (addr : BitVec 24) (st : State) :
    Host.Outcome State Fault Refusal :=
  .next (st.debug sess seq 0x2B part (fun s p =>
    let i : BitVec 3 := index.truncate 3
    if 8 ≤ index.toNat ∨ 2 ^ 20 ≤ addr.toNat then (s, 5, [])
    else if (s.holdRefusal p).isSome then (s, 0, [0])
    else (s.setPart p { s.part p with brk := (i, addr.truncate 20) :: (s.part p).brk.filter (fun b => b.1 != i) }, 0, [1])))
/-- BRKCLR. -/
def execBrkclr (sess seq : BitVec 16) (part : BitVec 16) (index : Byte) (st : State) : Host.Outcome State Fault Refusal :=
  .next (st.debug sess seq 0x2C part (fun s p =>
    if 8 ≤ index.toNat then (s, 5, [])
    else (s.setPart p { s.part p with brk := (s.part p).brk.filter (fun b => b.1 != index.truncate 3) }, 0, [])))

end Sys2Proof.Machine
end

