-- ==== Sys2Proof/Machine/Dispatch.lean ====
section
/-!
DEFINITION. One arm per command: each arm is one direct call of its meaning, or the command is rejected by name.
-/
namespace Sys2Proof.Machine

/-- What a command does to everything but the queue. -/
def exec (i : Instr) (s : State) : Host.Outcome State Fault Refusal :=
  match i with
  | .registerWrite src off size full data => Sys2Proof.Machine.execRegisterWrite src off size full data s
  | .counterLowRead src off => Sys2Proof.Machine.execCounterLowRead src off s
  | .vfFlr k => Sys2Proof.Machine.execVfFlr k s
  | .pf0Reset => Sys2Proof.Machine.execPf0Reset s
  | .pciePerst => Sys2Proof.Machine.execPciePerst s
  | .storeWindowWrite off data => Sys2Proof.Machine.execStoreWindowWrite off data s
  | .imageWindowWrite vf off data => Sys2Proof.Machine.execImageWindowWrite vf off data s
  | .rwpWrite src off data => Sys2Proof.Machine.execRwpWrite src off data s
  | .rwpApplied inst sub found dt => Sys2Proof.Machine.execRwpApplied inst sub found dt s
  | .farReadComplete src off sub => Sys2Proof.Machine.execFarReadComplete src off sub s
  | .seqWrite src off data => Sys2Proof.Machine.execSeqWrite src off data s
  | .updateFio src data => Sys2Proof.Machine.execUpdateFio src data s
  | .updateCan src n data => Sys2Proof.Machine.execUpdateCan src n data s
  | .updateWdg src data => Sys2Proof.Machine.execUpdateWdg src data s
  | .updateRtc src data => Sys2Proof.Machine.execUpdateRtc src data s
  | .fioStrobeApply dt => Sys2Proof.Machine.execFioStrobeApply dt s
  | .canStrobeApply n dt => Sys2Proof.Machine.execCanStrobeApply n dt s
  | .wdgStrobeApply dt => Sys2Proof.Machine.execWdgStrobeApply dt s
  | .rtcStrobeApply dt => Sys2Proof.Machine.execRtcStrobeApply dt s
  | .survey src => Sys2Proof.Machine.execSurvey src s
  | .surveyFdieCapture dt => Sys2Proof.Machine.execSurveyFdieCapture dt s
  | .aliasWrite src off bit => Sys2Proof.Machine.execAliasWrite src off bit s
  | .opLd e mode s_ w1 => Sys2Proof.Machine.execOpLd e mode s_ w1 s
  | .opLdn e mode s_ w1 => Sys2Proof.Machine.execOpLdn e mode s_ w1 s
  | .opAnd e mode s_ w1 => Sys2Proof.Machine.execOpAnd e mode s_ w1 s
  | .opAndn e mode s_ w1 => Sys2Proof.Machine.execOpAndn e mode s_ w1 s
  | .opOr e mode s_ w1 => Sys2Proof.Machine.execOpOr e mode s_ w1 s
  | .opOrn e mode s_ w1 => Sys2Proof.Machine.execOpOrn e mode s_ w1 s
  | .opXor e mode s_ w1 => Sys2Proof.Machine.execOpXor e mode s_ w1 s
  | .opXorn e mode s_ w1 => Sys2Proof.Machine.execOpXorn e mode s_ w1 s
  | .opSt e mode s_ w1 => Sys2Proof.Machine.execOpSt e mode s_ w1 s
  | .opStn e mode s_ w1 => Sys2Proof.Machine.execOpStn e mode s_ w1 s
  | .opSet e mode s_ w1 => Sys2Proof.Machine.execOpSet e mode s_ w1 s
  | .opRst e mode s_ w1 => Sys2Proof.Machine.execOpRst e mode s_ w1 s
  | .opNot e => Sys2Proof.Machine.execOpNot e s
  | .opSetl e => Sys2Proof.Machine.execOpSetl e s
  | .opClrl e => Sys2Proof.Machine.execOpClrl e s
  | .opBpsh e => Sys2Proof.Machine.execOpBpsh e s
  | .opBrd e => Sys2Proof.Machine.execOpBrd e s
  | .opBrda e => Sys2Proof.Machine.execOpBrda e s
  | .opBrdo e => Sys2Proof.Machine.execOpBrdo e s
  | .opBpop e => Sys2Proof.Machine.execOpBpop e s
  | .opBppa e => Sys2Proof.Machine.execOpBppa e s
  | .opBppo e => Sys2Proof.Machine.execOpBppo e s
  | .opBdrp e => Sys2Proof.Machine.execOpBdrp e s
  | .opLra e => Sys2Proof.Machine.execOpLra e s
  | .opAlr e => Sys2Proof.Machine.execOpAlr e s
  | .opEdp e mode s_ w1 => Sys2Proof.Machine.execOpEdp e mode s_ w1 s
  | .opEdn e mode s_ w1 => Sys2Proof.Machine.execOpEdn e mode s_ w1 s
  | .opTon e mode s_ w1 => Sys2Proof.Machine.execOpTon e mode s_ w1 s
  | .opTof e mode s_ w1 => Sys2Proof.Machine.execOpTof e mode s_ w1 s
  | .opTp e mode s_ w1 => Sys2Proof.Machine.execOpTp e mode s_ w1 s
  | .opTrs e mode s_ w1 => Sys2Proof.Machine.execOpTrs e mode s_ w1 s
  | .opCtu e mode s_ w1 => Sys2Proof.Machine.execOpCtu e mode s_ w1 s
  | .opCtd e mode s_ w1 => Sys2Proof.Machine.execOpCtd e mode s_ w1 s
  | .opCrs e mode s_ w1 => Sys2Proof.Machine.execOpCrs e mode s_ w1 s
  | .opCld e mode s_ w1 => Sys2Proof.Machine.execOpCld e mode s_ w1 s
  | .opAdd e mode s_ w1 => Sys2Proof.Machine.execOpAdd e mode s_ w1 s
  | .opSub e mode s_ w1 => Sys2Proof.Machine.execOpSub e mode s_ w1 s
  | .opAdc e mode s_ w1 => Sys2Proof.Machine.execOpAdc e mode s_ w1 s
  | .opSbc e mode s_ w1 => Sys2Proof.Machine.execOpSbc e mode s_ w1 s
  | .opMul e mode s_ w1 => Sys2Proof.Machine.execOpMul e mode s_ w1 s
  | .opDiv e mode s_ w1 => Sys2Proof.Machine.execOpDiv e mode s_ w1 s
  | .opMod e mode s_ w1 => Sys2Proof.Machine.execOpMod e mode s_ w1 s
  | .opAndw e mode s_ w1 => Sys2Proof.Machine.execOpAndw e mode s_ w1 s
  | .opOrw e mode s_ w1 => Sys2Proof.Machine.execOpOrw e mode s_ w1 s
  | .opXorw e mode s_ w1 => Sys2Proof.Machine.execOpXorw e mode s_ w1 s
  | .opNeg e => Sys2Proof.Machine.execOpNeg e s
  | .opCpl e => Sys2Proof.Machine.execOpCpl e s
  | .opAddk e imm => Sys2Proof.Machine.execOpAddk e imm s
  | .opAndk e imm => Sys2Proof.Machine.execOpAndk e imm s
  | .opOrk e imm => Sys2Proof.Machine.execOpOrk e imm s
  | .opXork e imm => Sys2Proof.Machine.execOpXork e imm s
  | .opClrs e => Sys2Proof.Machine.execOpClrs e s
  | .opShl e mode s_ w1 => Sys2Proof.Machine.execOpShl e mode s_ w1 s
  | .opShr e mode s_ w1 => Sys2Proof.Machine.execOpShr e mode s_ w1 s
  | .opSar e mode s_ w1 => Sys2Proof.Machine.execOpSar e mode s_ w1 s
  | .opRol e mode s_ w1 => Sys2Proof.Machine.execOpRol e mode s_ w1 s
  | .opRor e mode s_ w1 => Sys2Proof.Machine.execOpRor e mode s_ w1 s
  | .opShlk e imm => Sys2Proof.Machine.execOpShlk e imm s
  | .opShrk e imm => Sys2Proof.Machine.execOpShrk e imm s
  | .opSark e imm => Sys2Proof.Machine.execOpSark e imm s
  | .opRolk e imm => Sys2Proof.Machine.execOpRolk e imm s
  | .opRork e imm => Sys2Proof.Machine.execOpRork e imm s
  | .opFadd e mode s_ w1 => Sys2Proof.Machine.execOpFadd e mode s_ w1 s
  | .opFsub e mode s_ w1 => Sys2Proof.Machine.execOpFsub e mode s_ w1 s
  | .opFmul e mode s_ w1 => Sys2Proof.Machine.execOpFmul e mode s_ w1 s
  | .opFdiv e mode s_ w1 => Sys2Proof.Machine.execOpFdiv e mode s_ w1 s
  | .opFcmp e mode s_ w1 => Sys2Proof.Machine.execOpFcmp e mode s_ w1 s
  | .opItof e => Sys2Proof.Machine.execOpItof e s
  | .opFtoi e => Sys2Proof.Machine.execOpFtoi e s
  | .opFneg e => Sys2Proof.Machine.execOpFneg e s
  | .opFabs e => Sys2Proof.Machine.execOpFabs e s
  | .opCmp e mode s_ w1 => Sys2Proof.Machine.execOpCmp e mode s_ w1 s
  | .opCmpk e imm => Sys2Proof.Machine.execOpCmpk e imm s
  | .opCnd e cc => Sys2Proof.Machine.execOpCnd e cc s
  | .opTos e => Sys2Proof.Machine.execOpTos e s
  | .opTdz e => Sys2Proof.Machine.execOpTdz e s
  | .opTnv e => Sys2Proof.Machine.execOpTnv e s
  | .opTnx e => Sys2Proof.Machine.execOpTnx e s
  | .opJmp e mode s_ w1 => Sys2Proof.Machine.execOpJmp e mode s_ w1 s
  | .opJc e mode s_ w1 => Sys2Proof.Machine.execOpJc e mode s_ w1 s
  | .opCall e mode s_ w1 => Sys2Proof.Machine.execOpCall e mode s_ w1 s
  | .opRet e => Sys2Proof.Machine.execOpRet e s
  | .opJmpx e => Sys2Proof.Machine.execOpJmpx e s
  | .opCallx e => Sys2Proof.Machine.execOpCallx e s
  | .opEnd e => Sys2Proof.Machine.execOpEnd e s
  | .opNop e => Sys2Proof.Machine.execOpNop e s
  | .opLda e mode s_ w1 => Sys2Proof.Machine.execOpLda e mode s_ w1 s
  | .opSta e mode s_ w1 => Sys2Proof.Machine.execOpSta e mode s_ w1 s
  | .opLdi e mode s_ w1 => Sys2Proof.Machine.execOpLdi e mode s_ w1 s
  | .opSti e mode s_ w1 => Sys2Proof.Machine.execOpSti e mode s_ w1 s
  | .opLdx e mode s_ w1 => Sys2Proof.Machine.execOpLdx e mode s_ w1 s
  | .opStx e mode s_ w1 => Sys2Proof.Machine.execOpStx e mode s_ w1 s
  | .opLdy e mode s_ w1 => Sys2Proof.Machine.execOpLdy e mode s_ w1 s
  | .opSty e mode s_ w1 => Sys2Proof.Machine.execOpSty e mode s_ w1 s
  | .opTax e => Sys2Proof.Machine.execOpTax e s
  | .opTxa e => Sys2Proof.Machine.execOpTxa e s
  | .opTay e => Sys2Proof.Machine.execOpTay e s
  | .opTya e => Sys2Proof.Machine.execOpTya e s
  | .opTxy e => Sys2Proof.Machine.execOpTxy e s
  | .opTyx e => Sys2Proof.Machine.execOpTyx e s
  | .opInx e => Sys2Proof.Machine.execOpInx e s
  | .opDex e => Sys2Proof.Machine.execOpDex e s
  | .opIny e => Sys2Proof.Machine.execOpIny e s
  | .opDey e => Sys2Proof.Machine.execOpDey e s
  | .opLdk e imm => Sys2Proof.Machine.execOpLdk e imm s
  | .opLdks e imm => Sys2Proof.Machine.execOpLdks e imm s
  | .opLxk e imm => Sys2Proof.Machine.execOpLxk e imm s
  | .opLxks e imm => Sys2Proof.Machine.execOpLxks e imm s
  | .opAxk e imm => Sys2Proof.Machine.execOpAxk e imm s
  | .opLyk e imm => Sys2Proof.Machine.execOpLyk e imm s
  | .opLyks e imm => Sys2Proof.Machine.execOpLyks e imm s
  | .opAyk e imm => Sys2Proof.Machine.execOpAyk e imm s
  | .opTrel e => Sys2Proof.Machine.execOpTrel e s
  | .opTmerl e => Sys2Proof.Machine.execOpTmerl e s
  | .opTmerh e => Sys2Proof.Machine.execOpTmerh e s
  | .opTcyc e => Sys2Proof.Machine.execOpTcyc e s
  | .opCanrd e => Sys2Proof.Machine.execOpCanrd e s
  | .opCantx e => Sys2Proof.Machine.execOpCantx e s
  | .opCanst e => Sys2Proof.Machine.execOpCanst e s
  | .opCadrd e => Sys2Proof.Machine.execOpCadrd e s
  | .opCadwr e => Sys2Proof.Machine.execOpCadwr e s
  | .opEvrec e => Sys2Proof.Machine.execOpEvrec e s
  | .opImgrq e => Sys2Proof.Machine.execOpImgrq e s
  | .opImgwr e => Sys2Proof.Machine.execOpImgwr e s
  | .opIrq e => Sys2Proof.Machine.execOpIrq e s
  | .opSfrd e => Sys2Proof.Machine.execOpSfrd e s
  | .opSfrst e => Sys2Proof.Machine.execOpSfrst e s
  | .opBrk e => Sys2Proof.Machine.execOpBrk e s
  | .opCustomer e mode s_ w1 => Sys2Proof.Machine.execOpCustomer e mode s_ w1 s
  | .opIllegal e w0 => Sys2Proof.Machine.execOpIllegal e w0 s
  | .preemption e => Sys2Proof.Machine.execPreemption e s
  | .taskSwitchDone e => Sys2Proof.Machine.execTaskSwitchDone e s
  | .dtSwitch src => Sys2Proof.Machine.execDtSwitch src s
  | .dtSwitchApply dt => Sys2Proof.Machine.execDtSwitchApply dt s
  | .taskRelease p t dt => Sys2Proof.Machine.execTaskRelease p t dt s
  | .inputCopyComplete p t steps dt => Sys2Proof.Machine.execInputCopyComplete p t steps dt s
  | .outputCopyComplete p t steps dt => Sys2Proof.Machine.execOutputCopyComplete p t steps dt s
  | .deadlineOverrun p t dt => Sys2Proof.Machine.execDeadlineOverrun p t dt s
  | .pdRun src p => Sys2Proof.Machine.execPdRun src p s
  | .runApply p dt => Sys2Proof.Machine.execRunApply p dt s
  | .pdStop src p => Sys2Proof.Machine.execPdStop src p s
  | .stopComplete p dt => Sys2Proof.Machine.execStopComplete p dt s
  | .stopSending p t dt => Sys2Proof.Machine.execStopSending p t dt s
  | .pdHold src p => Sys2Proof.Machine.execPdHold src p s
  | .heldSending p t dt => Sys2Proof.Machine.execHeldSending p t dt s
  | .breakpointHit e => Sys2Proof.Machine.execBreakpointHit e s
  | .pdResume src p => Sys2Proof.Machine.execPdResume src p s
  | .resumeApply p dt => Sys2Proof.Machine.execResumeApply p dt s
  | .pdStep src p arg => Sys2Proof.Machine.execPdStep src p arg s
  | .pdOptWrite src p data => Sys2Proof.Machine.execPdOptWrite src p data s
  | .dispatcherCommitGo src => Sys2Proof.Machine.execDispatcherCommitGo src s
  | .dispatcherCommitApply dt => Sys2Proof.Machine.execDispatcherCommitApply dt s
  | .editCommitGo src p => Sys2Proof.Machine.execEditCommitGo src p s
  | .editBoundary p dt => Sys2Proof.Machine.execEditBoundary p dt s
  | .boundaryPauseEnd p dt => Sys2Proof.Machine.execBoundaryPauseEnd p dt s
  | .editTimeout p dt => Sys2Proof.Machine.execEditTimeout p dt s
  | .create src => Sys2Proof.Machine.execCreate src s
  | .remove src => Sys2Proof.Machine.execRemove src s
  | .stage src => Sys2Proof.Machine.execStage src s
  | .unstage src => Sys2Proof.Machine.execUnstage src s
  | .retclr src => Sys2Proof.Machine.execRetclr src s
  | .pageZeroed dt => Sys2Proof.Machine.execPageZeroed dt s
  | .trEntryWrite src idx data => Sys2Proof.Machine.execTrEntryWrite src idx data s
  | .pdMovRangeWrite src p data => Sys2Proof.Machine.execPdMovRangeWrite src p data s
  | .scrub a found => Sys2Proof.Machine.execScrub a found s
  | .pageRetirement k n dt => Sys2Proof.Machine.execPageRetirement k n dt s
  | .retirementCopyDone dt => Sys2Proof.Machine.execRetirementCopyDone dt s
  | .lnModeWrite src lane data => Sys2Proof.Machine.execLnModeWrite src lane data s
  | .laneLinkUp lane => Sys2Proof.Machine.execLaneLinkUp lane s
  | .laneSignalLoss lane cause => Sys2Proof.Machine.execLaneSignalLoss lane cause s
  | .portReform port => Sys2Proof.Machine.execPortReform port s
  | .preemptVerified port => Sys2Proof.Machine.execPreemptVerified port s
  | .portTransmit port dt => Sys2Proof.Machine.execPortTransmit port dt s
  | .gateEntryChange port dt => Sys2Proof.Machine.execGateEntryChange port dt s
  | .frameHeaderReceived port head dt => Sys2Proof.Machine.execFrameHeaderReceived port head dt s
  | .frameEndReceived port tail ahead dt => Sys2Proof.Machine.execFrameEndReceived port tail ahead dt s
  | .heldSlotWrite n dt => Sys2Proof.Machine.execHeldSlotWrite n dt s
  | .streamWindowTimeout stream dt => Sys2Proof.Machine.execStreamWindowTimeout stream dt s
  | .switchCommitGo src => Sys2Proof.Machine.execSwitchCommitGo src s
  | .switchCommitApply dt => Sys2Proof.Machine.execSwitchCommitApply dt s
  | .gateListApply port dt => Sys2Proof.Machine.execGateListApply port dt s
  | .queueCommitGo src => Sys2Proof.Machine.execQueueCommitGo src s
  | .queueCommitApply dt => Sys2Proof.Machine.execQueueCommitApply dt s
  | .moverCommitGo src => Sys2Proof.Machine.execMoverCommitGo src s
  | .moverCommitApply dt => Sys2Proof.Machine.execMoverCommitApply dt s
  | .movDevRangeWrite src data => Sys2Proof.Machine.execMovDevRangeWrite src data s
  | .stationTick g dt => Sys2Proof.Machine.execStationTick g dt s
  | .heartbeatSend dt => Sys2Proof.Machine.execHeartbeatSend dt s
  | .ruCommitGo src => Sys2Proof.Machine.execRuCommitGo src s
  | .ruCommitApply dt => Sys2Proof.Machine.execRuCommitApply dt s
  | .leaseRenewal dt => Sys2Proof.Machine.execLeaseRenewal dt s
  | .leaseExpiry dt => Sys2Proof.Machine.execLeaseExpiry dt s
  | .witnessRequest member pair epoch rnum len dt => Sys2Proof.Machine.execWitnessRequest member pair epoch rnum len dt s
  | .witnessClaim member pair epoch rnum len dt => Sys2Proof.Machine.execWitnessClaim member pair epoch rnum len dt s
  | .witnessRelease member pair epoch rnum len dt => Sys2Proof.Machine.execWitnessRelease member pair epoch rnum len dt s
  | .witnessHandover member succ pair epoch rnum len dt => Sys2Proof.Machine.execWitnessHandover member succ pair epoch rnum len dt s
  | .witnessQuietEnd k dt => Sys2Proof.Machine.execWitnessQuietEnd k dt s
  | .grant widx member pair epoch rnum high dt => Sys2Proof.Machine.execGrant widx member pair epoch rnum high dt s
  | .deny widx member reason pair epoch high dt => Sys2Proof.Machine.execDeny widx member reason pair epoch high dt s
  | .partnerLeaseLapse dt => Sys2Proof.Machine.execPartnerLeaseLapse dt s
  | .claim dt => Sys2Proof.Machine.execClaim dt s
  | .claimRetry dt => Sys2Proof.Machine.execClaimRetry dt s
  | .claimRoundTimeout dt => Sys2Proof.Machine.execClaimRoundTimeout dt s
  | .mirrorCaptureEnd p t dt => Sys2Proof.Machine.execMirrorCaptureEnd p t dt s
  | .invec p t stamp entries dt => Sys2Proof.Machine.execInvec p t stamp entries dt s
  | .data p t stamp lines dt => Sys2Proof.Machine.execData p t stamp lines dt s
  | .result p t stamp crc lines outcome cause flags dt => Sys2Proof.Machine.execResult p t stamp crc lines outcome cause flags dt s
  | .modeFrame p mode cause tick dt => Sys2Proof.Machine.execModeFrame p mode cause tick dt s
  | .editFrame p stamp version dt => Sys2Proof.Machine.execEditFrame p stamp version dt s
  | .swapFrame boundary epoch dt => Sys2Proof.Machine.execSwapFrame boundary epoch dt s
  | .resyncFrame part dt => Sys2Proof.Machine.execResyncFrame part dt s
  | .verdict p t stamp result outcome cause flags dt => Sys2Proof.Machine.execVerdict p t stamp result outcome cause flags dt s
  | .stateFrame role epoch digest dt => Sys2Proof.Machine.execStateFrame role epoch digest dt s
  | .stateSend dt => Sys2Proof.Machine.execStateSend dt s
  | .ptimeFrame p ptime mer mode dt => Sys2Proof.Machine.execPtimeFrame p ptime mer mode dt s
  | .standbyBlockWaitEnd p t dt => Sys2Proof.Machine.execStandbyBlockWaitEnd p t dt s
  | .passIncomplete p t dt => Sys2Proof.Machine.execPassIncomplete p t dt s
  | .verdictTimeout dt => Sys2Proof.Machine.execVerdictTimeout dt s
  | .swapTimer dt => Sys2Proof.Machine.execSwapTimer dt s
  | .swapBoundary dt => Sys2Proof.Machine.execSwapBoundary dt s
  | .swapBoundaryTimeout dt => Sys2Proof.Machine.execSwapBoundaryTimeout dt s
  | .swapActiveTimeout dt => Sys2Proof.Machine.execSwapActiveTimeout dt s
  | .ruSwap src => Sys2Proof.Machine.execRuSwap src s
  | .ruResync src => Sys2Proof.Machine.execRuResync src s
  | .rejoin src => Sys2Proof.Machine.execRejoin src s
  | .leaveCmd src => Sys2Proof.Machine.execLeaveCmd src s
  | .takeCmd src => Sys2Proof.Machine.execTakeCmd src s
  | .meridianSeed dt => Sys2Proof.Machine.execMeridianSeed dt s
  | .merStep src => Sys2Proof.Machine.execMerStep src s
  | .merSeed src => Sys2Proof.Machine.execMerSeed src s
  | .merFracWrite src data => Sys2Proof.Machine.execMerFracWrite src data s
  | .sync port prio master steps valid ppsl t1 dt => Sys2Proof.Machine.execSync port prio master steps valid ppsl t1 dt s
  | .syncSend dt => Sys2Proof.Machine.execSyncSend dt s
  | .dreq port seq dt => Sys2Proof.Machine.execDreq port seq dt s
  | .dresp port rseq t1 t2 dt => Sys2Proof.Machine.execDresp port rseq t1 t2 dt s
  | .dreqSend port dt => Sys2Proof.Machine.execDreqSend port dt s
  | .syncTimeout dt => Sys2Proof.Machine.execSyncTimeout dt s
  | .ppsOutRise dt => Sys2Proof.Machine.execPpsOutRise dt s
  | .ppsOutFall dt => Sys2Proof.Machine.execPpsOutFall dt s
  | .ppsInEdge dt => Sys2Proof.Machine.execPpsInEdge dt s
  | .rtcSecondBoundary dt => Sys2Proof.Machine.execRtcSecondBoundary dt s
  | .rtcSet src => Sys2Proof.Machine.execRtcSet src s
  | .corr src sub => Sys2Proof.Machine.execCorr src sub s
  | .dstfwd src => Sys2Proof.Machine.execDstfwd src s
  | .dstback src => Sys2Proof.Machine.execDstback src s
  | .measCmd src => Sys2Proof.Machine.execMeasCmd src s
  | .measstop src => Sys2Proof.Machine.execMeasstop src s
  | .measComplete dt => Sys2Proof.Machine.execMeasComplete dt s
  | .mainsCrossing e dt => Sys2Proof.Machine.execMainsCrossing e dt s
  | .mainsTimeout dt => Sys2Proof.Machine.execMainsTimeout dt s
  | .slewStep sub => Sys2Proof.Machine.execSlewStep sub s
  | .crystalStop => Sys2Proof.Machine.execCrystalStop s
  | .crystalResume => Sys2Proof.Machine.execCrystalResume s
  | .fioInputSettled ch level samples dt => Sys2Proof.Machine.execFioInputSettled ch level samples dt s
  | .fioOutputCommand dt => Sys2Proof.Machine.execFioOutputCommand dt s
  | .fioHostcmdWrite src data => Sys2Proof.Machine.execFioHostcmdWrite src data s
  | .currentLimit ch on => Sys2Proof.Machine.execCurrentLimit ch on s
  | .overloadTrip ch => Sys2Proof.Machine.execOverloadTrip ch s
  | .thermalShutdown ch => Sys2Proof.Machine.execThermalShutdown ch s
  | .outputRestart ch => Sys2Proof.Machine.execOutputRestart ch s
  | .openLoad ch => Sys2Proof.Machine.execOpenLoad ch s
  | .shortToSupply ch => Sys2Proof.Machine.execShortToSupply ch s
  | .groupUndervoltage g meas => Sys2Proof.Machine.execGroupUndervoltage g meas s
  | .groupOvervoltage g meas => Sys2Proof.Machine.execGroupOvervoltage g meas s
  | .groupOvercurrent g meas => Sys2Proof.Machine.execGroupOvercurrent g meas s
  | .groupConditionEnd g bit meas => Sys2Proof.Machine.execGroupConditionEnd g bit meas s
  | .tpPulseStart n dt => Sys2Proof.Machine.execTpPulseStart n dt s
  | .tpPulseEnd n high dt => Sys2Proof.Machine.execTpPulseEnd n high dt s
  | .crossShortCheck n pins dt => Sys2Proof.Machine.execCrossShortCheck n pins dt s
  | .tpOverload n => Sys2Proof.Machine.execTpOverload n s
  | .tpRetry n => Sys2Proof.Machine.execTpRetry n s
  | .heartbeatReceived dt => Sys2Proof.Machine.execHeartbeatReceived dt s
  | .heartbeatTimeout dt => Sys2Proof.Machine.execHeartbeatTimeout dt s
  | .fioRecover src => Sys2Proof.Machine.execFioRecover src s
  | .dclr src => Sys2Proof.Machine.execDclr src s
  | .sqlEnableLost n => Sys2Proof.Machine.execSqlEnableLost n s
  | .fatalLineAsserted => Sys2Proof.Machine.execFatalLineAsserted s
  | .aliveLineTimeout => Sys2Proof.Machine.execAliveLineTimeout s
  | .rootPllLoss => Sys2Proof.Machine.execRootPllLoss s
  | .lanePllLoss lane => Sys2Proof.Machine.execLanePllLoss lane s
  | .supervisorLockstepFail => Sys2Proof.Machine.execSupervisorLockstepFail s
  | .safetyEvaluation sa sb pinsA pinsB pulses dt => Sys2Proof.Machine.execSafetyEvaluation sa sb pinsA pinsB pulses dt s
  | .sampleIntervalFault => Sys2Proof.Machine.execSampleIntervalFault s
  | .channelALost => Sys2Proof.Machine.execChannelALost s
  | .darkTestHigh n => Sys2Proof.Machine.execDarkTestHigh n s
  | .darkTestLow n => Sys2Proof.Machine.execDarkTestLow n s
  | .darkTestEnd n pinsA pinsB => Sys2Proof.Machine.execDarkTestEnd n pinsA pinsB s
  | .sqOverload n thermal => Sys2Proof.Machine.execSqOverload n thermal s
  | .sfStart src => Sys2Proof.Machine.execSfStart src s
  | .sfStopCmd src => Sys2Proof.Machine.execSfStopCmd src s
  | .sfApply src => Sys2Proof.Machine.execSfApply src s
  | .setTakesEffect nvOk dt => Sys2Proof.Machine.execSetTakesEffect nvOk dt s
  | .sfReset src => Sys2Proof.Machine.execSfReset src s
  | .sfOclr src => Sys2Proof.Machine.execSfOclr src s
  | .canRecover src n => Sys2Proof.Machine.execCanRecover src n s
  | .canAck src n k => Sys2Proof.Machine.execCanAck src n k s
  | .reqCmd src n m => Sys2Proof.Machine.execReqCmd src n m s
  | .cancelCmd src n m => Sys2Proof.Machine.execCancelCmd src n m s
  | .canFrameReceived n id ctl data ago dt => Sys2Proof.Machine.execCanFrameReceived n id ctl data ago dt s
  | .heldFrameWrite n dt => Sys2Proof.Machine.execHeldFrameWrite n dt s
  | .canTransmitStart n delay dt => Sys2Proof.Machine.execCanTransmitStart n delay dt s
  | .canTransmitDone n ago dt => Sys2Proof.Machine.execCanTransmitDone n ago dt s
  | .canBusError n code tecUp recUp dt => Sys2Proof.Machine.execCanBusError n code tecUp recUp dt s
  | .busOffRecoveryDone n => Sys2Proof.Machine.execBusOffRecoveryDone n s
  | .referenceMessageDue n dt => Sys2Proof.Machine.execReferenceMessageDue n dt s
  | .ttSyncLoss n dt => Sys2Proof.Machine.execTtSyncLoss n dt s
  | .triggerFire n m dt => Sys2Proof.Machine.execTriggerFire n m dt s
  | .triggerWindowEnd n m dt => Sys2Proof.Machine.execTriggerWindowEnd n m dt s
  | .faultEvent src cls code unit item nth same => Sys2Proof.Machine.execFaultEvent src cls code unit item nth same s
  | .collectorStateMessage => Sys2Proof.Machine.execCollectorStateMessage s
  | .dumpSequencerDone => Sys2Proof.Machine.execDumpSequencerDone s
  | .dumpPageWritten => Sys2Proof.Machine.execDumpPageWritten s
  | .dumpComplete sec6 last => Sys2Proof.Machine.execDumpComplete sec6 last s
  | .fatalResetTimeout => Sys2Proof.Machine.execFatalResetTimeout s
  | .rcOscillatorFail => Sys2Proof.Machine.execRcOscillatorFail s
  | .dieLinkDown => Sys2Proof.Machine.execDieLinkDown s
  | .supplyOutOfRange => Sys2Proof.Machine.execSupplyOutOfRange s
  | .engineBist src e => Sys2Proof.Machine.execEngineBist src e s
  | .bistDone e pass => Sys2Proof.Machine.execBistDone e pass s
  | .vaoPowerOn vbat => Sys2Proof.Machine.execVaoPowerOn vbat s
  | .vaoBrownout => Sys2Proof.Machine.execVaoBrownout s
  | .resetN ns => Sys2Proof.Machine.execResetN ns s
  | .ldiePowerGood dt => Sys2Proof.Machine.execLdiePowerGood dt s
  | .ldiePowerGoodLoss => Sys2Proof.Machine.execLdiePowerGoodLoss s
  | .cold src => Sys2Proof.Machine.execCold src s
  | .warm src => Sys2Proof.Machine.execWarm src s
  | .engineCmd src arg => Sys2Proof.Machine.execEngineCmd src arg s
  | .blockCmd src arg => Sys2Proof.Machine.execBlockCmd src arg s
  | .blockhold src arg => Sys2Proof.Machine.execBlockhold src arg s
  | .blockrel src arg => Sys2Proof.Machine.execBlockrel src arg s
  | .partitionCmd src arg => Sys2Proof.Machine.execPartitionCmd src arg s
  | .engineResetRelease e dt => Sys2Proof.Machine.execEngineResetRelease e dt s
  | .blockResetRelease code dt => Sys2Proof.Machine.execBlockResetRelease code dt s
  | .fdiePorRelease => Sys2Proof.Machine.execFdiePorRelease s
  | .nvRecallDone => Sys2Proof.Machine.execNvRecallDone s
  | .optionBytesRead => Sys2Proof.Machine.execOptionBytesRead s
  | .fdieBootComplete => Sys2Proof.Machine.execFdieBootComplete s
  | .rootPllLocked us => Sys2Proof.Machine.execRootPllLocked us s
  | .resetTimeTestsDone pass us => Sys2Proof.Machine.execResetTimeTestsDone pass us s
  | .firmwareLoaded us7 us8 dt => Sys2Proof.Machine.execFirmwareLoaded us7 us8 dt s
  | .watchdogWindowOpen ch dt => Sys2Proof.Machine.execWatchdogWindowOpen ch dt s
  | .engineWatchdogAnswer e dt => Sys2Proof.Machine.execEngineWatchdogAnswer e dt s
  | .wdgSsvc n key p dt => Sys2Proof.Machine.execWdgSsvc n key p dt s
  | .watchdogExpiry ch p dt => Sys2Proof.Machine.execWatchdogExpiry ch p dt s
  | .hardTimerExpiry ch dt => Sys2Proof.Machine.execHardTimerExpiry ch dt s
  | .nvRead src found => Sys2Proof.Machine.execNvRead src found s
  | .nvWrite src => Sys2Proof.Machine.execNvWrite src s
  | .cadsave src => Sys2Proof.Machine.execCadsave src s
  | .nvPageWriteDone ok => Sys2Proof.Machine.execNvPageWriteDone ok s
  | .operatingHour dt => Sys2Proof.Machine.execOperatingHour dt s
  | .autosave dt => Sys2Proof.Machine.execAutosave dt s
  | .caddySaveDone dt => Sys2Proof.Machine.execCaddySaveDone dt s
  | .powerFail => Sys2Proof.Machine.execPowerFail s
  | .powerFailWithdrawn => Sys2Proof.Machine.execPowerFailWithdrawn s
  | .cadAllocWrite src p data => Sys2Proof.Machine.execCadAllocWrite src p data s
  | .eventAdmission => Sys2Proof.Machine.execEventAdmission s
  | .tokenRefill code => Sys2Proof.Machine.execTokenRefill code s
  | .eventPageWrite => Sys2Proof.Machine.execEventPageWrite s
  | .eventBufferTimeout => Sys2Proof.Machine.execEventBufferTimeout s
  | .evrFreeze src => Sys2Proof.Machine.execEvrFreeze src s
  | .evrUnfreeze src => Sys2Proof.Machine.execEvrUnfreeze src s
  | .evrClear src => Sys2Proof.Machine.execEvrClear src s
  | .freezeTimeout dt => Sys2Proof.Machine.execFreezeTimeout dt s
  | .evrRdIdxWrite src data => Sys2Proof.Machine.execEvrRdIdxWrite src data s
  | .identify => Sys2Proof.Machine.execIdentify s
  | .openSession peer => Sys2Proof.Machine.execOpenSession peer s
  | .closeSession sess seq => Sys2Proof.Machine.execCloseSession sess seq s
  | .sessionTimeout dt => Sys2Proof.Machine.execSessionTimeout dt s
  | .spChallenge sess seq slot rights => Sys2Proof.Machine.execSpChallenge sess seq slot rights s
  | .spResponse sess seq mac => Sys2Proof.Machine.execSpResponse sess seq mac s
  | .spRelinquish sess seq => Sys2Proof.Machine.execSpRelinquish sess seq s
  | .spRead sess seq space fn off count => Sys2Proof.Machine.execSpRead sess seq space fn off count s
  | .spWrite sess seq space fn off data => Sys2Proof.Machine.execSpWrite sess seq space fn off data s
  | .xbegin sess seq kind cart => Sys2Proof.Machine.execXbegin sess seq kind cart s
  | .xdata sess seq off data => Sys2Proof.Machine.execXdata sess seq off data s
  | .xend sess seq => Sys2Proof.Machine.execXend sess seq s
  | .activate sess seq kind => Sys2Proof.Machine.execActivate sess seq kind s
  | .confirm sess seq kind => Sys2Proof.Machine.execConfirm sess seq kind s
  | .fallback sess seq kind => Sys2Proof.Machine.execFallback sess seq kind s
  | .optwr sess seq w8 wc w10 => Sys2Proof.Machine.execOptwr sess seq w8 wc w10 s
  | .evfreeze sess seq => Sys2Proof.Machine.execEvfreeze sess seq s
  | .evread sess seq k => Sys2Proof.Machine.execEvread sess seq k s
  | .evunfreeze sess seq => Sys2Proof.Machine.execEvunfreeze sess seq s
  | .evclear sess seq => Sys2Proof.Machine.execEvclear sess seq s
  | .dumpread sess seq source off count => Sys2Proof.Machine.execDumpread sess seq source off count s
  | .spHold sess seq part => Sys2Proof.Machine.execSpHold sess seq part s
  | .spResume sess seq part => Sys2Proof.Machine.execSpResume sess seq part s
  | .spStep sess seq part task => Sys2Proof.Machine.execSpStep sess seq part task s
  | .brkset sess seq part index addr => Sys2Proof.Machine.execBrkset sess seq part index addr s
  | .brkclr sess seq part index => Sys2Proof.Machine.execBrkclr sess seq part index s
  | .auChallenge => Sys2Proof.Machine.execAuChallenge s
  | .auResponse => Sys2Proof.Machine.execAuResponse s
  | .auRelinquish => Sys2Proof.Machine.execAuRelinquish s
  | .keyset src => Sys2Proof.Machine.execKeyset src s
  | .keyclr src => Sys2Proof.Machine.execKeyclr src s
  | .exchangeTimeout dt => Sys2Proof.Machine.execExchangeTimeout dt s
  | .grantExpiry sp dt => Sys2Proof.Machine.execGrantExpiry sp dt s
  | .lockoutEnd dt => Sys2Proof.Machine.execLockoutEnd dt s
  | .managementPauseEnd dt => Sys2Proof.Machine.execManagementPauseEnd dt s
  | .settingsConversionDone dt => Sys2Proof.Machine.execSettingsConversionDone dt s
  | .fdieUpdatePauseEnd dt => Sys2Proof.Machine.execFdieUpdatePauseEnd dt s
  | .fcoreRestartDone => Sys2Proof.Machine.execFcoreRestartDone s
  | .spCfgWrite src data up => Sys2Proof.Machine.execSpCfgWrite src data up s
  | .spMacWrite src hi data => Sys2Proof.Machine.execSpMacWrite src hi data s
  | .registerRead src bar2 off len => Sys2Proof.Machine.execRegisterRead src bar2 off len s
  | .configurationRequest fn ready msix vec mask => Sys2Proof.Machine.execConfigurationRequest fn ready msix vec mask s
  | .dieLinkRestored => Sys2Proof.Machine.execDieLinkRestored s
  | .spFrameDiscard => Sys2Proof.Machine.execSpFrameDiscard s

end Sys2Proof.Machine
end

