-- ==== Sys2Proof/WellFormed.lean ====
section
/-!
DEFINITION. The commands that can be sent: an operand that no requester, word, unit or event can carry makes a command
ill-formed. `exec` is total on ill-formed commands too; the checks are the premises of statements that quantify over commands.
-/
namespace Sys2Proof

/-- A requester: PF0, a VF or the service port (R31, R46). -/
def srcOk (src : BitVec 10) : Bool := decide (src.toNat ≤ 512 ∨ src = 0x3FE)
/-- Word 1 exists in MODE 0b11 alone; it is 0 elsewhere (R72). -/
def wordOk (mode : BitVec 2) (w1 : BitVec 14) : Bool := decide (mode = 3 ∨ w1 = 0)
/-- A task entry: T0 to T7, or 8 for TB (R126). -/
def taskOk (t : BitVec 4) : Bool := decide (t.toNat ≤ 8)
/-- What check bits show: no error, a corrected one or an uncorrectable one. -/
def foundOk (found : BitVec 2) : Bool := decide (found.toNat ≤ 2)
/-- A virtual function (R31). -/
def vfOk (vf : BitVec 10) : Bool := decide (1 ≤ vf.toNat ∧ vf.toNat ≤ 512)
/-- A function: PF0 or a VF. -/
def fnOk (fn : BitVec 10) : Bool := decide (fn.toNat ≤ 512)
/-- A store: program, data or image. -/
def storeOk (k : BitVec 2) : Bool := decide (k.toNat ≤ 2)
/-- A watchdog channel: E0 to E127, or S0 and S1 as 0xF0 and 0xF1 (R393). -/
def channelOk (ch : BitVec 8) : Bool := decide (ch.toNat < 128 ∨ ch = 0xF0 ∨ ch = 0xF1)
/-- The data field of a CAN FD frame (R349). -/
def canData (data : List Byte) : Bool := decide (data.length ≤ 64)
/-- DATA lines hold 64 bytes each (table "MIRROR kinds"). -/
def linesOk (lines : List (W × List Byte)) : Bool := lines.all (fun l => decide (l.2.length = 64))
/-- A Cartouche (table "Cartouche"). -/
def cartOk (cart : List Byte) : Bool := decide (cart.length = 256)
/-- One reading of the pins of each of the eight safety outputs (R329). -/
def pinsOk (pins : List SqPins) : Bool := decide (pins.length = 8)
/-- A word 0 that R73 calls illegal. -/
def illegalOk (e : BitVec 7) (w0 : BitVec 14) : Bool := decide (Machine.engDecode e w0 0 = .opIllegal e w0)
/-- What a configuration request writes of MSI-X: nothing, the function's mask or one vector's mask. -/
def msixOk (m : BitVec 2) : Bool := decide (m.toNat ≤ 2)
/-- A write that one PCIe request can carry: 1 to 512 bytes that cross no 4 KiB boundary. PRESUMED (log 70): PCI Express. -/
def packetOk (off : BitVec 28) (data : List Byte) : Bool :=
  decide (1 ≤ data.length ∧ data.length ≤ 512 ∧ off.toNat % 4096 + data.length ≤ 4096)

/-- Whether the command can be sent. -/
def Instr.wf : Instr → Bool
  | .registerWrite src _ _ _ _ => srcOk src
  | .counterLowRead src _ => srcOk src
  | .vfFlr k => vfOk k
  | .pf0Reset => true
  | .pciePerst => true
  | .storeWindowWrite off bytes => packetOk off bytes
  | .imageWindowWrite vf off bytes => vfOk vf && packetOk off bytes
  | .rwpWrite src _ _ => srcOk src
  | .rwpApplied _ _ found _ => foundOk found
  | .farReadComplete src _ _ => srcOk src
  | .seqWrite src _ _ => srcOk src
  | .updateFio src _ => srcOk src
  | .updateCan src _ _ => srcOk src
  | .updateWdg src _ => srcOk src
  | .updateRtc src _ => srcOk src
  | .fioStrobeApply _ => true
  | .canStrobeApply _ _ => true
  | .wdgStrobeApply _ => true
  | .rtcStrobeApply _ => true
  | .survey src => srcOk src
  | .surveyFdieCapture _ => true
  | .aliasWrite src _ _ => srcOk src
  | .opLd _ mode _ w1 => wordOk mode w1
  | .opLdn _ mode _ w1 => wordOk mode w1
  | .opAnd _ mode _ w1 => wordOk mode w1
  | .opAndn _ mode _ w1 => wordOk mode w1
  | .opOr _ mode _ w1 => wordOk mode w1
  | .opOrn _ mode _ w1 => wordOk mode w1
  | .opXor _ mode _ w1 => wordOk mode w1
  | .opXorn _ mode _ w1 => wordOk mode w1
  | .opSt _ mode _ w1 => wordOk mode w1
  | .opStn _ mode _ w1 => wordOk mode w1
  | .opSet _ mode _ w1 => wordOk mode w1
  | .opRst _ mode _ w1 => wordOk mode w1
  | .opNot _ => true
  | .opSetl _ => true
  | .opClrl _ => true
  | .opBpsh _ => true
  | .opBrd _ => true
  | .opBrda _ => true
  | .opBrdo _ => true
  | .opBpop _ => true
  | .opBppa _ => true
  | .opBppo _ => true
  | .opBdrp _ => true
  | .opLra _ => true
  | .opAlr _ => true
  | .opEdp _ mode _ w1 => wordOk mode w1
  | .opEdn _ mode _ w1 => wordOk mode w1
  | .opTon _ mode _ w1 => wordOk mode w1
  | .opTof _ mode _ w1 => wordOk mode w1
  | .opTp _ mode _ w1 => wordOk mode w1
  | .opTrs _ mode _ w1 => wordOk mode w1
  | .opCtu _ mode _ w1 => wordOk mode w1
  | .opCtd _ mode _ w1 => wordOk mode w1
  | .opCrs _ mode _ w1 => wordOk mode w1
  | .opCld _ mode _ w1 => wordOk mode w1
  | .opAdd _ mode _ w1 => wordOk mode w1
  | .opSub _ mode _ w1 => wordOk mode w1
  | .opAdc _ mode _ w1 => wordOk mode w1
  | .opSbc _ mode _ w1 => wordOk mode w1
  | .opMul _ mode _ w1 => wordOk mode w1
  | .opDiv _ mode _ w1 => wordOk mode w1
  | .opMod _ mode _ w1 => wordOk mode w1
  | .opAndw _ mode _ w1 => wordOk mode w1
  | .opOrw _ mode _ w1 => wordOk mode w1
  | .opXorw _ mode _ w1 => wordOk mode w1
  | .opNeg _ => true
  | .opCpl _ => true
  | .opAddk _ _ => true
  | .opAndk _ _ => true
  | .opOrk _ _ => true
  | .opXork _ _ => true
  | .opClrs _ => true
  | .opShl _ mode _ w1 => wordOk mode w1
  | .opShr _ mode _ w1 => wordOk mode w1
  | .opSar _ mode _ w1 => wordOk mode w1
  | .opRol _ mode _ w1 => wordOk mode w1
  | .opRor _ mode _ w1 => wordOk mode w1
  | .opShlk _ _ => true
  | .opShrk _ _ => true
  | .opSark _ _ => true
  | .opRolk _ _ => true
  | .opRork _ _ => true
  | .opFadd _ mode _ w1 => wordOk mode w1
  | .opFsub _ mode _ w1 => wordOk mode w1
  | .opFmul _ mode _ w1 => wordOk mode w1
  | .opFdiv _ mode _ w1 => wordOk mode w1
  | .opFcmp _ mode _ w1 => wordOk mode w1
  | .opItof _ => true
  | .opFtoi _ => true
  | .opFneg _ => true
  | .opFabs _ => true
  | .opCmp _ mode _ w1 => wordOk mode w1
  | .opCmpk _ _ => true
  | .opCnd _ _ => true
  | .opTos _ => true
  | .opTdz _ => true
  | .opTnv _ => true
  | .opTnx _ => true
  | .opJmp _ mode _ w1 => wordOk mode w1
  | .opJc _ mode _ w1 => wordOk mode w1
  | .opCall _ mode _ w1 => wordOk mode w1
  | .opRet _ => true
  | .opJmpx _ => true
  | .opCallx _ => true
  | .opEnd _ => true
  | .opNop _ => true
  | .opLda _ mode _ w1 => wordOk mode w1
  | .opSta _ mode _ w1 => wordOk mode w1
  | .opLdi _ mode _ w1 => wordOk mode w1
  | .opSti _ mode _ w1 => wordOk mode w1
  | .opLdx _ mode _ w1 => wordOk mode w1
  | .opStx _ mode _ w1 => wordOk mode w1
  | .opLdy _ mode _ w1 => wordOk mode w1
  | .opSty _ mode _ w1 => wordOk mode w1
  | .opTax _ => true
  | .opTxa _ => true
  | .opTay _ => true
  | .opTya _ => true
  | .opTxy _ => true
  | .opTyx _ => true
  | .opInx _ => true
  | .opDex _ => true
  | .opIny _ => true
  | .opDey _ => true
  | .opLdk _ _ => true
  | .opLdks _ _ => true
  | .opLxk _ _ => true
  | .opLxks _ _ => true
  | .opAxk _ _ => true
  | .opLyk _ _ => true
  | .opLyks _ _ => true
  | .opAyk _ _ => true
  | .opTrel _ => true
  | .opTmerl _ => true
  | .opTmerh _ => true
  | .opTcyc _ => true
  | .opCanrd _ => true
  | .opCantx _ => true
  | .opCanst _ => true
  | .opCadrd _ => true
  | .opCadwr _ => true
  | .opEvrec _ => true
  | .opImgrq _ => true
  | .opImgwr _ => true
  | .opIrq _ => true
  | .opSfrd _ => true
  | .opSfrst _ => true
  | .opBrk _ => true
  | .opCustomer _ mode _ w1 => wordOk mode w1
  | .opIllegal e w0 => illegalOk e w0
  | .preemption _ => true
  | .taskSwitchDone _ => true
  | .dtSwitch src => srcOk src
  | .dtSwitchApply _ => true
  | .taskRelease _ _ _ => true
  | .inputCopyComplete _ t _ _ => taskOk t
  | .outputCopyComplete _ t _ _ => taskOk t
  | .deadlineOverrun _ t _ => taskOk t
  | .pdRun src _ => srcOk src
  | .runApply _ _ => true
  | .pdStop src _ => srcOk src
  | .stopComplete _ _ => true
  | .stopSending _ _ _ => true
  | .pdHold src _ => srcOk src
  | .heldSending _ _ _ => true
  | .breakpointHit _ => true
  | .pdResume src _ => srcOk src
  | .resumeApply _ _ => true
  | .pdStep src _ _ => srcOk src
  | .pdOptWrite src _ _ => srcOk src
  | .dispatcherCommitGo src => srcOk src
  | .dispatcherCommitApply _ => true
  | .editCommitGo src _ => srcOk src
  | .editBoundary _ _ => true
  | .boundaryPauseEnd _ _ => true
  | .editTimeout _ _ => true
  | .create src => srcOk src
  | .remove src => srcOk src
  | .stage src => srcOk src
  | .unstage src => srcOk src
  | .retclr src => srcOk src
  | .pageZeroed _ => true
  | .trEntryWrite src _ _ => srcOk src
  | .pdMovRangeWrite src _ _ => srcOk src
  | .scrub _ found => foundOk found
  | .pageRetirement k _ _ => storeOk k
  | .retirementCopyDone _ => true
  | .lnModeWrite src _ _ => srcOk src
  | .laneLinkUp _ => true
  | .laneSignalLoss _ _ => true
  | .portReform _ => true
  | .preemptVerified _ => true
  | .portTransmit _ _ => true
  | .gateEntryChange _ _ => true
  | .frameHeaderReceived _ _ _ => true
  | .frameEndReceived _ _ _ _ => true
  | .heldSlotWrite _ _ => true
  | .streamWindowTimeout _ _ => true
  | .switchCommitGo src => srcOk src
  | .switchCommitApply _ => true
  | .gateListApply _ _ => true
  | .queueCommitGo src => srcOk src
  | .queueCommitApply _ => true
  | .moverCommitGo src => srcOk src
  | .moverCommitApply _ => true
  | .movDevRangeWrite src _ => srcOk src
  | .stationTick _ _ => true
  | .heartbeatSend _ => true
  | .ruCommitGo src => srcOk src
  | .ruCommitApply _ => true
  | .leaseRenewal _ => true
  | .leaseExpiry _ => true
  | .witnessRequest _ _ _ _ _ _ => true
  | .witnessClaim _ _ _ _ _ _ => true
  | .witnessRelease _ _ _ _ _ _ => true
  | .witnessHandover _ _ _ _ _ _ _ => true
  | .witnessQuietEnd _ _ => true
  | .grant _ _ _ _ _ _ _ => true
  | .deny _ _ _ _ _ _ _ => true
  | .partnerLeaseLapse _ => true
  | .claim _ => true
  | .claimRetry _ => true
  | .claimRoundTimeout _ => true
  | .mirrorCaptureEnd _ _ _ => true
  | .invec _ _ _ _ _ => true
  | .data _ _ _ lines _ => linesOk lines
  | .result _ _ _ _ _ _ _ _ _ => true
  | .modeFrame _ _ _ _ _ => true
  | .editFrame _ _ _ _ => true
  | .swapFrame _ _ _ => true
  | .resyncFrame _ _ => true
  | .verdict _ _ _ _ _ _ _ _ => true
  | .stateFrame _ _ _ _ => true
  | .stateSend _ => true
  | .ptimeFrame _ _ _ _ _ => true
  | .standbyBlockWaitEnd _ _ _ => true
  | .passIncomplete _ _ _ => true
  | .verdictTimeout _ => true
  | .swapTimer _ => true
  | .swapBoundary _ => true
  | .swapBoundaryTimeout _ => true
  | .swapActiveTimeout _ => true
  | .ruSwap src => srcOk src
  | .ruResync src => srcOk src
  | .rejoin src => srcOk src
  | .leaveCmd src => srcOk src
  | .takeCmd src => srcOk src
  | .meridianSeed _ => true
  | .merStep src => srcOk src
  | .merSeed src => srcOk src
  | .merFracWrite src _ => srcOk src
  | .sync _ _ _ _ _ _ _ _ => true
  | .syncSend _ => true
  | .dreq _ _ _ => true
  | .dresp _ _ _ _ _ => true
  | .dreqSend _ _ => true
  | .syncTimeout _ => true
  | .ppsOutRise _ => true
  | .ppsOutFall _ => true
  | .ppsInEdge _ => true
  | .rtcSecondBoundary _ => true
  | .rtcSet src => srcOk src
  | .corr src _ => srcOk src
  | .dstfwd src => srcOk src
  | .dstback src => srcOk src
  | .measCmd src => srcOk src
  | .measstop src => srcOk src
  | .measComplete _ => true
  | .mainsCrossing _ _ => true
  | .mainsTimeout _ => true
  | .slewStep _ => true
  | .crystalStop => true
  | .crystalResume => true
  | .fioInputSettled _ _ _ _ => true
  | .fioOutputCommand _ => true
  | .fioHostcmdWrite src _ => srcOk src
  | .currentLimit _ _ => true
  | .overloadTrip _ => true
  | .thermalShutdown _ => true
  | .outputRestart _ => true
  | .openLoad _ => true
  | .shortToSupply _ => true
  | .groupUndervoltage _ _ => true
  | .groupOvervoltage _ _ => true
  | .groupOvercurrent _ _ => true
  | .groupConditionEnd _ _ _ => true
  | .tpPulseStart _ _ => true
  | .tpPulseEnd _ _ _ => true
  | .crossShortCheck _ _ _ => true
  | .tpOverload _ => true
  | .tpRetry _ => true
  | .heartbeatReceived _ => true
  | .heartbeatTimeout _ => true
  | .fioRecover src => srcOk src
  | .dclr src => srcOk src
  | .sqlEnableLost _ => true
  | .fatalLineAsserted => true
  | .aliveLineTimeout => true
  | .rootPllLoss => true
  | .lanePllLoss _ => true
  | .supervisorLockstepFail => true
  | .safetyEvaluation _ _ pinsA pinsB _ _ => pinsOk pinsA && pinsOk pinsB
  | .sampleIntervalFault => true
  | .channelALost => true
  | .darkTestHigh _ => true
  | .darkTestLow _ => true
  | .darkTestEnd _ _ _ => true
  | .sqOverload _ _ => true
  | .sfStart src => srcOk src
  | .sfStopCmd src => srcOk src
  | .sfApply src => srcOk src
  | .setTakesEffect _ _ => true
  | .sfReset src => srcOk src
  | .sfOclr src => srcOk src
  | .canRecover src _ => srcOk src
  | .canAck src _ _ => srcOk src
  | .reqCmd src _ _ => srcOk src
  | .cancelCmd src _ _ => srcOk src
  | .canFrameReceived _ _ _ bytes _ _ => canData bytes
  | .heldFrameWrite _ _ => true
  | .canTransmitStart _ _ _ => true
  | .canTransmitDone _ _ _ => true
  | .canBusError _ _ _ _ _ => true
  | .busOffRecoveryDone _ => true
  | .referenceMessageDue _ _ => true
  | .ttSyncLoss _ _ => true
  | .triggerFire _ _ _ => true
  | .triggerWindowEnd _ _ _ => true
  | .faultEvent _ _ _ _ _ _ _ => true
  | .collectorStateMessage => true
  | .dumpSequencerDone => true
  | .dumpPageWritten => true
  | .dumpComplete _ _ => true
  | .fatalResetTimeout => true
  | .rcOscillatorFail => true
  | .dieLinkDown => true
  | .supplyOutOfRange => true
  | .engineBist src _ => srcOk src
  | .bistDone _ _ => true
  | .vaoPowerOn _ => true
  | .vaoBrownout => true
  | .resetN _ => true
  | .ldiePowerGood _ => true
  | .ldiePowerGoodLoss => true
  | .cold src => srcOk src
  | .warm src => srcOk src
  | .engineCmd src _ => srcOk src
  | .blockCmd src _ => srcOk src
  | .blockhold src _ => srcOk src
  | .blockrel src _ => srcOk src
  | .partitionCmd src _ => srcOk src
  | .engineResetRelease _ _ => true
  | .blockResetRelease _ _ => true
  | .fdiePorRelease => true
  | .nvRecallDone => true
  | .optionBytesRead => true
  | .fdieBootComplete => true
  | .rootPllLocked _ => true
  | .resetTimeTestsDone _ _ => true
  | .firmwareLoaded _ _ _ => true
  | .watchdogWindowOpen ch _ => channelOk ch
  | .engineWatchdogAnswer _ _ => true
  | .wdgSsvc _ _ _ _ => true
  | .watchdogExpiry ch _ _ => channelOk ch
  | .hardTimerExpiry ch _ => channelOk ch
  | .nvRead src found => srcOk src && foundOk found
  | .nvWrite src => srcOk src
  | .cadsave src => srcOk src
  | .nvPageWriteDone _ => true
  | .operatingHour _ => true
  | .autosave _ => true
  | .caddySaveDone _ => true
  | .powerFail => true
  | .powerFailWithdrawn => true
  | .cadAllocWrite src _ _ => srcOk src
  | .eventAdmission => true
  | .tokenRefill _ => true
  | .eventPageWrite => true
  | .eventBufferTimeout => true
  | .evrFreeze src => srcOk src
  | .evrUnfreeze src => srcOk src
  | .evrClear src => srcOk src
  | .freezeTimeout _ => true
  | .evrRdIdxWrite src _ => srcOk src
  | .identify => true
  | .openSession _ => true
  | .closeSession _ _ => true
  | .sessionTimeout _ => true
  | .spChallenge _ _ _ _ => true
  | .spResponse _ _ _ => true
  | .spRelinquish _ _ => true
  | .spRead _ _ _ _ _ _ => true
  | .spWrite _ _ _ _ _ _ => true
  | .xbegin _ _ _ cart => cartOk cart
  | .xdata _ _ _ _ => true
  | .xend _ _ => true
  | .activate _ _ _ => true
  | .confirm _ _ _ => true
  | .fallback _ _ _ => true
  | .optwr _ _ _ _ _ => true
  | .evfreeze _ _ => true
  | .evread _ _ _ => true
  | .evunfreeze _ _ => true
  | .evclear _ _ => true
  | .dumpread _ _ _ _ _ => true
  | .spHold _ _ _ => true
  | .spResume _ _ _ => true
  | .spStep _ _ _ _ => true
  | .brkset _ _ _ _ _ => true
  | .brkclr _ _ _ _ => true
  | .auChallenge => true
  | .auResponse => true
  | .auRelinquish => true
  | .keyset src => srcOk src
  | .keyclr src => srcOk src
  | .exchangeTimeout _ => true
  | .grantExpiry _ _ => true
  | .lockoutEnd _ => true
  | .managementPauseEnd _ => true
  | .settingsConversionDone _ => true
  | .fdieUpdatePauseEnd _ => true
  | .fcoreRestartDone => true
  | .spCfgWrite src _ _ => srcOk src
  | .spMacWrite src _ _ => srcOk src
  | .registerRead src _ _ _ => srcOk src
  | .configurationRequest fn _ msix _ _ => fnOk fn && msixOk msix
  | .dieLinkRestored => true
  | .spFrameDiscard => true

end Sys2Proof
end

