-- ==== Sys2Proof/Machine/Step.lean ====
section
/-!
DEFINITION. One step of the block: the command at the front of the queue is taken and runs with the rest of the queue; on an
empty queue one CLK_FAB clock passes.
-/
namespace Sys2Proof.Machine

/-- The command at the front runs. With no command waiting, one CLK_FAB clock passes (R275). DESIGN CHOICE (log 4, 180, 186). DESIGN CHOICE (log 186). -/
def step (s : State) : Host.Outcome State Fault Refusal :=
  match s.pending with
  | [] => .next (s.elapse 1)
  | c :: rest => exec c { s with pending := rest }

/-- The state with the command that a word spells put at the front of the queue; unchanged where the word spells none. DESIGN CHOICE (log 8). -/
def State.withFetchWord (s : State) (nbits w : Nat) : State :=
  match decodeTableWord nbits w with
  | some c => { s with pending := c :: s.pending }
  | none => s

end Sys2Proof.Machine
end

