-- ==== Sys2Proof/Safety.lean ====
section
/-!
DEFINITION. What a good state is, and what a safe run is, in the terms the statements use.
-/
namespace Sys2Proof

open Sys2Proof.Machine

/-- The stores, the applied registers and the pending values stand in canonical form: keys strictly rising and no entry equal
to what an unlisted key reads as, so that equal contents are equal data. -/
abbrev Canonical (s : State) : Prop :=
  Memory.wf s.mem = true ∧ FMap.wf (regReset s.fuse) s.regs = true ∧ FMap.wf (regReset s.fuse) s.pend = true

/-- The state goes on: its step answers a next state, no fault and no refusal. -/
def GoesOn (s : State) : Prop := ∃ t, step s = .next t

/-- `t` is reached from `s` by steps. -/
inductive Reaches : State → State → Prop where
  | here (s : State) : Reaches s s
  | more {s t u : State} : Reaches s t → step t = .next u → Reaches s u

/-- Every state that steps reach from `s` goes on. -/
def SafeRun (s : State) : Prop := ∀ t, Reaches s t → GoesOn t

/-! ### The pass of an engine instruction, as the statements about instructions say it -/

/-- Task `t` of partition `p` issues on engine `e`, and its `w` instruction words are fetched without a trap. -/
abbrev Issues (s : State) (e p t w : Nat) : Prop :=
  s.issuer e = some (p, t) ∧ s.fetchOk p (s.task p t).ctx.p.toNat w = .ok ()

/-- Where P goes after an instruction of `w` words: past them, or to the target of the taken jump whose delay slot it fills
(R67, R87). -/
def nextP (c : Ctx) (w : Nat) : BitVec 20 := (c.slot.getD none).getD (c.p + BitVec.ofNat 20 w)

/-- The state after an instruction of `w` words and `clks` clocks whose own effect left the context `c'` and the store record
`r`: its clocks pass, P moves on, and the boundary brings what it brings. -/
def afterPass (s : State) (p t w clks : Nat) (r : Option StoreRec) (c' : Ctx) : State :=
  (s.setTask p t { s.task p t with
    ctx := { Ctx.clocks clks { c' with srec := r } with p := nextP (s.task p t).ctx w, slot := none }
    passBrk := false }).atBoundary p t

/-- The state after a jump of `w` words: P moves past it and its delay slot opens; `tgt` is the target of a taken jump. -/
def afterJump (s : State) (p t w : Nat) (r : Option StoreRec) (c' : Ctx) (tgt : Option (BitVec 20)) : State :=
  (s.setTask p t { s.task p t with
    ctx := { Ctx.clocks w { c' with srec := r } with p := (s.task p t).ctx.p + BitVec.ofNat 20 w, slot := some tgt }
    passBrk := false }).atBoundary p t

/-- The state after a SYS service that left `r` in the device and whose results are `f`: every result in flight has landed (R100). -/
def afterService (s r : State) (p t : Nat) (f : Ctx → Ctx) : State :=
  (r.setTask p t { r.task p t with
    ctx := { f (s.task p t).ctx.drain with p := (s.task p t).ctx.p + 1 }, passBrk := false }).atBoundary p t

/-- The store record of one stored word (R98). -/
def record (img : Bool) (w : Nat) (old : W) (clks : Nat) : Option StoreRec :=
  some { image := img, words := [(w, old)], next := decide (clks = 1) }

/-! ### Who may command what -/

/-- A write by `src` reaches the descriptor of partition `q`: PF0 and the service port name it, a VF that is enabled
reaches its own created partition (R31, R32, R38). -/
abbrev ReachesPart (s : State) (src : BitVec 10) (p : BitVec 9) (q : Nat) : Prop :=
  q = accPart src.toNat p.toNat ∧ q < s.fuse.partitions ∧ s.fnOn src.toNat = true ∧ (isVf src.toNat = true → s.mode q ≠ 0)

/-- A command of partition `q` can be accepted: it is reached, BUSY is 0 and it is no standby copy (R144, R256). -/
abbrev CommandOpen (s : State) (src : BitVec 10) (p : BitVec 9) (q : Nat) : Prop :=
  ReachesPart s src p q ∧ s.rb (aPD_CMD_STAT q) 0 = false ∧ s.standbyCopy q = false

end Sys2Proof
end

