-- ==== Sys2Proof/Certificates/Slice0/Obligations.lean ====
section
/-!
DEFINITION. The statements for the provers. Each is named for what it states; OBLIGATIONS.json gives the rules of spec/ it rests on.
-/

set_option linter.unusedVariables false

open Sys2Proof Sys2Proof.Machine

/-- A step takes the command at the front of the queue, and every command completes; on an empty queue one clock passes (the model's choice, log 4). R19, R275. -/
def Obligations.StepTakesTheFrontCommand : Prop :=
  (∀ (c : Instr) (rest : List Instr) (s : State), s.pending = c :: rest → step s = exec c { s with pending := rest }) ∧
  (∀ (c : Instr) (s : State), ∃ t, exec c s = .next t) ∧
  ∀ s : State, s.pending = [] →
    step s = .next { s with mer := if s.clkStop then s.mer else s.mer + BitVec.ofNat 96 (2 ^ 32 + (s.reg aMER_FRAC).toNat), fab := s.fab + 1 }

/-- Every step keeps the stores and the registers in canonical form. R37, R168. -/
def Obligations.StepKeepsCanonicalForm : Prop :=
  ∀ s t : State, Canonical s → step s = .next t → Canonical t

/-- The state after reset has the canonical form. R168, R379. -/
def Obligations.ResetIsCanonical : Prop :=
  Canonical State.reset

/-- What the first reset leaves. R168, R115, R379. -/
def Obligations.ResetLeavesDocumentedValues : Prop :=
  (∀ a, State.reset.rdByte a = 0) ∧ (∀ p < 512, State.reset.mode p = 0) ∧
    (∀ n < 14336, State.reset.pgState 1 n = pgFree) ∧ (∀ n, 14336 ≤ n → n < 16384 → State.reset.pgState 1 n = pgDevice) ∧
    State.reset.reg aTR_FREE_PROG = 8192 ∧ State.reset.reg aTR_FREE_DATA = 14336 ∧ State.reset.reg aTR_FREE_IMG = 4096 ∧
    (∀ b < 2, ∀ e < 64, State.reset.dtEntry b e = List.replicate 64 0) ∧ State.reset.dtActive = 0 ∧
    State.reset.reg aDT_ACTIVE_ID = 0 ∧ (∀ n < 128, State.reset.laneMode n = 0) ∧ State.reset.rb aRTC_STAT 0 = false ∧
    State.reset.reg aAU_GRANT = 0 ∧ State.reset.pending = []

/-- A register written reads the value written, and no other register changes. -/
def Obligations.RegisterWriteThenRead : Prop :=
  ∀ (s : State) (a b : Nat) (v : W),
    (FMap.wf (regReset s.fuse) s.regs = true →
      (s.setReg a v).reg b = (if b = a then v else s.reg b) ∧ FMap.wf (regReset s.fuse) (s.setReg a v).regs = true) ∧
    (∃ r, s.setReg a v = { s with regs := r }) ∧
    (FMap.wf (regReset s.fuse) s.pend = true →
      (s.setPnd a v).pnd b = (if b = a then v else s.pnd b) ∧ FMap.wf (regReset s.fuse) (s.setPnd a v).pend = true) ∧
    (∃ r, s.setPnd a v = { s with pend := r }) ∧
    (∀ hi lo hi' lo' n : Nat, FMap.wf (regReset s.fuse) s.regs = true → lo ≤ hi → hi < 32 → lo' ≤ hi' → hi' < 32 →
      (s.setRf a hi lo n).rf a hi lo = n % 2 ^ (hi + 1 - lo) ∧
      ((hi < lo' ∨ hi' < lo) → (s.setRf a hi lo n).rf a hi' lo' = s.rf a hi' lo'))

/-- A store word written reads the value written, and no other byte of the stores changes. R36, R37, R466. -/
def Obligations.StoreWordWriteThenRead : Prop :=
  ∀ (s : State) (a b : Nat) (v : W), Memory.wf s.mem = true → FMap.wf (fun _ => false) s.bad = true → a % 4 = 0 → b % 4 = 0 →
    (s.wrMem a v).rdMem a = v ∧ (b ≠ a → (s.wrMem a v).rdMem b = s.rdMem b) ∧
    (∀ c, c < a ∨ a + 4 ≤ c → (s.wrMem a v).rdByte c = s.rdByte c) ∧ Memory.wf (s.wrMem a v).mem = true ∧
    (s.wrMem a v).isBad a = false ∧ (∀ c, c ≠ a → (s.wrMem a v).isBad c = s.isBad c)

/-- Decoding the words of an engine instruction gives the instruction back. R72, R73. -/
def Obligations.EngineWordsRoundTrip : Prop :=
  ∀ (i : Instr) (w0 : BitVec 14) (o : Option (BitVec 14)), i.wf = true → engEncode i = some (w0, o) →
    (∀ x : BitVec 14, engDecode (engOf i) w0 (o.getD x) = i) ∧ instrWords w0 = (if o.isSome then 2 else 1)

/-- Words written out from the encoding tables decode to the instructions they stand for. R72, R73. -/
def Obligations.EngineWordsFromTheEncoding : Prop :=
  ∀ (e : BitVec 7) (x : BitVec 14),
    engDecode e 0x0005 x = .opLd e 0 5 0 ∧ engDecode e 0x1943 x = .opSta e 1 3 0 ∧
    engDecode e 0x1AC2 0x1234 = .opAdd e 3 2 0x1234 ∧ engDecode e 0x381A x = .opCnd e 0xA ∧
    engDecode e 0x39C0 0x2001 = .opLdk e 0x2001 ∧ engDecode e 0x3A11 x = .opCadwr e ∧ engDecode e 0x3A3F x = .opBrk e ∧
    engDecode e 0x3801 x = .opEnd e ∧ engDecode e 0x3F87 x = .opCustomer e 2 7 0 ∧
    engDecode e 0x3B00 x = .opIllegal e 0x3B00 ∧ engDecode e 0x0E00 x = .opIllegal e 0x0E00

/-- Which task an engine executes, and what the boundary after an instruction brings. R19, R104, R134, R146, R149, R150.
Completes (1 form answers a next state, under premises on state and operands alone): opNop. -/
def Obligations.WhichTaskIssues : Prop :=
  ∀ (s : State) (e p t : Nat), t < 16 →
    ((s.eng e).run = none ∨ s.clkStop = true → s.issuer e = none) ∧
    (s.clkStop = false → (s.eng e).run = some (p * 16 + t) →
      ((s.task p t).ctx.slot.isSome → s.issuer e = some (p, t)) ∧
      ((s.task p t).ctx.slot = none → s.mode p = 2 → (∀ b ∈ (s.part p).brk, b.2 ≠ (s.task p t).ctx.p) →
        s.issuer e = some (p, t)) ∧
      ((s.task p t).ctx.slot = none → s.mode p = 2 → (∃ b ∈ (s.part p).brk, b.2 = (s.task p t).ctx.p) →
        s.issuer e = if (s.task p t).passBrk || (s.task p t).stepping || (s.holdRefusal p).isSome then some (p, t) else none) ∧
      ((s.task p t).ctx.slot = none → s.mode p = 1 ∨ s.mode p = 0 → s.issuer e = none) ∧
      ((s.task p t).ctx.slot = none → s.mode p = 3 → (s.task p t).stepping = false → s.issuer e = none) ∧
      ((s.task p t).ctx.slot = none → s.mode p = 3 → (s.task p t).stepping = true → s.issuer e = some (p, t))) ∧
    (∀ e' : BitVec 7, s.issuer e'.toNat = none → exec (.opNop e') s = .next s) ∧
    ((s.task p t).ctx.slot.isSome → s.atBoundary p t = s) ∧
    ((s.task p t).ctx.slot = none →
      (s.mode p = 2 → s.atBoundary p t = s) ∧
      (s.mode p = 1 → s.atBoundary p t = s.offTask p t) ∧
      (s.mode p = 3 → (s.task p t).stepping = true → s.atBoundary p t = s.endStep p t) ∧
      (s.mode p = 3 → (s.task p t).stepping = false → (s.task p t).toHold = true →
        s.atBoundary p t = (s.freezeTask p t tRunning).freeEngine (s.task p t).eng))

/-- A trap is captured once, with its cause, P, space and address. R74, R75, R45. -/
def Obligations.TrapCapturesTheFirst : Prop :=
  ∀ (s : State) (e p t pc : Nat) (d : Bool) (tr : Trap), FMap.wf (regReset s.fuse) s.regs = true → e < 128 →
    (s.captureTrap e p t d pc tr).mem = s.mem ∧ (s.captureTrap e p t d pc tr).tasks = s.tasks ∧
    (s.captureTrap e p t d pc tr).reg (aENG_TRAP_SEQ e) = s.reg (aENG_TRAP_SEQ e) + 1 ∧
    (s.rb (aENG_TRAP e) 8 = false →
      (s.captureTrap e p t d pc tr).reg (aENG_TRAP e) = BitVec.ofNat 32 (p * 65536 + taskCode t * 4096 + 256 + tr.cause) ∧
      (s.captureTrap e p t d pc tr).reg (aENG_TRAP_P e) = BitVec.ofNat 32 (d.toNat * 2 ^ 20 + pc) ∧
      (s.captureTrap e p t d pc tr).reg (aENG_TRAP_ADDR e) = BitVec.ofNat 32 (tr.space * 2 ^ 30 + tr.ea)) ∧
    (s.rb (aENG_TRAP e) 8 = true → ∀ a, a ≠ aENG_TRAP_SEQ e → (s.captureTrap e p t d pc tr).reg a = s.reg a)

/-- LD, LDN, AND, ANDN, OR, ORN, XOR and XORN: LR, in every operand mode. R68, R72, R74.
Completes (8 forms answer a next state, under premises on state and operands alone): opLd, opLdn, opAnd, opAndn, opOr, opOrn, opXor, opXorn. -/
def Obligations.BitLogicResult : Prop :=
  ∀ (s : State) (e : BitVec 7) (m : BitVec 2) (x : BitVec 6) (w : BitVec 14) (p t : Nat),
    let o : Opnd := ⟨m, x, w⟩
    let c := (s.task p t).ctx;
    Issues s e.toNat p t o.words →
    (∀ b, s.readBit c p (o.ea c .bit) = .ok b →
      exec (.opLd e m x w) s = .next (afterPass s p t o.words o.words none { c with lr := b }) ∧
      exec (.opLdn e m x w) s = .next (afterPass s p t o.words o.words none { c with lr := !b }) ∧
      exec (.opAnd e m x w) s = .next (afterPass s p t o.words o.words none { c with lr := c.lr && b }) ∧
      exec (.opAndn e m x w) s = .next (afterPass s p t o.words o.words none { c with lr := c.lr && !b }) ∧
      exec (.opOr e m x w) s = .next (afterPass s p t o.words o.words none { c with lr := c.lr || b }) ∧
      exec (.opOrn e m x w) s = .next (afterPass s p t o.words o.words none { c with lr := c.lr || !b }) ∧
      exec (.opXor e m x w) s = .next (afterPass s p t o.words o.words none { c with lr := xor c.lr b }) ∧
      exec (.opXorn e m x w) s = .next (afterPass s p t o.words o.words none { c with lr := xor c.lr (!b) })) ∧
    (∀ tr, s.readBit c p (o.ea c .bit) = .error tr →
      exec (.opLd e m x w) s = .next (s.trap e.toNat p t tr) ∧
      exec (.opLdn e m x w) s = .next (s.trap e.toNat p t tr) ∧
      exec (.opAnd e m x w) s = .next (s.trap e.toNat p t tr) ∧
      exec (.opAndn e m x w) s = .next (s.trap e.toNat p t tr) ∧
      exec (.opOr e m x w) s = .next (s.trap e.toNat p t tr) ∧
      exec (.opOrn e m x w) s = .next (s.trap e.toNat p t tr) ∧
      exec (.opXor e m x w) s = .next (s.trap e.toNat p t tr) ∧
      exec (.opXorn e m x w) s = .next (s.trap e.toNat p t tr))

/-- ST, STN, SET and RST: one bit of one store word, and nothing else of memory. R70, R72, R74, R98.
Completes (4 forms answer a next state, under premises on state and operands alone): opSt, opStn, opSet, opRst. -/
def Obligations.BitStoreResult : Prop :=
  ∀ (s : State) (e : BitVec 7) (m : BitVec 2) (x : BitVec 6) (w : BitVec 14) (p t : Nat) (a : Nat),
    let o : Opnd := ⟨m, x, w⟩
    let c := (s.task p t).ctx;
    let img := (bitPlace (o.ea c .bit)).1
    let v := (bitPlace (o.ea c .bit)).2.1
    let k := (bitPlace (o.ea c .bit)).2.2
    Issues s e.toNat p t o.words →
    (s.locate p img v .bit (o.ea c .bit) = .ok a → s.isBad a = false →
      exec (.opSt e m x w) s = .next (afterPass (s.wrMem a (putBit (s.rdMem a) k c.lr)) p t o.words o.words (record img v (s.rdMem a) o.words) c) ∧
      exec (.opStn e m x w) s = .next (afterPass (s.wrMem a (putBit (s.rdMem a) k (!c.lr))) p t o.words o.words (record img v (s.rdMem a) o.words) c) ∧
      (c.lr = true → exec (.opSet e m x w) s = .next (afterPass (s.wrMem a (putBit (s.rdMem a) k true)) p t o.words o.words (record img v (s.rdMem a) o.words) c)) ∧
      (c.lr = true → exec (.opRst e m x w) s = .next (afterPass (s.wrMem a (putBit (s.rdMem a) k false)) p t o.words o.words (record img v (s.rdMem a) o.words) c))) ∧
    (s.locate p img v .bit (o.ea c .bit) = .ok a → c.lr = false →
      exec (.opSet e m x w) s = .next (afterPass s p t o.words o.words none c) ∧
      exec (.opRst e m x w) s = .next (afterPass s p t o.words o.words none c)) ∧
    (∀ tr, s.locate p img v .bit (o.ea c .bit) = .error tr →
      exec (.opSt e m x w) s = .next (s.trap e.toNat p t tr) ∧
      exec (.opStn e m x w) s = .next (s.trap e.toNat p t tr) ∧
      exec (.opSet e m x w) s = .next (s.trap e.toNat p t tr) ∧
      exec (.opRst e m x w) s = .next (s.trap e.toNat p t tr))

/-- NOT, SETL, CLRL, LRA, ALR and the branch stack: results, depth and traps 0x06 and 0x07. R76, R74.
Completes (13 forms answer a next state, under premises on state and operands alone): opNot, opSetl, opClrl, opLra, opAlr, opBpsh, opBrd, opBrda,
opBrdo, opBpop, opBppa, opBppo, opBdrp. -/
def Obligations.LrAndBranchStackResult : Prop :=
  ∀ (s : State) (e : BitVec 7) (p t : Nat),
    let c := (s.task p t).ctx;
    Issues s e.toNat p t 1 →
      exec (.opNot e) s = .next (afterPass s p t 1 1 none { c with lr := !c.lr }) ∧
      exec (.opSetl e) s = .next (afterPass s p t 1 1 none { c with lr := true }) ∧
      exec (.opClrl e) s = .next (afterPass s p t 1 1 none { c with lr := false }) ∧
      exec (.opLra e) s = .next (afterPass s p t 1 1 none { c with inA := some (if c.lr then 1 else 0, 2) }) ∧
      exec (.opAlr e) s = .next (afterPass s p t 1 1 none { c with lr := !(c.a == 0) }) ∧
      (c.bsd < 16 → exec (.opBpsh e) s = .next (afterPass s p t 1 1 none { c with bsd := c.bsd + 1, bs := (c.bs &&& ~~~(BitVec.twoPow 16 c.bsd)) ||| (if c.lr then BitVec.twoPow 16 c.bsd else 0) })) ∧
      (16 ≤ c.bsd → exec (.opBpsh e) s = .next (s.trap e.toNat p t (Trap.plain 6))) ∧
      (0 < c.bsd → exec (.opBrd e) s = .next (afterPass s p t 1 1 none { c with lr := c.bs.getLsbD (c.bsd - 1), bsd := c.bsd - 0 })) ∧
      (0 < c.bsd → exec (.opBrda e) s = .next (afterPass s p t 1 1 none { c with lr := (c.lr && c.bs.getLsbD (c.bsd - 1)), bsd := c.bsd - 0 })) ∧
      (0 < c.bsd → exec (.opBrdo e) s = .next (afterPass s p t 1 1 none { c with lr := (c.lr || c.bs.getLsbD (c.bsd - 1)), bsd := c.bsd - 0 })) ∧
      (0 < c.bsd → exec (.opBpop e) s = .next (afterPass s p t 1 1 none { c with lr := c.bs.getLsbD (c.bsd - 1), bsd := c.bsd - 1 })) ∧
      (0 < c.bsd → exec (.opBppa e) s = .next (afterPass s p t 1 1 none { c with lr := (c.lr && c.bs.getLsbD (c.bsd - 1)), bsd := c.bsd - 1 })) ∧
      (0 < c.bsd → exec (.opBppo e) s = .next (afterPass s p t 1 1 none { c with lr := (c.lr || c.bs.getLsbD (c.bsd - 1)), bsd := c.bsd - 1 })) ∧
      (0 < c.bsd → exec (.opBdrp e) s = .next (afterPass s p t 1 1 none { c with lr := c.lr, bsd := c.bsd - 1 })) ∧
      (c.bsd = 0 → exec (.opBrd e) s = .next (s.trap e.toNat p t (Trap.plain 7)) ∧ exec (.opBrda e) s = .next (s.trap e.toNat p t (Trap.plain 7)) ∧ exec (.opBrdo e) s = .next (s.trap e.toNat p t (Trap.plain 7)) ∧ exec (.opBpop e) s = .next (s.trap e.toNat p t (Trap.plain 7)) ∧ exec (.opBppa e) s = .next (s.trap e.toNat p t (Trap.plain 7)) ∧ exec (.opBppo e) s = .next (s.trap e.toNat p t (Trap.plain 7)) ∧ exec (.opBdrp e) s = .next (s.trap e.toNat p t (Trap.plain 7)))

/-- EDP and EDN: the edge in LR and the level kept in the operand bit. R80, R70, R98.
Completes (2 forms answer a next state, under premises on state and operands alone): opEdp, opEdn. -/
def Obligations.EdgeResult : Prop :=
  ∀ (s : State) (e : BitVec 7) (m : BitVec 2) (x : BitVec 6) (w : BitVec 14) (p t : Nat) (a : Nat),
    let o : Opnd := ⟨m, x, w⟩
    let c := (s.task p t).ctx;
    let img := (bitPlace (o.ea c .bit)).1
    let v := (bitPlace (o.ea c .bit)).2.1
    let k := (bitPlace (o.ea c .bit)).2.2
    Issues s e.toNat p t o.words → s.locate p img v .bit (o.ea c .bit) = .ok a → s.isBad a = false → c.recorded img v = none →
      exec (.opEdp e m x w) s = .next (afterPass (s.wrMem a (putBit (s.rdMem a) k c.lr)) p t o.words (o.words + 1) (record img v (s.rdMem a) (o.words + 1)) { c with lr := c.lr && !(bitAt (s.rdMem a) k) }) ∧
      exec (.opEdn e m x w) s = .next (afterPass (s.wrMem a (putBit (s.rdMem a) k c.lr)) p t o.words (o.words + 1) (record img v (s.rdMem a) (o.words + 1)) { c with lr := !c.lr && bitAt (s.rdMem a) k })

/-- TON, TOF, TP and TRS: the block after the time step, and LR. R77, R78, R80.
Completes (4 forms answer a next state, under premises on state and operands alone): opTon, opTof, opTp, opTrs. -/
def Obligations.TimerBlockResult : Prop :=
  ∀ (s : State) (e : BitVec 7) (m : BitVec 2) (x : BitVec 6) (w : BitVec 14) (p t : Nat) (ws : List W) (wr : List MemWr),
    let o : Opnd := ⟨m, x, w⟩
    let c := (s.task p t).ctx;
    Issues s e.toNat p t o.words → s.readBlock c p (o.ea c .word) 4 = .ok ws →
    let st := (Tmr.ofWords ws).step (s.stampUs p t)
    (s.storeBlock p (o.ea c .word) (st.1.ton st.2 c.lr).words = .ok wr → wr ≠ [] →
      exec (.opTon e m x w) s = .next (afterPass (wr.foldl (fun s k => s.wrMem k.a k.new) s) p t o.words (o.words + 3) (some { image := false, words := wr.map (fun k => (k.w, k.old)), next := decide (o.words + 3 = 1) }) { c with lr := (st.1.ton st.2 c.lr).q })) ∧
    (s.storeBlock p (o.ea c .word) (st.1.tof st.2 c.lr).words = .ok wr → wr ≠ [] →
      exec (.opTof e m x w) s = .next (afterPass (wr.foldl (fun s k => s.wrMem k.a k.new) s) p t o.words (o.words + 3) (some { image := false, words := wr.map (fun k => (k.w, k.old)), next := decide (o.words + 3 = 1) }) { c with lr := (st.1.tof st.2 c.lr).q })) ∧
    (s.storeBlock p (o.ea c .word) (st.1.tp st.2 c.lr).words = .ok wr → wr ≠ [] →
      exec (.opTp e m x w) s = .next (afterPass (wr.foldl (fun s k => s.wrMem k.a k.new) s) p t o.words (o.words + 3) (some { image := false, words := wr.map (fun k => (k.w, k.old)), next := decide (o.words + 3 = 1) }) { c with lr := (st.1.tp st.2 c.lr).q })) ∧
    (s.storeBlock p (o.ea c .word) (if c.lr then (Tmr.ofWords ws).reset else Tmr.ofWords ws).words = .ok wr → wr ≠ [] →
      exec (.opTrs e m x w) s = .next (afterPass (wr.foldl (fun s k => s.wrMem k.a k.new) s) p t o.words (o.words + 2) (some { image := false, words := wr.map (fun k => (k.w, k.old)), next := decide (o.words + 2 = 1) }) { c with lr := c.lr }))

/-- What TON, TOF, TP and TRS do to a block: preset, elapsed time, Q. R78, R79, R80. -/
def Obligations.TimerLaws : Prop :=
  ∀ (b : Tmr) (d t : W) (i : Bool),
    (b.ton d i).pt = b.pt ∧ (b.tof d i).pt = b.pt ∧ (b.tp d i).pt = b.pt ∧
    (b.ton d false).et = 0 ∧ (b.ton d false).q = false ∧
    (b.inp = true → (b.ton d true).et.toNat = min b.pt.toNat (b.et.toNat + d.toNat) ∧
      ((b.ton d true).q = true ↔ b.pt.toNat ≤ (b.ton d true).et.toNat)) ∧
    (b.tof d true).q = true ∧ (b.tof d true).et = 0 ∧
    (b.run = true → b.et.toNat + d.toNat < b.pt.toNat → (b.tp d i).run = true ∧ (b.tp d i).q = b.q ∧ (b.tp d i).et.toNat = b.et.toNat + d.toNat) ∧
    (b.run = true → b.pt.toNat ≤ b.et.toNat + d.toNat → (b.tp d i).run = false ∧ (b.tp d i).q = false ∧ (b.tp d i).et = b.pt) ∧
    (b.reset.et = 0 ∧ b.reset.q = false ∧ b.reset.run = false ∧ b.reset.inp = false ∧ b.reset.pt = b.pt) ∧
    (b.init = false → b.step t = ({ b with stamp := t, init := true }, 0)) ∧
    (b.init = true → 2 ^ 31 ≤ (t - b.stamp).toNat → b.step t = (b, 0)) ∧
    (b.init = true → (t - b.stamp).toNat < 2 ^ 31 → b.step t = ({ b with stamp := t }, t - b.stamp))

/-- CTU, CTD, CRS and CLD: the block and LR. R77, R80.
Completes (4 forms answer a next state, under premises on state and operands alone): opCtu, opCtd, opCrs, opCld. -/
def Obligations.CounterBlockResult : Prop :=
  ∀ (s : State) (e : BitVec 7) (m : BitVec 2) (x : BitVec 6) (w : BitVec 14) (p t : Nat) (ws : List W) (wr : List MemWr),
    let o : Opnd := ⟨m, x, w⟩
    let c := (s.task p t).ctx;
    let b := Ctr.ofWords ws
    Issues s e.toNat p t o.words → s.readBlock c p (o.ea c .word) 3 = .ok ws →
    (s.storeBlock p (o.ea c .word) ({ b with cv := if c.lr && !b.ui then (if b.cv = 0x7FFFFFFF then b.cv else b.cv + 1) else b.cv, ui := c.lr } : Ctr).words = .ok wr → wr ≠ [] →
      exec (.opCtu e m x w) s = .next (afterPass (wr.foldl (fun s k => s.wrMem k.a k.new) s) p t o.words (o.words + 2) (some { image := false, words := wr.map (fun k => (k.w, k.old)), next := decide (o.words + 2 = 1) }) { c with lr := decide (b.pv.toInt ≤ (if c.lr && !b.ui then (if b.cv = 0x7FFFFFFF then b.cv else b.cv + 1) else b.cv).toInt) })) ∧
    (s.storeBlock p (o.ea c .word) ({ b with cv := if c.lr && !b.di then (if b.cv = 0x80000000 then b.cv else b.cv - 1) else b.cv, di := c.lr } : Ctr).words = .ok wr → wr ≠ [] →
      exec (.opCtd e m x w) s = .next (afterPass (wr.foldl (fun s k => s.wrMem k.a k.new) s) p t o.words (o.words + 2) (some { image := false, words := wr.map (fun k => (k.w, k.old)), next := decide (o.words + 2 = 1) }) { c with lr := decide ((if c.lr && !b.di then (if b.cv = 0x80000000 then b.cv else b.cv - 1) else b.cv).toInt ≤ 0) })) ∧
    (s.storeBlock p (o.ea c .word) ({ b with cv := if c.lr then 0 else b.cv } : Ctr).words = .ok wr → wr ≠ [] →
      exec (.opCrs e m x w) s = .next (afterPass (wr.foldl (fun s k => s.wrMem k.a k.new) s) p t o.words (o.words + 2) (some { image := false, words := wr.map (fun k => (k.w, k.old)), next := decide (o.words + 2 = 1) }) { c with lr := c.lr })) ∧
    (s.storeBlock p (o.ea c .word) ({ b with cv := if c.lr then b.pv else b.cv } : Ctr).words = .ok wr → wr ≠ [] →
      exec (.opCld e m x w) s = .next (afterPass (wr.foldl (fun s k => s.wrMem k.a k.new) s) p t o.words (o.words + 2) (some { image := false, words := wr.map (fun k => (k.w, k.old)), next := decide (o.words + 2 = 1) }) { c with lr := c.lr }))

/-- ADD, SUB, ADC, SBC, MUL, DIV, MOD, NEG and ADDK: result, flags, distance and the trap of a zero divisor. R81, R82, R66, R95, R96.
Completes (9 forms answer a next state, under premises on state and operands alone): opAdd, opSub, opAdc, opSbc, opMul, opDiv, opMod, opNeg, opAddk. -/
def Obligations.ArithmeticResult : Prop :=
  ∀ (s : State) (e : BitVec 7) (m : BitVec 2) (x : BitVec 6) (w : BitVec 14) (p t : Nat) (v : W) (imm : BitVec 14),
    let o : Opnd := ⟨m, x, w⟩
    let c := (s.task p t).ctx;
    (Issues s e.toNat p t o.words → s.readWord c p (o.ea c .word) = .ok v →
      exec (.opAdd e m x w) s = .next (afterPass s p t o.words o.words none (c.putRes (addRes c.a v false) fZNCV 2)) ∧
      exec (.opSub e m x w) s = .next (afterPass s p t o.words o.words none (c.putRes (subRes c.a v false) fZNCV 2)) ∧
      exec (.opAdc e m x w) s = .next (afterPass s p t o.words o.words none (c.putRes (addRes c.a v (c.f.getLsbD 2)) fZNCV 2)) ∧
      exec (.opSbc e m x w) s = .next (afterPass s p t o.words o.words none (c.putRes (subRes c.a v (c.f.getLsbD 2)) fZNCV 2)) ∧
      exec (.opMul e m x w) s = .next (afterPass s p t o.words o.words none (c.putRes (mulRes c.a v) fZNV 3)) ∧
      (v ≠ 0 ∨ s.rb (aPD_OPT p) 1 = false →
        exec (.opDiv e m x w) s = .next (afterPass s p t o.words o.words none (c.putRes (divRes c.a v) fZNV 34)) ∧
        exec (.opMod e m x w) s = .next (afterPass s p t o.words o.words none (c.putRes (modRes c.a v) fZNV 34))) ∧
      (v = 0 → s.rb (aPD_OPT p) 1 = true →
        exec (.opDiv e m x w) s = .next (s.trap e.toNat p t (Trap.plain 0x0A)) ∧
        exec (.opMod e m x w) s = .next (s.trap e.toNat p t (Trap.plain 0x0A)))) ∧
    (Issues s e.toNat p t 1 → exec (.opNeg e) s = .next (afterPass s p t 1 1 none (c.putRes (subRes 0 c.a false) fZNCV 2))) ∧
    (Issues s e.toNat p t 2 → exec (.opAddk e imm) s = .next (afterPass s p t 2 2 none (c.putRes (addRes c.a (imm.signExtend 32) false) fZNCV 2)))

/-- The integer results and flags are those of exact arithmetic. R81, R82. -/
def Obligations.ArithmeticFlagsAreExact : Prop :=
  ∀ (a m : W) (k : Bool),
    let g (r : Res) (i : Nat) := r.fl.getLsbD i
    (∀ r ∈ [addRes a m k, subRes a m k, mulRes a m, divRes a m, modRes a m], (g r 0 = true ↔ r.val = 0) ∧ g r 1 = r.val.getLsbD 31) ∧
    (addRes a m k).val.toNat = (a.toNat + m.toNat + k.toNat) % 2 ^ 32 ∧
    (g (addRes a m k) 2 = true ↔ 2 ^ 32 ≤ a.toNat + m.toNat + k.toNat) ∧
    (g (addRes a m k) 3 = true ↔ ¬(-(2 : Int) ^ 31 ≤ a.toInt + m.toInt + k.toNat ∧ a.toInt + m.toInt + k.toNat < (2 : Int) ^ 31)) ∧
    ((subRes a m k).val.toNat : Int) = ((a.toNat : Int) - m.toNat - k.toNat) % 2 ^ 32 ∧
    (g (subRes a m k) 2 = true ↔ a.toNat < m.toNat + k.toNat) ∧
    (g (subRes a m k) 3 = true ↔ ¬(-(2 : Int) ^ 31 ≤ a.toInt - m.toInt - k.toNat ∧ a.toInt - m.toInt - k.toNat < (2 : Int) ^ 31)) ∧
    (mulRes a m).val.toNat = a.toNat * m.toNat % 2 ^ 32 ∧
    (g (mulRes a m) 3 = true ↔ ¬(-(2 : Int) ^ 31 ≤ a.toInt * m.toInt ∧ a.toInt * m.toInt < (2 : Int) ^ 31)) ∧
    (∀ r ∈ [addRes a m k, subRes a m k, mulRes a m], g r 4 = g r 3 ∧ g r 5 = false ∧ g r 6 = false ∧ g r 7 = false) ∧
    (m ≠ 0 → ¬(a = 0x80000000 ∧ m = 0xFFFFFFFF) →
      (divRes a m).val.toInt = a.toInt.tdiv m.toInt ∧ (modRes a m).val.toInt = a.toInt.tmod m.toInt ∧
      g (divRes a m) 3 = false ∧ g (divRes a m) 5 = false) ∧
    (divRes 0x80000000 0xFFFFFFFF).val = 0x80000000 ∧ g (divRes 0x80000000 0xFFFFFFFF) 3 = true ∧
    g (divRes 0x80000000 0xFFFFFFFF) 4 = true ∧ (modRes 0x80000000 0xFFFFFFFF).val = 0 ∧
    (divRes a 0).val = (if a = 0 then 0 else if a.getLsbD 31 then 0x80000000 else 0x7FFFFFFF) ∧ (modRes a 0).val = a ∧
    g (divRes a 0) 5 = true ∧ g (modRes a 0) 5 = true

/-- ANDW, ORW, XORW, CPL, ANDK, ORK, XORK, the shifts, rotates and CLRS. R83, R95, R97.
Completes (18 forms answer a next state, under premises on state and operands alone): opAndw, opOrw, opXorw, opShl, opShr, opSar, opRol, opRor, opCpl,
opClrs, opAndk, opOrk, opXork, opShlk, opShrk, opSark, opRolk, opRork. -/
def Obligations.LogicAndShiftResult : Prop :=
  ∀ (s : State) (e : BitVec 7) (m : BitVec 2) (x : BitVec 6) (w : BitVec 14) (p t : Nat) (v : W) (imm : BitVec 14),
    let o : Opnd := ⟨m, x, w⟩
    let c := (s.task p t).ctx;
    (Issues s e.toNat p t o.words → s.readWord c p (o.ea c .word) = .ok v →
      exec (.opAndw e m x w) s = .next (afterPass s p t o.words o.words none (c.putRes (logicRes (c.a &&& v)) fZN 2)) ∧
      exec (.opOrw e m x w) s = .next (afterPass s p t o.words o.words none (c.putRes (logicRes (c.a ||| v)) fZN 2)) ∧
      exec (.opXorw e m x w) s = .next (afterPass s p t o.words o.words none (c.putRes (logicRes (c.a ^^^ v)) fZN 2)) ∧
      exec (.opShl e m x w) s = .next (afterPass s p t o.words o.words none (c.putRes (shlRes c.a (v.toNat % 256) (c.f.getLsbD 2)) fZNC 2)) ∧
      exec (.opShr e m x w) s = .next (afterPass s p t o.words o.words none (c.putRes (shrRes c.a (v.toNat % 256) (c.f.getLsbD 2)) fZNC 2)) ∧
      exec (.opSar e m x w) s = .next (afterPass s p t o.words o.words none (c.putRes (sarRes c.a (v.toNat % 256) (c.f.getLsbD 2)) fZNC 2)) ∧
      exec (.opRol e m x w) s = .next (afterPass s p t o.words o.words none (c.putRes (rolRes c.a (v.toNat % 256) (c.f.getLsbD 2)) fZNC 2)) ∧
      exec (.opRor e m x w) s = .next (afterPass s p t o.words o.words none (c.putRes (rorRes c.a (v.toNat % 256) (c.f.getLsbD 2)) fZNC 2))) ∧
    (Issues s e.toNat p t 1 → exec (.opCpl e) s = .next (afterPass s p t 1 1 none (c.putRes (logicRes (~~~c.a)) fZN 2)) ∧
      exec (.opClrs e) s = .next (afterPass s p t 1 1 none { c with stk := c.stk ++ [{ isSet := false, mask := 0xF0, left := 2 }] })) ∧
    (Issues s e.toNat p t 2 →
      exec (.opAndk e imm) s = .next (afterPass s p t 2 2 none (c.putRes (logicRes (c.a &&& imm.setWidth 32)) fZN 2)) ∧
      exec (.opOrk e imm) s = .next (afterPass s p t 2 2 none (c.putRes (logicRes (c.a ||| imm.setWidth 32)) fZN 2)) ∧
      exec (.opXork e imm) s = .next (afterPass s p t 2 2 none (c.putRes (logicRes (c.a ^^^ imm.setWidth 32)) fZN 2)) ∧
      exec (.opShlk e imm) s = .next (afterPass s p t 2 2 none (c.putRes (shlRes c.a (imm.toNat % 256) (c.f.getLsbD 2)) fZNC 2)) ∧
      exec (.opShrk e imm) s = .next (afterPass s p t 2 2 none (c.putRes (shrRes c.a (imm.toNat % 256) (c.f.getLsbD 2)) fZNC 2)) ∧
      exec (.opSark e imm) s = .next (afterPass s p t 2 2 none (c.putRes (sarRes c.a (imm.toNat % 256) (c.f.getLsbD 2)) fZNC 2)) ∧
      exec (.opRolk e imm) s = .next (afterPass s p t 2 2 none (c.putRes (rolRes c.a (imm.toNat % 256) (c.f.getLsbD 2)) fZNC 2)) ∧
      exec (.opRork e imm) s = .next (afterPass s p t 2 2 none (c.putRes (rorRes c.a (imm.toNat % 256) (c.f.getLsbD 2)) fZNC 2)))

/-- Shift results and C for every amount up to 255. R83. -/
def Obligations.ShiftsAreExact : Prop :=
  ∀ (a : W) (n : Nat) (c : Bool),
    (∀ r ∈ [shlRes a n c, shrRes a n c, sarRes a n c, rolRes a n c, rorRes a n c],
      (r.fl.getLsbD 0 = true ↔ r.val = 0) ∧ r.fl.getLsbD 1 = r.val.getLsbD 31 ∧ r.fl &&& 0xF8 = 0) ∧
    (∀ f ∈ [shlRes, shrRes, sarRes, rolRes, rorRes], (f a 0 c).val = a ∧ (f a 0 c).fl.getLsbD 2 = c) ∧
    (1 ≤ n → n ≤ 31 → (shlRes a n c).val.toNat = a.toNat * 2 ^ n % 2 ^ 32 ∧ (shlRes a n c).fl.getLsbD 2 = a.getLsbD (32 - n) ∧
      (shrRes a n c).val.toNat = a.toNat / 2 ^ n ∧ (shrRes a n c).fl.getLsbD 2 = a.getLsbD (n - 1) ∧
      (sarRes a n c).val.toInt = a.toInt / 2 ^ n ∧ (sarRes a n c).fl.getLsbD 2 = a.getLsbD (n - 1)) ∧
    (32 ≤ n → (shlRes a n c).val = 0 ∧ (shrRes a n c).val = 0 ∧
      (shlRes a n c).fl.getLsbD 2 = (decide (n = 32) && a.getLsbD 0) ∧ (shrRes a n c).fl.getLsbD 2 = (decide (n = 32) && a.getLsbD 31) ∧
      (sarRes a n c).val = (if a.getLsbD 31 then 0xFFFFFFFF else 0) ∧ (sarRes a n c).fl.getLsbD 2 = a.getLsbD 31) ∧
    (n % 32 ≠ 0 → (rolRes a n c).val = a.rotateLeft n ∧ (rolRes a n c).fl.getLsbD 2 = (a.rotateLeft n).getLsbD 0 ∧
      (rorRes a n c).val = a.rotateRight n ∧ (rorRes a n c).fl.getLsbD 2 = (a.rotateRight n).getLsbD 31) ∧
    (n % 32 = 0 → (rolRes a n c).val = a ∧ (rorRes a n c).val = a)

/-- FADD, FSUB, FMUL, FDIV, FCMP, ITOF, FTOI, FNEG and FABS: result, flags and distance. R84, R85, R95, R97.
Completes (9 forms answer a next state, under premises on state and operands alone): opFadd, opFsub, opFmul, opFdiv, opFcmp, opItof, opFtoi, opFneg,
opFabs. -/
def Obligations.Binary32Result : Prop :=
  ∀ (s : State) (e : BitVec 7) (m : BitVec 2) (x : BitVec 6) (w : BitVec 14) (p t : Nat) (v : W),
    let o : Opnd := ⟨m, x, w⟩
    let c := (s.task p t).ctx;
    (Issues s e.toNat p t o.words → s.readWord c p (o.ea c .word) = .ok v →
      exec (.opFadd e m x w) s = .next (afterPass s p t o.words o.words none (c.putRes (fpResOf (fpAdd c.a v)) fZN 4)) ∧
      exec (.opFsub e m x w) s = .next (afterPass s p t o.words o.words none (c.putRes (fpResOf (fpSub c.a v)) fZN 4)) ∧
      exec (.opFmul e m x w) s = .next (afterPass s p t o.words o.words none (c.putRes (fpResOf (fpMul c.a v)) fZN 4)) ∧
      exec (.opFdiv e m x w) s = .next (afterPass s p t o.words o.words none (c.putRes (fpResOf (fpDiv c.a v)) fZN 18)) ∧
      exec (.opFcmp e m x w) s = .next (afterPass s p t o.words o.words none (c.putFlags (fcmpFlags c.a v) fZNCV 4))) ∧
    (Issues s e.toNat p t 1 →
      exec (.opItof e) s = .next (afterPass s p t 1 1 none (c.putRes (fpResOf (fpOfInt c.a)) fZN 4)) ∧
      exec (.opFtoi e) s = .next (afterPass s p t 1 1 none (c.putRes (ftoiRes c.a) fZN 4)) ∧
      exec (.opFneg e) s = .next (afterPass s p t 1 1 none { c with inA := some (c.a ^^^ 0x80000000, 2) }) ∧
      exec (.opFabs e) s = .next (afterPass s p t 1 1 none { c with inA := some (c.a &&& 0x7FFFFFFF, 2) }))

/-- CMP, CMPK, CND and the tests of the sticky flags. R86, R66, R95.
Completes (7 forms answer a next state, under premises on state and operands alone): opCmp, opCmpk, opCnd, opTos, opTdz, opTnv, opTnx. -/
def Obligations.CompareAndConditionResult : Prop :=
  ∀ (s : State) (e : BitVec 7) (m : BitVec 2) (x : BitVec 6) (w : BitVec 14) (p t : Nat) (v : W) (imm : BitVec 14) (cc : BitVec 4),
    let o : Opnd := ⟨m, x, w⟩
    let c := (s.task p t).ctx;
    (Issues s e.toNat p t o.words → s.readWord c p (o.ea c .word) = .ok v →
      exec (.opCmp e m x w) s = .next (afterPass s p t o.words o.words none { c with inF := some (((subRes c.a v false).fl &&& 0x0F).truncate 4, 2) })) ∧
    (Issues s e.toNat p t 2 →
      exec (.opCmpk e imm) s = .next (afterPass s p t 2 2 none { c with inF := some (((subRes c.a (imm.signExtend 32) false).fl &&& 0x0F).truncate 4, 2) })) ∧
    (Issues s e.toNat p t 1 →
      exec (.opCnd e cc) s = .next (afterPass s p t 1 1 none { c with lr := condition cc c.f }) ∧
      exec (.opTos e) s = .next (afterPass s p t 1 1 none { c with lr := c.f.getLsbD 4 }) ∧
      exec (.opTdz e) s = .next (afterPass s p t 1 1 none { c with lr := c.f.getLsbD 5 }) ∧
      exec (.opTnv e) s = .next (afterPass s p t 1 1 none { c with lr := c.f.getLsbD 6 }) ∧
      exec (.opTnx e) s = .next (afterPass s p t 1 1 none { c with lr := c.f.getLsbD 7 })) ∧
    (∀ a m : W, let f := (subRes a m false).fl
      (condition 0x0 f = true ↔ a = m) ∧ (condition 0x1 f = true ↔ a ≠ m) ∧
      (condition 0x2 f = true ↔ a.toInt < m.toInt) ∧ (condition 0x3 f = true ↔ m.toInt ≤ a.toInt) ∧
      (condition 0x4 f = true ↔ m.toInt < a.toInt) ∧ (condition 0x5 f = true ↔ a.toInt ≤ m.toInt) ∧
      (condition 0x6 f = true ↔ a.toNat < m.toNat) ∧ (condition 0x7 f = true ↔ m.toNat ≤ a.toNat) ∧
      (condition 0x8 f = true ↔ m.toNat < a.toNat) ∧ (condition 0x9 f = true ↔ a.toNat ≤ m.toNat))

/-- JMP, JC, CALL, RET, JMPX, CALLX, END and NOP: the delay slot, the call stack, the end of a pass. R87, R88, R89, R100, R105, R106, R470.
Completes (8 forms answer a next state, under premises on state and operands alone): opJmp, opJc, opJmpx, opCall, opCallx, opRet, opEnd, opNop. -/
def Obligations.JumpResult : Prop :=
  ∀ (s : State) (e : BitVec 7) (m : BitVec 2) (x : BitVec 6) (w : BitVec 14) (p t : Nat) (d : BitVec 20) (a : Nat) (v : W),
    let o : Opnd := ⟨m, x, w⟩
    let c := (s.task p t).ctx;
    (c.slot = none →
    (Issues s e.toNat p t o.words → s.target p (o.ea c .prog) = .ok d →
      exec (.opJmp e m x w) s = .next (afterJump s p t o.words none c (some d)) ∧
      (c.lr = true → exec (.opJc e m x w) s = .next (afterJump s p t o.words none c (some d)))) ∧
    (Issues s e.toNat p t o.words → c.lr = false → exec (.opJc e m x w) s = .next (afterJump s p t o.words none c none)) ∧
    (∀ tr, Issues s e.toNat p t o.words → s.target p (o.ea c .prog) = .error tr →
      exec (.opJmp e m x w) s = .next (s.trap e.toNat p t tr)) ∧
    (Issues s e.toNat p t 1 → s.target p (c.xa.toNat % 2 ^ 20) = .ok d →
      exec (.opJmpx e) s = .next (afterJump s p t 1 none c (some d))) ∧
    (Issues s e.toNat p t o.words → c.csd < 256 → s.target p (o.ea c .prog) = .ok d →
      s.locate p false ((s.ctxBase p t + 256 + c.csd) % 2 ^ 21) .word ((s.ctxBase p t + 256 + c.csd) % 2 ^ 21) = .ok a →
      exec (.opCall e m x w) s = .next (afterJump (s.wrMem a (BitVec.ofNat 32 ((c.p.toNat + o.words + s.lengthAt p (c.p.toNat + o.words)) % 2 ^ 20))) p t o.words
        (record false ((s.ctxBase p t + 256 + c.csd) % 2 ^ 21) (s.rdMem a) o.words) { c with csd := c.csd + 1 } (some d))) ∧
    (Issues s e.toNat p t o.words → 256 ≤ c.csd → exec (.opCall e m x w) s = .next (s.trap e.toNat p t (Trap.plain 8))) ∧
    (Issues s e.toNat p t 1 → c.csd < 256 → s.target p (c.xa.toNat % 2 ^ 20) = .ok d →
      s.locate p false ((s.ctxBase p t + 256 + c.csd) % 2 ^ 21) .word ((s.ctxBase p t + 256 + c.csd) % 2 ^ 21) = .ok a →
      exec (.opCallx e) s = .next (afterJump (s.wrMem a (BitVec.ofNat 32 ((c.p.toNat + 1 + s.lengthAt p (c.p.toNat + 1)) % 2 ^ 20))) p t 1
        (record false ((s.ctxBase p t + 256 + c.csd) % 2 ^ 21) (s.rdMem a) 1) { c with csd := c.csd + 1 } (some d))) ∧
    (Issues s e.toNat p t 1 → 256 ≤ c.csd → exec (.opCallx e) s = .next (s.trap e.toNat p t (Trap.plain 8))) ∧
    (Issues s e.toNat p t 1 → 0 < c.csd → s.readWord c p ((s.ctxBase p t + 256 + (c.csd - 1)) % 2 ^ 21) = .ok v →
      s.target p (fld v 19 0) = .ok d →
      exec (.opRet e) s = .next (afterJump s p t 1 none { c with csd := c.csd - 1 } (some d))) ∧
    (Issues s e.toNat p t 1 → c.csd = 0 → exec (.opRet e) s = .next (s.trap e.toNat p t (Trap.plain 9))) ∧
    (Issues s e.toNat p t 1 →
      let s1 := s.setTask p t { s.task p t with ctx := c.drain, passBrk := false }
      (s.mode p ≠ 1 → exec (.opEnd e) s = .next ((s1.setTState p t tOutput).freeEngine (s.task p t).eng)) ∧
      (s.mode p = 1 → exec (.opEnd e) s = .next (s1.offTask p t)))) ∧
    (Issues s e.toNat p t 1 → exec (.opNop e) s = .next (afterPass s p t 1 1 none c)) ∧
    (Issues s e.toNat p t 1 → c.slot.isSome →
      exec (.opJmp e m x w) s = .next (s.trap e.toNat p t (Trap.plain 5)) ∧
      exec (.opJc e m x w) s = .next (s.trap e.toNat p t (Trap.plain 5)) ∧
      exec (.opCall e m x w) s = .next (s.trap e.toNat p t (Trap.plain 5)) ∧
      exec (.opRet e) s = .next (s.trap e.toNat p t (Trap.plain 5)) ∧
      exec (.opJmpx e) s = .next (s.trap e.toNat p t (Trap.plain 5)) ∧
      exec (.opCallx e) s = .next (s.trap e.toNat p t (Trap.plain 5)) ∧
      exec (.opEnd e) s = .next (s.trap e.toNat p t (Trap.plain 5)))

/-- LDA, STA, LDI, STI, LDX, STX, LDY and STY: the value loaded, the word stored, and no other byte. R69, R70, R72, R90, R98.
Completes (8 forms answer a next state, under premises on state and operands alone): opLda, opLdi, opLdx, opLdy, opSta, opSti, opStx, opSty. -/
def Obligations.LoadAndStoreResult : Prop :=
  ∀ (s : State) (e : BitVec 7) (m : BitVec 2) (x : BitVec 6) (w : BitVec 14) (p t : Nat) (a : Nat) (v : W),
    let o : Opnd := ⟨m, x, w⟩
    let c := (s.task p t).ctx;
    Issues s e.toNat p t o.words →
    (s.readW c p false (o.ea c .word) .word (o.ea c .word) = .ok v → exec (.opLda e m x w) s = .next (afterPass s p t o.words o.words none { c with inA := some (v, 2) })) ∧
    (∀ tr, s.readW c p false (o.ea c .word) .word (o.ea c .word) = .error tr → exec (.opLda e m x w) s = .next (s.trap e.toNat p t tr)) ∧
    (s.readW c p true (o.ea c .image) .image (o.ea c .image) = .ok v → exec (.opLdi e m x w) s = .next (afterPass s p t o.words o.words none { c with inA := some (v, 2) })) ∧
    (∀ tr, s.readW c p true (o.ea c .image) .image (o.ea c .image) = .error tr → exec (.opLdi e m x w) s = .next (s.trap e.toNat p t tr)) ∧
    (s.readW c p false (o.ea c .word) .word (o.ea c .word) = .ok v → exec (.opLdx e m x w) s = .next (afterPass s p t o.words o.words none { c with inX := some (v.truncate 24, 2) })) ∧
    (∀ tr, s.readW c p false (o.ea c .word) .word (o.ea c .word) = .error tr → exec (.opLdx e m x w) s = .next (s.trap e.toNat p t tr)) ∧
    (s.readW c p false (o.ea c .word) .word (o.ea c .word) = .ok v → exec (.opLdy e m x w) s = .next (afterPass s p t o.words o.words none { c with inY := some (v.truncate 24, 2) })) ∧
    (∀ tr, s.readW c p false (o.ea c .word) .word (o.ea c .word) = .error tr → exec (.opLdy e m x w) s = .next (s.trap e.toNat p t tr)) ∧
    (s.locate p false (o.ea c .word) .word (o.ea c .word) = .ok a →
      exec (.opSta e m x w) s = .next (afterPass (s.wrMem a c.a) p t o.words o.words (record false (o.ea c .word) (s.rdMem a) o.words) c)) ∧
    (∀ tr, s.locate p false (o.ea c .word) .word (o.ea c .word) = .error tr → exec (.opSta e m x w) s = .next (s.trap e.toNat p t tr)) ∧
    (s.locate p true (o.ea c .image) .image (o.ea c .image) = .ok a →
      exec (.opSti e m x w) s = .next (afterPass (s.wrMem a c.a) p t o.words o.words (record true (o.ea c .image) (s.rdMem a) o.words) c)) ∧
    (∀ tr, s.locate p true (o.ea c .image) .image (o.ea c .image) = .error tr → exec (.opSti e m x w) s = .next (s.trap e.toNat p t tr)) ∧
    (s.locate p false (o.ea c .word) .word (o.ea c .word) = .ok a →
      exec (.opStx e m x w) s = .next (afterPass (s.wrMem a (c.x.setWidth 32)) p t o.words o.words (record false (o.ea c .word) (s.rdMem a) o.words) c)) ∧
    (∀ tr, s.locate p false (o.ea c .word) .word (o.ea c .word) = .error tr → exec (.opStx e m x w) s = .next (s.trap e.toNat p t tr)) ∧
    (s.locate p false (o.ea c .word) .word (o.ea c .word) = .ok a →
      exec (.opSty e m x w) s = .next (afterPass (s.wrMem a (c.y.setWidth 32)) p t o.words o.words (record false (o.ea c .word) (s.rdMem a) o.words) c)) ∧
    (∀ tr, s.locate p false (o.ea c .word) .word (o.ea c .word) = .error tr → exec (.opSty e m x w) s = .next (s.trap e.toNat p t tr))

/-- The index transfers and increments and the immediate loads. R72, R95.
Completes (18 forms answer a next state, under premises on state and operands alone): opTax, opTxa, opTay, opTya, opTxy, opTyx, opInx, opDex, opIny,
opDey, opLdk, opLdks, opLxk, opLxks, opAxk, opLyk, opLyks, opAyk. -/
def Obligations.IndexAndImmediateResult : Prop :=
  ∀ (s : State) (e : BitVec 7) (p t : Nat) (imm : BitVec 14),
    let c := (s.task p t).ctx;
    (Issues s e.toNat p t 1 →
      exec (.opTax e) s = .next (afterPass s p t 1 1 none { c with inX := some (c.a.truncate 24, 2) }) ∧
      exec (.opTxa e) s = .next (afterPass s p t 1 1 none { c with inA := some (c.x.setWidth 32, 2) }) ∧
      exec (.opTay e) s = .next (afterPass s p t 1 1 none { c with inY := some (c.a.truncate 24, 2) }) ∧
      exec (.opTya e) s = .next (afterPass s p t 1 1 none { c with inA := some (c.y.setWidth 32, 2) }) ∧
      exec (.opTxy e) s = .next (afterPass s p t 1 1 none { c with inY := some (c.x, 2) }) ∧
      exec (.opTyx e) s = .next (afterPass s p t 1 1 none { c with inX := some (c.y, 2) }) ∧
      exec (.opInx e) s = .next (afterPass s p t 1 1 none { c with inX := some (c.x + 1, 2) }) ∧
      exec (.opDex e) s = .next (afterPass s p t 1 1 none { c with inX := some (c.x - 1, 2) }) ∧
      exec (.opIny e) s = .next (afterPass s p t 1 1 none { c with inY := some (c.y + 1, 2) }) ∧
      exec (.opDey e) s = .next (afterPass s p t 1 1 none { c with inY := some (c.y - 1, 2) })) ∧
    (Issues s e.toNat p t 2 →
      exec (.opLdk e imm) s = .next (afterPass s p t 2 2 none { c with inA := some (imm.signExtend 32, 2) }) ∧
      exec (.opLdks e imm) s = .next (afterPass s p t 2 2 none { c with inA := some (c.a * 16384 + imm.setWidth 32, 2) }) ∧
      exec (.opLxk e imm) s = .next (afterPass s p t 2 2 none { c with inX := some (imm.setWidth 24, 2) }) ∧
      exec (.opLxks e imm) s = .next (afterPass s p t 2 2 none { c with inX := some (c.x * 16384 + imm.setWidth 24, 2) }) ∧
      exec (.opAxk e imm) s = .next (afterPass s p t 2 2 none { c with inX := some (c.x + imm.signExtend 24, 2) }) ∧
      exec (.opLyk e imm) s = .next (afterPass s p t 2 2 none { c with inY := some (imm.setWidth 24, 2) }) ∧
      exec (.opLyks e imm) s = .next (afterPass s p t 2 2 none { c with inY := some (c.y * 16384 + imm.setWidth 24, 2) }) ∧
      exec (.opAyk e imm) s = .next (afterPass s p t 2 2 none { c with inY := some (c.y + imm.signExtend 24, 2) }))

/-- What an engine instruction leaves alone: every register, byte, engine and other task. R65, R66, R68, R70, R72, R104. -/
def Obligations.EngineInstructionFrame : Prop :=
  ∀ (s : State) (e : BitVec 7) (m : BitVec 2) (x : BitVec 6) (w : BitVec 14) (p t : Nat) (a : Nat) (v : W) (imm : BitVec 14) (cc : BitVec 4),
    let o : Opnd := ⟨m, x, w⟩
    let c := (s.task p t).ctx;
    let others (r : State) := ∀ p' t', t' < 16 → (p', t') ≠ (p, t) → r.task p' t' = s.task p' t'
    let img := (bitPlace (o.ea c .bit)).1
    let k := (bitPlace (o.ea c .bit)).2.1
    s.mode p = 2 → FMap.wf (fun _ => Task.zero) s.tasks = true → Memory.wf s.mem = true →
    (Issues s e.toNat p t 1 → ∀ i ∈ ([.opNot e, .opSetl e, .opClrl e, .opLra e, .opAlr e, .opNeg e, .opCpl e, .opClrs e, .opItof e, .opFtoi e, .opFneg e, .opFabs e, .opTos e, .opTdz e, .opTnv e, .opTnx e, .opTax e, .opTxa e, .opTay e, .opTya e, .opTxy e, .opTyx e, .opInx e, .opDex e, .opIny e, .opDey e, .opNop e, .opCnd e cc] : List Instr), ∃ r, exec i s = .next r ∧ r = { s with tasks := r.tasks } ∧ others r) ∧
    (Issues s e.toNat p t 2 → ∀ i ∈ ([.opAddk e imm, .opAndk e imm, .opOrk e imm, .opXork e imm, .opShlk e imm, .opShrk e imm, .opSark e imm, .opRolk e imm, .opRork e imm, .opCmpk e imm, .opLdk e imm, .opLdks e imm, .opLxk e imm, .opLxks e imm, .opAxk e imm, .opLyk e imm, .opLyks e imm, .opAyk e imm] : List Instr), ∃ r, exec i s = .next r ∧ r = { s with tasks := r.tasks } ∧ others r) ∧
    (Issues s e.toNat p t o.words → (∃ b, s.readBit c p (o.ea c .bit) = .ok b) → ∀ i ∈ ([.opLd e m x w, .opLdn e m x w, .opAnd e m x w, .opAndn e m x w, .opOr e m x w, .opOrn e m x w, .opXor e m x w, .opXorn e m x w] : List Instr), ∃ r, exec i s = .next r ∧ r = { s with tasks := r.tasks } ∧ others r) ∧
    (Issues s e.toNat p t o.words → s.readWord c p (o.ea c .word) = .ok v → ∀ i ∈ ([.opAdd e m x w, .opSub e m x w, .opAdc e m x w, .opSbc e m x w, .opMul e m x w, .opAndw e m x w, .opOrw e m x w, .opXorw e m x w, .opShl e m x w, .opShr e m x w, .opSar e m x w, .opRol e m x w, .opRor e m x w, .opFadd e m x w, .opFsub e m x w, .opFmul e m x w, .opFdiv e m x w, .opFcmp e m x w, .opCmp e m x w, .opLda e m x w, .opLdx e m x w, .opLdy e m x w] : List Instr), ∃ r, exec i s = .next r ∧ r = { s with tasks := r.tasks } ∧ others r) ∧
    (Issues s e.toNat p t o.words → s.readW c p true (o.ea c .image) .image (o.ea c .image) = .ok v → ∀ i ∈ ([.opLdi e m x w] : List Instr), ∃ r, exec i s = .next r ∧ r = { s with tasks := r.tasks } ∧ others r) ∧
    (Issues s e.toNat p t o.words → s.locate p img k .bit (o.ea c .bit) = .ok a → s.isBad a = false → c.recorded img k = none →
      ∀ i ∈ ([.opSt e m x w, .opStn e m x w, .opSet e m x w, .opRst e m x w, .opEdp e m x w, .opEdn e m x w] : List Instr), ∃ r, exec i s = .next r ∧ r = { s with tasks := r.tasks, mem := r.mem, bad := r.bad, dirty := r.dirty } ∧ others r ∧ ∀ b, (b < a ∨ a + 4 ≤ b) → r.rdByte b = s.rdByte b) ∧
    (Issues s e.toNat p t o.words → s.locate p false (o.ea c .word) .word (o.ea c .word) = .ok a → ∀ i ∈ ([.opSta e m x w, .opStx e m x w, .opSty e m x w] : List Instr), ∃ r, exec i s = .next r ∧ r = { s with tasks := r.tasks, mem := r.mem, bad := r.bad, dirty := r.dirty } ∧ others r ∧ ∀ b, (b < a ∨ a + 4 ≤ b) → r.rdByte b = s.rdByte b) ∧
    (Issues s e.toNat p t o.words → s.locate p true (o.ea c .image) .image (o.ea c .image) = .ok a → ∀ i ∈ ([.opSti e m x w] : List Instr), ∃ r, exec i s = .next r ∧ r = { s with tasks := r.tasks, mem := r.mem, bad := r.bad, dirty := r.dirty } ∧ others r ∧ ∀ b, (b < a ∨ a + 4 ≤ b) → r.rdByte b = s.rdByte b)

/-- TREL, TMERL, TMERH, TCYC, IRQ and BRK, and no service in a delay slot. R91, R100, R105, R127, R148, R149, R39.
Completes (6 forms answer a next state, under premises on state and operands alone): opTrel, opTmerl, opTmerh, opTcyc, opIrq, opBrk. -/
def Obligations.TimeAndInterruptServices : Prop :=
  ∀ (s : State) (e : BitVec 7) (p t : Nat),
    let c := (s.task p t).ctx
    Issues s e.toNat p t 1 → c.slot = none →
    exec (.opTrel e) s = .next (afterService s (s) p t (Ctx.answer (BitVec.ofNat 32 ((s.task p t).stamp.toNat / 1000)) true)) ∧
      exec (.opTmerl e) s = .next (afterService s (s) p t (fun k => { k with a := lo32 s.now, lr := true, tmerh := hi32 s.now })) ∧
      exec (.opTmerh e) s = .next (afterService s (s) p t (Ctx.answer c.tmerh true)) ∧
      exec (.opTcyc e) s = .next (afterService s (s) p t (Ctx.answer (s.reg (aPD_TLAST p t)) true)) ∧
      exec (.opIrq e) s = .next (afterService s (s.sendVec (p + 1) (4 + c.a.toNat % 4)) p t (fun k => { k with lr := true })) ∧
      (s.mode p = 2 → s.holdRefusal p = none → exec (.opBrk e) s = .next (afterService s (s.enterHold p 1) p t (id))) ∧
      (s.mode p ≠ 2 ∨ s.holdRefusal p ≠ none → exec (.opBrk e) s = .next (afterService s (s) p t (id))) ∧
      (∀ e' : BitVec 7, ∀ p' t', Issues s e'.toNat p' t' 1 → (s.task p' t').ctx.slot.isSome → exec (.opTrel e') s = .next (s.trap e'.toNat p' t' (Trap.plain 5)))

/-- CANRD, CANTX and CANST: the object read, the mailbox loaded, the status word, and each status code. R91, R350, R352, R355, R360.
Completes (3 forms answer a next state, under premises on state and operands alone): opCanrd, opCantx, opCanst. -/
def Obligations.CanServices : Prop :=
  ∀ (s : State) (e : BitVec 7) (p t : Nat) (as : List Nat),
    let c := (s.task p t).ctx
    let n := c.x.toNat / 512
    let k := c.x.toNat % 512
    let n' := c.x.toNat / 32
    let m := c.x.toNat % 32
    Issues s e.toNat p t 1 → c.slot = none →
    (s.fuse.cans ≤ n → exec (.opCanrd e) s = .next (afterService s (s) p t (Ctx.answer 0xFFFFFF02 false))) ∧
      (n < s.fuse.cans → s.inReset n = true → exec (.opCanrd e) s = .next (afterService s (s) p t (Ctx.answer 0xFFFFFF03 false))) ∧
      (n < s.fuse.cans → s.inReset n = false → (s.objDev n k = true ∨ s.rf (aOBJ_OWN n k) 9 0 ≠ p) → exec (.opCanrd e) s = .next (afterService s (s) p t (Ctx.answer 0xFFFFFF01 false))) ∧
      (n < s.fuse.cans → s.inReset n = false → s.objDev n k = false → s.rf (aOBJ_OWN n k) 9 0 = p → s.locsW p c.y.toNat 18 = .ok as →
      let s1 := s.wrAll as (s.objIdWord n k :: s.objRecord n k)
      exec (.opCanrd e) s = .next (afterService s (({ s1 with objCopy := FMap.set (fun _ => none) s1.objCopy (n * 512 + k) (some s1.fab) } : State).ackObj n k) p t (Ctx.answer (s.reg (aOBJ_STAT n k)) (bitAt (s.reg (aOBJ_STAT n k)) 31)))) ∧
      (s.fuse.cans ≤ n' → exec (.opCantx e) s = .next (afterService s (s) p t (Ctx.answer 0xFFFFFF02 false))) ∧
      (n' < s.fuse.cans → s.inReset n' = true → exec (.opCantx e) s = .next (afterService s (s) p t (Ctx.answer 0xFFFFFF03 false))) ∧
      (n' < s.fuse.cans → s.inReset n' = false → (s.mbDev n' m = true ∨ s.rf (aMB_OWN n' m) 9 0 ≠ p) → exec (.opCantx e) s = .next (afterService s (s) p t (Ctx.answer 0xFFFFFF01 false))) ∧
      (n' < s.fuse.cans → s.inReset n' = false → s.mbDev n' m = false → s.rf (aMB_OWN n' m) 9 0 = p → s.mbPend n' m = true → exec (.opCantx e) s = .next (afterService s (s) p t (Ctx.answer 0xFFFFFF03 false))) ∧
      (n' < s.fuse.cans → s.inReset n' = false → s.mbDev n' m = false → s.rf (aMB_OWN n' m) 9 0 = p → s.mbPend n' m = false → s.locsW p c.y.toNat 18 = .error none → exec (.opCantx e) s = .next (afterService s (s) p t (Ctx.answer 0xFFFFFF06 false))) ∧
      (n' < s.fuse.cans → s.inReset n' = false → s.mbDev n' m = false → s.rf (aMB_OWN n' m) 9 0 = p → s.mbPend n' m = false → s.silent p = false → s.locsW p c.y.toNat 18 = .ok as → as.find? s.isBad = none → exec (.opCantx e) s = .next (afterService s (s.mbLoad n' m ((as.map s.rdMem).getD 0 0) ((as.map s.rdMem).drop 1)) p t (fun k => { k with lr := true }))) ∧
      (s.fuse.cans ≤ c.x.toNat → exec (.opCanst e) s = .next (afterService s (s) p t (Ctx.answer 0xFFFFFF02 false))) ∧
      (c.x.toNat < s.fuse.cans → s.inReset c.x.toNat = true → exec (.opCanst e) s = .next (afterService s (s) p t (Ctx.answer 0xFFFFFF03 false))) ∧
      (c.x.toNat < s.fuse.cans → s.inReset c.x.toNat = false → exec (.opCanst e) s = .next (afterService s (s) p t (Ctx.answer (s.reg (aCAN_STAT c.x.toNat)) true)))

/-- CADRD, CADWR, EVREC, SFRD and SFRST: results and status codes. R91, R402, R413, R415, R416, R339, R340.
Completes (5 forms answer a next state, under premises on state and operands alone): opCadrd, opCadwr, opEvrec, opSfrd, opSfrst. -/
def Obligations.CaddyEventAndSafetyServices : Prop :=
  ∀ (s : State) (e : BitVec 7) (p t w : Nat) (as : List Nat),
    let c := (s.task p t).ctx
    let len := c.a.toNat / 2 ^ 24 % 64
    let code := c.a.toNat % 65536
    Issues s e.toNat p t 1 → c.slot = none →
    ((s.nvBlock = true ∨ s.rb aNV_BSTAT 1 = true) → exec (.opCadrd e) s = .next (afterService s (s) p t (Ctx.answer 0xFFFFFF03 false))) ∧
      ((s.pfHold = true ∨ s.nvBlock = true ∨ s.rb aNV_BSTAT 1 = true) → exec (.opCadwr e) s = .next (afterService s (s) p t (Ctx.answer 0xFFFFFF03 false))) ∧
      (s.nvBlock = false → s.rb aNV_BSTAT 1 = false → s.rf (aCAD_ALLOC p) 27 16 ≤ c.x.toNat →
        (True → exec (.opCadrd e) s = .next (afterService s (s) p t (Ctx.answer 0xFFFFFF04 false))) ∧ (s.pfHold = false → exec (.opCadwr e) s = .next (afterService s (s) p t (Ctx.answer 0xFFFFFF04 false)))) ∧
      (s.nvBlock = false → s.rb aNV_BSTAT 1 = false → c.x.toNat < s.rf (aCAD_ALLOC p) 27 16 → w = s.rf (aCAD_ALLOC p) 10 0 + c.x.toNat →
        exec (.opCadrd e) s = .next (afterService s (s) p t (Ctx.answer (s.reg (aCAD_WIN w)) true)) ∧
        (s.pfHold = false → exec (.opCadwr e) s = .next (afterService s (s.setReg (aCAD_WIN w) c.a) p t (fun k => { k with lr := true })))) ∧
      (len = 63 → exec (.opEvrec e) s = .next (afterService s (s) p t (Ctx.answer 0xFFFFFF07 false))) ∧
      (len ≠ 63 → code < 0x8000 → exec (.opEvrec e) s = .next (afterService s (s) p t (Ctx.answer 0xFFFFFF05 false))) ∧
      (len ≠ 63 → 0x8000 ≤ code → s.locsW p c.x.toNat len = .ok as → as.find? s.isBad = none → s.evrShut = true → exec (.opEvrec e) s = .next (afterService s (s) p t (Ctx.answer 0xFFFFFF05 false))) ∧
      (len ≠ 63 → 0x8000 ≤ code → s.locsW p c.x.toNat len = .ok as → as.find? s.isBad = none → s.evrShut = false →
        let r := s.admission code (c.a.toNat / 2 ^ 16 % 8) 2 p (as.map s.rdMem)
        (r.2 = true → exec (.opEvrec e) s = .next (afterService s (r.1) p t (fun k => { k with lr := true }))) ∧ (r.2 = false → exec (.opEvrec e) s = .next (afterService s (r.1) p t (Ctx.answer 0xFFFFFF05 false)))) ∧
      (s.fuse.field = false → exec (.opSfrd e) s = .next (afterService s (s) p t (Ctx.answer 0xFFFFFF02 false))) ∧
      (s.fuse.field = false → exec (.opSfrst e) s = .next (afterService s (s) p t (Ctx.answer 0xFFFFFF02 false))) ∧
      (s.fuse.field = true → ∃ m : W, exec (.opSfrd e) s = .next (afterService s (s) p t (Ctx.answer (s.reg aSF_STATE &&& m) true)) ∧
        ∀ f < 16, m.getLsbD f = s.sfAssigned f p ∧ m.getLsbD (16 + f) = s.sfAssigned f p) ∧
      (s.fuse.field = true → s.silent p = false → (15 < c.x.toNat ∨ s.sfAssigned (c.x.toNat % 16) p = false) → exec (.opSfrst e) s = .next (afterService s (s) p t (Ctx.answer 0xFFFFFF01 false))) ∧
      (s.fuse.field = true → s.silent p = false → c.x.toNat ≤ 15 → s.sfAssigned c.x.toNat p = true → s.sfShown c.x.toNat ≠ 2 → exec (.opSfrst e) s = .next (afterService s (s) p t (Ctx.answer 0xFFFFFF05 false))) ∧
      (s.fuse.field = true → s.silent p = false → c.x.toNat ≤ 15 → s.sfAssigned c.x.toNat p = true → s.sfShown c.x.toNat = 2 → rsrcRequest (s.sfp (0x20 * c.x.toNat)) = true → exec (.opSfrst e) s = .next (afterService s ({ s with sfReq := s.sfReq ||| BitVec.twoPow 16 c.x.toNat }) p t (fun k => { k with lr := true })))

/-- IMGRQ and IMGWR: the slot copied into the image, the block sent, and each status code. R91, R185, R186, R239.
Completes (2 forms answer a next state, under premises on state and operands alone): opImgrq, opImgwr. -/
def Obligations.ImageServices : Prop :=
  ∀ (s : State) (e : BitVec 7) (p t i v : Nat) (as bs : List Nat) (d : List Byte),
    let c := (s.task p t).ctx
    let n := c.x.toNat
    let g := s.cuAhead
    let j := g.rf (aPD_MOV_RANGE p) 15 0 + n
    Issues s e.toNat p t 1 → c.slot = none →
    (16383 < n → exec (.opImgrq e) s = .next (afterService s (g) p t (Ctx.answer 0xFFFFFF07 false))) ∧
      (n ≤ 16383 → g.moverUp = false → exec (.opImgrq e) s = .next (afterService s (g) p t (Ctx.answer 0xFFFFFF03 false))) ∧
      (n ≤ 16383 → g.moverUp = true → (g.descs p).find? (fun i => g.dKind i == 1 && g.dTarget i % 16384 == n && !g.dDis i) = none → exec (.opImgrq e) s = .next (afterService s (g) p t (Ctx.answer 0xFFFFFF01 false))) ∧
      (n ≤ 16383 → g.moverUp = true → (g.descs p).find? (fun i => g.dKind i == 1 && g.dTarget i % 16384 == n && !g.dDis i) = some i →
        g.slotV n = true → g.descBad i = false → g.slotPageBad n = false →
        g.locs p 2 (g.rf (aMD_1 i) 15 0) (packWords (g.newest n).1).length = .ok as → g.locs p 2 (g.rf (aMD_2 i) 15 0) (if g.rb (aMD_2 i) 31 then 1 else 0) = .ok bs →
        exec (.opImgrq e) s = .next (afterService s (s.wrAll (as ++ bs) (packWords (g.newest n).1 ++ [BitVec.ofNat 32 ((g.newest n).2.1 * 65536 + (g.newest n).2.2)])) p t (fun k => { k with lr := true }))) ∧
      (s.moverUp = false → exec (.opImgwr e) s = .next (afterService s (g) p t (Ctx.answer 0xFFFFFF03 false))) ∧
      (s.moverUp = true → g.rf (aPD_MOV_RANGE p) 31 16 ≤ n → exec (.opImgwr e) s = .next (afterService s (g) p t (Ctx.answer 0xFFFFFF04 false))) ∧
      (s.moverUp = true → n < g.rf (aPD_MOV_RANGE p) 31 16 → (g.dKind j ≠ 2 ∨ g.dDis j = true) → exec (.opImgwr e) s = .next (afterService s (g) p t (Ctx.answer 0xFFFFFF07 false))) ∧
      (g.moverUp = true → n < g.rf (aPD_MOV_RANGE p) 31 16 → g.dKind j = 2 → g.dDis j = false → g.descBad j = false → g.outStream p j = some v →
        g.readData p 2 (0x10000 + g.rf (aMD_1 j) 15 0) (g.dLen j) = .data d →
        let r := g.mkBlock j 0x8000 d
        exec (.opImgwr e) s = .next (afterService s (if r.1.silent p then r.1 else r.1.sendAll false false [(v, r.2)]) p t (fun k => { k with lr := true })))

/-- A customer instruction runs its entry; an undefined entry and an illegal word trap 0x05. R73, R92, R108, R109, R110, R111, R112.
Completes (2 forms answer a next state, under premises on state and operands alone): opIllegal, opCustomer. -/
def Obligations.CustomerAndIllegalResult : Prop :=
  ∀ (s : State) (e : BitVec 7) (m : BitVec 2) (x : BitVec 6) (w w0 : BitVec 14) (p t : Nat),
    let c := (s.task p t).ctx
    let l := s.dtEntry s.dtActive x.toNat
    let h := l.getD 0 0
    let n := if m = 3 then 2 else 1
    let run := Mic.run s c p (customOpnd c (fld h 30 28) m w) ((l.drop 32).take (fld h 20 16 + 1)) Mic.init
    (Issues s e.toNat p t 1 → exec (.opIllegal e w0) s = .next (s.trap e.toNat p t (Trap.plain 5))) ∧
    (Issues s e.toNat p t 1 → s.customUsable p m x.toNat = false →
      exec (.opCustomer e m x w) s = .next (s.trap e.toNat p t (Trap.plain 5))) ∧
    (Issues s e.toNat p t n → s.customUsable p m x.toNat = true →
      FMap.get (fun _ => false) s.dtBad (s.dtActive * 64 + x.toNat) = false →
      (∀ k, run = .ok k →
        exec (.opCustomer e m x w) s = .next (((s.landWrites k.wr).setTask p t { s.task p t with
          ctx := { ((Ctx.clocks (n - 1 + fld h 15 8) { c.cancelFor k.late with srec := none }).applyLate k.late) with
            p := nextP c n, slot := none }
          passBrk := false }).atBoundary p t)) ∧
      (∀ tr, run = .error tr → exec (.opCustomer e m x w) s = .next (s.trap e.toNat p t tr)))

/-- PD_CMD Run, Stop, Hold, Resume and Step, and PD_OPT: acceptance, effect and refusal. R120, R125, R143, R144, R145, R146, R147, R148, R149, R150, R151.
Completes (6 forms answer a next state, under premises on state and operands alone): pdRun, pdStop, pdHold, pdResume, pdStep, pdOptWrite. -/
def Obligations.PartitionCommandResult : Prop :=
  (∀ (s : State) (src : BitVec 10) (p : BitVec 9) (q : Nat),
      CommandOpen s src p q → s.mode q = 1 → (s.runWaits q = true ∨ s.startMismatch q = false) → exec (.pdRun src p) s = .next (s.await q .run)) ∧
    (∀ (s : State) (src : BitVec 10) (p : BitVec 9) (q : Nat),
      CommandOpen s src p q → s.mode q = 1 → s.runWaits q = false → s.startMismatch q = true → exec (.pdRun src p) s = .next (s.endCmd q 2)) ∧
    (∀ (s : State) (src : BitVec 10) (p : BitVec 9) (q : Nat),
      CommandOpen s src p q → s.mode q ≠ 1 → exec (.pdRun src p) s = .next (s.endCmd q 1)) ∧
    (∀ (s : State) (src : BitVec 10) (p : BitVec 9) (q : Nat),
      CommandOpen s src p q → (s.mode q = 2 ∨ s.mode q = 3) → s.inPause q = false → exec (.pdStop src p) s = .next ((s.await q .stop).stopPart q 1 0)) ∧
    (∀ (s : State) (src : BitVec 10) (p : BitVec 9) (q : Nat),
      CommandOpen s src p q → s.mode q ≠ 2 → s.mode q ≠ 3 → exec (.pdStop src p) s = .next (s.endCmd q 1)) ∧
    (∀ (s : State) (src : BitVec 10) (p : BitVec 9) (q : Nat),
      CommandOpen s src p q → s.mode q = 2 → s.holdRefusal q = none → s.inPause q = false → exec (.pdHold src p) s = .next ((s.enterHold q 0).endCmd q 0)) ∧
    (∀ (s : State) (src : BitVec 10) (p : BitVec 9) (q : Nat) (n : Nat),
      CommandOpen s src p q → s.mode q = 2 → s.holdRefusal q = some n → exec (.pdHold src p) s = .next (s.endCmd q n)) ∧
    (∀ (s : State) (src : BitVec 10) (p : BitVec 9) (q : Nat),
      CommandOpen s src p q → s.mode q ≠ 2 → exec (.pdHold src p) s = .next (s.endCmd q 1)) ∧
    (∀ (s : State) (src : BitVec 10) (p : BitVec 9) (q : Nat),
      CommandOpen s src p q → s.mode q = 3 → exec (.pdResume src p) s = .next (s.await q .resume)) ∧
    (∀ (s : State) (src : BitVec 10) (p : BitVec 9) (q : Nat),
      CommandOpen s src p q → s.mode q ≠ 3 → exec (.pdResume src p) s = .next (s.endCmd q 1)) ∧
    (∀ (s : State) (src : BitVec 10) (p : BitVec 9) (q : Nat) (arg : Byte) (n : Nat),
      CommandOpen s src p q → s.mode q = 3 → arg.toNat < 16 → taskEntry arg.toNat = some n → s.tstate q n ≠ tOff → s.inPause q = false → (n ≠ 8 ∨ (s.task q n).heldMid = true ∨ s.editPending q = false) → (n = 8 ∨ (s.task q n).heldMid = true ∨ s.otherMid q n = false) → exec (.pdStep src p arg) s = .next ((s.await q (.step n)).stepTask q n)) ∧
    (∀ (s : State) (src : BitVec 10) (p : BitVec 9) (q : Nat) (arg : Byte),
      CommandOpen s src p q → s.mode q = 3 → (16 ≤ arg.toNat ∨ taskEntry arg.toNat = none) → exec (.pdStep src p arg) s = .next (s.endCmd q 6)) ∧
    (∀ (s : State) (src : BitVec 10) (p : BitVec 9) (q : Nat) (arg : Byte),
      CommandOpen s src p q → s.mode q ≠ 3 → exec (.pdStep src p arg) s = .next (s.endCmd q 1)) ∧
    (∀ (s : State) (src : BitVec 10) (p : BitVec 9) (q : Nat) (arg : Byte),
      ReachesPart s src p q → s.rb (aPD_CMD_STAT q) 0 = true → ∀ c ∈ [Instr.pdRun src p, .pdStop src p, .pdHold src p, .pdResume src p, .pdStep src p arg],
        exec c s = .next (s.setRf (aPD_CMD_STAT q) 23 16 5)) ∧
    (∀ (s : State) (src : BitVec 10) (p : BitVec 9) (q : Nat) (data : W),
      ReachesPart s src p q → isVf src.toNat = false → s.mode q = 1 → exec (.pdOptWrite src p data) s = .next (s.setReg (aPD_OPT q) (data &&& 0x6))) ∧
    (∀ (s : State) (src : BitVec 10) (p : BitVec 9) (q : Nat) (data : W),
      ReachesPart s src p q → isVf src.toNat = false → s.mode q ≠ 1 → exec (.pdOptWrite src p data) s =
        .next (s.refuse src.toNat (accSpace src.toNat) (accOff src.toNat p.toNat 0x30) 0x0A)) ∧
    (∀ (s : State) (p cause : Nat) (bits : W),
      Canonical s → p < 512 → cause < 256 → s.mode p = 2 → s.pairPart p = false → (s.stopPart p cause bits).mode p = 1 ∧ (s.stopPart p cause bits).rf (aPD_MODE p) 15 8 = cause ∧ (s.stopPart p cause bits).ptime p = s.ptime p)

/-- DSP_COMMIT, DT_SWITCH and their ticks. R55, R56, R117, R118, R129, R130.
Completes (4 forms answer a next state, under premises on state and operands alone): dispatcherCommitGo, dispatcherCommitApply, dtSwitch,
dtSwitchApply. -/
def Obligations.TableCommitsResult : Prop :=
  (∀ (s : State) (src : BitVec 10),
      isVf src.toNat = false → exec (.dispatcherCommitGo src) s = .next (s.setRf aDSP_COMMIT 1 1 1)) ∧
    (∀ (s : State) (dt p t r : Nat),
      let u := s.elapse dt
      u.onTick = true → u.rb aDSP_COMMIT 1 = true → u.checkTables u.created = some (p, t, r) → exec (.dispatcherCommitApply dt) s =
        .next ((u.setReg aDSP_COMMIT 0).setReg aDSP_STAT (BitVec.ofNat 32 (p * 65536 + taskCode t * 4096 + r)))) ∧
    (∀ (s : State) (dt : Nat),
      let u := s.elapse dt
      u.onTick = true → u.rb aDSP_COMMIT 1 = true → u.checkTables u.created = none → let s1 := (u.setReg aDSP_COMMIT 0).setReg aDSP_STAT 0
      exec (.dispatcherCommitApply dt) s =
        .next (s1.created.foldl (fun s p => (List.range 9).foldl (fun s t => s.applyEntry p t) s) s1)) ∧
    (∀ (s : State) (src : BitVec 10),
      isVf src.toNat = false → s.dtPending = true → exec (.dtSwitch src) s = .next (s.setRf aDT_STAT 15 8 4)) ∧
    (∀ (s : State) (src : BitVec 10),
      let b := 1 - s.dtActive
      isVf src.toNat = false → s.dtPending = false → s.reg (aDtId b) = 0 → exec (.dtSwitch src) s = .next (s.dtRefuse 5)) ∧
    (∀ (s : State) (src : BitVec 10),
      let b := 1 - s.dtActive
      isVf src.toNat = false → s.dtPending = false → s.reg (aDtId b) ≠ 0 → s.dtCrcOf b = s.reg (aDtCrc b) → (∀ e < 64, FMap.get (fun _ => false) s.dtBad (b * 64 + e) = false) → s.dtMalformed b = none → (s.reg (aDtId b) ≠ s.reg aDT_ACTIVE_ID ∨ ∀ e < 64, s.dtChanges e = false) → s.dtBlocked = [] → exec (.dtSwitch src) s = .next ((s.setRf aDT_STAT 15 8 0).setRf aDT_STAT 1 1 1)) ∧
    (∀ (s : State) (dt : Nat),
      let u := s.elapse dt
      let b := 1 - u.dtActive
      u.onTick = true → u.dtPending = true → u.dtBlocked = [] → exec (.dtSwitchApply dt) s = .next ((((u.setRf aDT_STAT 1 1 0).setRf aDT_STAT 0 0 b).setReg aDT_ACTIVE_ID (u.reg (aDtId b))).setRf
        aDT_STAT 31 16 (u.rf aDT_STAT 31 16 + 1))) ∧
    (∀ (s : State) (dt : Nat),
      let u := s.elapse dt
      u.onTick = true → u.dtPending = true → u.dtBlocked ≠ [] → exec (.dtSwitchApply dt) s = .next (((u.setRf aDT_STAT 1 1 0).dtRefuse 3).dtConflict))

/-- Run and Resume apply; a task is released, switched in, pre-empted, copied in and out, overruns; a stop completes. R124, R127, R132, R133, R134, R136, R137, R138, R147, R149, R152, R190.
Completes (12 forms answer a next state, under premises on state and operands alone): preemption, taskSwitchDone, breakpointHit, runApply,
resumeApply, taskRelease, inputCopyComplete, outputCopyComplete, deadlineOverrun, stopComplete, stopSending, heldSending. -/
def Obligations.PassesAndReleasesResult : Prop :=
  (∀ (s : State) (e : BitVec 7) (k : Nat),
      (s.eng e.toNat).run = some k → s.outranked e.toNat k = true → exec (.preemption e) s = .next (s.preempt e.toNat k)) ∧
    (∀ (s : State) (e : BitVec 7) (k : Nat),
      (s.eng e.toNat).run = some k → s.outranked e.toNat k = false → exec (.preemption e) s = .next s) ∧
    (∀ (s : State) (e : BitVec 7) (k : Nat),
      (s.eng e.toNat).sw = some k → s.tstate (k / 16) (k % 16) = tReady → exec (.taskSwitchDone e) s = .next (s.takeEngine e.toNat k)) ∧
    (∀ (s : State) (e : BitVec 7) (k : Nat) (r : State),
      (s.eng e.toNat).sw = some k → s.tstate (k / 16) (k % 16) = tPreempted → s.restoreCtx (k / 16) (k % 16) = some r → exec (.taskSwitchDone e) s = .next (r.takeEngine e.toNat k)) ∧
    (∀ (s : State) (e : BitVec 7) (k : Nat),
      (s.eng e.toNat).sw = some k → s.tstate (k / 16) (k % 16) = tPreempted → s.restoreCtx (k / 16) (k % 16) = none → exec (.taskSwitchDone e) s =
        .next (((((s.setTState (k / 16) (k % 16) tOff).ctxFault (k / 16) (k % 16)).partFault (k / 16) 4 evFault).passFault (k / 16) (k % 16) 3 0).freeEngine e.toNat)) ∧
    (∀ (s : State) (e : BitVec 7) (k : Nat),
      (s.eng e.toNat).sw = some k → s.tstate (k / 16) (k % 16) = tHeld → (s.task (k / 16) (k % 16)).stepping = true → exec (.taskSwitchDone e) s = .next (s.beginStep e.toNat k)) ∧
    (∀ (s : State) (e : BitVec 7) (k : Nat),
      (s.eng e.toNat).run = some k → s.mode (k / 16) = 2 → (s.part (k / 16)).brk.any (fun b => b.2 == (s.task (k / 16) (k % 16)).ctx.p) = true → (s.task (k / 16) (k % 16)).ctx.slot = none → (s.task (k / 16) (k % 16)).passBrk = false → s.holdRefusal (k / 16) = none → exec (.breakpointHit e) s = .next (s.enterHold (k / 16) 2)) ∧
    (∀ (s : State) (p : BitVec 9) (dt : Nat),
      let u := s.elapse dt
      let q := p.toNat
      u.onTick = true → (u.part q).cmd = some .run → u.mode q = 1 → u.runWaits q = false → u.fatal = false → u.startMismatch q = false → exec (.runApply p dt) s = .next ((u.enterRun q).endCmd q 0)) ∧
    (∀ (s : State) (p : BitVec 9) (dt : Nat),
      let u := s.elapse dt
      let q := p.toNat
      u.onTick = true → (u.part q).cmd = some .run → u.mode q = 1 → u.runWaits q = false → u.fatal = false → u.startMismatch q = true → exec (.runApply p dt) s = .next (u.endCmd q 2)) ∧
    (∀ (s : State) (p : BitVec 9) (dt : Nat),
      let u := s.elapse dt
      let q := p.toNat
      u.onTick = true → (u.part q).cmd = some .resume → u.mode q = 3 → u.inPause q = false → u.fatal = false → exec (.resumeApply p dt) s = .next ((u.enterResume q).endCmd q 0)) ∧
    (∀ (s : State) (p : BitVec 9) (t : BitVec 3) (dt : Nat),
      let u := s.elapse dt
      let q := p.toNat
      let k := t.toNat
      u.onTick = true → u.onGrid q k u.grid = true → u.mode q = 2 → u.fatal = false → (u.task q k).notBefore.toNat < u.grid.toNat → u.standbyCopy q = false → u.tstate q k = tIdle → u.inPause q = false → u.ruCap.contains (q * 16 + k) = false → let stamp := u.grid - u.reg64 (aPD_OFFSET_LO q)
      exec (.taskRelease p t dt) s = .next (u.startPass q k stamp u.grid stamp)) ∧
    (∀ (s : State) (p : BitVec 9) (t : BitVec 3) (dt : Nat),
      let u := s.elapse dt
      let q := p.toNat
      let k := t.toNat
      u.onTick = true → u.onGrid q k u.grid = true → u.mode q = 2 → u.fatal = false → (u.task q k).notBefore.toNat < u.grid.toNat → u.standbyCopy q = false → u.tstate q k = tIdle → u.inPause q = true → exec (.taskRelease p t dt) s = .next (u.setTask q k { u.task q k with deferred := some u.grid })) ∧
    (∀ (s : State) (p : BitVec 9) (t : BitVec 3) (dt : Nat),
      let u := s.elapse dt
      let q := p.toNat
      let k := t.toNat
      u.onTick = true → u.onGrid q k u.grid = true → u.mode q = 2 → u.fatal = false → (u.task q k).notBefore.toNat < u.grid.toNat → u.standbyCopy q = false → tInput ≤ u.tstate q k → u.tstate q k ≤ tOutput → exec (.taskRelease p t dt) s = .next (u.setRf (aPD_TSTAT q k) 7 4 (min 15 (u.rf (aPD_TSTAT q k) 7 4 + 1)))) ∧
    (∀ (s : State) (p : BitVec 9) (t : BitVec 4) (steps dt : Nat) (j : CuJob),
      let u := s.elapse dt
      let q := p.toNat
      let k := t.toNat
      let s0 := u.finishOthers j
      let r := s0.cuRun (s0.cuBegin j) steps
      u.cuFirst = some j → u.moverUp = true → j.out = false → j.p = q → j.t = k → u.tstate q k = tInput → r.2.cur = [] → r.2.todo = [] → exec (.inputCopyComplete p t steps dt) s = .next ({ r.1 with cu := r.1.cu.filter (fun x => !j.same x) }.inputEnd r.2)) ∧
    (∀ (s : State) (p : BitVec 9) (t : BitVec 4) (steps dt : Nat) (j : CuJob),
      let u := s.elapse dt
      let q := p.toNat
      let k := t.toNat
      let s0 := u.finishOthers j
      let r := s0.cuRun (s0.cuBegin j) steps
      u.cuFirst = some j → u.moverUp = true → j.out = false → j.p = q → j.t = k → u.tstate q k = tInput → (r.2.cur ≠ [] ∨ r.2.todo ≠ []) → exec (.inputCopyComplete p t steps dt) s = .next { r.1 with cu := r.1.cu.map (fun x => if j.same x then r.2 else x) }) ∧
    (∀ (s : State) (p : BitVec 9) (t : BitVec 4) (steps dt : Nat) (j : CuJob),
      let u := s.elapse dt
      let q := p.toNat
      let k := t.toNat
      let s0 := u.finishOthers j
      let r := s0.cuRun (s0.cuBegin j) steps
      u.cuFirst = some j → u.moverUp = true → j.out = true → j.p = q → j.t = k → u.tstate q k = tOutput → r.2.cur = [] → r.2.todo = [] → exec (.outputCopyComplete p t steps dt) s = .next ({ r.1 with cu := r.1.cu.filter (fun x => !j.same x) }.outputEnd r.2)) ∧
    (∀ (s : State) (p : BitVec 9) (t : BitVec 4) (steps dt : Nat) (j : CuJob),
      let u := s.elapse dt
      let q := p.toNat
      let k := t.toNat
      u.cuFirst = some j → u.moverUp = true → (j.p ≠ q ∨ j.t ≠ k) → exec (.inputCopyComplete p t steps dt) s = .next u ∧ exec (.outputCopyComplete p t steps dt) s = .next u) ∧
    (∀ (s : State) (j : CuJob),
      s.pairPart j.p = false → s.inputEnd j = s.inputsDone j.p j.t ∧
        (((s.sendOut j.p j.t j.built).passDone j.p j.t).pairPart j.p = false →
          s.outputEnd j = ((s.sendOut j.p j.t j.built).passDone j.p j.t).finishPass j.p j.t)) ∧
    (∀ (s : State) (j : CuJob),
      let s1 := (s.sendOut j.p j.t j.built).passDone j.p j.t
      s.shadowPass j.p j.t = false → s1.pairPart j.p = true → s1.ruRole = 3 → j.t ≠ 8 → s.outputEnd j = (s1.capture j.p j.t (crc64 (j.built.flatMap (fun b => b.2.data)))).finishPass j.p j.t) ∧
    (∀ (s : State) (p : BitVec 9) (t : BitVec 4) (dt : Nat) (d : W64),
      let u := s.elapse dt
      let q := p.toNat
      let k := t.toNat
      (u.task q k).limit = some d → u.mode q = 2 → tInput ≤ u.tstate q k → u.tstate q k ≤ tOutput → d.toNat ≤ (u.ptime q).toNat → u.rb (aPD_EVT q) 2 = false → exec (.deadlineOverrun p t dt) s =
        .next (((u.setRf (aPD_EVT q) 15 12 (taskCode k)).partFault q 3 evOverrun).passFault q k 2 0)) ∧
    (∀ (s : State) (p : BitVec 9) (t : BitVec 4) (dt : Nat),
      let u := s.elapse dt
      let q := p.toNat
      let k := t.toNat
      (u.task q k).limit = none → exec (.deadlineOverrun p t dt) s = .next u) ∧
    (∀ (s : State) (p : BitVec 9) (dt : Nat),
      let u := s.elapse dt
      let q := p.toNat
      let s1 := u.stopChannels q 27 26
      let s2 := s1.setPart q { s1.part q with stopping := false }
      u.mode q = 1 → (u.part q).stopping = true → u.allOff q = true → u.moverUp = true → (u.part q).sending = .stop → (s2.part q).cmd = some .stop → exec (.stopComplete p dt) s = .next (s2.endCmd q 0)) ∧
    (∀ (s : State) (p : BitVec 9) (dt : Nat),
      let u := s.elapse dt
      let q := p.toNat
      let s1 := u.stopChannels q 29 28
      let s2 := s1.setPart q { s1.part q with stopping := false }
      u.mode q = 1 → (u.part q).stopping = true → u.allOff q = true → u.moverUp = true → (u.part q).sending ≠ .stop → (s2.part q).cmd = none → exec (.stopComplete p dt) s = .next s2) ∧
    (∀ (s : State) (p : BitVec 9) (t : BitVec 3) (dt : Nat),
      let u := s.elapse dt
      let q := p.toNat
      let k := t.toNat
      let safe := decide ((u.part q).sending = .safe)
      u.mode q = 1 → (u.part q).stopping = false → (u.part q).sending ≠ .none → u.onTick = true → u.onGrid q k u.grid = true → u.moverUp = true → exec (.stopSending p t dt) s =
        .next (u.cuAhead.sendIdle q k 0x2000 false safe (fun s i => some (s.stopData q i (if safe then s.rf (aMD_2 i) 29 28 else s.rf (aMD_2 i) 31 30))))) ∧
    (∀ (s : State) (p : BitVec 9) (t : BitVec 3) (dt : Nat),
      let u := s.elapse dt
      let q := p.toNat
      let k := t.toNat
      u.mode q = 3 → (u.part q).sending = .held → u.onTick = true → u.onGrid q k u.grid = true → u.moverUp = true → exec (.heldSending p t dt) s =
        .next (u.cuAhead.sendIdle q k 0xC000 true false (fun s i => match FMap.get (fun _ => []) s.lastOut i with | [] => none | d => some (s, d))))

/-- PD_COMMIT.GO, the edit boundary, the end of the boundary pause and the edit timeout. R154, R155, R156, R157, R158, R159, R160, R161, R162, R55, R56, R472.
Completes (4 forms answer a next state, under premises on state and operands alone): editCommitGo, editBoundary, boundaryPauseEnd, editTimeout. -/
def Obligations.OnlineEditResult : Prop :=
  (∀ (s : State) (src : BitVec 10) (p : BitVec 9),
      let s1 := s.setReg (aPD_COMMIT p.toNat) 2
      isVf src.toNat = false → p.toNat < s.fuse.partitions → s.mode p.toNat ≠ 0 → s.editPending p.toNat = false → s1.editReason p.toNat = 0 → exec (.editCommitGo src p) s = .next (s1.setPart p.toNat { s1.part p.toNat with edit := some (s1.ptime p.toNat) })) ∧
    (∀ (s : State) (src : BitVec 10) (p : BitVec 9) (r : Nat),
      let s1 := s.setReg (aPD_COMMIT p.toNat) 2
      isVf src.toNat = false → p.toNat < s.fuse.partitions → s.mode p.toNat ≠ 0 → s.editPending p.toNat = false → s1.editReason p.toNat = r → r ≠ 0 → r ≠ 3 → exec (.editCommitGo src p) s = .next (s1.editRefuse p.toNat r)) ∧
    (∀ (s : State) (src : BitVec 10) (p : BitVec 9),
      isVf src.toNat = false → p.toNat < s.fuse.partitions → s.mode p.toNat ≠ 0 → s.editPending p.toNat = true → exec (.editCommitGo src p) s = .next s) ∧
    (∀ (s : State) (src : BitVec 10) (p : BitVec 9),
      isVf src.toNat = false → p.toNat < s.fuse.partitions → s.mode p.toNat = 0 → exec (.editCommitGo src p) s =
        .next (s.refuse src.toNat (accSpace src.toNat) (accOff src.toNat p.toNat 0x60) 0x0A)) ∧
    (∀ (s : State) (p : BitVec 9) (dt : Nat) (ms : List Move),
      let u := s.elapse dt
      let q := p.toNat
      let r := u.migrateAll q (u.migCount q) 0
      u.editReady q = true → r.2 = some ms → exec (.editBoundary p dt) s = .next (r.1.beginPause q (u.pauseLen q ms) false)) ∧
    (∀ (s : State) (p : BitVec 9) (dt : Nat),
      let u := s.elapse dt
      let q := p.toNat
      let r := u.migrateAll q (u.migCount q) 0
      u.editReady q = true → r.2 = none → exec (.editBoundary p dt) s = .next (r.1.useFresh.beginPause q (Config.earlyPause r.1.fresh).toNat true)) ∧
    (∀ (s : State) (p : BitVec 9) (dt : Nat),
      let u := s.elapse dt
      let q := p.toNat
      u.editReady q = false → exec (.editBoundary p dt) s = .next u) ∧
    (∀ (s : State) (p : BitVec 9) (dt : Nat) (z : Pause),
      let u := s.elapse dt
      let q := p.toNat
      (u.part q).pause = some z → z.start + z.len ≤ u.fab → z.fault = false → (u.dtPending = false ∨ u.headerChanges q = false) → exec (.boundaryPauseEnd p dt) s =
        .next (((u.setReg (aPD_EDIT_PAUSE q) (BitVec.ofNat 32 (z.len % 65536))).applyEdit q).afterPause q)) ∧
    (∀ (s : State) (p : BitVec 9) (dt : Nat) (z : Pause),
      let u := s.elapse dt
      let q := p.toNat
      (u.part q).pause = some z → z.start + z.len ≤ u.fab → z.fault = true → exec (.boundaryPauseEnd p dt) s =
        .next (((u.setReg (aPD_EDIT_PAUSE q) (BitVec.ofNat 32 (z.len % 65536))).failEdit q).afterPause q)) ∧
    (∀ (s : State) (p : BitVec 9) (dt : Nat) (t : W64),
      let u := s.elapse dt
      let q := p.toNat
      (u.part q).edit = some t → u.mode q = 2 → u.inPause q = false → t.toNat + 1000000000 ≤ (u.ptime q).toNat → exec (.editTimeout p dt) s = .next (u.editRefuse q 1))

/-- TR_CMD CREATE, REMOVE, STAGE, UNSTAGE and RETCLR: effects and REASONs. R178, R164, R165, R166, R125, R195, R34, R237.
Completes (5 forms answer a next state, under premises on state and operands alone): create, remove, stage, unstage, retclr. -/
def Obligations.PartitionAndPageCommandsResult : Prop :=
  (∀ (s : State) (src : BitVec 10),
      isVf src.toNat = false → s.rb aTR_CMD_STAT 0 = false → s.mgmt = false → s.supRun = true → s.trPart < s.fuse.partitions → s.mode s.trPart = 0 → exec (.create src) s =
        .next (((((s.clearPart s.trPart).setReg64 (aPD_OFFSET_LO s.trPart) s.now).setRf (aPD_MODE s.trPart) 2 0 1).pdEvent s.trPart evMode).endTr 0)) ∧
    (∀ (s : State) (src : BitVec 10),
      isVf src.toNat = false → s.rb aTR_CMD_STAT 0 = false → s.mgmt = false → s.supRun = true → s.trPart < s.fuse.partitions → s.mode s.trPart ≠ 0 → exec (.create src) s = .next (s.endTr 1)) ∧
    (∀ (s : State) (src : BitVec 10),
      isVf src.toNat = false → s.rb aTR_CMD_STAT 0 = false → s.mgmt = false → s.supRun = true → s.fuse.partitions ≤ s.trPart → ∀ c ∈ [Instr.create src, .remove src, .stage src, .unstage src], exec c s = .next (s.endTr 2)) ∧
    (∀ (s : State) (src : BitVec 10),
      isVf src.toNat = false → s.rb aTR_CMD_STAT 0 = false → s.mgmt = false → s.supRun = true → s.trPart < s.fuse.partitions → s.mode s.trPart = 1 → (s.part s.trPart).stopping = false → s.pairPart s.trPart = false → exec (.remove src) s = .next ((s.removePart s.trPart).endTr 0)) ∧
    (∀ (s : State) (src : BitVec 10),
      isVf src.toNat = false → s.rb aTR_CMD_STAT 0 = false → s.mgmt = false → s.supRun = true → s.trPart < s.fuse.partitions → s.mode s.trPart = 1 → (s.part s.trPart).stopping = false → s.pairPart s.trPart = true → exec (.remove src) s = .next (s.endTr 7)) ∧
    (∀ (s : State) (src : BitVec 10),
      let p := s.trPart
      let k := s.trKind
      let l := (s.freePages s.trKind).take s.trCount
      isVf src.toNat = false → s.rb aTR_CMD_STAT 0 = false → s.mgmt = false → s.supRun = true → s.trPart < s.fuse.partitions → s.mode s.trPart ≠ 0 → s.trKind < 3 → s.trCount ≠ 0 → l.length = s.trCount → exec (.stage src) s =
        .next (((l.foldl (fun s n => s.setPage k n pgStaged p) s).setReg aTR_RESULT (BitVec.ofNat 32 (l.getLastD 0 * 65536 + l.headD 0))).endTr 0)) ∧
    (∀ (s : State) (src : BitVec 10),
      isVf src.toNat = false → s.rb aTR_CMD_STAT 0 = false → s.mgmt = false → s.supRun = true → s.trPart < s.fuse.partitions → s.mode s.trPart ≠ 0 → s.trKind < 3 → s.trCount ≠ 0 → (s.freePages s.trKind).length < s.trCount → exec (.stage src) s = .next (s.endTr 3)) ∧
    (∀ (s : State) (src : BitVec 10),
      let k := s.trKind
      let l := (List.range s.trCount).map (fun i => s.trFirst + i)
      isVf src.toNat = false → s.rb aTR_CMD_STAT 0 = false → s.mgmt = false → s.supRun = true → s.trPart < s.fuse.partitions → s.trKind < 3 → s.trCount ≠ 0 → s.trFirst + s.trCount ≤ pageCount s.trKind → (∀ n ∈ l, s.pgState k n = pgStaged ∧ s.pgPart k n = s.trPart ∧ (pagesOf s.trP s.trPart).contains (k, n) = false) → exec (.unstage src) s = .next ((l.foldl (fun s n => s.toZeroing k n) s).endTr 0)) ∧
    (∀ (s : State) (src : BitVec 10),
      let k := s.trKind
      let n := s.trFirst
      isVf src.toNat = false → s.rb aTR_CMD_STAT 0 = false → s.mgmt = false → s.supRun = true → k < 3 → n < pageCount k → s.pgState k n = pgRetired → s.granted src.toNat 4 = true → exec (.retclr src) s = .next ({ s.toZeroing k n with retList := FMap.erase s.retList (retKey k n) }.endTr 0)) ∧
    (∀ (s : State) (src : BitVec 10),
      let k := s.trKind
      let n := s.trFirst
      isVf src.toNat = false → s.rb aTR_CMD_STAT 0 = false → s.mgmt = false → s.supRun = true → k < 3 → n < pageCount k → s.pgState k n = pgRetired → s.granted src.toNat 4 = false → exec (.retclr src) s = .next (s.endTr 6)) ∧
    (∀ (s : State) (src : BitVec 10),
      isVf src.toNat = false → s.rb aTR_CMD_STAT 0 = true → ∀ c ∈ [Instr.create src, .remove src, .stage src, .unstage src, .retclr src], exec c s = .next (s.setRf aTR_CMD_STAT 15 8 8)) ∧
    (∀ (s : State) (src : BitVec 10),
      isVf src.toNat = false → s.rb aTR_CMD_STAT 0 = false → s.mgmt = false → s.supRun = false → ∀ c ∈ [Instr.create src, .remove src, .stage src, .unstage src, .retclr src], exec c s = .next (s.endTr 0xFF))

/-- Zeroing, pending translation entries, mover ranges, scrubbing and retirement. R165, R166, R174, R175, R179, R183, R191, R192, R193.
Completes (6 forms answer a next state, under premises on state and operands alone): pageZeroed, trEntryWrite, pdMovRangeWrite, scrub, pageRetirement,
retirementCopyDone. -/
def Obligations.PagesAndEntriesResult : Prop :=
  (∀ (s : State) (dt : Nat) (k n : Nat) (r : List (Nat × Nat)),
      let u := s.elapse dt
      u.moverUp = true → u.anyPause = false → u.retCopy = none → u.zeroQ = (k, n) :: r → exec (.pageZeroed dt) s = .next { (u.clearPage k n).setPage k n pgFree 0 with zeroQ := r }) ∧
    (∀ (s : State) (dt : Nat),
      let u := s.elapse dt
      u.anyPause = true → exec (.pageZeroed dt) s = .next u) ∧
    (∀ (s : State) (src : BitVec 10) (i : BitVec 12) (d : W),
      let p := fld (s.regFor src.toNat aTR_PSEL) 9 0
      let k := entryKind i.toNat
      isVf src.toNat = false → p < s.fuse.partitions → i.toNat < entriesPerPart → s.mode p ≠ 0 → s.editPending p = false → (entV d = true → entPPN d < pageCount k ∧ (s.pgState k (entPPN d) = pgStaged ∨ s.pgState k (entPPN d) = pgOwned) ∧ s.pgPart k (entPPN d) = p) → exec (.trEntryWrite src i d) s = .next (s.setEntP (p * entriesPerPart + i.toNat) (d &&& 0x80003FFF))) ∧
    (∀ (s : State) (src : BitVec 10) (i : BitVec 12) (d : W),
      let p := fld (s.regFor src.toNat aTR_PSEL) 9 0
      let k := entryKind i.toNat
      isVf src.toNat = false → p < s.fuse.partitions → i.toNat < entriesPerPart → s.mode p ≠ 0 → s.editPending p = false → entV d = true → s.pgPart k (entPPN d) ≠ p → exec (.trEntryWrite src i d) s = .next (s.refuse src.toNat (accSpace src.toNat) (0x410000 + 4 * i.toNat) 0x0A)) ∧
    (∀ (s : State) (src : BitVec 10) (i : BitVec 12) (d : W),
      let p := fld (s.regFor src.toNat aTR_PSEL) 9 0
      isVf src.toNat = false → p < s.fuse.partitions → i.toNat < entriesPerPart → s.mode p ≠ 0 → s.editPending p = true → exec (.trEntryWrite src i d) s = .next (s.refuse src.toNat (accSpace src.toNat) (0x410000 + 4 * i.toNat) 4)) ∧
    (∀ (s : State) (src : BitVec 10) (p : BitVec 9) (d : W),
      let f := fld d 15 0
      let n := fld d 31 16
      isVf src.toNat = false → p.toNat < s.fuse.partitions → s.mode p.toNat ≠ 0 → s.editPending p.toNat = false → f + n ≤ 61440 → n ≤ 4096 → s.hitsPart f n (some p.toNat) = false → overlap f n (s.rf aMOV_DEV_RANGE 15 0) (s.rf aMOV_DEV_RANGE 31 16) = false → overlap f n (fld (s.pnd aMOV_DEV_RANGE) 15 0) (fld (s.pnd aMOV_DEV_RANGE) 31 16) = false → exec (.pdMovRangeWrite src p d) s = .next (s.setPnd (aPD_MOV_RANGE p.toNat) d)) ∧
    (∀ (s : State) (src : BitVec 10) (p : BitVec 9) (d : W),
      let f := fld d 15 0
      let n := fld d 31 16
      isVf src.toNat = false → p.toNat < s.fuse.partitions → s.mode p.toNat ≠ 0 → s.editPending p.toNat = false → (61440 < f + n ∨ 4096 < n) → exec (.pdMovRangeWrite src p d) s =
        .next (s.refuse src.toNat (accSpace src.toNat) (accOff src.toNat p.toNat 0x394) 0x0A)) ∧
    (∀ (s : State) (a : BitVec 28),
      let w := a.toNat / 4 * 4
      a.toNat < 0xD000000 → exec (.scrub a 1) s = .next (s.collect (6 + (pageOf w).1) cCorrected 0x02 (pageOf w).2) ∧
        exec (.scrub a 2) s = .next (((s.setBad w true).storeFault w).zeroingBad (pageOf w).1 (pageOf w).2) ∧
        (s.isBad w = false → exec (.scrub a 0) s = .next s)) ∧
    (∀ (s : State) (a : BitVec 28),
      let key := a.toNat - 0xE000000
      0xE000000 ≤ a.toNat → a.toNat < 0xE000000 + 512 * entriesPerPart → exec (.scrub a 1) s = .next (s.collect 9 cCorrected 0x02 (key / entriesPerPart)) ∧
        exec (.scrub a 2) s = .next (s.entryFault key)) ∧
    (∀ (s : State) (k : BitVec 2) (n : BitVec 14) (dt f : Nat),
      let u := s.elapse dt
      let p := u.pgPart k.toNat n.toNat
      k.toNat < 3 → n.toNat < pageCount k.toNat → u.pgRetp k.toNat n.toNat = true → u.pgState k.toNat n.toNat = pgOwned → (u.freePages k.toNat).head? = some f → u.mode p = 1 → (u.part p).stopping = false → u.retCopy = none → u.anyPause = false → u.moverUp = true → exec (.pageRetirement k n dt) s = .next { u.setPage k.toNat f pgOwned p with retCopy := some (k.toNat, n.toNat, f, p) }) ∧
    (∀ (s : State) (dt : Nat) (k n f p : Nat),
      let u := s.elapse dt
      u.moverUp = true → u.anyPause = false → u.retCopy = some (k, n, f, p) → u.mode p = 1 → exec (.retirementCopyDone dt) s = .next { ((u.copyPage k n f).switchEntry p k n f).retireNow k n with retCopy := none })

/-- CMP and CMPK never set OS. R86.
Completes (2 forms answer a next state, under premises on state and operands alone): opCmp, opCmpk. -/
def Obligations.CompareNeverSetsOs : Prop :=
  ∀ (s : State) (e : BitVec 7) (m : BitVec 2) (x : BitVec 6) (w : BitVec 14) (p t : Nat) (imm : BitVec 14),
    let o : Opnd := ⟨m, x, w⟩
    let c := (s.task p t).ctx
    (Issues s e.toNat p t o.words →
      (∃ g : BitVec 4, exec (.opCmp e m x w) s = .next (afterPass s p t o.words o.words none { c with inF := some (g, 2) })) ∨
      (∃ tr, s.readWord c p (o.ea c .word) = .error tr ∧ exec (.opCmp e m x w) s = .next (s.trap e.toNat p t tr))) ∧
    (Issues s e.toNat p t 2 → ∃ g : BitVec 4, exec (.opCmpk e imm) s = .next (afterPass s p t 2 2 none { c with inF := some (g, 2) })) ∧
    (∀ (k : Ctx) (g : BitVec 4) (n i : Nat), (Ctx.clocks i { k with inF := some (g, n) }).f.getLsbD 4 = (Ctx.clocks i { k with inF := none }).f.getLsbD 4)

/-- A write of its current SEQ clears a status group, any other value changes nothing. R46.
Completes (1 form answers a next state, under premises on state and operands alone): seqWrite. -/
def Obligations.SeqWriteClearsItsGroup : Prop :=
  ∀ (s : State) (off : BitVec 28) (d : W) (r : RegRow),
    let a := off.toNat
    FMap.wf (regReset s.fuse) s.regs = true → a < 0x8000000 → regRow a = some r → r.ws ≠ 0 → addrPresent s.fuse a = true →
    (∀ b, farBstat a = some b → s.rb b 0 = false ∧ s.rb b 1 = false) →
    (d = s.reg a → ∃ t, exec (.seqWrite 0 off d) s = .next t ∧ (∀ x ∈ groupRegs a, t.reg x = 0) ∧ t.reg a = s.reg a ∧
      (∀ x, x ∉ groupRegs a → t.reg x = s.reg x) ∧ t = { s with regs := t.regs }) ∧
    (d ≠ s.reg a → exec (.seqWrite 0 off d) s = .next s)

/-- Register locations of an absent unit read zero and take no write. R4.
Completes (2 forms answer a next state, under premises on state and operands alone): registerWrite, registerRead. -/
def Obligations.AbsentUnitLocations : Prop :=
  ∀ (s : State) (src : BitVec 10) (off : BitVec 28) (d : W64),
    let a := off.toNat
    (isVf src.toNat = false → a % 4 = 0 → a < 0x8000000 → addrPresent s.fuse a = false →
      exec (.registerWrite src off 4 true d) s = .next s ∧
      exec (.registerRead src false off 4) s = .next (s.emit (.readData src.toNat (zeros 4))) ∧
      (a % 8 = 0 → a + 4 < 0x8000000 → addrPresent s.fuse (a + 4) = false →
        exec (.registerWrite src off 8 true d) s = .next s ∧
        exec (.registerRead src false off 8) s = .next (s.emit (.readData src.toNat (zeros 8))))) ∧
    (isVf src.toNat = true → s.fuse.partitions < src.toNat → s.fnOn src.toNat = true → inImage a = false → a % 4 = 0 →
      exec (.registerWrite src off 4 true d) s = .next s ∧
      exec (.registerRead src false off 4) s = .next (s.emit (.readData src.toNat (zeros 4))))

/-- Register writes and reads of PF0: pending values, read-only locations, posted writes, far reads, latched counters, refused sizes. R40, R41, R42, R43, R44, R48, R49, R50, R51, R55, R56.
Completes (6 forms answer a next state, under premises on state and operands alone): registerWrite, registerRead, counterLowRead, rwpWrite,
rwpApplied, farReadComplete. -/
def Obligations.HostRegisterAccessResult : Prop :=
  (∀ (s : State) (off : BitVec 28) (d : W64) (r : RegRow),
      let a := off.toNat
      a % 4 = 0 → a < 0x8000000 → addrPresent s.fuse a = true → regRow a = some r → (inPd a = false ∨ s.mode (pdIdx a) ≠ 0) → r.ws = 0 → rwpMask a = 0 → r.wo = 0 → r.rw = 0 → r.pend ≠ 0 → ¬ (0x410000 ≤ a ∧ a < 0x420000) → (inPd a = false ∨ a % 0x800 ≠ 0x394) → a ≠ aMOV_DEV_RANGE → s.commitShut a = false → s.pendBad a (lo32 d) = false → let s1 := s.setPnd a (mergeBits (s.pnd a) (pendMask a) (lo32 d))
      exec (.registerWrite 0 off 4 true d) s =
        .next (if isStrobed a then s1 else { s1 with touched := FMap.set (fun _ => false) s1.touched a true })) ∧
    (∀ (s : State) (off : BitVec 28) (d : W64) (r : RegRow),
      let a := off.toNat
      a % 4 = 0 → a < 0x8000000 → addrPresent s.fuse a = true → regRow a = some r → (inPd a = false ∨ s.mode (pdIdx a) ≠ 0) → r.ws = 0 → rwpMask a = 0 → r.wo = 0 → r.rw = 0 → r.pend ≠ 0 → ¬ (0x410000 ≤ a ∧ a < 0x420000) → (inPd a = false ∨ a % 0x800 ≠ 0x394) → a ≠ aMOV_DEV_RANGE → s.commitShut a = true → exec (.registerWrite 0 off 4 true d) s = .next (s.refuse 0 0 a 4)) ∧
    (∀ (s : State) (off : BitVec 28) (d : W64) (r : RegRow),
      let a := off.toNat
      a % 4 = 0 → a < 0x8000000 → addrPresent s.fuse a = true → regRow a = some r → (inPd a = false ∨ s.mode (pdIdx a) ≠ 0) → r.ws = 0 → rwpMask a = 0 → r.wo = 0 → r.rw = 0 → r.pend ≠ 0 → ¬ (0x410000 ≤ a ∧ a < 0x420000) → (inPd a = false ∨ a % 0x800 ≠ 0x394) → a ≠ aMOV_DEV_RANGE → s.commitShut a = false → s.pendBad a (lo32 d) = true → exec (.registerWrite 0 off 4 true d) s = .next (s.refuse 0 0 a 0x0A)) ∧
    (∀ (s : State) (off : BitVec 28) (d : W64) (r : RegRow),
      let a := off.toNat
      a % 4 = 0 → a < 0x8000000 → addrPresent s.fuse a = true → regRow a = some r → (inPd a = false ∨ s.mode (pdIdx a) ≠ 0) → r.ws = 0 → rwpMask a = 0 → r.wo = 0 → r.rw = 0 → r.pend = 0 → a ≠ aFLT_DUMP → exec (.registerWrite 0 off 4 true d) s = .next s) ∧
    (∀ (s : State) (src : BitVec 10) (off : BitVec 28) (size : BitVec 4) (full : Bool) (d : W64),
      s.fnOn src.toNat = true → (full = false ∨ sizeOk off.toNat size.toNat = false) → exec (.registerWrite src off size full d) s = .next (s.refuse src.toNat (accSpace src.toNat) off.toNat 1)) ∧
    (∀ (s : State) (src : BitVec 10) (off : BitVec 28) (size : BitVec 4) (full : Bool) (d : W64),
      s.fnOn src.toNat = false → exec (.registerWrite src off size full d) s = .next s ∧ ∀ (bar2 : Bool) (len : BitVec 13), exec (.registerRead src bar2 off len) s = .next s) ∧
    (∀ (s : State) (off : BitVec 28) (d : W64),
      off.toNat % 8 = 0 → exec (.registerWrite 0 off 8 true d) s = .next ((s.write1 0 off.toNat (lo32 d)).write1 0 (off.toNat + 4) (hi32 d))) ∧
    (∀ (s : State) (off : BitVec 28),
      let a := off.toNat
      a % 4 = 0 → a < 0x1000000 → (regRow a).isSome = true → addrPresent s.fuse a = true → (inPd a = false ∨ s.mode (pdIdx a) ≠ 0) → farBstat a = none → highOf a = none → s.latched 0 a = none → exec (.registerRead 0 false off 4) s = .next (s.emit (.readData 0 (bytesOf (s.shown 0 a))))) ∧
    (∀ (s : State) (src : BitVec 10) (off : BitVec 28) (h : Nat),
      let a := off.toNat
      isVf src.toNat = false → a % 4 = 0 → a < 0x1000000 → (regRow a).isSome = true → addrPresent s.fuse a = true → (inPd a = false ∨ s.mode (pdIdx a) ≠ 0) → farBstat a = none → highOf a = some h → exec (.counterLowRead src off) s = .next ({ s with latch := FMap.set (fun _ => (0, 0)) s.latch src.toNat (h, s.shown src.toNat h) }.emit (.readData src.toNat (bytesOf (s.shown src.toNat a))))) ∧
    (∀ (s : State) (off : BitVec 28) (d : W) (r : RegRow) (b : Nat),
      let a := off.toNat
      a < 0x8000000 → addrPresent s.fuse a = true → regRow a = some r → r.ws = 0 → rwpMask a ≠ 0 → farBstat a = some b → (farCodes a = none ∨ ∃ n, farCodes a = some n ∧ fld d 3 0 ≠ 0 ∧ fld d 3 0 ≤ n) → rwpBad a d = false → s.rb b 1 = false → s.rb b 0 = false → exec (.rwpWrite 0 off d) s = .next { s.setRf b 0 0 1 with posted := FMap.set (fun _ => none) s.posted b (some (0, a, d)) }) ∧
    (∀ (s : State) (off : BitVec 28) (d : W) (r : RegRow) (b : Nat),
      let a := off.toNat
      a < 0x8000000 → addrPresent s.fuse a = true → regRow a = some r → r.ws = 0 → rwpMask a ≠ 0 → farBstat a = some b → farCodes a = none → rwpBad a d = false → (s.rb b 1 = true → exec (.rwpWrite 0 off d) s = .next (s.refuse 0 0 a 3)) ∧
        (s.rb b 1 = false → s.rb b 0 = true → exec (.rwpWrite 0 off d) s = .next (s.refuse 0 0 a 2))) ∧
    (∀ (s : State) (inst : BitVec 8) (sub : BitVec 15) (found : BitVec 2) (dt src a : Nat) (d : W),
      let u := s.elapse dt
      let b := instBstat inst.toNat
      u.rb b 1 = false → FMap.get (fun _ => none) u.posted b = some (src, a, d) → exec (.rwpApplied inst sub found dt) s =
        .next ((({ u with posted := FMap.set (fun _ => none) u.posted b none }.setRf b 0 0 0).farApply src a d sub found).setRf b 0 0 0)) ∧
    (∀ (s : State) (off : BitVec 28) (sub : BitVec 15) (b : Nat),
      let a := off.toNat
      let s1 := s.settle b sub 0
      a % 4 = 0 → a < 0x8000000 → (regRow a).isSome = true → addrPresent s.fuse a = true → inPd a = false → farBstat a = some b → b ≠ aRTC_BSTAT → servedHere a = false → inEvWindow a = false → s1.rb b 1 = false → s1.nvBlock = false → let g := s1.served 0 a
      exec (.farReadComplete 0 off sub) s = .next (g.1.emit (.readData 0 (bytesOf (g.2.getD 0)))))

/-- Bit aliases, store and image windows, configuration requests, endpoint resets, the die link. R32, R36, R37, R38, R39, R59, R60, R61, R187, R451, R468.
Completes (8 forms answer a next state, under premises on state and operands alone): aliasWrite, storeWindowWrite, imageWindowWrite,
configurationRequest, vfFlr, pf0Reset, pciePerst, dieLinkRestored. -/
def Obligations.AliasWindowAndConfigurationResult : Prop :=
  (∀ (s : State) (src : BitVec 10) (off : BitVec 28) (bit : Bool) (r : RegRow),
      let o := (aliasOf (off.toNat - 0x8000000)).1
      let b := (aliasOf (off.toNat - 0x8000000)).2
      isVf src.toNat = false → s.fnOn src.toNat = true → 0x8000000 ≤ off.toNat → off.toNat < 0xA000000 → regRow o = some r → o < 0x100000 → addrPresent s.fuse o = true → ((rwpMask o).getLsbD b || r.wo.testBit b || r.ws.testBit b) = true → exec (.aliasWrite src off bit) s = .next (s.refuse src.toNat (accSpace src.toNat) off.toNat 7)) ∧
    (∀ (s : State) (src : BitVec 10) (off : BitVec 28) (bit : Bool) (r : RegRow),
      let o := (aliasOf (off.toNat - 0x8000000)).1
      let b := (aliasOf (off.toNat - 0x8000000)).2
      isVf src.toNat = false → s.fnOn src.toNat = true → 0x8000000 ≤ off.toNat → off.toNat < 0xA000000 → regRow o = some r → o < 0x100000 → addrPresent s.fuse o = true → ((rwpMask o).getLsbD b || r.wo.testBit b || r.ws.testBit b) = false → r.rw.testBit b = true → exec (.aliasWrite src off bit) s = .next (s.refile (s.regWrite src.toNat o (putBit (s.raw src.toNat o) b bit)) src.toNat o off.toNat)) ∧
    (∀ (s : State) (src : BitVec 10) (off : BitVec 28) (bit : Bool) (r : RegRow),
      let o := (aliasOf (off.toNat - 0x8000000)).1
      let b := (aliasOf (off.toNat - 0x8000000)).2
      isVf src.toNat = false → s.fnOn src.toNat = true → 0x8000000 ≤ off.toNat → off.toNat < 0xA000000 → regRow o = some r → o < 0x100000 → addrPresent s.fuse o = true → ((rwpMask o).getLsbD b || r.wo.testBit b || r.ws.testBit b) = false → r.rw.testBit b = false → r.pend.testBit b = true → exec (.aliasWrite src off bit) s = .next (s.refile (s.regWrite src.toNat o (putBit (s.pnd o) b bit)) src.toNat o off.toNat)) ∧
    (∀ (s : State) (off : BitVec 28) (data : List Byte),
      onePacket off.toNat data.length = true → off.toNat < 0xD000000 → s.pageShut off.toNat = none → exec (.storeWindowWrite off data) s =
        .next (match (wordsIn off.toNat data.length).find? (fun o => s.isBad o && decide (o < off.toNat ∨ off.toNat + data.length < o + 4)) with
          | some o => (s.storeFault o).refuse 0 1 off.toNat 0x0A
          | none => (wordsIn off.toNat data.length).foldl (fun s o => s.putWord o off.toNat data) s)) ∧
    (∀ (s : State) (off : BitVec 28) (data : List Byte) (c : Nat),
      onePacket off.toNat data.length = true → off.toNat < 0xD000000 → s.pageShut off.toNat = some c → exec (.storeWindowWrite off data) s = .next (s.refuse 0 1 off.toNat c)) ∧
    (∀ (s : State) (vf : BitVec 10) (off : BitVec 28) (data : List Byte),
      isVf vf.toNat = true → s.fnOn vf.toNat = true → vf.toNat ≤ s.fuse.partitions → inImage off.toNat = true → onePacket off.toNat data.length = true → (s.mode (vf.toNat - 1) = 0 → exec (.imageWindowWrite vf off data) s = .next (s.refuse vf.toNat 2 off.toNat 9)) ∧
        (s.mode (vf.toNat - 1) ≠ 0 → ∀ a, s.look (vf.toNat - 1) 2 ((off.toNat - 0x80000) / 4) = .at a →
          exec (.imageWindowWrite vf off data) s =
            .next (s.putWords (a + off.toNat % 4) data (fun s => s.vfRefuse vf.toNat off.toNat 0x0A))) ∧
        (s.mode (vf.toNat - 1) ≠ 0 → s.look (vf.toNat - 1) 2 ((off.toNat - 0x80000) / 4) = .unmapped →
          exec (.imageWindowWrite vf off data) s = .next (s.refuse vf.toNat 2 off.toNat 9))) ∧
    (∀ (s : State) (fn : BitVec 10) (ready : Bool) (msix : BitVec 2) (vec : BitVec 11) (mask : Bool),
      s.pcieUp ready = true → s.fnOn fn.toNat = true → let s1 := (s.maskVec fn.toNat msix.toNat vec.toNat mask).setVfs fn.toNat msix.toNat vec.toNat mask
      exec (.configurationRequest fn ready msix vec mask) s = .next (s1.emit (.config fn.toNat false (s1.sriov fn.toNat)))) ∧
    (∀ (s : State) (fn : BitVec 10) (ready : Bool) (msix : BitVec 2) (vec : BitVec 11) (mask : Bool),
      s.pcieUp ready = false → exec (.configurationRequest fn ready msix vec mask) s = .next (s.emit (.config fn.toNat true []))) ∧
    (∀ (s : State) (k : BitVec 10),
      let g := aPD_ACC_SEQ (k.toNat - 1)
      Canonical s → isVf k.toNat = true → FMap.wf (fun _ => false) s.fnMask = true → FMap.wf (fun _ => (0, 0)) s.latch = true → ∃ t, exec (.vfFlr k) s = .next t ∧ t = { s with regs := t.regs, fnMask := t.fnMask, latch := t.latch, vecMask := t.vecMask, vecPend := t.vecPend } ∧
        (∀ a, t.reg a = if g ≤ a ∧ a < g + 16 ∧ a % 4 = 0 then 0 else s.reg a) ∧ FMap.get (fun _ => false) t.fnMask k.toNat = false ∧
        FMap.get (fun _ => (0, 0)) t.latch k.toNat = (0, 0) ∧
        (∀ v < 2048, FMap.get (fun _ => true) t.vecMask (k.toNat * 2048 + v) = true ∧ FMap.get (fun _ => false) t.vecPend (k.toNat * 2048 + v) = false) ∧
        (∀ x, x / 2048 ≠ k.toNat → FMap.get (fun _ => true) t.vecMask x = FMap.get (fun _ => true) s.vecMask x ∧
          FMap.get (fun _ => false) t.vecPend x = FMap.get (fun _ => false) s.vecPend x)) ∧
    (∀ (s : State),
      Canonical s → ∃ t, exec .pf0Reset s = .next t ∧ exec .pciePerst s = .next t ∧ t.inReset 0x13 = true ∧ t.rb aRST_CAUSE 11 = true ∧ t.vfEnable = false ∧ t.numVfs = 0 ∧
        t.fnMask = [] ∧ t.vecMask = [] ∧ t.vecPend = [] ∧ (∀ e ∈ t.latch, e.1 = 0x3FE) ∧ t.regFor 0 aAU_GRANT = 0 ∧ t.mem = s.mem ∧ t.tasks = s.tasks) ∧
    (∀ (s : State),
      FMap.wf (regReset s.fuse) s.regs = true → ∃ t, exec .dieLinkRestored s = .next t ∧ (∀ b ∈ fdieBstat, t.rb b 1 = false ∧ ∀ k < 32, k ≠ 1 → t.rb b k = s.rb b k) ∧ (∀ x, x ∉ fdieBstat → t.reg x = s.reg x))

/-- GCTL_UPDATE takes snapshots, each group applies its own, and the Survey captures the counters of both dies. R52, R53, R54, R57, R58, R468, R312, R313, R346, R399, R292, R295.
Completes (10 forms answer a next state, under premises on state and operands alone): updateFio, updateWdg, updateRtc, updateCan, fioStrobeApply,
canStrobeApply, wdgStrobeApply, rtcStrobeApply, survey, surveyFdieCapture. -/
def Obligations.StrobesAndSurveyResult : Prop :=
  (∀ (s : State) (src : BitVec 10) (d : W),
      let l := (List.range 19).filter (fun b => bitAt (putBit d 16 true) b && s.groupPresent b)
      isVf src.toNat = false → l.any s.applying = false → l.any s.groupUnreach = false → exec (.updateFio src d) s =
        .next (l.foldl (fun s b => (s.takeSnap (groupRange b).1 (groupRange b).2).setRf aGCTL_UPDATE_STAT b b 1) s)) ∧
    (∀ (s : State) (src : BitVec 10) (d : W),
      let l := (List.range 19).filter (fun b => bitAt (putBit d 16 true) b && s.groupPresent b)
      isVf src.toNat = false → l.any s.applying = true → exec (.updateFio src d) s = .next (s.refuse src.toNat (farSpace src.toNat) aGCTL_UPDATE 5)) ∧
    (∀ (s : State) (src : BitVec 10) (d : W),
      let l := (List.range 19).filter (fun b => bitAt (putBit d 17 true) b && s.groupPresent b)
      isVf src.toNat = false → l.any s.applying = false → l.any s.groupUnreach = false → exec (.updateWdg src d) s =
        .next (l.foldl (fun s b => (s.takeSnap (groupRange b).1 (groupRange b).2).setRf aGCTL_UPDATE_STAT b b 1) s)) ∧
    (∀ (s : State) (src : BitVec 10) (d : W),
      let l := (List.range 19).filter (fun b => bitAt (putBit d 17 true) b && s.groupPresent b)
      isVf src.toNat = false → l.any s.applying = true → exec (.updateWdg src d) s = .next (s.refuse src.toNat (farSpace src.toNat) aGCTL_UPDATE 5)) ∧
    (∀ (s : State) (src : BitVec 10) (d : W),
      let l := (List.range 19).filter (fun b => bitAt (putBit d 18 true) b && s.groupPresent b)
      isVf src.toNat = false → l.any s.applying = false → l.any s.groupUnreach = false → exec (.updateRtc src d) s =
        .next (l.foldl (fun s b => (s.takeSnap (groupRange b).1 (groupRange b).2).setRf aGCTL_UPDATE_STAT b b 1) s)) ∧
    (∀ (s : State) (src : BitVec 10) (d : W),
      let l := (List.range 19).filter (fun b => bitAt (putBit d 18 true) b && s.groupPresent b)
      isVf src.toNat = false → l.any s.applying = true → exec (.updateRtc src d) s = .next (s.refuse src.toNat (farSpace src.toNat) aGCTL_UPDATE 5)) ∧
    (∀ (s : State) (src : BitVec 10) (d : W) (n : BitVec 4),
      let l := (List.range 19).filter (fun b => bitAt (putBit d n.toNat true) b && s.groupPresent b)
      isVf src.toNat = false → l.any s.applying = false → l.any s.groupUnreach = false → exec (.updateCan src n d) s =
        .next (l.foldl (fun s b => (s.takeSnap (groupRange b).1 (groupRange b).2).setRf aGCTL_UPDATE_STAT b b 1) s)) ∧
    (∀ (s : State) (src : BitVec 10) (d : W) (n : BitVec 4),
      let l := (List.range 19).filter (fun b => bitAt (putBit d n.toNat true) b && s.groupPresent b)
      isVf src.toNat = false → l.any s.applying = true → exec (.updateCan src n d) s = .next (s.refuse src.toNat (farSpace src.toNat) aGCTL_UPDATE 5)) ∧
    (∀ (s : State) (dt : Nat),
      let u := s.elapse dt
      let s1 := ((List.range 32).filter (fun n => !u.rb (aFIO_OWN n) 30)).foldl (fun s n => (s.fioCfgSnap n).ownSnap (aFIO_OWN n)) (u.applySnap aFIO_HB)
      let s3 := (List.range 32).foldl State.reportIn (((List.range 4).filter (fun n => !u.tpUsed n)).foldl (fun s n => (s.applySnap (aTP_CFG n)).tpTake n) (if s1.sfApplied then s1 else s1.tpPeriod (s1.snapped aTP_PERIOD)))
      u.applying 16 = true → u.rb aFIO_BSTAT 1 = false → exec (.fioStrobeApply dt) s = .next ((s3.moveBlock 0xB0000 0xC0000).endStrobe 16)) ∧
    (∀ (s : State) (dt : Nat) (n : BitVec 4),
      let u := s.elapse dt
      n.toNat < u.fuse.cans → u.applying n.toNat = true → u.rb (aCAN_BSTAT n.toNat) 1 = false → (u.canMode n.toNat = 0 ∨ u.canEst n.toNat = 2 ∨ (u.can n.toNat).bus = none) → u.canCheck n.toNat = 0 → exec (.canStrobeApply n dt) s = .next ((u.canTake n.toNat).endStrobe n.toNat)) ∧
    (∀ (s : State) (dt : Nat) (n : BitVec 4),
      let u := s.elapse dt
      n.toNat < u.fuse.cans → u.applying n.toNat = true → u.rb (aCAN_BSTAT n.toNat) 1 = false → (u.canMode n.toNat = 0 ∨ u.canEst n.toNat = 2 ∨ (u.can n.toNat).bus = none) → u.canCheck n.toNat = 1 → exec (.canStrobeApply n dt) s = .next (((u.setReg (aCAN_CFGERR n.toNat) 0x100).canEvent n.toNat 8).endStrobe n.toNat)) ∧
    (∀ (s : State) (dt : Nat),
      let u := s.elapse dt
      u.applying 17 = true → exec (.wdgStrobeApply dt) s = .next ((([0xF0, 0xF1] ++ List.range 128).foldl State.wdgArm u).endStrobe 17)) ∧
    (∀ (s : State) (dt : Nat),
      let u := s.elapse dt
      u.applying 18 = true → u.rb aRTC_BSTAT 1 = false → exec (.rtcStrobeApply dt) s = .next ((([aRTC_TRIM, aRTC_MEASCFG, aRTC_ALM_T0 0, aRTC_ALM_T1 0, aRTC_ALM_MASK 0, aRTC_ALM_T0 1, aRTC_ALM_T1 1,
        aRTC_ALM_MASK 1]).foldl State.applySnap (u.measAbort 3)).endStrobe 18)) ∧
    (∀ (s : State) (src : BitVec 10),
      isVf src.toNat = false → s.rb aGCTL_SURVEY_STAT 0 = false → exec (.survey src) s =
        .next (((s.surveyCapture false).setReg64 aGCTL_SURVEY_TIME_LO s.now).setReg aGCTL_SURVEY_STAT
          (BitVec.ofNat 32 ((s.rf aGCTL_SURVEY_STAT 31 16 + 1) % 65536 * 65536 + 1)))) ∧
    (∀ (s : State) (src : BitVec 10),
      isVf src.toNat = false → s.rb aGCTL_SURVEY_STAT 0 = true → exec (.survey src) s = .next (s.deny src.toNat aGCTL_SURVEY 6)) ∧
    (∀ (s : State) (dt : Nat),
      let u := s.elapse dt
      u.rb aGCTL_SURVEY_STAT 0 = true → (u.rb aNV_BSTAT 1 = false → exec (.surveyFdieCapture dt) s = .next ((u.surveyCapture true).setRf aGCTL_SURVEY_STAT 1 0 2)) ∧
        (u.rb aNV_BSTAT 1 = true → exec (.surveyFdieCapture dt) s = .next (u.setRf aGCTL_SURVEY_STAT 1 0 0)))

/-- RTC commands: SET, CORR, DSTFWD, DSTBACK, MEAS and MEASSTOP. R48, R51, R285, R288, R289, R290, R293, R294.
Completes (6 forms answer a next state, under premises on state and operands alone): rtcSet, corr, dstfwd, dstback, measCmd, measstop. -/
def Obligations.RtcCommandsResult : Prop :=
  (∀ (s : State) (src : BitVec 10),
      isVf src.toNat = false → s.rb aRTC_BSTAT 1 = false → s.rb aRTC_BSTAT 0 = false → s.rtcSetDue = false → s.rtcRun = true → s.rtcSetOk = true → let w0 := s.reg aRTC_SET0
      let w1 := s.reg aRTC_SET1
      let day := dayOf (fld w1 31 20) (fld w1 19 16) (fld w1 15 11)
      let s1 := { s.measAbort 1 with rtcSec := day * 86400 + fld w0 16 12 * 3600 + fld w0 11 6 * 60 + fld w0 5 0, rtcSub := 0, rtcFold := none, rtcSetDue := false }
      exec (.rtcSet src) s =
        .next ((s.oneEvent aRTC_EVT_SEQ ((((((s1.setRf aRTC_STAT 0 0 1).setSlew 0).setRf aRTC_STAT 4 4 0).setRf aRTC_STAT 6 6 0).rtcReason 0).rtcEvent 4)).setRf aRTC_BSTAT 0 0 1)) ∧
    (∀ (s : State) (src : BitVec 10),
      isVf src.toNat = false → s.rb aRTC_BSTAT 1 = false → s.rb aRTC_BSTAT 0 = false → s.rtcSetDue = false → s.rtcRun = false → s.rtcSetOk = true → exec (.rtcSet src) s = .next (({ s with rtcSetDue := true } : State).setRf aRTC_BSTAT 0 0 1)) ∧
    (∀ (s : State) (src : BitVec 10),
      isVf src.toNat = false → s.rb aRTC_BSTAT 1 = false → s.rb aRTC_BSTAT 0 = false → s.rtcSetDue = false → s.rtcSetOk = false → exec (.rtcSet src) s = .next ((s.rtcReason 2).setRf aRTC_BSTAT 0 0 1)) ∧
    (∀ (s : State) (src : BitVec 10) (sub : BitVec 15),
      let k := s.atTick sub
      let c := s.reg aRTC_CORR
      isVf src.toNat = false → s.rb aRTC_BSTAT 1 = false → s.rb aRTC_BSTAT 0 = false → s.rtcSetDue = false → k.rtcValid = true → k.reg aRTC_CORR = c → c.toInt.natAbs < 1000000 → exec (.corr src sub) s = .next ((((k.measAbort 1).rtcReason 0).setSlew (corrTicks c.toInt)).setRf aRTC_BSTAT 0 0 1)) ∧
    (∀ (s : State) (src : BitVec 10) (sub : BitVec 15),
      let k := s.atTick sub
      let c := s.reg aRTC_CORR
      isVf src.toNat = false → s.rb aRTC_BSTAT 1 = false → s.rb aRTC_BSTAT 0 = false → s.rtcSetDue = false → k.rtcValid = true → k.reg aRTC_CORR = c → 1000000 ≤ c.toInt.natAbs → exec (.corr src sub) s = .next ((k.oneEvent aRTC_EVT_SEQ (((((k.measAbort 1).rtcReason 0).setSlew 0).calStep (corrTicks c.toInt)).rtcEvent 4)).setRf aRTC_BSTAT 0 0 1)) ∧
    (∀ (s : State) (src : BitVec 10) (sub : BitVec 15),
      let k := s.atTick sub
      isVf src.toNat = false → s.rb aRTC_BSTAT 1 = false → s.rb aRTC_BSTAT 0 = false → s.rtcSetDue = false → k.rtcValid = false → exec (.corr src sub) s = .next ((k.rtcReason 6).setRf aRTC_BSTAT 0 0 1)) ∧
    (∀ (s : State) (src : BitVec 10),
      isVf src.toNat = false → s.rb aRTC_BSTAT 1 = false → s.rb aRTC_BSTAT 0 = false → s.rtcSetDue = false → s.rtcDst = none → s.rb aRTC_STAT 3 = false → s.rtcSec + 3601 < calSeconds → s.rtcValid = true → exec (.dstfwd src) s = .next (({ (s.measAbort 2).rtcReason 0 with rtcDst := some true } : State).setRf aRTC_BSTAT 0 0 1)) ∧
    (∀ (s : State) (src : BitVec 10),
      isVf src.toNat = false → s.rb aRTC_BSTAT 1 = false → s.rb aRTC_BSTAT 0 = false → s.rtcSetDue = false → s.rtcDst = none → s.rb aRTC_STAT 3 = true → 3599 ≤ s.rtcSec → s.rtcSec < calSeconds → s.rtcValid = true → exec (.dstback src) s = .next (({ (s.measAbort 2).rtcReason 0 with rtcDst := some false } : State).setRf aRTC_BSTAT 0 0 1)) ∧
    (∀ (s : State) (src : BitVec 10),
      isVf src.toNat = false → s.rb aRTC_BSTAT 1 = false → s.rb aRTC_BSTAT 0 = false → s.rtcSetDue = false → s.rtcDst ≠ none → exec (.dstfwd src) s = .next ((s.rtcReason 3).setRf aRTC_BSTAT 0 0 1) ∧ exec (.dstback src) s = .next ((s.rtcReason 3).setRf aRTC_BSTAT 0 0 1)) ∧
    (∀ (s : State) (src : BitVec 10),
      isVf src.toNat = false → s.rb aRTC_BSTAT 1 = false → s.rb aRTC_BSTAT 0 = false → s.rtcSetDue = false → s.rtcDst = none → (s.rb aRTC_STAT 3 = true → exec (.dstfwd src) s = .next ((s.rtcReason 5).setRf aRTC_BSTAT 0 0 1)) ∧ (s.rb aRTC_STAT 3 = false → exec (.dstback src) s = .next ((s.rtcReason 5).setRf aRTC_BSTAT 0 0 1))) ∧
    (∀ (s : State) (src : BitVec 10),
      let cfg := s.reg aRTC_MEASCFG
      isVf src.toNat = false → s.rb aRTC_BSTAT 1 = false → s.rb aRTC_BSTAT 0 = false → s.rtcSetDue = false → s.rb aRTC_STAT 2 = false → (fld cfg 31 30 = 1 ∧ s.merValid = true ∨ fld cfg 31 30 = 2) → 100 ≤ fld cfg 13 0 → fld cfg 13 0 ≤ 10000 → s.meas = none → s.rtcValid = true → exec (.measCmd src) s = .next (({ (s.rtcReason 0).measShow 0 1 with
          meas := some { mains := fld cfg 31 30 == 2, win := fld cfg 13 0, hz60 := bitAt cfg 29, start := none, last := 0, secs := 0, n := 0, e := 0 } } : State).setRf aRTC_BSTAT 0 0 1)) ∧
    (∀ (s : State) (src : BitVec 10),
      isVf src.toNat = false → s.rb aRTC_BSTAT 1 = false → s.rb aRTC_BSTAT 0 = false → s.rtcSetDue = false → (s.meas ≠ none ∨ s.rb aRTC_STAT 2 = true) → exec (.measCmd src) s = .next ((s.rtcReason 4).setRf aRTC_BSTAT 0 0 1)) ∧
    (∀ (s : State) (src : BitVec 10),
      isVf src.toNat = false → s.rb aRTC_BSTAT 1 = false → s.rb aRTC_BSTAT 0 = false → s.rtcSetDue = false → exec (.measstop src) s = .next (((s.measAbort 7).rtcReason 0).setRf aRTC_BSTAT 0 0 1)) ∧
    (∀ (s : State) (src : BitVec 10),
      isVf src.toNat = false → s.rb aRTC_BSTAT 1 = false → s.rb aRTC_BSTAT 0 = false → s.rtcSetDue = true → ∀ c ∈ [Instr.rtcSet src, .corr src 0, .dstfwd src, .dstback src, .measCmd src, .measstop src],
        exec c s = .next ((s.rtcReason 1).setRf aRTC_BSTAT 0 0 1)) ∧
    (∀ (s : State) (src : BitVec 10),
      isVf src.toNat = false → s.rb aRTC_BSTAT 1 = true → ∀ c ∈ [Instr.rtcSet src, .corr src 0, .dstfwd src, .dstback src, .measCmd src, .measstop src],
        exec c s = .next (s.refuse src.toNat (farSpace src.toNat) aRTC_CMD 3))

/-- Second boundaries, measurement, slew steps and the crystal of the real-time clock. R285, R287, R289, R291, R293, R294, R295.
Completes (7 forms answer a next state, under premises on state and operands alone): rtcSecondBoundary, mainsCrossing, mainsTimeout, measComplete,
slewStep, crystalStop, crystalResume. -/
def Obligations.RtcTimeResult : Prop :=
  (∀ (s : State) (dt : Nat),
      let u := s.elapse dt
      u.rtcRun = true → exec (.rtcSecondBoundary dt) s = .next (u.nextSecond.measTick.alarms)) ∧
    (∀ (s : State) (dt : Nat),
      let u := s.elapse dt
      u.rtcRun = false → exec (.rtcSecondBoundary dt) s = .next u) ∧
    (∀ (s : State),
      s.rtcSec + 1 < calSeconds → s.rtcDst = none → s.rtcFold = none → s.nextSecond.rtcSec = s.rtcSec + 1 ∧ s.nextSecond.rtcSub = 0 ∧ s.nextSecond.regs = s.regs) ∧
    (∀ (s : State) (dt : Nat) (e : Nat) (m : Meas) (t : W64),
      let u := s.elapse dt
      u.meas = some m → m.mains = true → m.ended = false → m.start = some t → exec (.mainsCrossing e dt) s = .next { u.measShow ((m.e + e) / 16000000) 1 with
          meas := some { m with n := m.n + 1, e := m.e + e, secs := (m.e + e) / 16000000 } }) ∧
    (∀ (s : State) (dt : Nat) (e : Nat) (m : Meas),
      let u := s.elapse dt
      u.meas = some m → m.mains = true → m.ended = false → m.start = none → exec (.mainsCrossing e dt) s = .next { u with meas := some { m with start := some u.now } }) ∧
    (∀ (s : State) (dt : Nat) (m : Meas),
      let u := s.elapse dt
      u.meas = some m → m.mains = true → exec (.mainsTimeout dt) s = .next (u.measAbort 6)) ∧
    (∀ (s : State) (dt : Nat) (m : Meas),
      let u := s.elapse dt
      let v := nearest (m.ratio.1 * 1000000000) m.ratio.2
      u.meas = some m → m.ended = true → m.ratio.2 ≠ 0 → -(2 ^ 31) ≤ v → v < 2 ^ 31 → exec (.measComplete dt) s =
        .next (({ (u.setReg aRTC_MEAS_ERR (BitVec.ofInt 32 v)).measShow m.secs 2 with meas := none }).rtcEvent 8)) ∧
    (∀ (s : State) (sub : BitVec 15),
      let r := (s.reg aRTC_SLEWREM).toInt
      let k := s.atTick sub
      s.rtcRun = true → (0 < r → exec (.slewStep sub) s = .next (({ k with rtcSub := min 32767 (k.rtcSub + 1) } : State).foldDone.setSlew (r - 1))) ∧
        (r < 0 → exec (.slewStep sub) s = .next ({ k with rtcSub := k.rtcSub - 1 }.setSlew (r + 1))) ∧ (r = 0 → exec (.slewStep sub) s = .next s)) ∧
    (∀ (s : State),
      exec .crystalStop s = .next (((({ s.measAbort 5 with rtcRun := false } : State).setRf aRTC_STAT 5 5 1).setRf aRTC_STAT 0 0 0).rtcEvent 0x10)) ∧
    (∀ (s : State),
      s.rtcRun = false → let k : State := { s with rtcRun := true, rtcSec := 0, rtcSub := 0 }
      exec .crystalResume s = .next (if s.rtcSetDue then k.rtcLoad else k))

/-- Lanes and ports, frames received, forwarded, delivered and sent, held slot writes, window timeouts. R196, R197, R198, R199, R200, R202, R203, R204, R205, R220, R224, R227.
Completes (12 forms answer a next state, under premises on state and operands alone): lnModeWrite, laneLinkUp, laneSignalLoss, lanePllLoss,
portReform, preemptVerified, frameHeaderReceived, frameEndReceived, portTransmit, gateEntryChange, heldSlotWrite, streamWindowTimeout. -/
def Obligations.PortsAndFramesResult : Prop :=
  (∀ (s : State) (lane : BitVec 7) (src : BitVec 10) (d : W),
      let n := lane.toNat
      isVf src.toNat = false → n < s.fuse.lanes → fld d 15 12 < 4 → s.rb (aLN_BSTAT n) 1 = false → s.rb (aLN_BSTAT n) 0 = false → exec (.lnModeWrite src lane d) s = .next ((s.applyLnMode n d).setRf (aLN_BSTAT n) 0 0 1)) ∧
    (∀ (s : State) (lane : BitVec 7) (src : BitVec 10) (d : W),
      let n := lane.toNat
      isVf src.toNat = false → n < s.fuse.lanes → 4 ≤ fld d 15 12 → exec (.lnModeWrite src lane d) s = .next (s.refuse src.toNat (if src = 0x3FE then 3 else 0) (aLN_MODE n) 0x0A)) ∧
    (∀ (s : State) (lane : BitVec 7),
      let n := lane.toNat
      let s1 := s.setLane n 7 0 false
      n < s.fuse.lanes → 1 ≤ s.laneMode n → s.laneMode n ≤ 9 → s.rf (aLN_MODE n) 15 12 = 0 → s.rb (aLN_BSTAT n) 1 = false → (∀ p, s1.portOf n = some p → exec (.laneLinkUp lane) s = .next (s1.portLook p)) ∧
        (s1.portOf n = none → exec (.laneLinkUp lane) s = .next s1)) ∧
    (∀ (s : State) (lane : BitVec 7) (c : BitVec 8),
      let n := lane.toNat
      n < s.fuse.lanes → 3 ≤ c.toNat → c.toNat ≤ 5 → 1 ≤ s.laneMode n → s.laneMode n ≤ 9 → s.rf (aLN_MODE n) 15 12 = 0 → s.rb (aLN_BSTAT n) 1 = false → exec (.laneSignalLoss lane c) s = .next ((s.setLane n (if c = 3 then 1 else 3) c.toNat false).laneFails n 0x0B)) ∧
    (∀ (s : State) (lane : BitVec 7),
      let n := lane.toNat
      let s1 := s.setLane n 0 2 false
      n < s.fuse.lanes → s.rf (aLN_STAT n) 0 0 ≠ 0 → (∀ p, s1.portOf n = some p → s1.portUp p = true → exec (.lanePllLoss lane) s = .next (s1.laneFails n 0x06)) ∧
        (s1.portOf n = none → exec (.lanePllLoss lane) s = .next (s1.collect (48 + n / 8) cContained 0x06 n))) ∧
    (∀ (s : State) (port : BitVec 7),
      let p := port.toNat
      (s.port p).reform = true → (∀ c n, s.healthySet p = some (c, n) → exec (.portReform port) s = .next (((s.setPort p Port.zero).carryOn p n (widthOf c)).setReg (aSW_PORT_STAT p) (BitVec.ofNat 32 (c * 4 + 1)))) ∧
        (s.healthySet p = none → exec (.portReform port) s = .next (s.portDown p p 0x0B))) ∧
    (∀ (s : State) (port : BitVec 7),
      let p := port.toNat
      s.portUp p = true → s.configured p = true → s.rb (aSW_PORT_CFG p) 28 = true → exec (.preemptVerified port) s = .next (s.setRf (aSW_PORT_STAT p) 1 1 1)) ∧
    (∀ (s : State) (port : BitVec 7) (dt : Nat) (head : List Byte),
      let u := s.elapse dt
      let p := port.toNat
      u.configured p = true → u.carries p = true → u.switchOff = false → etherType head = 0x8808 → exec (.frameHeaderReceived port head dt) s = .next ((u.count aSW_CNT_BADHDR).setRx p (some (Rx.plain head true)))) ∧
    (∀ (s : State) (port : BitVec 7) (dt : Nat) (head : List Byte) (i : Nat),
      let u := s.elapse dt
      let p := port.toNat
      let h := SpanHdr.of (head.drop (headerAt head))
      u.configured p = true → u.carries p = true → u.switchOff = false → etherType head ≠ 0x8808 → (u.member && u.syncPorts.contains p) = false → etherType head = u.rf aSW_ETYPE 15 0 → h.ver = 1 → 1 ≤ h.ty → h.ty ≤ 4 → h.ty ≠ 3 → u.findStream h.stream = some i → u.conforms i = true → exec (.frameHeaderReceived port head dt) s =
        .next ((u.forwardSpan p i h (head.drop (headerAt head + 16))).setRx p
          (some { Rx.plain head false with
            span := true, ty := h.ty, stream := i, w0 := u.reg (aSW_ST0 i), w5 := u.reg (aSW_ST5 i), w6 := u.reg (aSW_ST6 i),
            f0 := u.reg (aSW_FENCE0 (u.rf (aSW_ST0 i) 5 0)), f1 := u.reg (aSW_FENCE1 (u.rf (aSW_ST0 i) 5 0)) }))) ∧
    (∀ (s : State) (port : BitVec 7) (dt : Nat) (head : List Byte),
      let u := s.elapse dt
      let p := port.toNat
      let h := SpanHdr.of (head.drop (headerAt head))
      u.configured p = true → u.carries p = true → u.switchOff = false → etherType head ≠ 0x8808 → (u.member && u.syncPorts.contains p) = false → etherType head = u.rf aSW_ETYPE 15 0 → h.ver = 1 → (h.ty = 1 ∨ h.ty = 2 ∨ h.ty = 4) → u.findStream h.stream = none → exec (.frameHeaderReceived port head dt) s =
        .next ((u.count aSW_CNT_NOSTREAM).setRx p (some { Rx.plain head true with span := true, ty := h.ty }))) ∧
    (∀ (s : State) (port : BitVec 7) (dt : Nat) (head : List Byte),
      let u := s.elapse dt
      let p := port.toNat
      u.configured p = true → u.carries p = true → u.switchOff = false → etherType head ≠ 0x8808 → (u.member && u.syncPorts.contains p) = false → etherType head ≠ u.rf aSW_ETYPE 15 0 → exec (.frameHeaderReceived port head dt) s = .next ((u.forwardVlan p head).1.setRx p (some (Rx.plain head (u.forwardVlan p head).2)))) ∧
    (∀ (s : State) (port : BitVec 7) (tail : List Byte) (ahead dt : Nat) (r : Rx),
      let u := s.elapse dt
      let p := port.toNat
      u.rxOf p = some r → u.clkStop = false → r.drop = true → exec (.frameEndReceived port tail ahead dt) s = .next (u.setRx p none)) ∧
    (∀ (s : State) (port : BitVec 7) (tail : List Byte) (ahead dt : Nat) (r : Rx),
      let u := s.elapse dt
      let p := port.toNat
      let whole := r.head ++ tail
      let body := whole.take (whole.length - 4)
      let e := (u.setRx p none).finishCopies p (tail.take (tail.length - 4)) (decide (fcsOf body false = whole.drop (whole.length - 4)))
      let k := if r.late then e else e.debit r.stream whole.length
      u.rxOf p = some r → u.clkStop = false → r.drop = false → r.span = true → r.ty ≠ 3 → (fcsOf body false = whole.drop (whole.length - 4) →
          exec (.frameEndReceived port tail ahead dt) s = .next (k.localSteps r (SpanHdr.of (r.head.drop r.hdrAt)) (body.drop (r.hdrAt + 16)) ahead)) ∧
        (fcsOf body false ≠ whole.drop (whole.length - 4) → exec (.frameEndReceived port tail ahead dt) s = .next (k.count aSW_CNT_STOMP))) ∧
    (∀ (s : State) (port : BitVec 7) (dt : Nat),
      let u := s.elapse dt
      let p := port.toNat
      u.carries p = true → (u.port p).expEnd ≤ u.fab → (u.port p).cut = none → u.switchOff = false → (u.port p).susp = none → (u.port p).blkEnd ≤ u.fab → (u.nextQueue p = none → exec (.portTransmit port dt) s = .next u) ∧
        (∀ q, u.nextQueue p = some q → exec (.portTransmit port dt) s = .next (u.startFrame p q))) ∧
    (∀ (s : State) (port : BitVec 7) (dt : Nat),
      let u := s.elapse dt
      let p := port.toNat
      let t := u.port p
      u.rb (aSW_PORT_STAT p) 1 = true → (∀ r, t.susp = some r → u.gateOpen p t.blkCls = true → exec (.gateEntryChange port dt) s = .next (u.setPort p { t with susp := none, blkEnd := max u.fab t.expEnd + r })) ∧
        (t.susp = none → u.fab < t.blkEnd → u.gateOpen p t.blkCls = false →
          exec (.gateEntryChange port dt) s = .next (u.setPort p { t with susp := some (t.blkEnd - u.fab), blkEnd := u.fab }))) ∧
    (∀ (s : State) (dt : Nat) (n : BitVec 14) (b : Block),
      let u := s.elapse dt
      FMap.get (fun _ => none) u.slotWait n.toNat = some b → u.slotHeld n.toNat (1 - u.slotCur n.toNat) = false → exec (.heldSlotWrite n dt) s = .next (u.switchSlot n.toNat b)) ∧
    (∀ (s : State) (dt : Nat) (i : BitVec 16),
      let u := s.elapse dt
      u.rf (aSW_ST6 i.toNat) 31 16 ≠ 0 → u.rb (aSW_ST7 i.toNat) 15 = true → u.rf (aSW_ST6 i.toNat) 31 16 * 8000 ≤ u.fab - FMap.get (fun _ => 0) u.accepted i.toNat → exec (.streamWindowTimeout i dt) s = .next (u.clearWindow i.toNat))

/-- SW_COMMIT, QM_COMMIT, MOV_COMMIT, gate lists, the station range, station ticks and the heartbeat. R55, R56, R204, R210, R229, R230, R231, R232, R233, R235, R236.
Completes (12 forms answer a next state, under premises on state and operands alone): switchCommitGo, queueCommitGo, moverCommitGo,
dispatcherCommitGo, dtSwitch, switchCommitApply, queueCommitApply, moverCommitApply, gateListApply, movDevRangeWrite, stationTick, heartbeatSend. -/
def Obligations.NetworkAndMoverCommitsResult : Prop :=
  (∀ (s : State) (src : BitVec 10),
      isVf src.toNat = false → exec (.switchCommitGo src) s = .next (s.setRf aSW_COMMIT 1 1 1)) ∧
    (∀ (s : State) (src : BitVec 10),
      isVf src.toNat = false → exec (.queueCommitGo src) s = .next (s.setRf aQM_COMMIT 1 1 1)) ∧
    (∀ (s : State) (src : BitVec 10),
      isVf src.toNat = false → exec (.moverCommitGo src) s = .next (s.setRf aMOV_COMMIT 1 1 1)) ∧
    (∀ (s : State) (src : BitVec 10),
      isVf src.toNat = true → ∀ c ∈ [Instr.switchCommitGo src, .queueCommitGo src, .moverCommitGo src, .dispatcherCommitGo src, .dtSwitch src], exec c s = .next s) ∧
    (∀ (s : State) (dt : Nat) (r p k : Nat),
      let u := s.elapse dt
      u.onTick = true → u.rb aSW_COMMIT 1 = true → u.swCheck = some (r, p, k) → exec (.switchCommitApply dt) s =
        .next (((u.setReg aSW_COMMIT 0).setReg aSW_COMMIT_STAT (BitVec.ofNat 32 (p * 65536 + k * 256 + r))).swEvent 8)) ∧
    (∀ (s : State) (dt : Nat),
      let u := s.elapse dt
      u.onTick = true → u.rb aSW_COMMIT 1 = true → u.swCheck = none → exec (.switchCommitApply dt) s = .next ((((u.setReg aSW_COMMIT 0).swTake).setReg aSW_COMMIT_STAT 0).swEvent 8)) ∧
    (∀ (s : State) (dt : Nat),
      let u := s.elapse dt
      u.onTick = true → u.rb aQM_COMMIT 1 = true → u.queueCheck ≠ 0 → exec (.queueCommitApply dt) s = .next ((u.setReg aQM_COMMIT 0).setReg aQM_STAT (BitVec.ofNat 32 u.queueCheck))) ∧
    (∀ (s : State) (dt : Nat),
      let u := s.elapse dt
      u.onTick = true → u.rb aQM_COMMIT 1 = true → u.queueCheck = 0 → let s0 := (u.setReg aQM_COMMIT 0).setReg aQM_STAT 0
      let qs := s0.queuesListed.filter (fun q => (List.range 4).any (fun i => s0.differs (aQM_Q0 q + 4 * i)) || (s0.waitAt (aQM_Q0 q)).isSome)
      exec (.queueCommitApply dt) s = .next (((qs.foldl State.queueTake s0).moveBlock 0xF00000 0xF80000).untouch 0xF00000 0xF80000)) ∧
    (∀ (s : State) (dt : Nat),
      let u := s.elapse dt
      u.rb aMOV_COMMIT 1 = true → u.movCheck u.movCandidate ≠ 0 → exec (.moverCommitApply dt) s =
        .next ((u.setReg aMOV_COMMIT 0).setReg aMOV_STAT (BitVec.ofNat 32 (u.movCheck u.movCandidate)))) ∧
    (∀ (s : State) (dt : Nat),
      let u := s.elapse dt
      u.rb aMOV_COMMIT 1 = true → u.movCheck u.movCandidate = 0 → let s1 := ((u.setReg aMOV_COMMIT 0).setReg aMOV_STAT 0).movCandidate.stiTake
      let f := s1.rf aMOV_DEV_RANGE 15 0
      let n := s1.rf aMOV_DEV_RANGE 31 16
      exec (.moverCommitApply dt) s = .next (((s1.descsFollow f n).untouch (aMD_0 f) (aMD_0 (f + n))).untouch 0x500000 0x510000)) ∧
    (∀ (s : State) (port : BitVec 7) (dt : Nat),
      let u := s.elapse dt
      exec (.gateListApply port dt) s = .next (u.gateApply port.toNat)) ∧
    (∀ (s : State) (src : BitVec 10) (d : W),
      isVf src.toNat = false → s.rb aMOV_COMMIT 1 = false → fld d 31 16 + fld d 15 0 ≤ 61440 → fld d 31 16 ≤ 4096 → exec (.movDevRangeWrite src d) s = .next { s.setPnd aMOV_DEV_RANGE d with touched := FMap.set (fun _ => false) s.touched aMOV_DEV_RANGE true }) ∧
    (∀ (s : State) (src : BitVec 10) (d : W),
      isVf src.toNat = false → s.rb aMOV_COMMIT 1 = true → exec (.movDevRangeWrite src d) s = .next (s.refuse src.toNat (accSpace src.toNat) aMOV_DEV_RANGE 4)) ∧
    (∀ (s : State) (dt : Nat) (g : BitVec 4),
      let u := s.elapse dt
      u.moverUp = true → u.onTick = true → u.merMark.toNat < u.grid.toNat → u.groupGrid g.toNat u.grid = true → exec (.stationTick g dt) s = .next (u.stationTick g.toNat)) ∧
    (∀ (s : State) (dt : Nat) (t : Nat),
      let u := s.elapse dt
      u.stationUp = true → u.hbSent = some t → t + 80000 ≤ u.fab → exec (.heartbeatSend dt) s = .next { u with hbSent := some u.fab, hbLink := if u.rb aFIO_BSTAT 1 then u.hbLink else u.hbLink + 1 }) ∧
    (∀ (s : State) (dt : Nat),
      let u := s.elapse dt
      u.stationUp = true → u.hbSent = none → exec (.heartbeatSend dt) s = .next { u with hbSent := some u.fab, hbLink := if u.rb aFIO_BSTAT 1 then u.hbLink else u.hbLink + 1 }) ∧
    (∀ (s : State) (dt : Nat) (t : Nat),
      let u := s.elapse dt
      u.hbSent = some t → ¬ t + 80000 ≤ u.fab → exec (.heartbeatSend dt) s = .next u)

/-- A witness answers REQUEST, CLAIM, RELEASE and HANDOVER; a member renews, claims, retries, backs off and lapses. R241, R244, R245, R246, R247, R248, R249, R250, R252.
Completes (13 forms answer a next state, under premises on state and operands alone): witnessRequest, witnessClaim, witnessRelease, witnessHandover,
witnessQuietEnd, leaseRenewal, leaseExpiry, partnerLeaseLapse, claim, claimRetry, claimRoundTimeout, grant, deny. -/
def Obligations.LeasesAndWitnessesResult : Prop :=
  (∀ (s : State) (m : Bool) (pair epoch rnum len : BitVec 16) (dt k : Nat),
      let u := s.elapse dt
      u.clkStop = false → u.witEntry pair.toNat = some k → u.rb (aWT_2 k) 29 = false → 200 ≤ len.toNat → len.toNat ≤ 2000 → u.witHolder k = some m → u.rf (aWT_2 k) 15 0 = epoch.toNat → exec (.witnessRequest m pair epoch rnum len dt) s = .next ((u.witSet k m epoch.toNat len.toNat).witSend k 3 m 0 rnum.toNat len.toNat)) ∧
    (∀ (s : State) (m : Bool) (pair epoch rnum len : BitVec 16) (dt k : Nat),
      let u := s.elapse dt
      u.clkStop = false → u.witEntry pair.toNat = some k → u.rb (aWT_2 k) 29 = false → 200 ≤ len.toNat → len.toNat ≤ 2000 → u.witHolder k ≠ some m → exec (.witnessRequest m pair epoch rnum len dt) s = .next (u.witSend k 4 m 1 rnum.toNat len.toNat)) ∧
    (∀ (s : State) (m : Bool) (pair epoch rnum len : BitVec 16) (dt k : Nat),
      let u := s.elapse dt
      u.clkStop = false → u.witEntry pair.toNat = some k → u.rb (aWT_2 k) 29 = false → 200 ≤ len.toNat → len.toNat ≤ 2000 → newer epoch.toNat (u.witHigh k) = true → (u.witHolder k = none ∨ u.witHolder k = some m ∨ u.witExpiry k + 40000 ≤ u.fab) → exec (.witnessClaim m pair epoch rnum len dt) s =
        .next (((u.setWitHigh k epoch.toNat).witSet k m epoch.toNat len.toNat).witSend k 3 m 0 rnum.toNat len.toNat)) ∧
    (∀ (s : State) (m : Bool) (pair epoch rnum len : BitVec 16) (dt k : Nat),
      let u := s.elapse dt
      u.clkStop = false → u.witEntry pair.toNat = some k → u.rb (aWT_2 k) 29 = false → 200 ≤ len.toNat → len.toNat ≤ 2000 → newer epoch.toNat (u.witHigh k) = false → exec (.witnessClaim m pair epoch rnum len dt) s = .next (u.witSend k 4 m 2 rnum.toNat len.toNat)) ∧
    (∀ (s : State) (m : Bool) (pair epoch rnum len : BitVec 16) (dt k : Nat),
      let u := s.elapse dt
      u.clkStop = false → u.witEntry pair.toNat = some k → u.rb (aWT_2 k) 29 = false → 200 ≤ len.toNat → len.toNat ≤ 2000 → newer epoch.toNat (u.witHigh k) = true → u.witHolder k = some (!m) → u.fab < u.witExpiry k + 40000 → exec (.witnessClaim m pair epoch rnum len dt) s = .next (u.witSend k 4 m 1 rnum.toNat len.toNat)) ∧
    (∀ (s : State) (m : Bool) (pair epoch rnum len : BitVec 16) (dt k : Nat),
      let u := s.elapse dt
      u.clkStop = false → u.witEntry pair.toNat = some k → u.rb (aWT_2 k) 29 = false → 200 ≤ len.toNat → len.toNat ≤ 2000 → u.witHolder k = some m → u.rf (aWT_2 k) 15 0 = epoch.toNat → exec (.witnessRelease m pair epoch rnum len dt) s = .next (u.setRf (aWT_2 k) 31 31 0)) ∧
    (∀ (s : State) (m : Bool) (pair epoch rnum len : BitVec 16) (dt k : Nat) (succ : Bool),
      let u := s.elapse dt
      let e := (epoch.toNat + 1) % 65536
      u.clkStop = false → u.witEntry pair.toNat = some k → u.rb (aWT_2 k) 29 = false → 200 ≤ len.toNat → len.toNat ≤ 2000 → u.witHolder k = some m → u.rf (aWT_2 k) 15 0 = epoch.toNat → newer e (u.witHigh k) = true → exec (.witnessHandover m succ pair epoch rnum len dt) s = .next (((u.setWitHigh k e).witSet k succ e len.toNat).witSend k 3 succ 0 0 len.toNat)) ∧
    (∀ (s : State) (m : Bool) (pair epoch rnum len : BitVec 16) (dt k : Nat),
      let u := s.elapse dt
      u.clkStop = false → u.witEntry pair.toNat = some k → u.rb (aWT_2 k) 29 = true → ∀ c ∈ [Instr.witnessRequest m pair epoch rnum len dt, .witnessClaim m pair epoch rnum len dt, .witnessRelease m pair epoch rnum len dt],
        exec c s = .next (u.witSend k 4 m 3 rnum.toNat len.toNat)) ∧
    (∀ (s : State) (dt : Nat) (k : BitVec 4),
      let u := s.elapse dt
      u.rb (aWT_2 k.toNat) 29 = true → FMap.get (fun _ => 0) u.witQuiet k.toNat ≤ u.fab → exec (.witnessQuietEnd k dt) s = .next { u.setRf (aWT_2 k.toNat) 29 29 0 with witQuiet := FMap.erase u.witQuiet k.toNat }) ∧
    (∀ (s : State) (dt : Nat),
      let u := s.elapse dt
      u.ruRuns = true → u.ruRole = 3 → exec (.leaseRenewal dt) s = .next (u.sendLease 1 u.ruEpoch false 0)) ∧
    (∀ (s : State) (dt : Nat),
      let u := s.elapse dt
      u.ruRole = 3 → u.leaseValid = false → u.clkStop = false → exec (.leaseExpiry dt) s = .next (u.oneEvent aRU_EVT_SEQ (((u.count aRU_CNT_LAPSE).ruEvent 0x40).setRole 1))) ∧
    (∀ (s : State) (dt : Nat),
      let u := s.elapse dt
      (u.ruRole = 4 ∨ u.ruRole = 5) → u.peerValid = false → u.ru.swapTo = none → u.clkStop = false → exec (.partnerLeaseLapse dt) s = .next u.lapsePeer) ∧
    (∀ (s : State) (dt : Nat),
      let u := s.elapse dt
      u.ruRuns = true → u.ruRole = 1 → u.mayClaim = true → exec (.claim dt) s = .next ((u.setRole 2).startClaim)) ∧
    (∀ (s : State) (dt : Nat) (e : Nat),
      let u := s.elapse dt
      u.ruRole = 2 → u.ru.retry = true → u.ru.claim = some e → exec (.claimRetry dt) s = .next (u.sendLease 2 e false 0)) ∧
    (∀ (s : State) (dt : Nat) (f e : Nat),
      let u := s.elapse dt
      u.ru.firstG = some f → u.ru.claim = some e → u.ruRole = 2 → f + 40000 ≤ u.fab → let s1 := u.sendLease 5 e false 0
      exec (.claimRoundTimeout dt) s =
        .next (({ s1 with ru := { s1.ru with claim := none, retry := false, firstG := none, ownG := [],
                                             backoff := s1.fab + (if s1.isMember1 then 48000 else 16000) } }.count aRU_CNT_CLAIM).ruEvent 2)) ∧
    (∀ (s : State) (dt : Nat) (w : BitVec 3) (m : Bool) (pair epoch rnum high : BitVec 16),
      let u := s.elapse dt
      u.fromWitness w.toNat pair.toNat = true → (m = u.isMember1 → exec (.grant w m pair epoch rnum high dt) s = .next (((u.ownGrant w.toNat epoch.toNat rnum.toNat).noteEpoch epoch.toNat).noteEpoch high.toNat)) ∧
        (m ≠ u.isMember1 → exec (.grant w m pair epoch rnum high dt) s = .next (((u.noteEpoch epoch.toNat).noteEpoch high.toNat).peerGrant w.toNat))) ∧
    (∀ (s : State) (dt : Nat) (w : BitVec 3) (m : Bool) (reason : BitVec 4) (pair epoch high : BitVec 16),
      let u := s.elapse dt
      let k := (u.noteEpoch epoch.toNat).noteEpoch high.toNat
      u.fromWitness w.toNat pair.toNat = true → m = k.isMember1 → k.ruRole = 2 → k.ru.claim.isSome = true → (reason = 1 → exec (.deny w m reason pair epoch high dt) s = .next { k with ru := { k.ru with retry := true } }) ∧
        (reason = 2 → exec (.deny w m reason pair epoch high dt) s =
          .next ({ k with ru := { k.ru with claim := some ((high.toNat + 1) % 65536), retry := false, firstG := none, ownG := [] } }.sendLease 2 ((high.toNat + 1) % 65536) false 0)) ∧
        (reason ≠ 1 → reason ≠ 2 → exec (.deny w m reason pair epoch high dt) s = .next k))

/-- What the MIRROR frames of the partner do, and what a member sends by itself. R254, R255, R256, R257, R258, R260, R261, R262, R264, R265, R266, R271.
Completes (15 forms answer a next state, under premises on state and operands alone): invec, data, result, modeFrame, editFrame, swapFrame,
resyncFrame, verdict, stateFrame, stateSend, ptimeFrame, passIncomplete, verdictTimeout, mirrorCaptureEnd, standbyBlockWaitEnd. -/
def Obligations.MirrorFramesResult : Prop :=
  (∀ (s : State) (p : BitVec 9) (t : BitVec 3) (stamp : W) (dt : Nat) (es : List W),
      let u := s.elapse dt
      let q := p.toNat
      let k := t.toNat
      let h := u.shad q k
      u.shadowTask q k = true → u.fullStamp q stamp = none → exec (.invec p t stamp es dt) s =
        .next ((u.setShad q k { h with vecs := h.vecs ++ [(stamp, es.map (fun e => if bitAt e 31 then none else some (fld e 15 0)))], due := none }).shadowStart q k)) ∧
    (∀ (s : State) (p : BitVec 9) (t : BitVec 3) (stamp : W) (dt : Nat) (ls : List (W × List Byte)),
      let u := s.elapse dt
      let q := p.toNat
      let k := t.toNat
      let h := u.shad q k
      u.shadowTask q k = true → exec (.data p t stamp ls dt) s =
        .next (((u.setShad q k { h with lines := h.lines ++ ls.map (fun l => (stamp, l)) }).pendLines q).tryJudge q k)) ∧
    (∀ (s : State) (p : BitVec 9) (t : BitVec 3) (stamp : W) (dt : Nat) (crc : W64) (lines : W) (outcome cause : Byte) (flags : BitVec 16),
      let u := s.elapse dt
      let q := p.toNat
      let k := t.toNat
      let h := u.shad q k
      u.shadowTask q k = true → let r : PassRes := { crc := crc, lines := lines.toNat, outcome := outcome.toNat, cause := cause.toNat, flags := flags.toNat }
      exec (.result p t stamp crc lines outcome cause flags dt) s = .next ((u.setShad q k { h with ress := h.ress ++ [(stamp, r)] }).tryJudge q k)) ∧
    (∀ (s : State) (p : BitVec 9) (mode : BitVec 3) (cause : Byte) (tick : W64) (dt : Nat),
      let u := s.elapse dt
      let q := p.toNat
      u.standbyCopy q = true → exec (.modeFrame p mode cause tick dt) s =
        .next ({ u with modeWait := FMap.set (fun _ => none) u.modeWait q (some (mode.toNat, cause.toNat, tick)) }.modeNow q)) ∧
    (∀ (s : State) (p : BitVec 9) (stamp version : W) (dt : Nat),
      let u := s.elapse dt
      let q := p.toNat
      u.standbyCopy q = true → (u.editPending q = true → u.pnd (aHDR_VERSION q) = version → exec (.editFrame p stamp version dt) s = .next { u with ruEdit := FMap.set (fun _ => none) u.ruEdit q (some stamp) }) ∧
        (u.editPending q = false ∨ u.pnd (aHDR_VERSION q) ≠ version → exec (.editFrame p stamp version dt) s = .next (u.goLeft 3))) ∧
    (∀ (s : State) (b : W64) (epoch : BitVec 16) (dt : Nat),
      let u := s.elapse dt
      (u.ruRole = 4 ∨ u.ruRole = 5) → exec (.swapFrame b epoch dt) s =
        .next ({ u with ru := { u.ru with swapIn := some (epoch.toNat, u.fab - (u.now - b).toNat * 4 / 5) } }.trySwap)) ∧
    (∀ (s : State) (part : BitVec 10) (dt : Nat),
      let u := s.elapse dt
      u.ruRole = 3 → let ps := if part = 0x3FF then u.pairParts else [part.toNat].filter u.pairPart
      exec (.resyncFrame part dt) s = .next ((ps.foldl State.serveResync u).ruEvent 8)) ∧
    (∀ (s : State) (p : BitVec 9) (t : BitVec 3) (stamp : W) (outcome cause flags : Byte) (dt : Nat) (e : Nat × W × Bool),
      let u := s.elapse dt
      let q := p.toNat
      let k := t.toNat
      let h := u.shad q k
      u.ruRole = 3 → u.pairPart q = true → u.ru.open_.find? (fun e => e.1 == q * 16 + k && e.2.1 == stamp) = some e → u.ru.verdict = none → exec (.verdict p t stamp 0 outcome cause flags dt) s = .next { u with ru := { u.ru with open_ := verdictLeft (q * 16 + k) stamp u.ru.open_ } }) ∧
    (∀ (s : State) (p : BitVec 9) (t : BitVec 3) (stamp : W) (cause flags : Byte) (dt : Nat) (e : Nat × W × Bool),
      let u := s.elapse dt
      let q := p.toNat
      let k := t.toNat
      let h := u.shad q k
      let s1 := ({ u with ru := { u.ru with open_ := verdictLeft (q * 16 + k) stamp u.ru.open_ } } : State)
      let s2 := s1.ruEvent 4
      u.ruRole = 3 → u.pairPart q = true → u.ru.open_.find? (fun e => e.1 == q * 16 + k && e.2.1 == stamp) = some e → u.ru.verdict.map Prod.fst = some (q * 16 + k) → (s2.shad q k).stamp = stamp → flags.getLsbD 0 = false → exec (.verdict p t stamp 1 0 cause flags dt) s = .next (u.oneEvent aRU_EVT_SEQ ({ s2 with ru := { s2.ru with verdict := none } }.yieldRole q))) ∧
    (∀ (s : State) (p : BitVec 9) (t : BitVec 3) (stamp : W) (result outcome cause flags : Byte) (dt : Nat),
      let u := s.elapse dt
      let q := p.toNat
      let k := t.toNat
      let h := u.shad q k
      u.ru.open_.find? (fun e => e.1 == q * 16 + k && e.2.1 == stamp) = none → exec (.verdict p t stamp result outcome cause flags dt) s = .next u) ∧
    (∀ (s : State) (role epoch : BitVec 16) (digest : W) (dt : Nat),
      let u := s.elapse dt
      u.ruRuns = true → exec (.stateFrame role epoch digest dt) s = .next (u.stateFrame role.toNat epoch.toNat digest)) ∧
    (∀ (s : State) (dt : Nat),
      let u := s.elapse dt
      u.ruRuns = true → exec (.stateSend dt) s = .next (u.sendMirror 9 0 0 0 0 (beBytes 2 u.ruRole ++ beBytes 2 u.ruEpoch ++ beBytes 4 u.ruDigest.toNat))) ∧
    (∀ (s : State) (p : BitVec 9) (ptime mer : W64) (dt : Nat),
      let u := s.elapse dt
      let q := p.toNat
      let s1 := u.setReg64 (aPD_PTIME_LO q) (ptime + (u.now - mer))
      u.standbyCopy q = true → (u.mode q = 2 → exec (.ptimeFrame p ptime mer 2 dt) s = .next (u.setReg64 (aPD_OFFSET_LO q) (mer - ptime))) ∧
        (u.mode q = 1 → s1.runHeld q = false → exec (.ptimeFrame p ptime mer 2 dt) s = .next (s1.enterRun q)) ∧
        (u.mode q = 1 → s1.runHeld q = true → exec (.ptimeFrame p ptime mer 2 dt) s = .next { s1 with modeWait := FMap.set (fun _ => none) s1.modeWait q (some (2, 1, mer)) }) ∧
        (u.mode q = 3 → exec (.ptimeFrame p ptime mer 2 dt) s = .next (s1.enterResume q)) ∧
        exec (.ptimeFrame p ptime mer 1 dt) s = .next ((u.followMode q 1 1).setReg64 (aPD_PTIME_LO q) ptime)) ∧
    (∀ (s : State) (p : BitVec 9) (t : BitVec 3) (dt : Nat),
      let u := s.elapse dt
      let q := p.toNat
      let k := t.toNat
      let h := u.shad q k
      u.shadowTask q k = true → u.tstate q k = tIdle → h.due.isSome = true → h.vecs = [] → exec (.passIncomplete p t dt) s = .next ((u.setShad q k { h with due := none }).incomplete q k)) ∧
    (∀ (s : State) (dt : Nat) (k t0 : Nat),
      let u := s.elapse dt
      u.ru.verdict = some (k, t0) → t0 + u.rf (aTT_PERIOD (k / 16) (k % 16)) 23 0 * 800 ≤ u.fab → exec (.verdictTimeout dt) s = .next { u with ru := { u.ru with verdict := none } }) ∧
    (∀ (s : State) (p : BitVec 9) (t : BitVec 3) (dt : Nat),
      let u := s.elapse dt
      let k := p.toNat * 16 + t.toNat
      u.ruCap.contains k = true → u.inPause p.toNat = false → exec (.mirrorCaptureEnd p t dt) s = .next ({ u with ruCap := u.ruCap.filter (fun j => j != k) }.releaseDeferred p.toNat t.toNat)) ∧
    (∀ (s : State) (p : BitVec 9) (t : BitVec 3) (dt t0 : Nat) (j : CuJob),
      let u := s.elapse dt
      let q := p.toNat
      let k := t.toNat
      let h := u.shad q k
      let s1 := u.setShad q k { h with waits := none }
      h.waits = some t0 → u.cu.find? (fun j => !j.out && j.p == q && j.t == k) = some j → (j.todo.head?.map (fun i => (u.pickBlock j i).isSome)).getD true = true → exec (.standbyBlockWaitEnd p t dt) s = .next (s1.cuCopy j 1)) ∧
    (∀ (s : State) (p : BitVec 9) (t : BitVec 3) (dt t0 : Nat) (j : CuJob),
      let u := s.elapse dt
      let q := p.toNat
      let k := t.toNat
      let h := u.shad q k
      let s1 := u.setShad q k { h with waits := none }
      h.waits = some t0 → u.cu.find? (fun j => !j.out && j.p == q && j.t == k) = some j → (j.todo.head?.map (fun i => (u.pickBlock j i).isSome)).getD true = false → t0 + 40000 ≤ u.fab → exec (.standbyBlockWaitEnd p t dt) s = .next (s1.cuCopy { j with want := j.want.map (fun l => none :: l.tail) } 1)) ∧
    (∀ (s : State) (p : BitVec 9) (t : BitVec 3) (dt t0 : Nat) (j : CuJob),
      let u := s.elapse dt
      let q := p.toNat
      let k := t.toNat
      let h := u.shad q k
      let s1 := u.setShad q k { h with waits := none }
      h.waits = some t0 → u.cu.find? (fun j => !j.out && j.p == q && j.t == k) = some j → (j.todo.head?.map (fun i => (u.pickBlock j i).isSome)).getD true = false → u.fab < t0 + 40000 → exec (.standbyBlockWaitEnd p t dt) s = .next u)

/-- Planned swaps, the commands of RU_CMD, and RU_COMMIT. R34, R237, R252, R263, R264, R270, R271, R274, R55.
Completes (11 forms answer a next state, under premises on state and operands alone): ruSwap, ruResync, rejoin, leaveCmd, takeCmd, swapTimer,
swapBoundary, swapBoundaryTimeout, swapActiveTimeout, ruCommitGo, ruCommitApply. -/
def Obligations.SwapCommandsAndRedundancyCommitResult : Prop :=
  (∀ (s : State) (src : BitVec 10),
      isVf src.toNat = false → s.rb aRU_CMD_STAT 0 = false → s.mgmt = false → s.supRun = true → s.swapRefusal = 0 → exec (.ruSwap src) s = .next { s.busyRu with ru := { s.ru with swapFrom := some s.fab } }) ∧
    (∀ (s : State) (src : BitVec 10),
      isVf src.toNat = false → s.rb aRU_CMD_STAT 0 = false → s.mgmt = false → s.supRun = true → s.ruRole ≠ 3 → s.ruRole ≠ 5 → exec (.ruSwap src) s = .next ((s.endRu 1).ruEvent 0x20)) ∧
    (∀ (s : State) (src : BitVec 10),
      isVf src.toNat = false → s.rb aRU_CMD_STAT 0 = false → s.mgmt = false → s.supRun = true → (s.ruRole = 5 → exec (.ruResync src) s = .next (s.toSync.endRu 0)) ∧ (s.ruRole = 4 → exec (.ruResync src) s = .next ((s.askResync 0x3FF).endRu 0)) ∧
        (s.ruRole ≠ 5 → s.ruRole ≠ 4 → exec (.ruResync src) s = .next (s.endRu 1))) ∧
    (∀ (s : State) (src : BitVec 10),
      isVf src.toNat = false → s.rb aRU_CMD_STAT 0 = false → s.mgmt = false → s.supRun = true → (s.ruRole = 6 → exec (.rejoin src) s = .next ((s.setRole 1).endRu 0)) ∧ (s.ruRole ≠ 6 → exec (.rejoin src) s = .next (s.endRu 1))) ∧
    (∀ (s : State) (src : BitVec 10),
      isVf src.toNat = false → s.rb aRU_CMD_STAT 0 = false → s.mgmt = false → s.supRun = true → (s.ruRole = 3 → exec (.leaveCmd src) s = .next (((s.setRole 1).sendLease 5 s.ruEpoch false 0).endRu 0)) ∧ (s.ruRole = 5 → exec (.leaveCmd src) s = .next ((s.goLeft 4).endRu 0)) ∧
        (s.ruRole ≠ 3 → s.ruRole ≠ 5 → exec (.leaveCmd src) s = .next (s.endRu 1))) ∧
    (∀ (s : State) (src : BitVec 10),
      isVf src.toNat = false → s.rb aRU_CMD_STAT 0 = false → s.mgmt = false → s.supRun = true → (s.comm = true → s.ruRole = 1 → exec (.takeCmd src) s = .next ({ s with ru := { s.ru with take := true, takeAt := s.fab } }.endRu 0)) ∧ (s.comm = false ∨ s.ruRole ≠ 1 → exec (.takeCmd src) s = .next (s.endRu 4))) ∧
    (∀ (s : State) (src : BitVec 10),
      isVf src.toNat = false → s.rb aRU_CMD_STAT 0 = true → ∀ c ∈ [Instr.ruSwap src, .ruResync src, .rejoin src, .leaveCmd src, .takeCmd src], exec c s = .next (s.setRf aRU_CMD_STAT 23 16 5)) ∧
    (∀ (s : State) (src : BitVec 10),
      isVf src.toNat = false → s.rb aRU_CMD_STAT 0 = false → s.mgmt = false → s.supRun = false → ∀ c ∈ [Instr.ruSwap src, .ruResync src, .rejoin src, .leaveCmd src, .takeCmd src], exec c s = .next (s.endRu 0xFF)) ∧
    (∀ (s : State) (dt : Nat),
      let u := s.elapse dt
      let n := u.rf aRU_TIMING 31 16
      u.ruRole = 3 → u.comm = false → n ≠ 0 → u.rb aRU_CMD_STAT 0 = false → u.ru.holdAt + n * 48000000000 ≤ u.fab → (u.ru.swapTry = 0 ∨ u.ru.swapTry + 48000000000 ≤ u.fab) → exec (.swapTimer dt) s = .next ({ u with ru := { u.ru with swapTry := u.fab } }.beginSwap)) ∧
    (∀ (s : State) (dt : Nat),
      let u := s.elapse dt
      u.ruRole = 3 → u.ru.swapFrom.isSome = true → u.atSwapBoundary = true → u.onTick = true → let s2 := (u.setRole 5).sendMirror 6 0 0 0 0 (beBytes 8 u.grid.toNat ++ beBytes 2 ((u.ruEpoch + 1) % 65536))
      let s3 := s2.sendLease 6 u.ruEpoch (!u.isMember1) u.grid.toNat
      exec (.swapBoundary dt) s = .next { s3 with ru := { s3.ru with swapFrom := none, swapTo := some s3.fab } }) ∧
    (∀ (s : State) (dt : Nat) (t0 : Nat),
      let u := s.elapse dt
      u.ru.swapFrom = some t0 → t0 + 800000000 ≤ u.fab → exec (.swapBoundaryTimeout dt) s = .next (({ u with ru := { u.ru with swapFrom := none } }.endRu 3).ruEvent 0x20)) ∧
    (∀ (s : State) (dt : Nat) (t0 : Nat),
      let u := s.elapse dt
      u.ru.swapTo = some t0 → t0 + u.leaseClks ≤ u.fab → let s1 := ({ u with ru := { u.ru with swapTo := none } }.endRu 6).ruEvent 0x20
      exec (.swapActiveTimeout dt) s = .next (if s1.peerValid then s1 else s1.lapsePeer)) ∧
    (∀ (s : State) (src : BitVec 10),
      isVf src.toNat = false → exec (.ruCommitGo src) s = .next (s.setRf aRU_COMMIT 1 1 1)) ∧
    (∀ (s : State) (dt : Nat),
      let u := s.elapse dt
      let r := u.ruCheck u.ruCandidate
      u.onTick = true → u.rb aRU_COMMIT 1 = true → r ≠ 0 → exec (.ruCommitApply dt) s = .next (u.oneEvent aRU_EVT_SEQ (((u.setReg aRU_COMMIT 0).setReg aRU_STAT (BitVec.ofNat 32 r)).ruEvent 0x80))) ∧
    (∀ (s : State) (dt : Nat),
      let u := s.elapse dt
      u.onTick = true → u.rb aRU_COMMIT 1 = true → u.ruCheck u.ruCandidate = 0 → (u.ruRole ≠ 3 ∨ u.ruCandidate.member = true) → let s2 := ((u.setReg aRU_COMMIT 0).setReg aRU_STAT 0).ruCandidate
      let s3 := ((List.range 16).filter (fun k => u.wasTouched (aWT_0 k) || u.wasTouched (aWT_1 k))).foldl State.witHush s2
      exec (.ruCommitApply dt) s = .next (u.oneEvent aRU_EVT_SEQ ((((((s3.stepsFollow u).roleFollows u).rangesFollow u).refreshPair).untouch 0xD0000 0xE0000).ruEvent 0x80)))

/-- Steps, seeds and rate of Meridian time, MERIDIAN frames, roles, link delay and the pulse per second. R126, R275, R276, R277, R278, R279, R280, R281, R283, R284, R469.
Completes (13 forms answer a next state, under premises on state and operands alone): merStep, merSeed, meridianSeed, merFracWrite, sync, syncSend,
syncTimeout, dreq, dreqSend, dresp, ppsOutRise, ppsOutFall, ppsInEdge. -/
def Obligations.MeridianTimeResult : Prop :=
  (∀ (s : State) (src : BitVec 10),
      let d := (s.reg64 aMER_STEP_LO).toInt
      isVf src.toNat = false → s.rb aMER_STAT 2 = false → (s.stepFits d = true → exec (.merStep src) s = .next (((s.stepTime d).setSrcValid (if s.merRole = 1 then 3 else 2) true).endMer 0)) ∧
        (s.stepFits d = false → exec (.merStep src) s = .next (s.endMer 1))) ∧
    (∀ (s : State) (src : BitVec 10),
      isVf src.toNat = false → s.rb aMER_STAT 2 = true → ∀ c ∈ [Instr.merStep src, .merSeed src], exec c s = .next (s.setRf aMER_STAT 15 8 3)) ∧
    (∀ (s : State) (src : BitVec 10),
      isVf src.toNat = false → s.rb aMER_STAT 2 = false → s.rb aRTC_STAT 0 = true → exec (.merSeed src) s = .next { s.setRf aMER_STAT 2 2 1 with seedCmd := true }) ∧
    (∀ (s : State) (src : BitVec 10),
      isVf src.toNat = false → s.rb aMER_STAT 2 = false → s.rb aRTC_STAT 0 = false → exec (.merSeed src) s = .next (s.endMer 2)) ∧
    (∀ (s : State) (dt : Nat),
      let u := s.elapse dt
      (u.seedDue = true ∨ u.seedCmd = true) → u.rb aRTC_STAT 0 = true → exec (.meridianSeed dt) s = .next ({ u with seedDue := false, seedCmd := false }.seed)) ∧
    (∀ (s : State) (src : BitVec 10) (d : W),
      isVf src.toNat = false → s.merRole ≠ 1 → (0x3FD70A3D ≤ d.toNat → d.toNat ≤ 0x4028F5C3 → exec (.merFracWrite src d) s = .next (s.setReg aMER_FRAC d)) ∧
        (d.toNat < 0x3FD70A3D ∨ 0x4028F5C3 < d.toNat → exec (.merFracWrite src d) s = .next (s.refuse src.toNat (accSpace src.toNat) aMER_FRAC 0x0A))) ∧
    (∀ (s : State) (src : BitVec 10) (d : W),
      isVf src.toNat = false → s.merRole = 1 → exec (.merFracWrite src d) s = .next (s.refuse src.toNat (accSpace src.toNat) aMER_FRAC 0x0A)) ∧
    (∀ (s : State) (port : BitVec 7) (prio : Byte) (master : BitVec 16) (steps : Byte) (valid ppsl : Bool) (t1 : W64) (dt : Nat),
      let u := s.elapse dt
      let p := port.toNat
      u.merOn p = false ∨ 32 < steps.toNat → exec (.sync port prio master steps valid ppsl t1 dt) s = .next (u.count aMER_CNT_DISC)) ∧
    (∀ (s : State) (port : BitVec 7) (prio : Byte) (master : BitVec 16) (steps : Byte) (valid ppsl : Bool) (t1 : W64) (dt : Nat),
      let u := s.elapse dt
      let p := port.toNat
      let c := Cand.mk prio.toNat master.toNat steps.toNat valid ppsl u.fab
      let v := { u with merCand := FMap.set (fun _ => none) u.merCand p (some c) }.refreshMer
      u.merOn p = true → steps.toNat ≤ 32 → v.merRole = 1 → v.rf aMER_STAT 23 16 = p → exec (.sync port prio master steps valid ppsl t1 dt) s = .next (v.acceptSync p c t1)) ∧
    (∀ (s : State) (port : BitVec 7) (prio : Byte) (master : BitVec 16) (steps : Byte) (valid ppsl : Bool) (t1 : W64) (dt : Nat),
      let u := s.elapse dt
      let p := port.toNat
      let c := Cand.mk prio.toNat master.toNat steps.toNat valid ppsl u.fab
      let v := { u with merCand := FMap.set (fun _ => none) u.merCand p (some c) }.refreshMer
      u.merOn p = true → steps.toNat ≤ 32 → (v.merRole ≠ 1 ∨ v.rf aMER_STAT 23 16 ≠ p) → exec (.sync port prio master steps valid ppsl t1 dt) s = .next v) ∧
    (∀ (s : State) (dt : Nat),
      let v := (s.elapse dt).refreshMer
      v.merRole = 2 → v.fatal = false → v.onTick = true → v.merMark.toNat < v.grid.toNat → v.grid.toNat / 1000 % (v.rf aMER_CFG2 9 0 * 1000) = 0 → exec (.syncSend dt) s = .next (v.sendSync v.merPorts (v.rf aMER_CFG 23 16) (v.rf aMER_CFG 15 0) 0 (v.rb aMER_CFG2 31 && v.rb aMER_STAT 1))) ∧
    (∀ (s : State) (dt : Nat),
      let u := s.elapse dt
      u.merRole ≠ 2 → u.syncCand (u.rf aMER_STAT 23 16) = none → exec (.syncTimeout dt) s = .next (({ u with merLock := 0 }.setLock false).refreshMer)) ∧
    (∀ (s : State) (port : BitVec 7) (seq : BitVec 16) (dt : Nat),
      let u := s.elapse dt
      let p := port.toNat
      (u.merOn p = true → exec (.dreq port seq dt) s =
          .next (u.sendMer p 3 u.merHead seq.toNat u.now u.now)) ∧
        (u.merOn p = false → exec (.dreq port seq dt) s = .next (u.count aMER_CNT_DISC))) ∧
    (∀ (s : State) (port : BitVec 7) (dt : Nat),
      let u := s.elapse dt
      let p := port.toNat
      u.merOn p = true → let v := u.sendMer p 2 u.merHead 0 0 0
      exec (.dreqSend port dt) s =
        .next { v with merReq := FMap.set (fun _ => none) u.merReq p (some (FMap.get (fun _ => 0) u.merSeq (p * 4 + 2), u.now)) }) ∧
    (∀ (s : State) (port : BitVec 7) (rseq : BitVec 16) (t1 t2 : W64) (dt : Nat) (t : W64),
      let u := s.elapse dt
      let p := port.toNat
      u.merOn p = true → FMap.get (fun _ => none) u.merReq p = some (rseq.toNat, t) → exec (.dresp port rseq t1 t2 dt) s =
        .next ({ u with merReq := FMap.set (fun _ => none) u.merReq p none }.takeDelay p
          ((((u.now.toNat : Int) - (t.toNat : Int)) - ((t2.toNat : Int) - (t1.toNat : Int))) * 500))) ∧
    (∀ (s : State) (port : BitVec 7) (rseq : BitVec 16) (t1 t2 : W64) (dt : Nat),
      let u := s.elapse dt
      let p := port.toNat
      u.merOn p = false → exec (.dresp port rseq t1 t2 dt) s = .next (u.count aMER_CNT_DISC)) ∧
    (∀ (s : State),
      (∀ c, s.merRole = 1 → s.syncCand (s.rf aMER_STAT 23 16) = some c → s.merHead = BitVec.ofNat 8 c.prio :: beBytes 2 c.master ++ [0, 0]) ∧
        (s.merRole ≠ 1 → s.merHead = BitVec.ofNat 8 (s.rf aMER_CFG 23 16) :: beBytes 2 (s.rf aMER_CFG 15 0) ++ [0, 0])) ∧
    (∀ (s : State) (dt : Nat),
      let u := s.elapse dt
      u.rb aMER_PPS 31 = true → u.merValid = true → u.now.toNat % 1000000000 < 2 → exec (.ppsOutRise dt) s = .next { u with ppsOut := true, ppsSec := u.now.toNat / 1000000000 }) ∧
    (∀ (s : State) (dt : Nat),
      let u := s.elapse dt
      (u.ppsSec * 1000000000 + u.rf aMER_PPS 8 0 * 1000000 ≤ u.now.toNat ∨ u.rb aMER_PPS 31 = false ∨ u.merValid = false) → exec (.ppsOutFall dt) s = .next { u with ppsOut := false }) ∧
    (∀ (s : State) (dt : Nat),
      let u := s.elapse dt
      u.rb aMER_PPS 30 = true → (∀ t, u.ppsAt = some t → t + 400000000 ≤ u.fab) → let v := ({ u with ppsAt := some u.fab }.setReg64 aMER_PPSIN_LO u.now).merEvent 8
      let w := v.lockStep (fromSecond v.now.toNat * 1000)
      exec (.ppsInEdge dt) s = .next (if v.merRole = 2 ∧ v.rb aMER_CFG2 31 = true then (if w.supRun then w.freeFrac else w) else v))

/-- The 24 V channels: inputs, commands, protection, groups, test pulses, forcing and recovery. R298, R301, R303, R304, R305, R306, R307, R308, R309, R310, R49.
Completes (22 forms answer a next state, under premises on state and operands alone): fioInputSettled, fioOutputCommand, fioHostcmdWrite, fioRecover,
dclr, currentLimit, overloadTrip, thermalShutdown, outputRestart, openLoad, shortToSupply, groupUndervoltage, groupOvervoltage, groupOvercurrent,
groupConditionEnd, tpPulseStart, tpPulseEnd, crossShortCheck, tpOverload, tpRetry, heartbeatReceived, heartbeatTimeout. -/
def Obligations.FieldChannelsResult : Prop :=
  (∀ (s : State) (ch : BitVec 5) (level : Bool) (samples dt : Nat),
      let u := s.elapse dt
      let n := ch.toNat
      let used := ((List.range samples).filter (fun i => !u.sampleIgnored n (u.fab - 8000 * i))).length
      let s1 := if samples = 0 then u else u.setRf (aFIO_DIAG n) 0 0 level.toNat
      let c := s1.chan n
      u.fuse.field = true → used ≠ 0 → level = c.level → exec (.fioInputSettled ch level samples dt) s = .next (s1.setChan n { c with cnt := 0 })) ∧
    (∀ (s : State) (ch : BitVec 5) (level : Bool) (samples dt : Nat),
      let u := s.elapse dt
      let n := ch.toNat
      let used := ((List.range samples).filter (fun i => !u.sampleIgnored n (u.fab - 8000 * i))).length
      let s1 := if samples = 0 then u else u.setRf (aFIO_DIAG n) 0 0 level.toNat
      let c := s1.chan n
      u.fuse.field = true → used ≠ 0 → level ≠ c.level → 10 * s1.rf (aFIO_CFG n) 7 0 ≤ c.cnt + used → exec (.fioInputSettled ch level samples dt) s = .next ((s1.setChan n { c with level := level, cnt := 0 }).reportIn n)) ∧
    (∀ (s : State) (ch : BitVec 5) (level : Bool) (samples dt : Nat),
      let u := s.elapse dt
      let n := ch.toNat
      let used := ((List.range samples).filter (fun i => !u.sampleIgnored n (u.fab - 8000 * i))).length
      let s1 := if samples = 0 then u else u.setRf (aFIO_DIAG n) 0 0 level.toNat
      let c := s1.chan n
      u.fuse.field = true → used ≠ 0 → level ≠ c.level → c.cnt + used < 10 * s1.rf (aFIO_CFG n) 7 0 → exec (.fioInputSettled ch level samples dt) s = .next (s1.setChan n { c with cnt := c.cnt + used })) ∧
    (∀ (s : State) (ch : BitVec 5) (level : Bool) (samples dt : Nat),
      let u := s.elapse dt
      let n := ch.toNat
      let used := ((List.range samples).filter (fun i => !u.sampleIgnored n (u.fab - 8000 * i))).length
      let s1 := if samples = 0 then u else u.setRf (aFIO_DIAG n) 0 0 level.toNat
      let c := s1.chan n
      u.fuse.field = true → used = 0 → exec (.fioInputSettled ch level samples dt) s = .next s1) ∧
    (∀ (s : State) (dt : Nat) (n : Nat) (on : Bool) (l : List (Nat × Bool)),
      let u := s.elapse dt
      u.fPause = false → u.rb aFIO_BSTAT 1 = false → u.fioLink = (n, on) :: l → exec (.fioOutputCommand dt) s = .next ({ u with fioLink := l }.command n on)) ∧
    (∀ (s : State) (src : BitVec 10) (d : W),
      s.fuse.field = true → isVf src.toNat = false → s.rb aFIO_BSTAT 1 = false → s.rb aFIO_BSTAT 0 = false → exec (.fioHostcmdWrite src d) s = .next ((s.hostCmd d).setRf aFIO_BSTAT 0 0 1) ∧ exec (.fioRecover src) s = .next ((s.recover).setRf aFIO_BSTAT 0 0 1) ∧ exec (.dclr src) s = .next ((s.dclrAll).setRf aFIO_BSTAT 0 0 1)) ∧
    (∀ (s : State) (src : BitVec 10) (d : W),
      s.fuse.field = true → isVf src.toNat = false → s.rb aFIO_BSTAT 1 = true → exec (.fioHostcmdWrite src d) s = .next (s.refuse src.toNat (farSpace src.toNat) aFIO_HOSTCMD 3) ∧
        exec (.fioRecover src) s = .next (s.refuse src.toNat (farSpace src.toNat) aFIO_CMD 3) ∧ exec (.dclr src) s = .next (s.refuse src.toNat (farSpace src.toNat) aFIO_CMD 3)) ∧
    (∀ (s : State) (ch : BitVec 5),
      let n := ch.toNat
      s.rb aFIO_OUTST n = true → s.rb (aFIO_DIAG n) 2 = false → exec (.currentLimit ch true) s = .next (s.diag n 2)) ∧
    (∀ (s : State) (ch : BitVec 5),
      let n := ch.toNat
      exec (.currentLimit ch false) s = .next (s.setRf (aFIO_DIAG n) 2 2 0)) ∧
    (∀ (s : State) (ch : BitVec 5),
      let n := ch.toNat
      s.rb aFIO_OUTST n = true → (s.rb (aFIO_DIAG n) 2 = true → exec (.overloadTrip ch) s = .next (s.protect n 5)) ∧ exec (.thermalShutdown ch) s = .next (s.protect n 6)) ∧
    (∀ (s : State) (ch : BitVec 5),
      let n := ch.toNat
      (s.chan n).prot = true → (s.rb (aFIO_CFG n) 25 = false ∨ (s.chan n).dclr = true → exec (.outputRestart ch) s = .next (s.unprotect n)) ∧
        (s.rb (aFIO_CFG n) 25 = true → (s.chan n).dclr = false → exec (.outputRestart ch) s = .next (s.setChan n { s.chan n with cool := true }))) ∧
    (∀ (s : State) (ch : BitVec 5),
      let n := ch.toNat
      s.isOut n = true → (s.chan n).drive = true → s.rb (aFIO_CFG n) 24 = true → s.suppressed n = false → exec (.openLoad ch) s = .next (s.diag n 3)) ∧
    (∀ (s : State) (ch : BitVec 5),
      let n := ch.toNat
      s.isOut n = true → (s.chan n).drive = false → s.suppressed n = false → exec (.shortToSupply ch) s = .next (s.diag n 4)) ∧
    (∀ (s : State) (g : BitVec 2) (meas : W),
      let v := s.setReg (aFIO_GMEAS g.toNat) meas
      s.fuse.field = true → v.fuse.field = true → v.grp g.toNat 0 = false → exec (.groupUndervoltage g meas) s = .next (v.setGroup g.toNat 0 true)) ∧
    (∀ (s : State) (g : BitVec 2) (meas : W),
      let v := s.setReg (aFIO_GMEAS g.toNat) meas
      s.fuse.field = true → v.fuse.field = true → v.grp g.toNat 1 = false → exec (.groupOvervoltage g meas) s = .next ((v.setGroup g.toNat 1 true).drivePins (groupChannels g.toNat))) ∧
    (∀ (s : State) (g : BitVec 2) (meas : W),
      let v := s.setReg (aFIO_GMEAS g.toNat) meas
      s.fuse.field = true → v.fuse.field = true → v.grp g.toNat 2 = false → exec (.groupOvercurrent g meas) s =
        .next ((groupChannels g.toNat).foldl (fun s n => if s.rb aFIO_OUTST n then s.protect n 5 else s) (v.setGroup g.toNat 2 true))) ∧
    (∀ (s : State) (g : BitVec 2) (meas : W) (b : BitVec 2),
      let v := s.setReg (aFIO_GMEAS g.toNat) meas
      s.fuse.field = true → b.toNat < 3 → v.grp g.toNat b.toNat = true → exec (.groupConditionEnd g b meas) s = .next ((v.setGroup g.toNat b.toNat false).drivePins (groupChannels g.toNat))) ∧
    (∀ (s : State) (n : BitVec 2) (dt : Nat),
      let u := s.elapse dt
      let t := n.toNat
      u.tpOn t = true → u.tpLow = 0 → u.tpTurn t = true → exec (.tpPulseStart n dt) s =
        .next { u with tpLow := (1 : BitVec 4) <<< t, tpWin := FMap.set (fun _ => none) u.tpWin t (some (u.fab, u.fab)), tpLast := some (t, u.fab) }) ∧
    (∀ (s : State) (n : BitVec 2) (dt : Nat),
      let u := s.elapse dt
      let t := n.toNat
      (u.tpOn t = false ∨ u.tpLow ≠ 0 ∨ u.tpTurn t = false) → exec (.tpPulseStart n dt) s = .next u) ∧
    (∀ (s : State) (n : BitVec 2) (dt : Nat),
      let u := s.elapse dt
      let t := n.toNat
      u.tpLow.getLsbD t = true → nearClocks (u.tpWidth t) (u.tpSince t) = true → let v := { u with
            tpLow := u.tpLow &&& ~~~((1 : BitVec 4) <<< t), tpWin := FMap.set (fun _ => none) u.tpWin t (some (u.fab - u.tpSince t, u.fab)) }
      exec (.tpPulseEnd n true dt) s = .next (((v.setRf aFIO_TPST (4 * t) (4 * t) 1).fioEvent 8 (32 + t)).reportFed t) ∧
        exec (.tpPulseEnd n false dt) s = .next ((v.setRf aFIO_TPST (4 * t) (4 * t) 0).reportFed t)) ∧
    (∀ (s : State) (n : BitVec 2) (pins : W) (dt : Nat),
      let u := s.elapse dt
      let t := n.toNat
      u.tpLow.getLsbD t = true → nearClocks (u.tpWidth t - 16000) (u.tpSince t) = true → exec (.crossShortCheck n pins dt) s =
        .next ((List.range 32).foldl (fun s i => if s.fedBy i t then (s.setRf (aFIO_DIAG i) 0 0 (bitAt pins i).toNat).xsCheck i (bitAt pins i) else s) u)) ∧
    (∀ (s : State) (n : BitVec 2),
      let t := n.toNat
      s.tpOn t = true → exec (.tpOverload n) s =
        .next ((((s.setRf aFIO_TPST (4 * t + 1) (4 * t + 1) 1).setRf aFIO_TPST (4 * t + 2) (4 * t + 2) 0).fioEvent 8 (32 + t)).reportFed t)) ∧
    (∀ (s : State) (n : BitVec 2),
      let t := n.toNat
      s.rb (aTP_CFG t) 31 = true → s.rb aFIO_TPST (4 * t + 1) = true → exec (.tpRetry n) s =
        .next (((s.setRf aFIO_TPST (4 * t + 1) (4 * t + 1) 0).setRf aFIO_TPST (4 * t + 2) (4 * t + 2) 1).reportFed t)) ∧
    (∀ (s : State) (dt : Nat),
      let u := s.elapse dt
      u.fuse.field = true → u.rb aFIO_BSTAT 1 = false → u.hbLink ≠ 0 → let v : State := { u.causeEnds 0 with hbLink := u.hbLink - 1, hbRun := u.hbRun + 1, lastHb := u.fab }
      (v.forced = true ∧ v.rb aFIO_HB 31 = true ∧ v.rf aFIO_FORCE 3 0 = 0 ∧ v.forceHist = 1 ∧ 10 ≤ v.hbRun → exec (.heartbeatReceived dt) s = .next v.unforce) ∧
        (v.forced = false → exec (.heartbeatReceived dt) s = .next v)) ∧
    (∀ (s : State) (dt : Nat),
      let u := s.elapse dt
      u.rf aFIO_HB 9 0 * 776000 ≤ u.fab - u.lastHb → exec (.heartbeatTimeout dt) s = .next { u.forceCause 0 with hbRun := 0 })

/-- The safety unit: evaluation, faults of channels and outputs, dark tests, unit commands, a set taking effect. R13, R315, R316, R317, R318, R325, R329, R330, R334, R335, R336.
Completes (14 forms answer a next state, under premises on state and operands alone): safetyEvaluation, sampleIntervalFault, channelALost,
darkTestHigh, darkTestLow, darkTestEnd, sqOverload, sqlEnableLost, sfApply, sfOclr, sfReset, sfStart, sfStopCmd, setTakesEffect. -/
def Obligations.SafetyUnitResult : Prop :=
  (∀ (s : State) (sa sb : List W) (pa pb : List SqPins) (pu : List Pulse) (dt : Nat),
      let u := s.elapse dt
      let v := if u.rb aSF_UNIT 4 && u.sfLinked then (u.sfJoin.setRf aSF_UNIT 4 4 0).sfEvent 16 0 else u
      u.fuse.field = true → v.sfDiff ≤ 2 → let s1 := { sfAll.foldl (State.evalFn sa sb pu) v with sfReq := 0 }
      let s2 := { s1 with sfDiff := if s1.chanA && s1.vectorsDiffer then s1.sfDiff + 1 else 0 }
      exec (.safetyEvaluation sa sb pa pb pu dt) s =
        .next (((sqAll.foldl (fun s n => s.sqStep n (pa.getD n ⟨0, 0⟩) (pb.getD n ⟨0, 0⟩)) s2).sfReports).sfPublish)) ∧
    (∀ (s : State) (sa sb : List W) (pa pb : List SqPins) (pu : List Pulse) (dt : Nat),
      let u := s.elapse dt
      let v := if u.rb aSF_UNIT 4 && u.sfLinked then (u.sfJoin.setRf aSF_UNIT 4 4 0).sfEvent 16 0 else u
      u.fuse.field = true → 2 < v.sfDiff → exec (.safetyEvaluation sa sb pa pb pu dt) s =
        .next ((if v.rb aSF_BSTAT 1 then v.sfFatal [0] [17] 8 else v.sfFatal [0, 1] [17, 28] 8).sfPublish)) ∧
    (∀ (s : State),
      s.fuse.field = true → s.chanA = true → exec .sampleIntervalFault s = .next (s.openLow.sfFatal [0, 1] [17] 6)) ∧
    (∀ (s : State),
      s.fuse.field = true → let v := (((s.setRf aSF_UNIT 4 4 1).sfForce [1] 1 8 true false).openHigh)
      (s.rb aSF_UNIT 4 = false → exec .channelALost s = .next (v.sfEvent 16 0)) ∧
        (s.rb aSF_UNIT 4 = true → exec .channelALost s = .next v)) ∧
    (∀ (s : State) (n : BitVec 3),
      let k := n.toNat
      s.sqOn k = true → s.chanA = true → exec (.darkTestHigh n) s = .next ((s.setSq k { s.sqr k with hi := false, dark := 1 }).setRf (aSQ_STAT k) 1 0 2) ∧
        exec (.darkTestLow n) s = .next ((s.setSq k { s.sqr k with lo := false, dark := 2 }).setRf (aSQ_STAT k) 1 0 2)) ∧
    (∀ (s : State) (n : BitVec 3) (pa pb : SqPins),
      let k := n.toNat
      (s.sqr k).dark ≠ 0 → ((darkFails (s.sqr k).dark pa || darkFails (s.sqr k).dark pb) = true → exec (.darkTestEnd n pa pb) s = .next (s.sqFail k (s.sqr k).dark)) ∧
        ((darkFails (s.sqr k).dark pa || darkFails (s.sqr k).dark pb) = false →
          exec (.darkTestEnd n pa pb) s = .next ((s.setSq k { s.sqr k with hi := (s.sqr k).hi || (s.sqr k).dark == 1, lo := (s.sqr k).lo || (s.sqr k).dark == 2, dark := 0 }).setRf (aSQ_STAT k) 1 0 1))) ∧
    (∀ (s : State) (n : BitVec 3) (thermal : Bool),
      let k := n.toNat
      (s.rf (aSQ_STAT k) 1 0 = 1 ∨ s.rf (aSQ_STAT k) 1 0 = 2) → exec (.sqOverload n thermal) s = .next (s.sqFail k (if thermal then 6 else 5))) ∧
    (∀ (s : State) (n : BitVec 3),
      let k := n.toNat
      exec (.sqlEnableLost n) s = .next (s.setSq k (s.sqr k).openLo)) ∧
    (∀ (s : State) (src : BitVec 10),
      s.fuse.field = true → isVf src.toNat = false → s.rb aSF_BSTAT 1 = false → s.rb aSF_BSTAT 0 = false → s.granted src.toNat 0 = false → ∀ c ∈ [Instr.sfStart src, .sfStopCmd src, .sfApply src, .sfReset src, .sfOclr src],
        exec c s = .next ((s.setRf aSF_CMD_STAT 15 8 1).setRf aSF_BSTAT 0 0 1)) ∧
    (∀ (s : State) (src : BitVec 10),
      s.fuse.field = true → isVf src.toNat = false → s.rb aSF_BSTAT 1 = false → s.rb aSF_BSTAT 0 = false → s.granted src.toNat 0 = true → s.rb aSF_CMD_STAT 0 = true → ∀ c ∈ [Instr.sfStart src, .sfStopCmd src, .sfApply src, .sfReset src, .sfOclr src],
        exec c s = .next ((s.setRf aSF_CMD_STAT 15 8 6).setRf aSF_BSTAT 0 0 1)) ∧
    (∀ (s : State) (src : BitVec 10),
      s.fuse.field = true → isVf src.toNat = false → s.rb aSF_BSTAT 1 = false → s.rb aSF_BSTAT 0 = false → s.granted src.toNat 0 = true → s.rb aSF_CMD_STAT 0 = false → s.ustate = 1 → s.rb aSF_UNIT 5 = true → exec (.sfStart src) s = .next (({ s.sfActivate with sfStop := false }.sfDone 0).setRf aSF_BSTAT 0 0 1)) ∧
    (∀ (s : State) (src : BitVec 10),
      s.fuse.field = true → isVf src.toNat = false → s.rb aSF_BSTAT 1 = false → s.rb aSF_BSTAT 0 = false → s.granted src.toNat 0 = true → s.rb aSF_CMD_STAT 0 = false → (s.ustate ≠ 1 ∨ s.rb aSF_UNIT 5 = false) → exec (.sfStart src) s = .next ((s.sfDone 2).setRf aSF_BSTAT 0 0 1)) ∧
    (∀ (s : State) (src : BitVec 10),
      s.fuse.field = true → isVf src.toNat = false → s.rb aSF_BSTAT 1 = false → s.rb aSF_BSTAT 0 = false → s.granted src.toNat 0 = true → s.rb aSF_CMD_STAT 0 = false → s.ustate = 2 → let s1 : State := { s.sfForce [0, 1] 0 0 false true with sfStop := true, sfReq := 0 }
      exec (.sfStopCmd src) s =
        .next (((((sqAll.foldl (fun s n => if s.sqFaulty n then s else (s.setSq n Sq.zero).setRf (aSQ_STAT n) 1 0 0) s1).setRf aSF_UNIT 1 0 1).sfEvent 16 0).sfDone 0).setRf aSF_BSTAT 0 0 1)) ∧
    (∀ (s : State) (src : BitVec 10),
      s.fuse.field = true → isVf src.toNat = false → s.rb aSF_BSTAT 1 = false → s.rb aSF_BSTAT 0 = false → s.granted src.toNat 0 = true → s.rb aSF_CMD_STAT 0 = false → s.ustate ≠ 2 → exec (.sfStopCmd src) s = .next ((s.sfDone 2).setRf aSF_BSTAT 0 0 1)) ∧
    (∀ (s : State) (src : BitVec 10),
      s.fuse.field = true → isVf src.toNat = false → s.rb aSF_BSTAT 1 = false → s.rb aSF_BSTAT 0 = false → s.granted src.toNat 0 = true → s.rb aSF_CMD_STAT 0 = false → s.ustate ≤ 1 → s.stgCrc = s.stg 0x25C → s.stgBad = none → s.stgOwned = true → exec (.sfApply src) s = .next ((s.setReg aSF_CMD_STAT 1).setRf aSF_BSTAT 0 0 1)) ∧
    (∀ (s : State) (src : BitVec 10),
      s.fuse.field = true → isVf src.toNat = false → s.rb aSF_BSTAT 1 = false → s.rb aSF_BSTAT 0 = false → s.granted src.toNat 0 = true → s.rb aSF_CMD_STAT 0 = false → s.ustate ≤ 1 → (s.stgCrc ≠ s.stg 0x25C → exec (.sfApply src) s = .next ((s.sfDone 3).setRf aSF_BSTAT 0 0 1)) ∧
        (∀ e, s.stgCrc = s.stg 0x25C → s.stgBad = some e → exec (.sfApply src) s = .next ((s.setReg aSF_CMD_STAT (BitVec.ofNat 32 (e * 65536 + 4 * 256))).setRf aSF_BSTAT 0 0 1)) ∧
        (s.stgCrc = s.stg 0x25C → s.stgBad = none → s.stgOwned = false → exec (.sfApply src) s = .next ((s.sfDone 5).setRf aSF_BSTAT 0 0 1))) ∧
    (∀ (s : State) (src : BitVec 10),
      s.fuse.field = true → isVf src.toNat = false → s.rb aSF_BSTAT 1 = false → s.rb aSF_BSTAT 0 = false → s.granted src.toNat 0 = true → s.rb aSF_CMD_STAT 0 = false → 1 < s.ustate → exec (.sfApply src) s = .next ((s.sfDone 2).setRf aSF_BSTAT 0 0 1)) ∧
    (∀ (s : State) (src : BitVec 10),
      let f := s.rf aSF_ARG 3 0
      s.fuse.field = true → isVf src.toNat = false → s.rb aSF_BSTAT 1 = false → s.rb aSF_BSTAT 0 = false → s.granted src.toNat 0 = true → s.rb aSF_CMD_STAT 0 = false → s.sfShown f = 2 → rsrcRequest (s.sfp (0x20 * f)) = true → exec (.sfReset src) s = .next (({ s with sfReq := s.sfReq ||| BitVec.ofNat 16 (2 ^ f) }.sfDone 0).setRf aSF_BSTAT 0 0 1)) ∧
    (∀ (s : State) (src : BitVec 10),
      let f := s.rf aSF_ARG 3 0
      s.fuse.field = true → isVf src.toNat = false → s.rb aSF_BSTAT 1 = false → s.rb aSF_BSTAT 0 = false → s.granted src.toNat 0 = true → s.rb aSF_CMD_STAT 0 = false → s.sfShown f ≠ 2 → exec (.sfReset src) s = .next (((s.sfEvent 8 f).sfDone 2).setRf aSF_BSTAT 0 0 1)) ∧
    (∀ (s : State) (src : BitVec 10),
      let m := s.rf aSF_ARG 3 0
      s.fuse.field = true → isVf src.toNat = false → s.rb aSF_BSTAT 1 = false → s.rb aSF_BSTAT 0 = false → s.granted src.toNat 0 = true → s.rb aSF_CMD_STAT 0 = false → m ≤ 7 → s.sqFaulty m = true → exec (.sfOclr src) s = .next (((((s.setSq m Sq.zero).setRf (aSQ_STAT m) 15 8 0).setRf (aSQ_STAT m) 1 0 0).sfDone 0).setRf aSF_BSTAT 0 0 1)) ∧
    (∀ (s : State) (src : BitVec 10),
      let m := s.rf aSF_ARG 3 0
      s.fuse.field = true → isVf src.toNat = false → s.rb aSF_BSTAT 1 = false → s.rb aSF_BSTAT 0 = false → s.granted src.toNat 0 = true → s.rb aSF_CMD_STAT 0 = false → (7 < m ∨ s.sqFaulty m = false) → exec (.sfOclr src) s = .next ((s.sfDone 2).setRf aSF_BSTAT 0 0 1)) ∧
    (∀ (s : State) (dt : Nat),
      let u := s.elapse dt
      u.rb aSF_CMD_STAT 0 = true → let bs := (List.range 152).flatMap (fun i => bytesOf (u.stg (4 * i)))
      exec (.setTakesEffect true dt) s = .next (((((u.putNvPages 16 bs 3).putNvPages 19 bs 3).sfLoad u.stg)).sfDone 0) ∧
        exec (.setTakesEffect false dt) s = .next (u.sfDone 7))

/-- The CAN FD controllers: commands, frames received and sent, errors, bus-off recovery, time-triggered operation. R343, R347, R348, R350, R351, R353, R354, R355, R356, R357, R358, R359.
Completes (14 forms answer a next state, under premises on state and operands alone): canRecover, canAck, reqCmd, cancelCmd, canFrameReceived,
heldFrameWrite, canTransmitStart, canTransmitDone, canBusError, busOffRecoveryDone, referenceMessageDue, ttSyncLoss, triggerFire, triggerWindowEnd. -/
def Obligations.CanControllersResult : Prop :=
  (∀ (s : State) (src : BitVec 10) (n : BitVec 4),
      let c := n.toNat
      isVf src.toNat = false → c < s.fuse.cans → s.rb (aCAN_BSTAT c) 1 = false → s.rb (aCAN_BSTAT c) 0 = false → s.canEst c = 2 → s.rb (aCAN_STAT c) 27 = false → exec (.canRecover src n) s = .next (((s.setRf (aCAN_STAT c) 27 27 1).canReason c 0).setRf (aCAN_BSTAT c) 0 0 1)) ∧
    (∀ (s : State) (src : BitVec 10) (n : BitVec 4),
      let c := n.toNat
      isVf src.toNat = false → c < s.fuse.cans → s.rb (aCAN_BSTAT c) 1 = false → s.rb (aCAN_BSTAT c) 0 = false → (s.canEst c ≠ 2 ∨ s.rb (aCAN_STAT c) 27 = true) → exec (.canRecover src n) s = .next ((s.canReason c 1).setRf (aCAN_BSTAT c) 0 0 1)) ∧
    (∀ (s : State) (src : BitVec 10) (n : BitVec 4) (k : BitVec 9),
      let c := n.toNat
      isVf src.toNat = false → c < s.fuse.cans → s.rb (aCAN_BSTAT c) 1 = false → s.rb (aCAN_BSTAT c) 0 = false → (s.objDev c k.toNat = true → exec (.canAck src n k) s = .next (((s.ackObj c k.toNat).canReason c 0).setRf (aCAN_BSTAT c) 0 0 1)) ∧
        (s.objDev c k.toNat = false → exec (.canAck src n k) s = .next ((s.canReason c 2).setRf (aCAN_BSTAT c) 0 0 1))) ∧
    (∀ (s : State) (src : BitVec 10) (n : BitVec 4) (m : BitVec 9),
      let c := n.toNat
      isVf src.toNat = false → c < s.fuse.cans → s.rb (aCAN_BSTAT c) 1 = false → s.rb (aCAN_BSTAT c) 0 = false → m.toNat < 32 → s.mbDev c m.toNat = true → s.mbPend c m.toNat = false → s.canMode c ≠ 0 → exec (.reqCmd src n m) s = .next (((s.mbRequest c m.toNat).canReason c 0).setRf (aCAN_BSTAT c) 0 0 1)) ∧
    (∀ (s : State) (src : BitVec 10) (n : BitVec 4) (m : BitVec 9),
      let c := n.toNat
      isVf src.toNat = false → c < s.fuse.cans → s.rb (aCAN_BSTAT c) 1 = false → s.rb (aCAN_BSTAT c) 0 = false → (32 ≤ m.toNat ∨ s.mbDev c m.toNat = false → exec (.reqCmd src n m) s = .next ((s.canReason c 2).setRf (aCAN_BSTAT c) 0 0 1) ∧ exec (.cancelCmd src n m) s = .next ((s.canReason c 2).setRf (aCAN_BSTAT c) 0 0 1)) ∧
        (m.toNat < 32 → s.mbDev c m.toNat = true → s.mbPend c m.toNat = true → exec (.reqCmd src n m) s = .next ((s.canReason c 3).setRf (aCAN_BSTAT c) 0 0 1)) ∧
        (m.toNat < 32 → s.mbDev c m.toNat = true → s.mbPend c m.toNat = false → s.canMode c = 0 → exec (.reqCmd src n m) s = .next ((s.canReason c 1).setRf (aCAN_BSTAT c) 0 0 1)) ∧
        (m.toNat < 32 → s.mbDev c m.toNat = true → exec (.cancelCmd src n m) s = .next (((s.mbCancel c m.toNat).canReason c 0).setRf (aCAN_BSTAT c) 0 0 1))) ∧
    (∀ (s : State) (n : BitVec 4) (id ctl : W) (data : List Byte) (ago dt : Nat),
      let u := s.elapse dt
      let c := n.toNat
      let v := u.setCan c { u.can c with integ := none }
      u.canHears c = true → u.canJoined c ago = true → (bitAt ctl 31 = false ∨ u.rb (aCAN_CTL c) 2 = true ∧ bitAt ctl 28 = false) → exec (.canFrameReceived n id ctl data ago dt) s = .next (v.canRx c id ctl data (u.now - BitVec.ofNat 64 ago))) ∧
    (∀ (s : State) (n : BitVec 4) (id ctl : W) (data : List Byte) (ago dt : Nat),
      let u := s.elapse dt
      let c := n.toNat
      u.canHears c = true → u.canJoined c ago = false → exec (.canFrameReceived n id ctl data ago dt) s = .next (u.canJoin c)) ∧
    (∀ (s : State) (n : BitVec 4) (id ctl : W) (data : List Byte) (ago dt : Nat),
      let u := s.elapse dt
      let c := n.toNat
      let v := u.setCan c { u.can c with integ := none }
      u.canHears c = true → u.canJoined c ago = true → bitAt ctl 31 = true → u.rb (aCAN_CTL c) 2 = false → (u.rb (aCAN_CTL c) 3 = true → exec (.canFrameReceived n id ctl data ago dt) s = .next (v.canStops c)) ∧
        (u.rb (aCAN_CTL c) 3 = false → exec (.canFrameReceived n id ctl data ago dt) s = .next (v.canError c 5 0 1))) ∧
    (∀ (s : State) (n : BitVec 4) (dt : Nat) (k : Nat) (r : List W),
      let u := s.elapse dt
      let c := n.toNat
      (u.can c).hold = some (k, r) → exec (.heldFrameWrite n dt) s = .next ((u.setCan c { u.can c with hold := none }).storeObj c k r)) ∧
    (∀ (s : State) (n : BitVec 4) (dt : Nat) (delay : BitVec 8),
      let u := s.elapse dt
      let c := n.toNat
      let v := u.setCan c { u.can c with integ := none }
      u.canRuns c = true → (u.canMode c = 1 ∨ u.canMode c = 3) → u.canEst c ≠ 2 → (u.can c).bus = none → u.canJoined c 0 = true → ((u.can c).refReq.isSome = true → exec (.canTransmitStart n delay dt) s = .next (u.setCan c { u.can c with bus := some 32, noRetry := false, integ := none })) ∧
        (∀ m, (u.can c).refReq = none → (v.dropFd c).nextMb c = some m → exec (.canTransmitStart n delay dt) s = .next ((v.dropFd c).startMb c m delay.toNat)) ∧
        ((u.can c).refReq = none → (v.dropFd c).nextMb c = none → exec (.canTransmitStart n delay dt) s = .next (v.dropFd c))) ∧
    (∀ (s : State) (n : BitVec 4) (dt : Nat) (ago m : Nat),
      let u := s.elapse dt
      let c := n.toNat
      (u.can c).bus = some m → let v := u.setCan c { u.can c with bus := none, noRetry := false }
      (m < 32 → exec (.canTransmitDone n ago dt) s = .next (v.sentMb c m (u.now - BitVec.ofNat 64 ago))) ∧
        (∀ y, 32 ≤ m → (u.can c).refReq = some y → exec (.canTransmitDone n ago dt) s = .next (v.sentRef c y (u.now - BitVec.ofNat 64 ago)))) ∧
    (∀ (s : State) (n : BitVec 4) (dt : Nat) (code : BitVec 4) (tu ru : BitVec 8),
      let u := s.elapse dt
      let c := n.toNat
      u.canRuns c = true → u.canMode c ≠ 0 → u.canEst c ≠ 2 → u.canJoined c 0 = true → code.toNat ≤ 8 → (code = 0 → exec (.canBusError n code tu ru dt) s = .next (u.failBus c)) ∧
        (code = 8 → u.rb (aCAN_CTL c) 3 = true → exec (.canBusError n code tu ru dt) s = .next (u.canStops c)) ∧
        (code = 8 → u.rb (aCAN_CTL c) 3 = false → exec (.canBusError n code tu ru dt) s = .next (u.canError c 5 tu.toNat ru.toNat)) ∧
        (code ≠ 0 → code ≠ 8 → exec (.canBusError n code tu ru dt) s = .next (u.canError c code.toNat tu.toNat ru.toNat))) ∧
    (∀ (s : State) (c code tu ru : Nat),
      let v := (s.failBus c).setRf (aCAN_STAT c) 3 0 code
      let d := if v.canMode c = 1 then v.emit (.canErrorFrame c (v.canEst c == 1)) else v
      let e := d.count (aCAN_CNT_ERR c)
      s.canError c code tu ru = e.setCounts c (e.rf (aCAN_STAT c) 15 8 + tu) (e.rf (aCAN_STAT c) 23 16 + ru)) ∧
    (∀ (s : State) (n : BitVec 4),
      let c := n.toNat
      s.canRuns c = true → s.canEst c = 2 → s.rb (aCAN_STAT c) 27 = true → exec (.busOffRecoveryDone n) s = .next ((s.setRf (aCAN_STAT c) 27 27 0).setCounts c 0 0)) ∧
    (∀ (s : State) (n : BitVec 4) (dt : Nat),
      let u := s.elapse dt
      let c := n.toNat
      u.canRuns c = true → u.canTt c = 1 → u.canMode c ≠ 0 → (u.ttInstant c = true ∨ u.ttLate c = true) → ((u.can c).ceded = false ∨ u.ttLate c = true →
        exec (.referenceMessageDue n dt) s = .next (u.setCan c { u.can c with refReq := some (u.ttCycle c % (u.rf (aCAN_TTCYC c) 31 26 + 1)), ceded := false })) ∧
        ((u.can c).ceded = true → u.ttLate c = false → exec (.referenceMessageDue n dt) s = .next (u.setCan c { u.can c with ceded := false }))) ∧
    (∀ (s : State) (n : BitVec 4) (dt : Nat),
      let u := s.elapse dt
      let c := n.toNat
      u.canRuns c = true → u.canSync c = true → 2 * u.rf (aCAN_TTCYC c) 19 0 ≤ u.canCt c → exec (.ttSyncLoss n dt) s = .next ((u.setRf (aCAN_STAT c) 26 26 0).canEvent c 0x10)) ∧
    (∀ (s : State) (n : BitVec 4) (dt : Nat) (m : BitVec 5),
      let u := s.elapse dt
      let c := n.toNat
      let t := u.reg (aMB_TRIG c m.toNat)
      u.canRuns c = true → u.canSync c = true → u.canMode c ≠ 0 → u.canTt c ≠ 0 → bitAt t 31 = true → u.rb (aMB_STAT c m.toNat) 30 = true → u.mbPend c m.toNat = false → u.canCt c = fld t 19 0 → u.rf (aCAN_TTSTAT c) 21 16 % 2 ^ fld t 23 20 = fld t 29 24 % 2 ^ fld t 23 20 → exec (.triggerFire n m dt) s =
        .next { u.setRf (aMB_STAT c m.toNat) 31 31 1 with
          trigEnd := FMap.set (fun _ => 0) u.trigEnd (c * 32 + m.toNat) ((u.can c).mark + BitVec.ofNat 64 ((fld t 19 0 + u.rf (aMB_WIN c m.toNat) 15 0) * 1000)) }) ∧
    (∀ (s : State) (n : BitVec 4) (dt : Nat) (m : BitVec 5),
      let u := s.elapse dt
      let c := n.toNat
      u.rb (aMB_TRIG c m.toNat) 31 = true → u.mbPend c m.toNat = true → (u.can c).bus ≠ some m.toNat → (FMap.get (fun _ => 0) u.trigEnd (c * 32 + m.toNat)).toNat ≤ u.now.toNat → exec (.triggerWindowEnd n m dt) s = .next (u.mbEnd c m.toNat 3))

/-- Fault lines, the fatal and alive lines, dumps, the engine self-test, and the boot of both dies. R13, R14, R15, R19, R28, R363, R370, R371, R373, R376, R378, R388.
Completes (23 forms answer a next state, under premises on state and operands alone): faultEvent, supervisorLockstepFail, supplyOutOfRange,
rootPllLoss, dieLinkDown, fatalLineAsserted, aliveLineTimeout, collectorStateMessage, dumpSequencerDone, dumpPageWritten, dumpComplete,
fatalResetTimeout, rcOscillatorFail, engineBist, bistDone, fdiePorRelease, nvRecallDone, optionBytesRead, fdieBootComplete, rootPllLocked,
resetTimeTestsDone, firmwareLoaded, fcoreRestartDone. -/
def Obligations.FaultsAndBootResult : Prop :=
  (∀ (s : State) (src : BitVec 6) (cls : BitVec 2) (code : BitVec 8) (unit : BitVec 16) (item : BitVec 17) (nth : Nat) (same : Bool),
      let k := src.toNat
      cls.toNat ≠ 0 → classAllowed k cls.toNat = true → s.sourcePresent k = true → FMap.get (fun _ => 0) s.lines k < cls.toNat → (s.clkStop = false ∨ 25 ≤ k ∧ k ≤ 29) → let v : State := { s.collectIn same k cls.toNat code.toNat unit.toNat with lines := FMap.set (fun _ => 0) s.lines k cls.toNat }
      (cls.toNat = cContained → exec (.faultEvent src cls code unit item nth same) s = .next (v.contain k code.toNat unit.toNat item.toNat nth)) ∧
        (cls.toNat ≠ cContained → exec (.faultEvent src cls code unit item nth same) s = .next v)) ∧
    (∀ (s : State) (src : BitVec 6) (cls : BitVec 2) (code : BitVec 8) (unit : BitVec 16) (item : BitVec 17) (nth : Nat) (same : Bool),
      let k := src.toNat
      (cls.toNat = 0 → exec (.faultEvent src cls code unit item nth same) s = .next { s with lines := FMap.erase s.lines k }) ∧
        (cls.toNat ≠ 0 → cls.toNat ≤ FMap.get (fun _ => 0) s.lines k ∨ s.sourcePresent k = false → exec (.faultEvent src cls code unit item nth same) s = .next s)) ∧
    (∀ (s : State),
      exec .supervisorLockstepFail s = .next ((s.collect 0 cContained 0x04 0).contain 0 4 0 0 0) ∧ exec .supplyOutOfRange s = .next (s.collect 30 cFatal 0x07 0) ∧
        exec .rootPllLoss s = .next { s.openLow with clkStop := true, supRun := false } ∧
        exec .dieLinkDown s = .next ({ fdieBstat.foldl (fun (s : State) a => s.setRf a 1 1 1) s with hbLink := 0 }.assertLine false 24 cFatal 0x0B 0 0 0)) ∧
    (∀ (s : State),
      s.fatal = true → exec .fatalLineAsserted s = .next (({ s with fatalLine := true }.makeSafe 2).notePrev s.fatalSrc 1)) ∧
    (∀ (s : State),
      let v := (({ s with aliveStop := true }.makeSafe 1).notePrev 0x3F 2).countDump
      exec .aliveLineTimeout s = .next ((v.passDump (v.dumpPage 3 2 v.fltMsg)).warm 5)) ∧
    (∀ (s : State),
      s.rb aFIO_BSTAT 1 = false → s.clkStop = false → 1 ≤ s.rf aRST_BOOTPH 3 0 → exec .collectorStateMessage s = .next { s with colSent := true, fltMsg := s.fltWords }) ∧
    (∀ (s : State),
      s.rf aFLT_DUMP 7 0 = 1 → let v := s.sequence
      exec .dumpSequencerDone s = .next (if v.rb aFLT_STAT_LO 0 = true ∨ v.supRun = false then v.fatalReset else v)) ∧
    (∀ (s : State) (a : Nat) (page : List Byte),
      s.dumpPend = some (a, page) → exec .dumpPageWritten s =
        .next ((List.range 16).foldl (fun (s : State) i => s.eraseNv ((if a = 479 then 495 else 479) + i)) { s.putNvPages a page 16 with dumpPend := none, dumpNew := some a }).showArray) ∧
    (∀ (s : State) (x : List Byte),
      s.supRun = true → (s.rf aFLT_DUMP 7 0 = 2 ∨ s.rf aFLT_DUMP 7 0 = 3) → let v := if s.rf aFLT_DUMP 7 0 = 2 then (s.readAreas.writeSections x).setReg aFLT_DUMP 3 else s
      exec (.dumpComplete x true) s = .next (v.finishDump x).fatalReset ∧ exec (.dumpComplete x false) s = .next v) ∧
    (∀ (s : State),
      s.fatal = true → s.frst = true → exec .fatalResetTimeout s = .next (s.warm 6)) ∧
    (∀ (s : State),
      s.fuse.field = true → exec .rcOscillatorFail s =
        .next (((((List.range 32).foldl (fun (s : State) n => s.holdOff n) s.openAll).collect 25 cContained 0x06 0).isolate 25 6 0 0 0).collect 17 cFatal 0x06 0)) ∧
    (∀ (s : State) (src : BitVec 10) (e : BitVec 7),
      isVf src.toNat = false → e.toNat < s.fuse.engines → s.rb (aENG_TEST e.toNat) 1 = false → s.rf (aENG_TEST e.toNat) 15 8 ≠ 2 → (s.engBound e.toNat = true → exec (.engineBist src e) s = .next (s.setReg (aENG_TEST e.toNat) 0x300)) ∧
        (s.engBound e.toNat = false → exec (.engineBist src e) s = .next (s.setReg (aENG_TEST e.toNat) 2))) ∧
    (∀ (s : State) (e : BitVec 7),
      let k := e.toNat
      s.rb (aENG_TEST k) 1 = true → exec (.bistDone e true) s = .next (s.setReg (aENG_TEST k) 0x100) ∧
        exec (.bistDone e false) s = .next (((s.setReg (aENG_TEST k) 0x200).collect (32 + k / 8) cContained 0x03 k).resetEngine k)) ∧
    (∀ (s : State),
      (s.fPh = 0 → exec .fdiePorRelease s = .next ({ s with fPh := 1 }.setRf aNV_STAT 1 1 1)) ∧
        (s.fPh = 1 → exec .nvRecallDone s = .next ({ s with fPh := 2, nvBlock := false }.setRf aNV_STAT 1 1 0))) ∧
    (∀ (s : State),
      s.fPh = 2 → exec .optionBytesRead s =
        .next ({ s with fPh := 3, opt := s.chooseOpt.1, bootFault := s.chooseOpt.2 }.setReg aFLT_CFG (if s.chooseOpt.1.frst then 2 else 0))) ∧
    (∀ (s : State),
      s.fPh = 3 → let v := (({ s with fPh := 4 }.recallCounters.recallCaddy.recallKeys).setStore s.evStore)
      exec .fdieBootComplete s = .next (if v.fuse.field then v.sfReload else v).noteRecall) ∧
    (∀ (s : State) (us : W),
      s.lpg = true → s.fPh = 4 → s.bootFails < 3 → s.rf aRST_BOOTPH 3 0 = 0 → exec (.rootPllLocked us) s = .next (s.releaseL us)) ∧
    (∀ (s : State) (us : W),
      s.rf aRST_BOOTPH 3 0 = 5 → let v := s.countDump
      exec (.resetTimeTestsDone true us) s = .next { (s.setReg aRST_BOOTPH 6).setReg (aRST_BOOTT 6) us with bootFails := 0 } ∧
        exec (.resetTimeTestsDone false us) s = .next { (v.passDump (v.dumpPage 3 1 v.fltMsg)).resetL with bootFails := s.bootFails + 1, rstNote := false }) ∧
    (∀ (s : State) (dt : Nat) (a b : W),
      let u := s.elapse dt
      u.rf aRST_BOOTPH 3 0 = 6 → u.fatal = false → exec (.firmwareLoaded a b dt) s = .next (((u.setReg aRST_BOOTPH 8).setReg (aRST_BOOTT 7) a).setReg (aRST_BOOTT 8) b).bootImage) ∧
    (∀ (s : State),
      s.fPh = 4 → s.fPause = false → exec .fcoreRestartDone s = .next { s with nvBlock := false })

/-- Cold, warm, engine, block and partition resets, their commands and releases, and the watchdog. R379, R380, R381, R384, R385, R386, R387, R395, R396, R397, R398, R448.
Completes (19 forms answer a next state, under premises on state and operands alone): vaoPowerOn, vaoBrownout, ldiePowerGoodLoss, resetN,
ldiePowerGood, cold, warm, engineCmd, blockCmd, blockhold, blockrel, partitionCmd, engineResetRelease, blockResetRelease, watchdogWindowOpen,
engineWatchdogAnswer, wdgSsvc, watchdogExpiry, hardTimerExpiry. -/
def Obligations.ResetsAndWatchdogResult : Prop :=
  (∀ (s : State),
      exec (.vaoPowerOn true) s = .next { s.cold 0 with lpg := false } ∧ exec (.vaoPowerOn false) s = .next { s.loseRtc.cold 0 with lpg := false } ∧ exec .vaoBrownout s = .next (s.cold 1) ∧ exec .ldiePowerGoodLoss s = .next { s.warm 4 with lpg := false }) ∧
    (∀ (s : State) (ns : Nat),
      (1000 ≤ ns → exec (.resetN ns) s = .next (s.cold 2)) ∧ (ns < 500 → exec (.resetN ns) s = .next s)) ∧
    (∀ (s : State) (dt : Nat),
      let u := s.elapse dt
      exec (.ldiePowerGood dt) s = .next { u with lpg := true }) ∧
    (∀ (s : State) (src : BitVec 10),
      isVf src.toNat = false → (s.granted src.toNat 1 = true → exec (.cold src) s = .next (s.cold 3) ∧ exec (.warm src) s = .next (s.warm 9)) ∧
        (s.granted src.toNat 1 = false → exec (.cold src) s = .next (s.rstDone 2) ∧ exec (.warm src) s = .next (s.rstDone 2))) ∧
    (∀ (s : State) (src : BitVec 10) (arg : BitVec 10),
      isVf src.toNat = false → (arg.toNat < s.fuse.engines → exec (.engineCmd src arg) s = .next ((s.resetEngine arg.toNat).rstDone 0)) ∧
        (s.fuse.engines ≤ arg.toNat → exec (.engineCmd src arg) s = .next (s.rstDone 1))) ∧
    (∀ (s : State) (src : BitVec 10) (arg : BitVec 10),
      isVf src.toNat = false → s.blockPresent arg.toNat = true → exec (.blockCmd src arg) s = .next ((s.resetBlock arg.toNat).rstDone 0) ∧
        exec (.blockhold src arg) s = .next (((s.resetBlock arg.toNat).markBlock aRST_HELD_LO aRST_HELD_HI arg.toNat true).rstDone 0) ∧
        (s.blockHeld arg.toNat = true → exec (.blockrel src arg) s = .next ((s.markBlock aRST_HELD_LO aRST_HELD_HI arg.toNat false).rstDone 0)) ∧
        (s.blockHeld arg.toNat = false → exec (.blockrel src arg) s = .next (s.rstDone 3))) ∧
    (∀ (s : State) (src : BitVec 10) (arg : BitVec 10),
      isVf src.toNat = false → s.blockPresent arg.toNat = false → ∀ c ∈ [Instr.blockCmd src arg, .blockhold src arg, .blockrel src arg], exec c s = .next (s.rstDone 1)) ∧
    (∀ (s : State) (src : BitVec 10) (arg : BitVec 10),
      let p := arg.toNat
      isVf src.toNat = false → p < s.fuse.partitions → (s.pairPart p = false ∨ (s.ruRole ≠ 4 ∧ s.ruRole ≠ 5) → exec (.partitionCmd src arg) s = .next ((((s.noteReset 12).setReg aRST_LASTPART (BitVec.ofNat 32 p)).resetPart p).rstDone 0)) ∧
        (s.pairPart p = true → (s.ruRole = 4 ∨ s.ruRole = 5) → exec (.partitionCmd src arg) s = .next (s.rstDone 3))) ∧
    (∀ (s : State) (e : BitVec 7) (dt : Nat),
      let u := s.elapse dt
      u.engInReset e.toNat = true → FMap.get (fun _ => 0) u.wdgExp e.toNat = 0 → exec (.engineResetRelease e dt) s = .next ({ u with engRst := FMap.set (fun _ => false) u.engRst e.toNat false }.wdgRelease e.toNat)) ∧
    (∀ (s : State) (code : BitVec 10) (dt : Nat),
      let u := s.elapse dt
      u.inReset code.toNat = true → u.blockHeld code.toNat = false → exec (.blockResetRelease code dt) s = .next (u.restartBlock code.toNat)) ∧
    (∀ (s : State) (ch : BitVec 8) (dt : Nat),
      let u := s.elapse dt
      let k := ch.toNat
      u.wdgRuns k = true → wdgS k = false → u.wdgOpen k = true → exec (.watchdogWindowOpen ch dt) s = .next { u with wdgReq := FMap.set (fun _ => false) u.wdgReq k true }) ∧
    (∀ (s : State) (e : BitVec 7) (dt : Nat),
      let u := s.elapse dt
      FMap.get (fun _ => false) u.wdgReq e.toNat = true → u.wdgRuns e.toNat = true → (u.wdgAge e.toNat < u.wdgLen e.toNat → u.wdgOpen e.toNat = true → exec (.engineWatchdogAnswer e dt) s = .next (u.wdgBegin e.toNat)) ∧
        (u.wdgLen e.toNat ≤ u.wdgAge e.toNat ∨ u.wdgOpen e.toNat = false → exec (.engineWatchdogAnswer e dt) s = .next (u.wdgExpire e.toNat 0))) ∧
    (∀ (s : State) (dt : Nat) (n : BitVec 1) (p : W),
      let u := s.elapse dt
      let k := 0xF0 + n.toNat
      u.supRun = true → u.wdgRuns k = true → (u.wdgAge k < u.wdgLen k → u.wdgOpen k = true → wdgS k = true → exec (.wdgSsvc n 0xA5C3 p dt) s = .next { u.wdgBegin k with wdgSvc := FMap.set (fun _ => 0) (u.wdgBegin k).wdgSvc k (u.wdgBegin k).now }) ∧
        (u.wdgLen k ≤ u.wdgAge k ∨ u.wdgOpen k = false → exec (.wdgSsvc n 0xA5C3 p dt) s = .next (u.wdgExpire k p)) ∧
        (∀ key, key ≠ 0xA5C3 → exec (.wdgSsvc n key p dt) s = .next (u.wdgExpire k p))) ∧
    (∀ (s : State) (ch : BitVec 8) (dt : Nat) (p : W),
      let u := s.elapse dt
      let k := ch.toNat
      u.wdgRuns k = true → u.wdgLen k ≤ u.wdgAge k → exec (.watchdogExpiry ch p dt) s = .next (u.wdgExpire k p)) ∧
    (∀ (s : State) (ch : BitVec 8) (dt : Nat),
      let u := s.elapse dt
      let k := ch.toNat
      let t := FMap.get (fun _ => 0) u.wdgExp k
      t ≠ 0 → t + 800000 ≤ u.fab + 1 → (wdgS k = false → exec (.hardTimerExpiry ch dt) s = .next (u.resetEngine k)) ∧
        (wdgS k = true → FMap.get (fun _ => 0) u.wdgExp (if k = 0xF0 then 0xF1 else 0xF0) ≠ t → exec (.hardTimerExpiry ch dt) s = .next (u.warm (7 + (k - 0xF0)))) ∧
        (wdgS k = true → FMap.get (fun _ => 0) u.wdgExp (if k = 0xF0 then 0xF1 else 0xF0) = t →
          exec (.hardTimerExpiry ch dt) s = .next ((u.warm (7 + (k - 0xF0))).noteReset (7 + ((if k = 0xF0 then 0xF1 else 0xF0) - 0xF0)))))

/-- NV commands, the array, the caddy, power failure, CAD_ALLOC, and the event recorder. R401, R402, R403, R406, R408, R410, R412, R416, R418, R419, R420, R421.
Completes (19 forms answer a next state, under premises on state and operands alone): nvRead, nvWrite, cadsave, nvPageWriteDone, operatingHour,
autosave, caddySaveDone, powerFail, powerFailWithdrawn, cadAllocWrite, eventAdmission, tokenRefill, eventPageWrite, eventBufferTimeout, evrFreeze,
evrUnfreeze, evrClear, freezeTimeout, evrRdIdxWrite. -/
def Obligations.NvAndEventRecorderResult : Prop :=
  (∀ (s : State) (src : BitVec 10) (found : BitVec 2),
      isVf src.toNat = false → s.rb aNV_BSTAT 1 = false → s.rb aNV_BSTAT 0 = false → s.nvBlock = false → s.pfHold = false → s.rb aNV_STAT 0 = false → exec (.nvRead src found) s = .next ((State.nvRead found.toNat s).setRf aNV_BSTAT 0 0 1)) ∧
    (∀ (s : State) (src : BitVec 10),
      isVf src.toNat = false → s.rb aNV_BSTAT 1 = false → s.rb aNV_BSTAT 0 = false → s.nvBlock = false → s.pfHold = false → s.rb aNV_STAT 0 = false → (nvWritable (s.rf aNV_PAGE 10 0) = true → exec (.nvWrite src) s = .next (((s.nvQueue (s.rf aNV_PAGE 10 0, s.nvBuf, 0)).setRf aNV_STAT 0 0 1).setRf aNV_BSTAT 0 0 1)) ∧
        (nvWritable (s.rf aNV_PAGE 10 0) = false → exec (.nvWrite src) s = .next ((s.nvDone 2).setRf aNV_BSTAT 0 0 1))) ∧
    (∀ (s : State) (src : BitVec 10),
      isVf src.toNat = false → s.rb aNV_BSTAT 1 = false → s.rb aNV_BSTAT 0 = false → s.nvBlock = false → s.pfHold = false → s.rb aNV_STAT 0 = false → (∀ t, s.cadLast = some t → s.fab - t < 48000000000 → exec (.cadsave src) s = .next ((s.nvDone 8).setRf aNV_BSTAT 0 0 1)) ∧
        (s.cadLast = none → s.cadSaving = none → exec (.cadsave src) s = .next (((s.beginSave 0).setRf aNV_STAT 0 0 1).setRf aNV_BSTAT 0 0 1))) ∧
    (∀ (s : State) (src : BitVec 10) (found : BitVec 2),
      isVf src.toNat = false → s.rb aNV_BSTAT 1 = false → s.rb aNV_BSTAT 0 = false → ∀ c ∈ [Instr.nvRead src found, .nvWrite src, .cadsave src],
        (s.nvBlock = true → exec c s = .next ((s.setRf aNV_STAT 23 16 1).setRf aNV_BSTAT 0 0 1)) ∧ (s.nvBlock = false → s.pfHold = true → exec c s = .next ((s.setRf aNV_STAT 23 16 7).setRf aNV_BSTAT 0 0 1)) ∧
        (s.nvBlock = false → s.pfHold = false → s.rb aNV_STAT 0 = true → exec c s = .next ((s.setRf aNV_STAT 23 16 3).setRf aNV_BSTAT 0 0 1))) ∧
    (∀ (s : State) (n kind : Nat) (bs : List Byte) (l : List (Nat × List Byte × Nat)),
      s.nvQ = (n, bs, kind) :: l → let v := { s with nvQ := l }.showArray
      (kind = 0 → exec (.nvPageWriteDone true) s = .next ((v.putNv n bs).nvDone 0) ∧ exec (.nvPageWriteDone false) s = .next (((v.eraseNv n).collect 26 cContained 0x01 n).nvDone 6)) ∧
        (kind ≠ 0 → kind ≠ 3 → exec (.nvPageWriteDone true) s = .next (v.putNv n bs) ∧ exec (.nvPageWriteDone false) s = .next ((v.eraseNv n).collect 26 cContained 0x01 n)) ∧
        (kind = 3 → exec (.nvPageWriteDone true) s = .next { v with evUnw := v.evUnw - n }.freezeDone ∧ exec (.nvPageWriteDone false) s = .next ((v.losePage n).collect 26 cContained 0x01 0).freezeDone)) ∧
    (∀ (s : State) (dt : Nat),
      let u := s.elapse dt
      exec (.operatingHour dt) s = .next ((({ u with opAt := u.fab }.setRf aNV_OPH 31 8 (u.rf aNV_OPH 31 8 + 1)).setReg aNV_OPHF 0).saveCounters)) ∧
    (∀ (s : State) (dt : Nat),
      let u := s.elapse dt
      u.rf aNV_CADCFG 10 0 ≠ 0 → u.cadSaving = none → u.pfHold = false → u.nvBlock = false → exec (.autosave dt) s = .next (u.beginSave 1)) ∧
    (∀ (s : State) (dt : Nat) (kind : Nat) (ws : FMap W),
      let u := s.elapse dt
      u.cadSaving = some (kind, ws) → let g := u.reg aNV_CADGEN + 1
      let v := ((({ u with cadSaving := none, cadSaved := some (g.toNat, ws, u.evLost), cadLast := some u.fab }.setReg aNV_CADGEN g).saveCounters).setRf aNV_STAT 4 4 0).showArray
      exec (.caddySaveDone dt) s = .next (if kind = 0 then v.nvDone 0 else if kind = 2 then (v.setRf aNV_STAT 3 3 0).pfResume else v)) ∧
    (∀ (s : State),
      s.pfHold = false → s.nvQ = [] → s.rb aNV_STAT 0 = false → let v := { s with nvQ := [], pfLow := true, pfHold := true }.setRf aNV_STAT 2 2 0
      let n := v.evStage.length + v.evUnw
      let w := ((v.setStage []).setStore (v.evStore.take (v.evStore.length - v.evUnw))).unfreezeNow
      exec .powerFail s =
        .next (({ w with evBuf := 0, evUnw := 0, evLost := w.evLost + n }.setReg aEVR_CNT_LOST (satAdd (w.reg aEVR_CNT_LOST) n)).beginSave 2 |>.setRf aNV_STAT 3 3 1)) ∧
    (∀ (s : State),
      (s.pfHold = true → exec .powerFail s = .next { s with pfLow := true }) ∧ exec .powerFailWithdrawn s = .next { s with pfLow := false }.pfResume) ∧
    (∀ (s : State) (src : BitVec 10) (p : BitVec 9) (d : W),
      let k := p.toNat
      let w := d &&& 0x0FFF07FF
      isVf src.toNat = false → s.rb aNV_BSTAT 1 = false → s.rb aNV_BSTAT 0 = false → k < s.fuse.partitions → s.mode k ≠ 2 → s.mode k ≠ 3 → fld w 10 0 + fld w 27 16 ≤ 2048 → ((List.range s.fuse.partitions).any (fun q => q != k && (cadRange (s.reg (aCAD_ALLOC q))).any (cadRange w).contains)) = false → let old := cadRange (s.reg (aCAD_ALLOC k))
      exec (.cadAllocWrite src p d) s =
        .next ((((old.filter (fun x => !(cadRange w).contains x) ++ (cadRange w).filter (fun x => !old.contains x)).foldl (fun s x => s.setReg (aCAD_WIN x) 0) s).setReg (aCAD_ALLOC k) w).setRf aNV_BSTAT 0 0 1)) ∧
    (∀ (s : State) (src : BitVec 10) (p : BitVec 9) (d : W),
      isVf src.toNat = false → s.rb aNV_BSTAT 1 = false → s.rb aNV_BSTAT 0 = false → p.toNat < s.fuse.partitions → (s.mode p.toNat = 2 ∨ s.mode p.toNat = 3 ∨ 2048 < fld (d &&& 0x0FFF07FF) 10 0 + fld (d &&& 0x0FFF07FF) 27 16) → exec (.cadAllocWrite src p d) s = .next ((s.refuse src.toNat (farSpace src.toNat) (aCAD_ALLOC p.toNat) 0x0A).setRf aNV_BSTAT 0 0 1)) ∧
    (∀ (s : State) (r : EvRec) (l : List EvRec),
      s.evrShut = false → s.evPass = r :: l → exec .eventAdmission s = .next ({ s with evPass := l }.admission r.code.toNat r.sev.toNat 0 0 r.body).1) ∧
    (∀ (s : State) (c : BitVec 16),
      (s.bkt c.toNat).1 < 16 → exec (.tokenRefill c) s = .next (s.setBkt c.toNat ((s.bkt c.toNat).1 + 1, (s.bkt c.toNat).2))) ∧
    (∀ (s : State),
      s.frozen = false → s.fpend = false → s.evrShut = false → exec .eventPageWrite s = .next (State.drain 64 s) ∧ (s.evBuf = 0 → exec .eventBufferTimeout s = .next s) ∧
        (s.evBuf ≠ 0 → exec .eventBufferTimeout s = .next ({ s with evBuf := 0 }.queuePage (s.evUnw - s.evQueued)))) ∧
    (∀ (s : State) (src : BitVec 10),
      isVf src.toNat = false → s.rb aEVR_BSTAT 1 = false → s.rb aEVR_BSTAT 0 = false → (s.evrShut = false → s.frozen = false → s.fpend = false → exec (.evrFreeze src) s = .next (((s.freezeBy src.toNat).evrDone 0).setRf aEVR_BSTAT 0 0 1)) ∧
        (s.evrShut = true → exec (.evrFreeze src) s = .next ((s.evrDone 1).setRf aEVR_BSTAT 0 0 1)) ∧
        (s.evrShut = false → (s.frozen || s.fpend) = true → exec (.evrFreeze src) s = .next ((s.evrDone (if s.isHolder src.toNat then 1 else 3)).setRf aEVR_BSTAT 0 0 1)) ∧
        (s.isHolder src.toNat = true → exec (.evrUnfreeze src) s = .next ((s.unfreezeNow.evrDone 0).setRf aEVR_BSTAT 0 0 1)) ∧
        (s.isHolder src.toNat = false → exec (.evrUnfreeze src) s = .next ((s.evrDone (if s.frozen || s.fpend then 3 else 1)).setRf aEVR_BSTAT 0 0 1)) ∧
        (s.holds src.toNat = false → exec (.evrClear src) s = .next ((s.evrDone 1).setRf aEVR_BSTAT 0 0 1)) ∧
        (s.holds src.toNat = true → s.granted src.toNat 3 = false → exec (.evrClear src) s = .next ((s.evrDone 2).setRf aEVR_BSTAT 0 0 1))) ∧
    (∀ (s : State) (src : BitVec 10),
      isVf src.toNat = false → s.rb aEVR_BSTAT 1 = false → s.rb aEVR_BSTAT 0 = false → s.holds src.toNat = true → s.granted src.toNat 3 = true → let r : EvStored := { hdr := s.evHeader 0x1402 7 2 0 0 0, body := [BitVec.ofNat 32 (FMap.get (fun _ => 15) s.auSlot (if src.toNat = 0x3FE then 1 else 0)), BitVec.ofNat 32 s.evStore.length] }
      exec (.evrClear src) s = .next ((((({ s with evBuf := 0, evUnw := 0, nvQ := s.nvQ.map (fun (e : Nat × List Byte × Nat) => if e.2.2 = 3 then (0, [], 3) else e) }.setStore []).place r).evrEvent 8).unfreezeNow.evrDone 0).setRf aEVR_BSTAT 0 0 1)) ∧
    (∀ (s : State) (src : Nat),
      let v := (s.flushBuf.setRf aEVR_STAT 1 1 1).setRf aEVR_STAT 3 3 (decide (src = 0x3FE)).toNat
      (v.nvQ.all (fun e => e.2.2 != 3) = true → v.fpend = true → s.freezeBy src = { (v.setRf aEVR_STAT 2 1 2).evrEvent 1 with evAccess := v.fab }) ∧
        (v.nvQ.all (fun e => e.2.2 != 3) = false → s.freezeBy src = v)) ∧
    (∀ (s : State) (dt : Nat),
      let u := s.elapse dt
      24000000000 ≤ u.fab - u.evAccess → exec (.freezeTimeout dt) s = .next u.unfreezeNow) ∧
    (∀ (s : State) (src : BitVec 10) (d : W),
      isVf src.toNat = false → s.rb aEVR_BSTAT 1 = false → s.rb aEVR_BSTAT 0 = false → (∀ r, s.evStore[fld d 13 0]? = some r → s.holds src.toNat = true → exec (.evrRdIdxWrite src d) s = .next ((s.loadWindow src.toNat (fld d 13 0) r).setRf aEVR_BSTAT 0 0 1)) ∧
        (∀ r, s.evStore[fld d 13 0]? = some r → s.holds src.toNat = false → exec (.evrRdIdxWrite src d) s = .next ((s.refuse src.toNat (farSpace src.toNat) aEVR_RD_IDX 0x0A).setRf aEVR_BSTAT 0 0 1)) ∧
        (s.evStore[fld d 13 0]? = none → exec (.evrRdIdxWrite src d) s = .next ((s.refuse src.toNat (farSpace src.toNat) aEVR_RD_IDX 0x0A).setRf aEVR_BSTAT 0 0 1)))

/-- The service port: session, order of requests, rights, READ and WRITE, events, dumps, debug requests. R419, R420, R421, R423, R424, R425, R426, R427, R428, R429.
Completes (29 forms answer a next state, under premises on state and operands alone): activate, brkclr, brkset, closeSession, confirm, dumpread,
evclear, evfreeze, evread, evunfreeze, fallback, optwr, spChallenge, spHold, spRead, spRelinquish, spResponse, spResume, spStep, spWrite, xbegin,
xdata, xend, identify, openSession, sessionTimeout, spCfgWrite, spMacWrite, spFrameDiscard. -/
def Obligations.ServicePortResult : Prop :=
  (∀ (s : State) (sess seq : BitVec 16) (space : Byte) (fn : BitVec 16) (off : W) (count : BitVec 16) (data : List Byte) (slot : Byte) (rights : BitVec 16) (mac : BitVec 128) (k part : BitVec 16) (b : Byte) (addr : BitVec 24),
      s.spUp = true → s.mgmt = false → s.supRun = true → (s.spSession = 0 ∨ s.spSession ≠ sess.toNat) → ∀ e ∈ [(0x3, Instr.closeSession sess seq), (0x8, .spChallenge sess seq slot rights), (0x9, .spResponse sess seq mac), (0xa, .spRelinquish sess seq), (0x10, .spRead sess seq space fn off count), (0x11, .spWrite sess seq space fn off data), (0x20, .evfreeze sess seq), (0x21, .evread sess seq k), (0x22, .evunfreeze sess seq), (0x23, .evclear sess seq), (0x24, .dumpread sess seq b off count), (0x28, .spHold sess seq part), (0x29, .spResume sess seq part), (0x2a, .spStep sess seq part b), (0x2b, .brkset sess seq part b addr), (0x2c, .brkclr sess seq part b), (0x18, .xbegin sess seq b data), (0x19, .xdata sess seq off data), (0x1a, .xend sess seq), (0x1c, .activate sess seq b), (0x1d, .confirm sess seq b), (0x1e, .fallback sess seq b), (0x1f, .optwr sess seq off off off)],
        exec e.2 s = .next (s.spHeard.reply e.1 2 [])) ∧
    (∀ (s : State) (sess seq : BitVec 16) (space : Byte) (fn : BitVec 16) (off : W) (count : BitVec 16) (data : List Byte) (slot : Byte) (rights : BitVec 16) (mac : BitVec 128) (k part : BitVec 16) (b : Byte) (addr : BitVec 24),
      let w := ({ s with spAt := s.fab } : State).spHeard
      s.spUp = true → s.mgmt = false → s.supRun = true → s.spSession ≠ 0 → s.spSession = sess.toNat → seq.toNat ≠ s.spLast → seq.toNat ≠ (s.spLast + 1) % 65536 → ∀ e ∈ [(0x3, Instr.closeSession sess seq), (0x8, .spChallenge sess seq slot rights), (0x9, .spResponse sess seq mac), (0xa, .spRelinquish sess seq), (0x10, .spRead sess seq space fn off count), (0x11, .spWrite sess seq space fn off data), (0x20, .evfreeze sess seq), (0x21, .evread sess seq k), (0x22, .evunfreeze sess seq), (0x23, .evclear sess seq), (0x24, .dumpread sess seq b off count), (0x28, .spHold sess seq part), (0x29, .spResume sess seq part), (0x2a, .spStep sess seq part b), (0x2b, .brkset sess seq part b addr), (0x2c, .brkclr sess seq part b), (0x18, .xbegin sess seq b data), (0x19, .xdata sess seq off data), (0x1a, .xend sess seq), (0x1c, .activate sess seq b), (0x1d, .confirm sess seq b), (0x1e, .fallback sess seq b), (0x1f, .optwr sess seq off off off)],
        exec e.2 s = .next (w.reply e.1 6 [])) ∧
    (∀ (s : State) (sess seq : BitVec 16) (space : Byte) (fn : BitVec 16) (off : W) (count : BitVec 16) (data : List Byte) (slot : Byte) (rights : BitVec 16) (mac : BitVec 128) (k part : BitVec 16) (b : Byte) (addr : BitVec 24),
      let w := ({ s with spAt := s.fab } : State).spHeard
      s.spUp = true → s.mgmt = false → s.supRun = true → s.spSession ≠ 0 → s.spSession = sess.toNat → seq.toNat ≠ s.spLast → seq.toNat = (s.spLast + 1) % 65536 → w.granted 0x3FE 5 = false → ∀ e ∈ [(0x11, Instr.spWrite sess seq space fn off data)],
        exec e.2 s = .next (w.execute seq.toNat e.1 (fun _ => (w, 3, [])))) ∧
    (∀ (s : State) (sess seq : BitVec 16) (space : Byte) (fn : BitVec 16) (off : W) (count : BitVec 16) (data : List Byte) (slot : Byte) (rights : BitVec 16) (mac : BitVec 128) (k part : BitVec 16) (b : Byte) (addr : BitVec 24),
      let w := ({ s with spAt := s.fab } : State).spHeard
      s.spUp = true → s.mgmt = false → s.supRun = true → s.spSession ≠ 0 → s.spSession = sess.toNat → seq.toNat ≠ s.spLast → seq.toNat = (s.spLast + 1) % 65536 → w.granted 0x3FE 3 = false → ∀ e ∈ [(0x23, Instr.evclear sess seq)],
        exec e.2 s = .next (w.execute seq.toNat e.1 (fun _ => (w, 3, [])))) ∧
    (∀ (s : State) (sess seq : BitVec 16) (space : Byte) (fn : BitVec 16) (off : W) (count : BitVec 16) (data : List Byte) (slot : Byte) (rights : BitVec 16) (mac : BitVec 128) (k part : BitVec 16) (b : Byte) (addr : BitVec 24),
      let w := ({ s with spAt := s.fab } : State).spHeard
      s.spUp = true → s.mgmt = false → s.supRun = true → s.spSession ≠ 0 → s.spSession = sess.toNat → seq.toNat ≠ s.spLast → seq.toNat = (s.spLast + 1) % 65536 → w.granted 0x3FE 6 = false → ∀ e ∈ [(0x28, Instr.spHold sess seq part), (0x29, .spResume sess seq part), (0x2a, .spStep sess seq part b), (0x2b, .brkset sess seq part b addr), (0x2c, .brkclr sess seq part b)],
        exec e.2 s = .next (w.execute seq.toNat e.1 (fun _ => (w, 3, [])))) ∧
    (∀ (s : State) (sess seq : BitVec 16) (space : Byte) (fn : BitVec 16) (off : W) (count : BitVec 16) (data : List Byte) (slot : Byte) (rights : BitVec 16) (mac : BitVec 128) (k part : BitVec 16) (b : Byte) (addr : BitVec 24),
      let w := ({ s with spAt := s.fab } : State).spHeard
      s.spUp = true → s.mgmt = false → s.supRun = true → s.spSession ≠ 0 → s.spSession = sess.toNat → seq.toNat ≠ s.spLast → seq.toNat = (s.spLast + 1) % 65536 → w.granted 0x3FE 2 = false → ∀ e ∈ [(0x18, Instr.xbegin sess seq b data), (0x19, .xdata sess seq off data), (0x1a, .xend sess seq), (0x1c, .activate sess seq b), (0x1d, .confirm sess seq b), (0x1e, .fallback sess seq b), (0x1f, .optwr sess seq off off off)],
        exec e.2 s = .next (w.execute seq.toNat e.1 (fun _ => (w, 3, [])))) ∧
    (∀ (s : State),
      s.spUp = true → s.mgmt = false → s.supRun = true → exec .identify s = .next (s.spHeard.reply 1 0 s.spHeard.identity)) ∧
    (∀ (s : State) (peer : BitVec 48),
      let v := s.spHeard
      s.spUp = true → s.mgmt = false → s.supRun = true → (v.spSession = 0 ∨ v.spPeer = peer.toNat) → let n := if (Config.session v.endSession.fresh).toNat = 0 then 1 else (Config.session v.endSession.fresh).toNat
      let y : State := { v.endSession.useFresh with spPeer := peer.toNat, spLast := 0, spAt := v.endSession.fab, spReply := some { op := 2, status := 0, body := beBytes 2 n } }
      exec (.openSession peer) s = .next ((y.setReg aSP_STAT (BitVec.ofNat 32 (n * 65536 + 3))).reply 2 0 (beBytes 2 n))) ∧
    (∀ (s : State) (peer : BitVec 48),
      let v := s.spHeard
      s.spUp = true → s.mgmt = false → s.supRun = true → v.spSession ≠ 0 → v.spPeer ≠ peer.toNat → exec (.openSession peer) s = .next (v.reply 2 1 [])) ∧
    (∀ (s : State) (sess seq : BitVec 16),
      let w := ({ s with spAt := s.fab } : State).spHeard
      s.spUp = true → s.mgmt = false → s.supRun = true → s.spSession ≠ 0 → s.spSession = sess.toNat → seq.toNat ≠ s.spLast → seq.toNat = (s.spLast + 1) % 65536 → exec (.closeSession sess seq) s = .next (w.execute seq.toNat 3 (fun _ => (w.endSession, 0, []))) ∧
        exec (.spRelinquish sess seq) s = .next (w.execute seq.toNat 10 (fun _ => (w.endGrant 0x3FE, 0, [])))) ∧
    (∀ (s : State) (dt : Nat),
      let u := s.elapse dt
      u.spSession ≠ 0 → fabSeconds 60 ≤ u.fab - u.spAt → exec (.sessionTimeout dt) s = .next u.endSession) ∧
    (∀ (s : State) (sess seq : BitVec 16) (slot : Byte) (rights : BitVec 16) (mac : BitVec 128),
      let w := ({ s with spAt := s.fab } : State).spHeard
      s.spUp = true → s.mgmt = false → s.supRun = true → s.spSession ≠ 0 → s.spSession = sess.toNat → seq.toNat ≠ s.spLast → seq.toNat = (s.spLast + 1) % 65536 → let r := w.auResponse 0x3FE (beBytes 16 mac.toNat)
      exec (.spChallenge sess seq slot rights) s = .next (w.execute seq.toNat 8 (fun _ => State.challengeReply (w.auChallenge 0x3FE slot.toNat rights.toNat))) ∧
        exec (.spResponse sess seq mac) s = .next (w.execute seq.toNat 9 (fun _ => if r.2 = 0 then (r.1, 0, beBytes 2 (fld (r.1.regFor 0x3FE aAU_GRANT) 15 0)) else (r.1, 4, [BitVec.ofNat 8 r.2])))) ∧
    (∀ (s : State) (sess seq : BitVec 16) (space : Byte) (fn : BitVec 16) (off : W) (count : BitVec 16),
      let w := ({ s with spAt := s.fab } : State).spHeard
      let sp := space.toNat
      let o := off.toNat
      let n := count.toNat
      s.spUp = true → s.mgmt = false → s.supRun = true → s.spSession ≠ 0 → s.spSession = sess.toNat → seq.toNat ≠ s.spLast → seq.toNat = (s.spLast + 1) % 65536 → spArgs sp fn.toNat n = true → (spRegs sp o = true → o % 4 = 0 ∧ n % 4 = 0) → let r := spGets sp fn.toNat w (if n = 0 then [] else wordsIn o n)
      (∀ a c, r.2.2 = some (a, c) → exec (.spRead sess seq space fn off count) s = .next (w.execute seq.toNat 0x10 (fun _ => refusedReply r.1 c (a - o)))) ∧
        (r.2.2 = none → exec (.spRead sess seq space fn off count) s = .next (w.execute seq.toNat 0x10 (fun _ => (r.1, 0, ((r.2.1.flatMap bytesOf).drop (o % 4)).take n))))) ∧
    (∀ (s : State) (sess seq : BitVec 16) (space : Byte) (fn : BitVec 16) (off : W) (count : BitVec 16),
      let w := ({ s with spAt := s.fab } : State).spHeard
      let sp := space.toNat
      let n := count.toNat
      s.spUp = true → s.mgmt = false → s.supRun = true → s.spSession ≠ 0 → s.spSession = sess.toNat → seq.toNat ≠ s.spLast → seq.toNat = (s.spLast + 1) % 65536 → spArgs sp fn.toNat n = false → exec (.spRead sess seq space fn off count) s = .next (w.execute seq.toNat 0x10 (fun _ => (w, 5, [])))) ∧
    (∀ (s : State) (sess seq : BitVec 16) (space : Byte) (fn : BitVec 16) (off : W) (data : List Byte),
      let w := ({ s with spAt := s.fab } : State).spHeard
      let sp := space.toNat
      let o := off.toNat
      let n := data.length
      s.spUp = true → s.mgmt = false → s.supRun = true → s.spSession ≠ 0 → s.spSession = sess.toNat → seq.toNat ≠ s.spLast → seq.toNat = (s.spLast + 1) % 65536 → w.granted 0x3FE 5 = true → spArgs sp fn.toNat n = true → (spRegs sp o = true → o % 4 = 0 ∧ n % 4 = 0) → let r := spPuts sp fn.toNat o data w true (if n = 0 then [] else wordsIn o n)
      (∀ a c, r.2 = some (a, c) → exec (.spWrite sess seq space fn off data) s = .next (w.execute seq.toNat 0x11 (fun _ => refusedReply r.1 c (a - o)))) ∧
        (r.2 = none → exec (.spWrite sess seq space fn off data) s = .next (w.execute seq.toNat 0x11 (fun _ => (r.1, 0, beBytes 2 n))))) ∧
    (∀ (s : State) (sess seq : BitVec 16),
      let w := ({ s with spAt := s.fab } : State).spHeard
      s.spUp = true → s.mgmt = false → s.supRun = true → s.spSession ≠ 0 → s.spSession = sess.toNat → seq.toNat ≠ s.spLast → seq.toNat = (s.spLast + 1) % 65536 → exec (.evfreeze sess seq) s = .next (w.execute seq.toNat 0x20 (fun _ => evReply (w.evFreeze 0x3FE) (fun t => beBytes 2 (t.rf aEVR_COUNT 15 0)))) ∧
        exec (.evunfreeze sess seq) s = .next (w.execute seq.toNat 0x22 (fun _ => evReply (w.evUnfreeze 0x3FE) (fun _ => [])))) ∧
    (∀ (s : State) (sess seq : BitVec 16) (k : BitVec 16) (r : EvStored),
      let w := ({ s with spAt := s.fab } : State).spHeard
      s.spUp = true → s.mgmt = false → s.supRun = true → s.spSession ≠ 0 → s.spSession = sess.toNat → seq.toNat ≠ s.spLast → seq.toNat = (s.spLast + 1) % 65536 → w.holds 0x3FE = true → w.evStore[k.toNat]? = some r → exec (.evread sess seq k) s = .next (w.execute seq.toNat 0x21 (fun _ => ({ w with evAccess := w.fab }, 0, (r.hdr ++ r.body).flatMap bytesOf)))) ∧
    (∀ (s : State) (sess seq : BitVec 16) (k : BitVec 16),
      let w := ({ s with spAt := s.fab } : State).spHeard
      s.spUp = true → s.mgmt = false → s.supRun = true → s.spSession ≠ 0 → s.spSession = sess.toNat → seq.toNat ≠ s.spLast → seq.toNat = (s.spLast + 1) % 65536 → w.holds 0x3FE = false → exec (.evread sess seq k) s = .next (w.execute seq.toNat 0x21 (fun _ => refusedReply w 0x0A 0))) ∧
    (∀ (s : State) (sess seq : BitVec 16),
      let w := ({ s with spAt := s.fab } : State).spHeard
      s.spUp = true → s.mgmt = false → s.supRun = true → s.spSession ≠ 0 → s.spSession = sess.toNat → seq.toNat ≠ s.spLast → seq.toNat = (s.spLast + 1) % 65536 → w.granted 0x3FE 3 = true → exec (.evclear sess seq) s = .next (w.execute seq.toNat 0x23 (fun _ => evReply (w.evClear 0x3FE) (fun _ => beBytes 2 w.evStore.length)))) ∧
    (∀ (s : State) (sess seq : BitVec 16) (off : W) (count : BitVec 16),
      let w := ({ s with spAt := s.fab } : State).spHeard
      let o := off.toNat
      let n := count.toNat
      s.spUp = true → s.mgmt = false → s.supRun = true → s.spSession ≠ 0 → s.spSession = sess.toNat → seq.toNat ≠ s.spLast → seq.toNat = (s.spLast + 1) % 65536 → n ≤ 1024 → let as := (List.range (n / 4 + 2)).map (fun i => (dumpBase + o) / 4 * 4 + 4 * i)
      let v := as.foldl (fun s a => if a < dumpBase + o + n ∧ s.isBad a then s.storeFault a else s) w
      (o + n ≤ 0x800000 → exec (.dumpread sess seq 0 off count) s = .next (w.execute seq.toNat 0x24 (fun _ => (v, 0, w.rdBytes (dumpBase + o) n)))) ∧
        (∀ p, o + n ≤ 4096 → w.dumpNew = some p → exec (.dumpread sess seq 1 off count) s = .next (w.execute seq.toNat 0x24 (fun _ => (w, 0, ((w.nvDump p).drop o).take n)))) ∧
        (o + n ≤ 4096 → w.dumpNew = none → exec (.dumpread sess seq 1 off count) s = .next (w.execute seq.toNat 0x24 (fun _ => (w, 4, [5]))))) ∧
    (∀ (s : State) (sess seq : BitVec 16) (part : BitVec 16) (b : Byte),
      let w := ({ s with spAt := s.fab } : State).spHeard
      let p := part.toNat
      s.spUp = true → s.mgmt = false → s.supRun = true → s.spSession ≠ 0 → s.spSession = sess.toNat → seq.toNat ≠ s.spLast → seq.toNat = (s.spLast + 1) % 65536 → w.granted 0x3FE 6 = true → p < w.fuse.partitions → let x := ran w (execPdHold 0x3FE (BitVec.ofNat 9 p) w)
      let y := ran w (execPdResume 0x3FE (BitVec.ofNat 9 p) w)
      let z := ran w (execPdStep 0x3FE (BitVec.ofNat 9 p) b w)
      let pc := match (if b.toNat < 16 then taskEntry b.toNat else none) with | some e => (z.task p e).ctx.p.toNat | none => 0
      exec (.spHold sess seq part) s = .next (w.execute seq.toNat 0x28 (fun _ => (x, 0, x.pdReason p))) ∧ exec (.spResume sess seq part) s = .next (w.execute seq.toNat 0x29 (fun _ => (y, 0, y.pdReason p))) ∧
        exec (.spStep sess seq part b) s = .next (w.execute seq.toNat 0x2A (fun _ => (z, 0, z.pdReason p ++ beBytes 3 pc)))) ∧
    (∀ (s : State) (sess seq : BitVec 16) (part : BitVec 16) (b : Byte) (addr : BitVec 24),
      let w := ({ s with spAt := s.fab } : State).spHeard
      s.spUp = true → s.mgmt = false → s.supRun = true → s.spSession ≠ 0 → s.spSession = sess.toNat → seq.toNat ≠ s.spLast → seq.toNat = (s.spLast + 1) % 65536 → w.granted 0x3FE 6 = true → w.fuse.partitions ≤ part.toNat → ∀ e ∈ [(0x28, Instr.spHold sess seq part), (0x29, .spResume sess seq part), (0x2a, .spStep sess seq part b), (0x2b, .brkset sess seq part b addr), (0x2c, .brkclr sess seq part b)],
        exec e.2 s = .next (w.execute seq.toNat e.1 (fun _ => (w, 4, [1])))) ∧
    (∀ (s : State) (sess seq : BitVec 16) (part : BitVec 16) (b : Byte) (addr : BitVec 24),
      let w := ({ s with spAt := s.fab } : State).spHeard
      let p := part.toNat
      s.spUp = true → s.mgmt = false → s.supRun = true → s.spSession ≠ 0 → s.spSession = sess.toNat → seq.toNat ≠ s.spLast → seq.toNat = (s.spLast + 1) % 65536 → w.granted 0x3FE 6 = true → p < w.fuse.partitions → b.toNat < 8 → addr.toNat < 2 ^ 20 → (w.holdRefusal p = none → exec (.brkset sess seq part b addr) s =
          .next (w.execute seq.toNat 0x2B (fun _ => (w.setPart p { w.part p with brk := (b.truncate 3, addr.truncate 20) :: (w.part p).brk.filter (fun k => k.1 != b.truncate 3) }, 0, [1])))) ∧
        (∀ r, w.holdRefusal p = some r → exec (.brkset sess seq part b addr) s = .next (w.execute seq.toNat 0x2B (fun _ => (w, 0, [0])))) ∧
        exec (.brkclr sess seq part b) s = .next (w.execute seq.toNat 0x2C (fun _ => (w.setPart p { w.part p with brk := (w.part p).brk.filter (fun k => k.1 != b.truncate 3) }, 0, [])))) ∧
    (∀ (s : State) (src : BitVec 10) (d : W) (b : Bool),
      isVf src.toNat = false → exec (.spCfgWrite src d b) s = .next ((s.setReg aSP_CFG (d &&& 3)).setRf aSP_STAT 0 0 b.toNat) ∧
        exec (.spMacWrite src b d) s = .next ((if b then s.setReg aSP_MAC_HI (d &&& 0xFFFF) else s.setReg aSP_MAC_LO d).endSession)) ∧
    (∀ (s : State),
      s.spUp = true → exec .spFrameDiscard s = .next (s.spHeard.count aSP_CNT_DISC))

/-- Update requests, activation and fall-back, option bytes, and the authorisation unit with its key store. R428, R430, R431, R432, R433, R434, R435, R437, R438, R439, R440, R443.
Completes (18 forms answer a next state, under premises on state and operands alone): xbegin, xdata, xend, activate, confirm, fallback, optwr,
auChallenge, auRelinquish, auResponse, keyset, keyclr, exchangeTimeout, grantExpiry, lockoutEnd, managementPauseEnd, settingsConversionDone,
fdieUpdatePauseEnd. -/
def Obligations.UpdatesAndAuthorisationResult : Prop :=
  (∀ (s : State) (sess seq : BitVec 16) (b : Byte) (data : List Byte),
      let w := ({ s with spAt := s.fab } : State).spHeard
      s.spUp = true → s.mgmt = false → s.supRun = true → s.spSession ≠ 0 → s.spSession = sess.toNat → seq.toNat ≠ s.spLast → seq.toNat = (s.spLast + 1) % 65536 → w.granted 0x3FE 2 = true → (b.toNat = 1 ∨ b.toNat = 2) → data.length = 256 → (w.steeping b.toNat = false → (wordAt data 12).toNat ≤ maxBody b.toNat → exec (.xbegin sess seq b data) s =
          .next (w.execute seq.toNat 0x18 (fun _ => { (w.setImg (w.inactive b.toNat) none) with xfer := some (b.toNat, data, []) }.updOk [BitVec.ofNat 8 (w.inactive b.toNat % 2)]))) ∧
        (w.steeping b.toNat = true → exec (.xbegin sess seq b data) s = .next (w.execute seq.toNat 0x18 (fun _ => w.updNo 4 3)))) ∧
    (∀ (s : State) (sess seq : BitVec 16) (off : W) (data : List Byte) (kind : Nat) (cart body : List Byte),
      let w := ({ s with spAt := s.fab } : State).spHeard
      s.spUp = true → s.mgmt = false → s.supRun = true → s.spSession ≠ 0 → s.spSession = sess.toNat → seq.toNat ≠ s.spLast → seq.toNat = (s.spLast + 1) % 65536 → w.granted 0x3FE 2 = true → data.length ≠ 0 → data.length ≤ 1024 → w.xfer = some (kind, cart, body) → (off.toNat = body.length → off.toNat + data.length ≤ maxBody kind → exec (.xdata sess seq off data) s =
          .next (w.execute seq.toNat 0x19 (fun _ => { w with xfer := some (kind, cart, body ++ data) }.updOk []))) ∧
        (off.toNat ≠ body.length → exec (.xdata sess seq off data) s = .next (w.execute seq.toNat 0x19 (fun _ => w.updNo 4 7)))) ∧
    (∀ (s : State) (sess seq : BitVec 16) (kind : Nat) (cart body : List Byte),
      let w := ({ s with spAt := s.fab } : State).spHeard
      s.spUp = true → s.mgmt = false → s.supRun = true → s.spSession ≠ 0 → s.spSession = sess.toNat → seq.toNat ≠ s.spLast → seq.toNat = (s.spLast + 1) % 65536 → w.granted 0x3FE 2 = true → w.xfer = some (kind, cart, body) → let v := { w with xfer := none }
      let m : Img := { cart := cart, body := body.take (wordAt cart 12).toNat }
      (v.imageOk kind m = true → exec (.xend sess seq) s = .next (w.execute seq.toNat 0x1A (fun _ => (v.setImg (v.inactive kind) (some m)).updOk [0]))) ∧
        (v.imageOk kind m = false → exec (.xend sess seq) s = .next (w.execute seq.toNat 0x1A (fun _ => v.updNo 8 2)))) ∧
    (∀ (s : State) (sess seq : BitVec 16),
      let w := ({ s with spAt := s.fab } : State).spHeard
      s.spUp = true → s.mgmt = false → s.supRun = true → s.spSession ≠ 0 → s.spSession = sess.toNat → seq.toNat ≠ s.spLast → seq.toNat = (s.spLast + 1) % 65536 → w.granted 0x3FE 2 = true → w.xfer = none → exec (.xend sess seq) s = .next (w.execute seq.toNat 0x1A (fun _ => w.updNo 4 7))) ∧
    (∀ (s : State) (sess seq : BitVec 16) (m : Img),
      let w := ({ s with spAt := s.fab } : State).spHeard
      s.spUp = true → s.mgmt = false → s.supRun = true → s.spSession ≠ 0 → s.spSession = sess.toNat → seq.toNat ≠ s.spLast → seq.toNat = (s.spLast + 1) % 65536 → w.granted 0x3FE 2 = true → w.img (w.inactive 1) = some m → w.steeping 1 = false → w.steeping 2 = false → fld (wordAt m.cart 0x14) 31 16 ≤ w.slotGen w.bootRec.act → let v := w.passEvent 0x0201 4 []
      let r := { v with bootRec := { v.bootRec with act := 1 - v.bootRec.act, prev := v.bootRec.act, steep := true, tries := 0 } }.updOk []
      exec (.activate sess seq 1) s = .next (w.execute seq.toNat 0x1C (fun _ => (r.1.beginMgmt, r.2)))) ∧
    (∀ (s : State) (sess seq : BitVec 16) (m : Img),
      let w := ({ s with spAt := s.fab } : State).spHeard
      s.spUp = true → s.mgmt = false → s.supRun = true → s.spSession ≠ 0 → s.spSession = sess.toNat → seq.toNat ≠ s.spLast → seq.toNat = (s.spLast + 1) % 65536 → w.granted 0x3FE 2 = true → w.img (w.inactive 2) = some m → w.steeping 1 = false → w.steeping 2 = false → let v := w.passEvent 0x0201 4 []
      let r := { v with fRec := { slot := 1 - v.fRec.slot, steep := true } }.updOk []
      exec (.activate sess seq 2) s = .next (w.execute seq.toNat 0x1C (fun _ => (r.1.beginFPause, r.2)))) ∧
    (∀ (s : State) (sess seq : BitVec 16) (b : Byte),
      let w := ({ s with spAt := s.fab } : State).spHeard
      s.spUp = true → s.mgmt = false → s.supRun = true → s.spSession ≠ 0 → s.spSession = sess.toNat → seq.toNat ≠ s.spLast → seq.toNat = (s.spLast + 1) % 65536 → w.granted 0x3FE 2 = true → (b.toNat = 1 ∨ b.toNat = 2) → (w.img (w.inactive b.toNat) = none → exec (.activate sess seq b) s = .next (w.execute seq.toNat 0x1C (fun _ => w.updNo 4 1))) ∧
        (w.steeping b.toNat = false → exec (.confirm sess seq b) s = .next (w.execute seq.toNat 0x1D (fun _ => w.updNo 4 3)) ∧ exec (.fallback sess seq b) s = .next (w.execute seq.toNat 0x1E (fun _ => w.updNo 4 3)))) ∧
    (∀ (s : State) (sess seq : BitVec 16),
      let w := ({ s with spAt := s.fab } : State).spHeard
      s.spUp = true → s.mgmt = false → s.supRun = true → s.spSession ≠ 0 → s.spSession = sess.toNat → seq.toNat ≠ s.spLast → seq.toNat = (s.spLast + 1) % 65536 → w.granted 0x3FE 2 = true → w.steeping 1 = true → w.rb aUPD_STAT 6 = false → let v := w.passEvent 0x0202 4 []
      let b := { v.bootRec with steep := false, tries := 0 }
      let r := { w.noteFallback with bootRec := w.noteFallback.fellBack }.updOk []
      exec (.confirm sess seq 1) s = .next (w.execute seq.toNat 0x1D (fun _ => { v with bootRec := if v.slotGen b.prev = v.slotGen b.act then b else b.drop (v.slotGen b.prev) }.updOk [])) ∧
        exec (.fallback sess seq 1) s = .next (w.execute seq.toNat 0x1E (fun _ => (r.1.beginMgmt, r.2)))) ∧
    (∀ (s : State) (sess seq : BitVec 16),
      let w := ({ s with spAt := s.fab } : State).spHeard
      s.spUp = true → s.mgmt = false → s.supRun = true → s.spSession ≠ 0 → s.spSession = sess.toNat → seq.toNat ≠ s.spLast → seq.toNat = (s.spLast + 1) % 65536 → w.granted 0x3FE 2 = true → w.steeping 2 = true → let v := w.passEvent 0x0202 4 []
      let r := w.noteFallback.dropTrial.updOk []
      exec (.confirm sess seq 2) s = .next (w.execute seq.toNat 0x1D (fun _ => { v with fRec := { v.fRec with steep := false } }.updOk [])) ∧
        exec (.fallback sess seq 2) s = .next (w.execute seq.toNat 0x1E (fun _ => (r.1.beginFPause, r.2)))) ∧
    (∀ (s : State) (sess seq : BitVec 16) (a b c : W),
      let w := ({ s with spAt := s.fab } : State).spHeard
      let gen := (BitVec.ofNat 32 w.opt.gen + 1 : W)
      let page := optCopy gen a b c
      s.spUp = true → s.mgmt = false → s.supRun = true → s.spSession ≠ 0 → s.spSession = sess.toNat → seq.toNat ≠ s.spLast → seq.toNat = (s.spLast + 1) % 65536 → w.granted 0x3FE 2 = true → (optOf false (some page)).isSome = true → w.nvBlock = false → w.pfHold = false → exec (.optwr sess seq a b c) s =
        .next (w.execute seq.toNat 0x1F (fun _ => ((w.nvQueue ((if w.opt.copyB then 0 else 1), page, 1)).nvQueue (1 - (if w.opt.copyB then 0 else 1), page, 2), 0, be32 gen)))) ∧
    (∀ (s : State),
      s.rb aAU_BSTAT 1 = false → s.rb aAU_BSTAT 0 = false → let n := (List.range 16).map (Config.nonce s.fresh)
      let v := (List.range 4).foldl (fun (s : State) i => s.setRegFor 0 (aAU_NONCE i) (wordAt n (4 * i))) s.useFresh
      let key := s.auKey (s.auArgSlot 0)
      (s.auExch = none → s.auLock = none → key.isSome = true → s.auArgRights 0 ≠ 0 → exec .auChallenge s =
          .next ((State.auDone 0 ({ v with auExch := some { req := 0, slot := s.auArgSlot 0, rights := s.auArgRights 0, nonce := n, at_ := v.fab } }, 0)).setRf aAU_BSTAT 0 0 1)) ∧
        (s.auExch.isSome = true → exec .auChallenge s = .next ((State.auDone 0 (s, 1)).setRf aAU_BSTAT 0 0 1)) ∧
        (s.auExch = none → s.auLock.isSome = true → exec .auChallenge s = .next ((State.auDone 0 (s, 4)).setRf aAU_BSTAT 0 0 1)) ∧
        (s.auExch = none → s.auLock = none → key = none ∨ s.auArgRights 0 = 0 → exec .auChallenge s = .next ((State.auDone 0 (s, 3)).setRf aAU_BSTAT 0 0 1)) ∧
        exec .auRelinquish s = .next ((State.auDone 0 (s.endGrant 0, 0)).setRf aAU_BSTAT 0 0 1)) ∧
    (∀ (s : State),
      s.rb aAU_BSTAT 1 = false → s.rb aAU_BSTAT 0 = false → (s.auExch = none → exec .auResponse s = .next ((State.auDone 0 (s, 6)).setRf aAU_BSTAT 0 0 1)) ∧
        (∀ x, s.auExch = some x → x.req ≠ 0 → exec .auResponse s = .next ((State.auDone 0 (s, 5)).setRf aAU_BSTAT 0 0 1)) ∧
        (∀ x k r, s.auExch = some x → x.req = 0 → s.auKey x.slot = some (k, r) → s.auMacRegs ≠ s.auMac x k → exec .auResponse s = .next ((State.auDone 0 (s.auFail, 2)).setRf aAU_BSTAT 0 0 1)) ∧
        (∀ x k r, s.auExch = some x → x.req = 0 → s.auKey x.slot = some (k, r) → s.auMacRegs = s.auMac x k → exec .auResponse s =
          .next ((State.auDone 0 ({ s with auExch := none, auFails := 0, auLevel := 0 }.giveGrant 0 x.slot ((BitVec.ofNat 16 x.rights &&& BitVec.ofNat 16 r).toNat), 0)).setRf aAU_BSTAT 0 0 1))) ∧
    (∀ (s : State) (src : BitVec 10),
      let n := s.auArgSlot src.toNat
      isVf src.toNat = false → s.rb aAU_BSTAT 1 = false → s.rb aAU_BSTAT 0 = false → s.granted src.toNat 7 = true → n < 8 → let k := FMap.get (fun _ => 0) s.auWrites n
      let v := { s with auKeys := FMap.set (fun _ => none) s.auKeys n (some (s.keyBuf, s.auArgRights src.toNat % 256)), auWrites := FMap.set (fun _ => 0) s.auWrites n (k + 1) }
      (k < 1000 → exec (.keyset src) s =
          .next ((State.auDone src.toNat (((v.zeroRegs ((List.range 8).map aAU_KEYBUF)).setReg (aAU_RIGHTS n) (BitVec.ofNat 32 (2 ^ 31 + s.auArgRights src.toNat % 256))).slotChanged n, 0)).setRf aAU_BSTAT 0 0 1)) ∧
        (1000 ≤ k → exec (.keyset src) s = .next ((State.auDone src.toNat (s, 7)).setRf aAU_BSTAT 0 0 1)) ∧
        exec (.keyclr src) s = .next ((State.auDone src.toNat (({ s with auKeys := FMap.set (fun _ => none) s.auKeys n none }.setReg (aAU_RIGHTS n) 0).slotChanged n, 0)).setRf aAU_BSTAT 0 0 1)) ∧
    (∀ (s : State) (src : BitVec 10),
      isVf src.toNat = false → s.rb aAU_BSTAT 1 = false → s.rb aAU_BSTAT 0 = false → s.granted src.toNat 7 = false → exec (.keyset src) s = .next ((State.auDone src.toNat (s, 8)).setRf aAU_BSTAT 0 0 1) ∧ exec (.keyclr src) s = .next ((State.auDone src.toNat (s, 8)).setRf aAU_BSTAT 0 0 1)) ∧
    (∀ (s : State) (dt : Nat) (x : Exch),
      let u := s.elapse dt
      u.auExch = some x → u.fdieDue (x.at_ + fabSeconds 10) 10 = true → exec (.exchangeTimeout dt) s = .next { u with auExch := none }) ∧
    (∀ (s : State) (dt : Nat),
      let u := s.elapse dt
      u.hasGrant 0 = true → u.fdieDue (FMap.get (fun _ => 0) u.auEnd 0) 600 = true → exec (.grantExpiry false dt) s = .next (u.endGrant 0)) ∧
    (∀ (s : State) (dt : Nat),
      let u := s.elapse dt
      u.hasGrant 0x3FE = true → u.fdieDue (FMap.get (fun _ => 0) u.auEnd 1) 600 = true → exec (.grantExpiry true dt) s = .next (u.endGrant 0x3FE)) ∧
    (∀ (s : State) (dt : Nat) (t n : Nat),
      let u := s.elapse dt
      u.auLock = some (t, n) → u.fdieDue t n = true → exec (.lockoutEnd dt) s = .next { u with auLock := none }) ∧
    (∀ (s : State) (dt : Nat),
      let u := s.elapse dt
      u.mgmt = true → exec (.managementPauseEnd dt) s = .next (u.held.foldl State.serveHeld { u with held := [] }.bootImage)) ∧
    (∀ (s : State) (dt : Nat),
      let u := s.elapse dt
      u.rb aUPD_STAT 6 = true → exec (.settingsConversionDone dt) s =
        .next (({ u with bootRec := u.bootRec.convert (u.slotGen u.bootRec.prev) (u.slotGen u.bootRec.act) }.setRf aUPD_STAT 6 6 0).showSlots)) ∧
    (∀ (s : State) (dt : Nat),
      let u := s.elapse dt
      u.fPause = true → exec (.fdieUpdatePauseEnd dt) s =
        .next (u.fioLink.foldl (fun (s : State) e => s.command e.1 e.2) { u with fPause := false, nvBlock := false, fioLink := [] }).showFdie)
end

