-- ==== Sys2Proof/Laws/FMap.lean ====
section
/-!
SUPPORT. The laws of sparse tables: reading after a write, and that every operation keeps the canonical form.
-/
namespace Sys2Proof.Machine

variable {α : Type}

theorem FMap.find?_above {m : FMap α} {k k' : Nat} (h : FMap.above k m = true) (hk : k' ≤ k) : FMap.find? m k' = none := by
  induction m with
  | nil => rfl
  | cons e m ih =>
    simp only [FMap.above, List.all_cons, Bool.and_eq_true, decide_eq_true_eq] at h
    simp only [FMap.find?]
    rw [if_neg (by omega)]
    exact ih h.2

theorem FMap.above_mono {m : FMap α} {k k' : Nat} (h : FMap.above k m = true) (hk : k' ≤ k) : FMap.above k' m = true := by
  simp only [FMap.above, List.all_eq_true, decide_eq_true_eq] at *
  intro e he
  have := h e he
  omega

theorem FMap.above_erase {m : FMap α} {k : Nat} (j : Nat) (h : FMap.above k m = true) : FMap.above k (FMap.erase m j) = true := by
  induction m with
  | nil => rfl
  | cons e m ih =>
    simp only [FMap.above, List.all_cons, Bool.and_eq_true] at h
    simp only [FMap.erase]
    split
    · exact h.2
    · split
      · simpa [FMap.above] using h
      · simp only [FMap.above, List.all_cons, Bool.and_eq_true]
        exact ⟨h.1, ih h.2⟩

theorem FMap.above_insert {m : FMap α} {k j : Nat} (v : α) (hj : k < j) (h : FMap.above k m = true) :
    FMap.above k (FMap.insert m j v) = true := by
  induction m with
  | nil => simpa [FMap.insert, FMap.above] using hj
  | cons e m ih =>
    simp only [FMap.above, List.all_cons, Bool.and_eq_true, decide_eq_true_eq] at h
    simp only [FMap.insert]
    split
    · simpa [FMap.above, hj] using h.2
    · split
      · simpa [FMap.above, hj] using h
      · simp only [FMap.above, List.all_cons, Bool.and_eq_true, decide_eq_true_eq]
        exact ⟨h.1, ih h.2⟩

theorem FMap.above_filter {m : FMap α} {k : Nat} (p : Nat × α → Bool) (h : FMap.above k m = true) :
    FMap.above k (m.filter p) = true := by
  simp only [FMap.above, List.all_eq_true, List.mem_filter] at *
  exact fun e he => h e he.1

theorem FMap.find?_erase {m : FMap α} {d : Nat → α} [DecidableEq α] (h : FMap.wf d m = true) (k j : Nat) :
    FMap.find? (FMap.erase m k) j = if j = k then none else FMap.find? m j := by
  induction m with
  | nil => simp [FMap.erase, FMap.find?]
  | cons e m ih =>
    simp only [FMap.wf, Bool.and_eq_true] at h
    simp only [FMap.erase]
    split
    · rename_i he
      simp only [FMap.find?]
      split
      · rename_i hj; exact FMap.find?_above h.1.2 (by omega)
      · rw [if_neg (by omega)]
    · split
      · rename_i he hk
        split
        · rename_i hj
          simp only [FMap.find?]
          rw [if_neg (by omega)]
          exact FMap.find?_above h.1.2 (by omega)
        · rfl
      · simp only [FMap.find?]
        split
        · rw [if_neg (by omega)]
        · exact ih h.2

theorem FMap.find?_insert (m : FMap α) (k j : Nat) (v : α) :
    FMap.find? (FMap.insert m k v) j = if j = k then some v else FMap.find? m j := by
  induction m with
  | nil =>
    simp only [FMap.insert, FMap.find?]
    by_cases hj : j = k
    · simp [hj]
    · rw [if_neg (by omega), if_neg hj]
  | cons e m ih =>
    simp only [FMap.insert]
    split
    · rename_i he
      simp only [FMap.find?]
      by_cases hj : j = k
      · simp [hj]
      · rw [if_neg (by omega), if_neg hj, if_neg (by omega)]
    · split
      · simp only [FMap.find?]
        by_cases hj : j = k
        · simp [hj]
        · rw [if_neg (by omega), if_neg hj]
      · simp only [FMap.find?]
        split
        · rw [if_neg (by omega)]
        · exact ih

variable [DecidableEq α]

/-- A value written reads back, and every other key reads as before. -/
theorem FMap.get_set {d : Nat → α} {m : FMap α} (h : FMap.wf d m = true) (k j : Nat) (v : α) :
    FMap.get d (FMap.set d m k v) j = if j = k then v else FMap.get d m j := by
  simp only [FMap.get, FMap.set]
  split
  · rename_i hv
    rw [FMap.find?_erase h]
    split
    · rename_i hj; rw [hj, hv]; rfl
    · rfl
  · rw [FMap.find?_insert]
    split <;> rfl

theorem FMap.wf_erase {d : Nat → α} {m : FMap α} (k : Nat) (h : FMap.wf d m = true) : FMap.wf d (FMap.erase m k) = true := by
  induction m with
  | nil => rfl
  | cons e m ih =>
    have h' := h
    simp only [FMap.wf, Bool.and_eq_true] at h'
    simp only [FMap.erase]
    split
    · exact h'.2
    · split
      · exact h
      · simp only [FMap.wf, Bool.and_eq_true]
        exact ⟨⟨h'.1.1, FMap.above_erase k h'.1.2⟩, ih h'.2⟩

theorem FMap.wf_insert {d : Nat → α} {m : FMap α} {k : Nat} {v : α} (hv : v ≠ d k) (h : FMap.wf d m = true) :
    FMap.wf d (FMap.insert m k v) = true := by
  induction m with
  | nil => simp [FMap.insert, FMap.wf, FMap.above, hv]
  | cons e m ih =>
    have h' := h
    simp only [FMap.wf, Bool.and_eq_true] at h'
    simp only [FMap.insert]
    split
    · rename_i he
      simp only [FMap.wf, Bool.and_eq_true, decide_eq_true_eq]
      exact ⟨⟨hv, he ▸ h'.1.2⟩, h'.2⟩
    · split
      · rename_i hk
        simp only [FMap.wf, Bool.and_eq_true, decide_eq_true_eq, FMap.above, List.all_cons]
        exact ⟨⟨hv, hk, FMap.above_mono h'.1.2 (by omega)⟩, ⟨of_decide_eq_true h'.1.1, h'.1.2⟩, h'.2⟩
      · rename_i hne hk
        simp only [FMap.wf, Bool.and_eq_true]
        exact ⟨⟨h'.1.1, FMap.above_insert v (by omega) h'.1.2⟩, ih h'.2⟩

/-- Setting a value keeps the canonical form. -/
theorem FMap.wf_set {d : Nat → α} {m : FMap α} (k : Nat) (v : α) (h : FMap.wf d m = true) :
    FMap.wf d (FMap.set d m k v) = true := by
  simp only [FMap.set]
  split
  · exact FMap.wf_erase k h
  · rename_i hv; exact FMap.wf_insert hv h

/-- Dropping entries keeps the canonical form. -/
theorem FMap.wf_filter {d : Nat → α} {m : FMap α} (p : Nat × α → Bool) (h : FMap.wf d m = true) :
    FMap.wf d (m.filter p) = true := by
  induction m with
  | nil => rfl
  | cons e m ih =>
    have h' := h
    simp only [FMap.wf, Bool.and_eq_true] at h'
    simp only [List.filter_cons]
    split
    · simp only [FMap.wf, Bool.and_eq_true]
      exact ⟨⟨h'.1.1, FMap.above_filter p h'.1.2⟩, ih h'.2⟩
    · exact ih h'.2

theorem FMap.wf_forget {d : Nat → α} {m : FMap α} (p : Nat → Bool) (h : FMap.wf d m = true) :
    FMap.wf d (FMap.forget p m) = true := FMap.wf_filter _ h

omit [DecidableEq α] in
theorem FMap.find?_forget (p : Nat → Bool) (m : FMap α) (k : Nat) :
    FMap.find? (FMap.forget p m) k = if p k then none else FMap.find? m k := by
  induction m with
  | nil => simp [FMap.forget, FMap.find?]
  | cons e m ih =>
    simp only [FMap.forget, List.filter_cons] at *
    by_cases he : e.1 = k
    · by_cases hp : p k
      · simp [he, hp] at *; simpa [FMap.find?] using ih
      · simp [he, hp, FMap.find?]
    · by_cases hp : p e.1
      · simp [hp, FMap.find?, he]; simpa using ih
      · simp [hp, FMap.find?, he]; simpa using ih

omit [DecidableEq α] in
/-- Forgotten keys read as the default, the others as before. -/
theorem FMap.get_forget (d : Nat → α) (p : Nat → Bool) (m : FMap α) (k : Nat) :
    FMap.get d (FMap.forget p m) k = if p k then d k else FMap.get d m k := by
  simp only [FMap.get, FMap.find?_forget]
  split <;> rfl

end Sys2Proof.Machine
end

