-- ==== Sys2Proof/Laws/State.lean ====
section
/-!
SUPPORT. What each named update of the state leaves unchanged, field by field, and what its own field becomes.
-/
namespace Sys2Proof.Machine

@[simp] theorem State.setReg_fuse (s : State) (a : Nat) (v : W) : (s.setReg a v).fuse = s.fuse := rfl
@[simp] theorem State.setReg_mem (s : State) (a : Nat) (v : W) : (s.setReg a v).mem = s.mem := rfl
@[simp] theorem State.setReg_bad (s : State) (a : Nat) (v : W) : (s.setReg a v).bad = s.bad := rfl
@[simp] theorem State.setReg_pend (s : State) (a : Nat) (v : W) : (s.setReg a v).pend = s.pend := rfl
@[simp] theorem State.setReg_touched (s : State) (a : Nat) (v : W) : (s.setReg a v).touched = s.touched := rfl
@[simp] theorem State.setReg_tasks (s : State) (a : Nat) (v : W) : (s.setReg a v).tasks = s.tasks := rfl
@[simp] theorem State.setReg_parts (s : State) (a : Nat) (v : W) : (s.setReg a v).parts = s.parts := rfl
@[simp] theorem State.setReg_engs (s : State) (a : Nat) (v : W) : (s.setReg a v).engs = s.engs := rfl
@[simp] theorem State.setReg_trA (s : State) (a : Nat) (v : W) : (s.setReg a v).trA = s.trA := rfl
@[simp] theorem State.setReg_trP (s : State) (a : Nat) (v : W) : (s.setReg a v).trP = s.trP := rfl
@[simp] theorem State.setReg_mer (s : State) (a : Nat) (v : W) : (s.setReg a v).mer = s.mer := rfl
@[simp] theorem State.setReg_fab (s : State) (a : Nat) (v : W) : (s.setReg a v).fab = s.fab := rfl
@[simp] theorem State.setReg_fresh (s : State) (a : Nat) (v : W) : (s.setReg a v).fresh = s.fresh := rfl
@[simp] theorem State.setReg_outbox (s : State) (a : Nat) (v : W) : (s.setReg a v).outbox = s.outbox := rfl
@[simp] theorem State.setReg_evPass (s : State) (a : Nat) (v : W) : (s.setReg a v).evPass = s.evPass := rfl
@[simp] theorem State.setReg_queues (s : State) (a : Nat) (v : W) : (s.setReg a v).queues = s.queues := rfl
@[simp] theorem State.setReg_blkRst (s : State) (a : Nat) (v : W) : (s.setReg a v).blkRst = s.blkRst := rfl
@[simp] theorem State.setReg_nv (s : State) (a : Nat) (v : W) : (s.setReg a v).nv = s.nv := rfl
@[simp] theorem State.setReg_pending (s : State) (a : Nat) (v : W) : (s.setReg a v).pending = s.pending := rfl
@[simp] theorem State.setReg_supRun (s : State) (a : Nat) (v : W) : (s.setReg a v).supRun = s.supRun := rfl
@[simp] theorem State.setReg_spRegs (s : State) (a : Nat) (v : W) : (s.setReg a v).spRegs = s.spRegs := rfl
@[simp] theorem State.setReg_cu (s : State) (a : Nat) (v : W) : (s.setReg a v).cu = s.cu := rfl
@[simp] theorem State.setReg_clkStop (s : State) (a : Nat) (v : W) : (s.setReg a v).clkStop = s.clkStop := rfl
@[simp] theorem State.setReg_merMark (s : State) (a : Nat) (v : W) : (s.setReg a v).merMark = s.merMark := rfl
@[simp] theorem State.setReg_lines (s : State) (a : Nat) (v : W) : (s.setReg a v).lines = s.lines := rfl
@[simp] theorem State.setReg_vfEnable (s : State) (a : Nat) (v : W) : (s.setReg a v).vfEnable = s.vfEnable := rfl
@[simp] theorem State.setReg_numVfs (s : State) (a : Nat) (v : W) : (s.setReg a v).numVfs = s.numVfs := rfl
@[simp] theorem State.setReg_rtcSetDue (s : State) (a : Nat) (v : W) : (s.setReg a v).rtcSetDue = s.rtcSetDue := rfl
@[simp] theorem State.setReg_tpWin (s : State) (a : Nat) (v : W) : (s.setReg a v).tpWin = s.tpWin := rfl
@[simp] theorem State.setReg_tpLast (s : State) (a : Nat) (v : W) : (s.setReg a v).tpLast = s.tpLast := rfl
@[simp] theorem State.setReg_hbSent (s : State) (a : Nat) (v : W) : (s.setReg a v).hbSent = s.hbSent := rfl
@[simp] theorem State.setReg_fltNew (s : State) (a : Nat) (v : W) : (s.setReg a v).fltNew = s.fltNew := rfl
@[simp] theorem State.setReg_fatalSrc (s : State) (a : Nat) (v : W) : (s.setReg a v).fatalSrc = s.fatalSrc := rfl
@[simp] theorem State.setReg_fatalLine (s : State) (a : Nat) (v : W) : (s.setReg a v).fatalLine = s.fatalLine := rfl
@[simp] theorem State.setReg_fatalRegs (s : State) (a : Nat) (v : W) : (s.setReg a v).fatalRegs = s.fatalRegs := rfl
@[simp] theorem State.setReg_fatalPages (s : State) (a : Nat) (v : W) : (s.setReg a v).fatalPages = s.fatalPages := rfl
@[simp] theorem State.setReg_nvQ (s : State) (a : Nat) (v : W) : (s.setReg a v).nvQ = s.nvQ := rfl
@[simp] theorem State.setReg_sfPress (s : State) (a : Nat) (v : W) : (s.setReg a v).sfPress = s.sfPress := rfl

@[simp] theorem State.setRf_fuse (s : State) (a hi lo v : Nat) : (s.setRf a hi lo v).fuse = s.fuse := rfl
@[simp] theorem State.setRf_mem (s : State) (a hi lo v : Nat) : (s.setRf a hi lo v).mem = s.mem := rfl
@[simp] theorem State.setRf_bad (s : State) (a hi lo v : Nat) : (s.setRf a hi lo v).bad = s.bad := rfl
@[simp] theorem State.setRf_pend (s : State) (a hi lo v : Nat) : (s.setRf a hi lo v).pend = s.pend := rfl
@[simp] theorem State.setRf_touched (s : State) (a hi lo v : Nat) : (s.setRf a hi lo v).touched = s.touched := rfl
@[simp] theorem State.setRf_tasks (s : State) (a hi lo v : Nat) : (s.setRf a hi lo v).tasks = s.tasks := rfl
@[simp] theorem State.setRf_parts (s : State) (a hi lo v : Nat) : (s.setRf a hi lo v).parts = s.parts := rfl
@[simp] theorem State.setRf_engs (s : State) (a hi lo v : Nat) : (s.setRf a hi lo v).engs = s.engs := rfl
@[simp] theorem State.setRf_trA (s : State) (a hi lo v : Nat) : (s.setRf a hi lo v).trA = s.trA := rfl
@[simp] theorem State.setRf_trP (s : State) (a hi lo v : Nat) : (s.setRf a hi lo v).trP = s.trP := rfl
@[simp] theorem State.setRf_mer (s : State) (a hi lo v : Nat) : (s.setRf a hi lo v).mer = s.mer := rfl
@[simp] theorem State.setRf_fab (s : State) (a hi lo v : Nat) : (s.setRf a hi lo v).fab = s.fab := rfl
@[simp] theorem State.setRf_fresh (s : State) (a hi lo v : Nat) : (s.setRf a hi lo v).fresh = s.fresh := rfl
@[simp] theorem State.setRf_outbox (s : State) (a hi lo v : Nat) : (s.setRf a hi lo v).outbox = s.outbox := rfl
@[simp] theorem State.setRf_evPass (s : State) (a hi lo v : Nat) : (s.setRf a hi lo v).evPass = s.evPass := rfl
@[simp] theorem State.setRf_queues (s : State) (a hi lo v : Nat) : (s.setRf a hi lo v).queues = s.queues := rfl
@[simp] theorem State.setRf_blkRst (s : State) (a hi lo v : Nat) : (s.setRf a hi lo v).blkRst = s.blkRst := rfl
@[simp] theorem State.setRf_nv (s : State) (a hi lo v : Nat) : (s.setRf a hi lo v).nv = s.nv := rfl
@[simp] theorem State.setRf_pending (s : State) (a hi lo v : Nat) : (s.setRf a hi lo v).pending = s.pending := rfl
@[simp] theorem State.setRf_supRun (s : State) (a hi lo v : Nat) : (s.setRf a hi lo v).supRun = s.supRun := rfl
@[simp] theorem State.setRf_spRegs (s : State) (a hi lo v : Nat) : (s.setRf a hi lo v).spRegs = s.spRegs := rfl
@[simp] theorem State.setRf_cu (s : State) (a hi lo v : Nat) : (s.setRf a hi lo v).cu = s.cu := rfl
@[simp] theorem State.setRf_clkStop (s : State) (a hi lo v : Nat) : (s.setRf a hi lo v).clkStop = s.clkStop := rfl
@[simp] theorem State.setRf_merMark (s : State) (a hi lo v : Nat) : (s.setRf a hi lo v).merMark = s.merMark := rfl
@[simp] theorem State.setRf_lines (s : State) (a hi lo v : Nat) : (s.setRf a hi lo v).lines = s.lines := rfl
@[simp] theorem State.setRf_vfEnable (s : State) (a hi lo v : Nat) : (s.setRf a hi lo v).vfEnable = s.vfEnable := rfl
@[simp] theorem State.setRf_numVfs (s : State) (a hi lo v : Nat) : (s.setRf a hi lo v).numVfs = s.numVfs := rfl
@[simp] theorem State.setRf_rtcSetDue (s : State) (a hi lo v : Nat) : (s.setRf a hi lo v).rtcSetDue = s.rtcSetDue := rfl
@[simp] theorem State.setRf_tpWin (s : State) (a hi lo v : Nat) : (s.setRf a hi lo v).tpWin = s.tpWin := rfl
@[simp] theorem State.setRf_tpLast (s : State) (a hi lo v : Nat) : (s.setRf a hi lo v).tpLast = s.tpLast := rfl
@[simp] theorem State.setRf_hbSent (s : State) (a hi lo v : Nat) : (s.setRf a hi lo v).hbSent = s.hbSent := rfl
@[simp] theorem State.setRf_fltNew (s : State) (a hi lo v : Nat) : (s.setRf a hi lo v).fltNew = s.fltNew := rfl
@[simp] theorem State.setRf_fatalSrc (s : State) (a hi lo v : Nat) : (s.setRf a hi lo v).fatalSrc = s.fatalSrc := rfl
@[simp] theorem State.setRf_fatalLine (s : State) (a hi lo v : Nat) : (s.setRf a hi lo v).fatalLine = s.fatalLine := rfl
@[simp] theorem State.setRf_fatalRegs (s : State) (a hi lo v : Nat) : (s.setRf a hi lo v).fatalRegs = s.fatalRegs := rfl
@[simp] theorem State.setRf_fatalPages (s : State) (a hi lo v : Nat) : (s.setRf a hi lo v).fatalPages = s.fatalPages := rfl
@[simp] theorem State.setRf_nvQ (s : State) (a hi lo v : Nat) : (s.setRf a hi lo v).nvQ = s.nvQ := rfl
@[simp] theorem State.setRf_sfPress (s : State) (a hi lo v : Nat) : (s.setRf a hi lo v).sfPress = s.sfPress := rfl

@[simp] theorem State.setReg64_fuse (s : State) (a : Nat) (v : W64) : (s.setReg64 a v).fuse = s.fuse := rfl
@[simp] theorem State.setReg64_mem (s : State) (a : Nat) (v : W64) : (s.setReg64 a v).mem = s.mem := rfl
@[simp] theorem State.setReg64_bad (s : State) (a : Nat) (v : W64) : (s.setReg64 a v).bad = s.bad := rfl
@[simp] theorem State.setReg64_pend (s : State) (a : Nat) (v : W64) : (s.setReg64 a v).pend = s.pend := rfl
@[simp] theorem State.setReg64_touched (s : State) (a : Nat) (v : W64) : (s.setReg64 a v).touched = s.touched := rfl
@[simp] theorem State.setReg64_tasks (s : State) (a : Nat) (v : W64) : (s.setReg64 a v).tasks = s.tasks := rfl
@[simp] theorem State.setReg64_parts (s : State) (a : Nat) (v : W64) : (s.setReg64 a v).parts = s.parts := rfl
@[simp] theorem State.setReg64_engs (s : State) (a : Nat) (v : W64) : (s.setReg64 a v).engs = s.engs := rfl
@[simp] theorem State.setReg64_trA (s : State) (a : Nat) (v : W64) : (s.setReg64 a v).trA = s.trA := rfl
@[simp] theorem State.setReg64_trP (s : State) (a : Nat) (v : W64) : (s.setReg64 a v).trP = s.trP := rfl
@[simp] theorem State.setReg64_mer (s : State) (a : Nat) (v : W64) : (s.setReg64 a v).mer = s.mer := rfl
@[simp] theorem State.setReg64_fab (s : State) (a : Nat) (v : W64) : (s.setReg64 a v).fab = s.fab := rfl
@[simp] theorem State.setReg64_fresh (s : State) (a : Nat) (v : W64) : (s.setReg64 a v).fresh = s.fresh := rfl
@[simp] theorem State.setReg64_outbox (s : State) (a : Nat) (v : W64) : (s.setReg64 a v).outbox = s.outbox := rfl
@[simp] theorem State.setReg64_evPass (s : State) (a : Nat) (v : W64) : (s.setReg64 a v).evPass = s.evPass := rfl
@[simp] theorem State.setReg64_queues (s : State) (a : Nat) (v : W64) : (s.setReg64 a v).queues = s.queues := rfl
@[simp] theorem State.setReg64_blkRst (s : State) (a : Nat) (v : W64) : (s.setReg64 a v).blkRst = s.blkRst := rfl
@[simp] theorem State.setReg64_nv (s : State) (a : Nat) (v : W64) : (s.setReg64 a v).nv = s.nv := rfl
@[simp] theorem State.setReg64_pending (s : State) (a : Nat) (v : W64) : (s.setReg64 a v).pending = s.pending := rfl
@[simp] theorem State.setReg64_supRun (s : State) (a : Nat) (v : W64) : (s.setReg64 a v).supRun = s.supRun := rfl
@[simp] theorem State.setReg64_spRegs (s : State) (a : Nat) (v : W64) : (s.setReg64 a v).spRegs = s.spRegs := rfl
@[simp] theorem State.setReg64_cu (s : State) (a : Nat) (v : W64) : (s.setReg64 a v).cu = s.cu := rfl
@[simp] theorem State.setReg64_clkStop (s : State) (a : Nat) (v : W64) : (s.setReg64 a v).clkStop = s.clkStop := rfl
@[simp] theorem State.setReg64_merMark (s : State) (a : Nat) (v : W64) : (s.setReg64 a v).merMark = s.merMark := rfl
@[simp] theorem State.setReg64_lines (s : State) (a : Nat) (v : W64) : (s.setReg64 a v).lines = s.lines := rfl
@[simp] theorem State.setReg64_vfEnable (s : State) (a : Nat) (v : W64) : (s.setReg64 a v).vfEnable = s.vfEnable := rfl
@[simp] theorem State.setReg64_numVfs (s : State) (a : Nat) (v : W64) : (s.setReg64 a v).numVfs = s.numVfs := rfl
@[simp] theorem State.setReg64_rtcSetDue (s : State) (a : Nat) (v : W64) : (s.setReg64 a v).rtcSetDue = s.rtcSetDue := rfl
@[simp] theorem State.setReg64_tpWin (s : State) (a : Nat) (v : W64) : (s.setReg64 a v).tpWin = s.tpWin := rfl
@[simp] theorem State.setReg64_tpLast (s : State) (a : Nat) (v : W64) : (s.setReg64 a v).tpLast = s.tpLast := rfl
@[simp] theorem State.setReg64_hbSent (s : State) (a : Nat) (v : W64) : (s.setReg64 a v).hbSent = s.hbSent := rfl
@[simp] theorem State.setReg64_fltNew (s : State) (a : Nat) (v : W64) : (s.setReg64 a v).fltNew = s.fltNew := rfl
@[simp] theorem State.setReg64_fatalSrc (s : State) (a : Nat) (v : W64) : (s.setReg64 a v).fatalSrc = s.fatalSrc := rfl
@[simp] theorem State.setReg64_fatalLine (s : State) (a : Nat) (v : W64) : (s.setReg64 a v).fatalLine = s.fatalLine := rfl
@[simp] theorem State.setReg64_fatalRegs (s : State) (a : Nat) (v : W64) : (s.setReg64 a v).fatalRegs = s.fatalRegs := rfl
@[simp] theorem State.setReg64_fatalPages (s : State) (a : Nat) (v : W64) : (s.setReg64 a v).fatalPages = s.fatalPages := rfl
@[simp] theorem State.setReg64_nvQ (s : State) (a : Nat) (v : W64) : (s.setReg64 a v).nvQ = s.nvQ := rfl
@[simp] theorem State.setReg64_sfPress (s : State) (a : Nat) (v : W64) : (s.setReg64 a v).sfPress = s.sfPress := rfl

@[simp] theorem State.setPnd_fuse (s : State) (a : Nat) (v : W) : (s.setPnd a v).fuse = s.fuse := rfl
@[simp] theorem State.setPnd_mem (s : State) (a : Nat) (v : W) : (s.setPnd a v).mem = s.mem := rfl
@[simp] theorem State.setPnd_bad (s : State) (a : Nat) (v : W) : (s.setPnd a v).bad = s.bad := rfl
@[simp] theorem State.setPnd_regs (s : State) (a : Nat) (v : W) : (s.setPnd a v).regs = s.regs := rfl
@[simp] theorem State.setPnd_touched (s : State) (a : Nat) (v : W) : (s.setPnd a v).touched = s.touched := rfl
@[simp] theorem State.setPnd_tasks (s : State) (a : Nat) (v : W) : (s.setPnd a v).tasks = s.tasks := rfl
@[simp] theorem State.setPnd_parts (s : State) (a : Nat) (v : W) : (s.setPnd a v).parts = s.parts := rfl
@[simp] theorem State.setPnd_engs (s : State) (a : Nat) (v : W) : (s.setPnd a v).engs = s.engs := rfl
@[simp] theorem State.setPnd_trA (s : State) (a : Nat) (v : W) : (s.setPnd a v).trA = s.trA := rfl
@[simp] theorem State.setPnd_trP (s : State) (a : Nat) (v : W) : (s.setPnd a v).trP = s.trP := rfl
@[simp] theorem State.setPnd_mer (s : State) (a : Nat) (v : W) : (s.setPnd a v).mer = s.mer := rfl
@[simp] theorem State.setPnd_fab (s : State) (a : Nat) (v : W) : (s.setPnd a v).fab = s.fab := rfl
@[simp] theorem State.setPnd_fresh (s : State) (a : Nat) (v : W) : (s.setPnd a v).fresh = s.fresh := rfl
@[simp] theorem State.setPnd_outbox (s : State) (a : Nat) (v : W) : (s.setPnd a v).outbox = s.outbox := rfl
@[simp] theorem State.setPnd_evPass (s : State) (a : Nat) (v : W) : (s.setPnd a v).evPass = s.evPass := rfl
@[simp] theorem State.setPnd_queues (s : State) (a : Nat) (v : W) : (s.setPnd a v).queues = s.queues := rfl
@[simp] theorem State.setPnd_blkRst (s : State) (a : Nat) (v : W) : (s.setPnd a v).blkRst = s.blkRst := rfl
@[simp] theorem State.setPnd_nv (s : State) (a : Nat) (v : W) : (s.setPnd a v).nv = s.nv := rfl
@[simp] theorem State.setPnd_pending (s : State) (a : Nat) (v : W) : (s.setPnd a v).pending = s.pending := rfl
@[simp] theorem State.setPnd_supRun (s : State) (a : Nat) (v : W) : (s.setPnd a v).supRun = s.supRun := rfl
@[simp] theorem State.setPnd_spRegs (s : State) (a : Nat) (v : W) : (s.setPnd a v).spRegs = s.spRegs := rfl
@[simp] theorem State.setPnd_cu (s : State) (a : Nat) (v : W) : (s.setPnd a v).cu = s.cu := rfl
@[simp] theorem State.setPnd_clkStop (s : State) (a : Nat) (v : W) : (s.setPnd a v).clkStop = s.clkStop := rfl
@[simp] theorem State.setPnd_merMark (s : State) (a : Nat) (v : W) : (s.setPnd a v).merMark = s.merMark := rfl
@[simp] theorem State.setPnd_lines (s : State) (a : Nat) (v : W) : (s.setPnd a v).lines = s.lines := rfl
@[simp] theorem State.setPnd_vfEnable (s : State) (a : Nat) (v : W) : (s.setPnd a v).vfEnable = s.vfEnable := rfl
@[simp] theorem State.setPnd_numVfs (s : State) (a : Nat) (v : W) : (s.setPnd a v).numVfs = s.numVfs := rfl
@[simp] theorem State.setPnd_rtcSetDue (s : State) (a : Nat) (v : W) : (s.setPnd a v).rtcSetDue = s.rtcSetDue := rfl
@[simp] theorem State.setPnd_tpWin (s : State) (a : Nat) (v : W) : (s.setPnd a v).tpWin = s.tpWin := rfl
@[simp] theorem State.setPnd_tpLast (s : State) (a : Nat) (v : W) : (s.setPnd a v).tpLast = s.tpLast := rfl
@[simp] theorem State.setPnd_hbSent (s : State) (a : Nat) (v : W) : (s.setPnd a v).hbSent = s.hbSent := rfl
@[simp] theorem State.setPnd_fltNew (s : State) (a : Nat) (v : W) : (s.setPnd a v).fltNew = s.fltNew := rfl
@[simp] theorem State.setPnd_fatalSrc (s : State) (a : Nat) (v : W) : (s.setPnd a v).fatalSrc = s.fatalSrc := rfl
@[simp] theorem State.setPnd_fatalLine (s : State) (a : Nat) (v : W) : (s.setPnd a v).fatalLine = s.fatalLine := rfl
@[simp] theorem State.setPnd_fatalRegs (s : State) (a : Nat) (v : W) : (s.setPnd a v).fatalRegs = s.fatalRegs := rfl
@[simp] theorem State.setPnd_fatalPages (s : State) (a : Nat) (v : W) : (s.setPnd a v).fatalPages = s.fatalPages := rfl
@[simp] theorem State.setPnd_nvQ (s : State) (a : Nat) (v : W) : (s.setPnd a v).nvQ = s.nvQ := rfl
@[simp] theorem State.setPnd_sfPress (s : State) (a : Nat) (v : W) : (s.setPnd a v).sfPress = s.sfPress := rfl

@[simp] theorem State.count_fuse (s : State) (a : Nat) : (s.count a).fuse = s.fuse := rfl
@[simp] theorem State.count_mem (s : State) (a : Nat) : (s.count a).mem = s.mem := rfl
@[simp] theorem State.count_bad (s : State) (a : Nat) : (s.count a).bad = s.bad := rfl
@[simp] theorem State.count_pend (s : State) (a : Nat) : (s.count a).pend = s.pend := rfl
@[simp] theorem State.count_touched (s : State) (a : Nat) : (s.count a).touched = s.touched := rfl
@[simp] theorem State.count_tasks (s : State) (a : Nat) : (s.count a).tasks = s.tasks := rfl
@[simp] theorem State.count_parts (s : State) (a : Nat) : (s.count a).parts = s.parts := rfl
@[simp] theorem State.count_engs (s : State) (a : Nat) : (s.count a).engs = s.engs := rfl
@[simp] theorem State.count_trA (s : State) (a : Nat) : (s.count a).trA = s.trA := rfl
@[simp] theorem State.count_trP (s : State) (a : Nat) : (s.count a).trP = s.trP := rfl
@[simp] theorem State.count_mer (s : State) (a : Nat) : (s.count a).mer = s.mer := rfl
@[simp] theorem State.count_fab (s : State) (a : Nat) : (s.count a).fab = s.fab := rfl
@[simp] theorem State.count_fresh (s : State) (a : Nat) : (s.count a).fresh = s.fresh := rfl
@[simp] theorem State.count_outbox (s : State) (a : Nat) : (s.count a).outbox = s.outbox := rfl
@[simp] theorem State.count_evPass (s : State) (a : Nat) : (s.count a).evPass = s.evPass := rfl
@[simp] theorem State.count_queues (s : State) (a : Nat) : (s.count a).queues = s.queues := rfl
@[simp] theorem State.count_blkRst (s : State) (a : Nat) : (s.count a).blkRst = s.blkRst := rfl
@[simp] theorem State.count_nv (s : State) (a : Nat) : (s.count a).nv = s.nv := rfl
@[simp] theorem State.count_pending (s : State) (a : Nat) : (s.count a).pending = s.pending := rfl
@[simp] theorem State.count_supRun (s : State) (a : Nat) : (s.count a).supRun = s.supRun := rfl
@[simp] theorem State.count_spRegs (s : State) (a : Nat) : (s.count a).spRegs = s.spRegs := rfl
@[simp] theorem State.count_cu (s : State) (a : Nat) : (s.count a).cu = s.cu := rfl
@[simp] theorem State.count_clkStop (s : State) (a : Nat) : (s.count a).clkStop = s.clkStop := rfl
@[simp] theorem State.count_merMark (s : State) (a : Nat) : (s.count a).merMark = s.merMark := rfl
@[simp] theorem State.count_lines (s : State) (a : Nat) : (s.count a).lines = s.lines := rfl
@[simp] theorem State.count_vfEnable (s : State) (a : Nat) : (s.count a).vfEnable = s.vfEnable := rfl
@[simp] theorem State.count_numVfs (s : State) (a : Nat) : (s.count a).numVfs = s.numVfs := rfl
@[simp] theorem State.count_rtcSetDue (s : State) (a : Nat) : (s.count a).rtcSetDue = s.rtcSetDue := rfl
@[simp] theorem State.count_tpWin (s : State) (a : Nat) : (s.count a).tpWin = s.tpWin := rfl
@[simp] theorem State.count_tpLast (s : State) (a : Nat) : (s.count a).tpLast = s.tpLast := rfl
@[simp] theorem State.count_hbSent (s : State) (a : Nat) : (s.count a).hbSent = s.hbSent := rfl
@[simp] theorem State.count_fltNew (s : State) (a : Nat) : (s.count a).fltNew = s.fltNew := rfl
@[simp] theorem State.count_fatalSrc (s : State) (a : Nat) : (s.count a).fatalSrc = s.fatalSrc := rfl
@[simp] theorem State.count_fatalLine (s : State) (a : Nat) : (s.count a).fatalLine = s.fatalLine := rfl
@[simp] theorem State.count_fatalRegs (s : State) (a : Nat) : (s.count a).fatalRegs = s.fatalRegs := rfl
@[simp] theorem State.count_fatalPages (s : State) (a : Nat) : (s.count a).fatalPages = s.fatalPages := rfl
@[simp] theorem State.count_nvQ (s : State) (a : Nat) : (s.count a).nvQ = s.nvQ := rfl
@[simp] theorem State.count_sfPress (s : State) (a : Nat) : (s.count a).sfPress = s.sfPress := rfl

@[simp] theorem State.advance_fuse (s : State) (a : Nat) : (s.advance a).fuse = s.fuse := rfl
@[simp] theorem State.advance_mem (s : State) (a : Nat) : (s.advance a).mem = s.mem := rfl
@[simp] theorem State.advance_bad (s : State) (a : Nat) : (s.advance a).bad = s.bad := rfl
@[simp] theorem State.advance_pend (s : State) (a : Nat) : (s.advance a).pend = s.pend := rfl
@[simp] theorem State.advance_touched (s : State) (a : Nat) : (s.advance a).touched = s.touched := rfl
@[simp] theorem State.advance_tasks (s : State) (a : Nat) : (s.advance a).tasks = s.tasks := rfl
@[simp] theorem State.advance_parts (s : State) (a : Nat) : (s.advance a).parts = s.parts := rfl
@[simp] theorem State.advance_engs (s : State) (a : Nat) : (s.advance a).engs = s.engs := rfl
@[simp] theorem State.advance_trA (s : State) (a : Nat) : (s.advance a).trA = s.trA := rfl
@[simp] theorem State.advance_trP (s : State) (a : Nat) : (s.advance a).trP = s.trP := rfl
@[simp] theorem State.advance_mer (s : State) (a : Nat) : (s.advance a).mer = s.mer := rfl
@[simp] theorem State.advance_fab (s : State) (a : Nat) : (s.advance a).fab = s.fab := rfl
@[simp] theorem State.advance_fresh (s : State) (a : Nat) : (s.advance a).fresh = s.fresh := rfl
@[simp] theorem State.advance_outbox (s : State) (a : Nat) : (s.advance a).outbox = s.outbox := rfl
@[simp] theorem State.advance_evPass (s : State) (a : Nat) : (s.advance a).evPass = s.evPass := rfl
@[simp] theorem State.advance_queues (s : State) (a : Nat) : (s.advance a).queues = s.queues := rfl
@[simp] theorem State.advance_blkRst (s : State) (a : Nat) : (s.advance a).blkRst = s.blkRst := rfl
@[simp] theorem State.advance_nv (s : State) (a : Nat) : (s.advance a).nv = s.nv := rfl
@[simp] theorem State.advance_pending (s : State) (a : Nat) : (s.advance a).pending = s.pending := rfl
@[simp] theorem State.advance_supRun (s : State) (a : Nat) : (s.advance a).supRun = s.supRun := rfl
@[simp] theorem State.advance_spRegs (s : State) (a : Nat) : (s.advance a).spRegs = s.spRegs := rfl
@[simp] theorem State.advance_cu (s : State) (a : Nat) : (s.advance a).cu = s.cu := rfl
@[simp] theorem State.advance_clkStop (s : State) (a : Nat) : (s.advance a).clkStop = s.clkStop := rfl
@[simp] theorem State.advance_merMark (s : State) (a : Nat) : (s.advance a).merMark = s.merMark := rfl
@[simp] theorem State.advance_lines (s : State) (a : Nat) : (s.advance a).lines = s.lines := rfl
@[simp] theorem State.advance_vfEnable (s : State) (a : Nat) : (s.advance a).vfEnable = s.vfEnable := rfl
@[simp] theorem State.advance_numVfs (s : State) (a : Nat) : (s.advance a).numVfs = s.numVfs := rfl
@[simp] theorem State.advance_rtcSetDue (s : State) (a : Nat) : (s.advance a).rtcSetDue = s.rtcSetDue := rfl
@[simp] theorem State.advance_tpWin (s : State) (a : Nat) : (s.advance a).tpWin = s.tpWin := rfl
@[simp] theorem State.advance_tpLast (s : State) (a : Nat) : (s.advance a).tpLast = s.tpLast := rfl
@[simp] theorem State.advance_hbSent (s : State) (a : Nat) : (s.advance a).hbSent = s.hbSent := rfl
@[simp] theorem State.advance_fltNew (s : State) (a : Nat) : (s.advance a).fltNew = s.fltNew := rfl
@[simp] theorem State.advance_fatalSrc (s : State) (a : Nat) : (s.advance a).fatalSrc = s.fatalSrc := rfl
@[simp] theorem State.advance_fatalLine (s : State) (a : Nat) : (s.advance a).fatalLine = s.fatalLine := rfl
@[simp] theorem State.advance_fatalRegs (s : State) (a : Nat) : (s.advance a).fatalRegs = s.fatalRegs := rfl
@[simp] theorem State.advance_fatalPages (s : State) (a : Nat) : (s.advance a).fatalPages = s.fatalPages := rfl
@[simp] theorem State.advance_nvQ (s : State) (a : Nat) : (s.advance a).nvQ = s.nvQ := rfl
@[simp] theorem State.advance_sfPress (s : State) (a : Nat) : (s.advance a).sfPress = s.sfPress := rfl

@[simp] theorem State.applyPnd_fuse (s : State) (a : Nat) : (s.applyPnd a).fuse = s.fuse := rfl
@[simp] theorem State.applyPnd_mem (s : State) (a : Nat) : (s.applyPnd a).mem = s.mem := rfl
@[simp] theorem State.applyPnd_bad (s : State) (a : Nat) : (s.applyPnd a).bad = s.bad := rfl
@[simp] theorem State.applyPnd_pend (s : State) (a : Nat) : (s.applyPnd a).pend = s.pend := rfl
@[simp] theorem State.applyPnd_touched (s : State) (a : Nat) : (s.applyPnd a).touched = s.touched := rfl
@[simp] theorem State.applyPnd_tasks (s : State) (a : Nat) : (s.applyPnd a).tasks = s.tasks := rfl
@[simp] theorem State.applyPnd_parts (s : State) (a : Nat) : (s.applyPnd a).parts = s.parts := rfl
@[simp] theorem State.applyPnd_engs (s : State) (a : Nat) : (s.applyPnd a).engs = s.engs := rfl
@[simp] theorem State.applyPnd_trA (s : State) (a : Nat) : (s.applyPnd a).trA = s.trA := rfl
@[simp] theorem State.applyPnd_trP (s : State) (a : Nat) : (s.applyPnd a).trP = s.trP := rfl
@[simp] theorem State.applyPnd_mer (s : State) (a : Nat) : (s.applyPnd a).mer = s.mer := rfl
@[simp] theorem State.applyPnd_fab (s : State) (a : Nat) : (s.applyPnd a).fab = s.fab := rfl
@[simp] theorem State.applyPnd_fresh (s : State) (a : Nat) : (s.applyPnd a).fresh = s.fresh := rfl
@[simp] theorem State.applyPnd_outbox (s : State) (a : Nat) : (s.applyPnd a).outbox = s.outbox := rfl
@[simp] theorem State.applyPnd_evPass (s : State) (a : Nat) : (s.applyPnd a).evPass = s.evPass := rfl
@[simp] theorem State.applyPnd_queues (s : State) (a : Nat) : (s.applyPnd a).queues = s.queues := rfl
@[simp] theorem State.applyPnd_blkRst (s : State) (a : Nat) : (s.applyPnd a).blkRst = s.blkRst := rfl
@[simp] theorem State.applyPnd_nv (s : State) (a : Nat) : (s.applyPnd a).nv = s.nv := rfl
@[simp] theorem State.applyPnd_pending (s : State) (a : Nat) : (s.applyPnd a).pending = s.pending := rfl
@[simp] theorem State.applyPnd_supRun (s : State) (a : Nat) : (s.applyPnd a).supRun = s.supRun := rfl
@[simp] theorem State.applyPnd_spRegs (s : State) (a : Nat) : (s.applyPnd a).spRegs = s.spRegs := rfl
@[simp] theorem State.applyPnd_cu (s : State) (a : Nat) : (s.applyPnd a).cu = s.cu := rfl
@[simp] theorem State.applyPnd_clkStop (s : State) (a : Nat) : (s.applyPnd a).clkStop = s.clkStop := rfl
@[simp] theorem State.applyPnd_merMark (s : State) (a : Nat) : (s.applyPnd a).merMark = s.merMark := rfl
@[simp] theorem State.applyPnd_lines (s : State) (a : Nat) : (s.applyPnd a).lines = s.lines := rfl
@[simp] theorem State.applyPnd_vfEnable (s : State) (a : Nat) : (s.applyPnd a).vfEnable = s.vfEnable := rfl
@[simp] theorem State.applyPnd_numVfs (s : State) (a : Nat) : (s.applyPnd a).numVfs = s.numVfs := rfl
@[simp] theorem State.applyPnd_rtcSetDue (s : State) (a : Nat) : (s.applyPnd a).rtcSetDue = s.rtcSetDue := rfl
@[simp] theorem State.applyPnd_tpWin (s : State) (a : Nat) : (s.applyPnd a).tpWin = s.tpWin := rfl
@[simp] theorem State.applyPnd_tpLast (s : State) (a : Nat) : (s.applyPnd a).tpLast = s.tpLast := rfl
@[simp] theorem State.applyPnd_hbSent (s : State) (a : Nat) : (s.applyPnd a).hbSent = s.hbSent := rfl
@[simp] theorem State.applyPnd_fltNew (s : State) (a : Nat) : (s.applyPnd a).fltNew = s.fltNew := rfl
@[simp] theorem State.applyPnd_fatalSrc (s : State) (a : Nat) : (s.applyPnd a).fatalSrc = s.fatalSrc := rfl
@[simp] theorem State.applyPnd_fatalLine (s : State) (a : Nat) : (s.applyPnd a).fatalLine = s.fatalLine := rfl
@[simp] theorem State.applyPnd_fatalRegs (s : State) (a : Nat) : (s.applyPnd a).fatalRegs = s.fatalRegs := rfl
@[simp] theorem State.applyPnd_fatalPages (s : State) (a : Nat) : (s.applyPnd a).fatalPages = s.fatalPages := rfl
@[simp] theorem State.applyPnd_nvQ (s : State) (a : Nat) : (s.applyPnd a).nvQ = s.nvQ := rfl
@[simp] theorem State.applyPnd_sfPress (s : State) (a : Nat) : (s.applyPnd a).sfPress = s.sfPress := rfl

@[simp] theorem State.setTask_fuse (s : State) (p t : Nat) (v : Task) : (s.setTask p t v).fuse = s.fuse := rfl
@[simp] theorem State.setTask_mem (s : State) (p t : Nat) (v : Task) : (s.setTask p t v).mem = s.mem := rfl
@[simp] theorem State.setTask_bad (s : State) (p t : Nat) (v : Task) : (s.setTask p t v).bad = s.bad := rfl
@[simp] theorem State.setTask_regs (s : State) (p t : Nat) (v : Task) : (s.setTask p t v).regs = s.regs := rfl
@[simp] theorem State.setTask_pend (s : State) (p t : Nat) (v : Task) : (s.setTask p t v).pend = s.pend := rfl
@[simp] theorem State.setTask_touched (s : State) (p t : Nat) (v : Task) : (s.setTask p t v).touched = s.touched := rfl
@[simp] theorem State.setTask_parts (s : State) (p t : Nat) (v : Task) : (s.setTask p t v).parts = s.parts := rfl
@[simp] theorem State.setTask_engs (s : State) (p t : Nat) (v : Task) : (s.setTask p t v).engs = s.engs := rfl
@[simp] theorem State.setTask_trA (s : State) (p t : Nat) (v : Task) : (s.setTask p t v).trA = s.trA := rfl
@[simp] theorem State.setTask_trP (s : State) (p t : Nat) (v : Task) : (s.setTask p t v).trP = s.trP := rfl
@[simp] theorem State.setTask_mer (s : State) (p t : Nat) (v : Task) : (s.setTask p t v).mer = s.mer := rfl
@[simp] theorem State.setTask_fab (s : State) (p t : Nat) (v : Task) : (s.setTask p t v).fab = s.fab := rfl
@[simp] theorem State.setTask_fresh (s : State) (p t : Nat) (v : Task) : (s.setTask p t v).fresh = s.fresh := rfl
@[simp] theorem State.setTask_outbox (s : State) (p t : Nat) (v : Task) : (s.setTask p t v).outbox = s.outbox := rfl
@[simp] theorem State.setTask_evPass (s : State) (p t : Nat) (v : Task) : (s.setTask p t v).evPass = s.evPass := rfl
@[simp] theorem State.setTask_queues (s : State) (p t : Nat) (v : Task) : (s.setTask p t v).queues = s.queues := rfl
@[simp] theorem State.setTask_blkRst (s : State) (p t : Nat) (v : Task) : (s.setTask p t v).blkRst = s.blkRst := rfl
@[simp] theorem State.setTask_nv (s : State) (p t : Nat) (v : Task) : (s.setTask p t v).nv = s.nv := rfl
@[simp] theorem State.setTask_pending (s : State) (p t : Nat) (v : Task) : (s.setTask p t v).pending = s.pending := rfl
@[simp] theorem State.setTask_supRun (s : State) (p t : Nat) (v : Task) : (s.setTask p t v).supRun = s.supRun := rfl
@[simp] theorem State.setTask_spRegs (s : State) (p t : Nat) (v : Task) : (s.setTask p t v).spRegs = s.spRegs := rfl
@[simp] theorem State.setTask_cu (s : State) (p t : Nat) (v : Task) : (s.setTask p t v).cu = s.cu := rfl
@[simp] theorem State.setTask_clkStop (s : State) (p t : Nat) (v : Task) : (s.setTask p t v).clkStop = s.clkStop := rfl
@[simp] theorem State.setTask_merMark (s : State) (p t : Nat) (v : Task) : (s.setTask p t v).merMark = s.merMark := rfl
@[simp] theorem State.setTask_lines (s : State) (p t : Nat) (v : Task) : (s.setTask p t v).lines = s.lines := rfl
@[simp] theorem State.setTask_vfEnable (s : State) (p t : Nat) (v : Task) : (s.setTask p t v).vfEnable = s.vfEnable := rfl
@[simp] theorem State.setTask_numVfs (s : State) (p t : Nat) (v : Task) : (s.setTask p t v).numVfs = s.numVfs := rfl
@[simp] theorem State.setTask_rtcSetDue (s : State) (p t : Nat) (v : Task) : (s.setTask p t v).rtcSetDue = s.rtcSetDue := rfl
@[simp] theorem State.setTask_tpWin (s : State) (p t : Nat) (v : Task) : (s.setTask p t v).tpWin = s.tpWin := rfl
@[simp] theorem State.setTask_tpLast (s : State) (p t : Nat) (v : Task) : (s.setTask p t v).tpLast = s.tpLast := rfl
@[simp] theorem State.setTask_hbSent (s : State) (p t : Nat) (v : Task) : (s.setTask p t v).hbSent = s.hbSent := rfl
@[simp] theorem State.setTask_fltNew (s : State) (p t : Nat) (v : Task) : (s.setTask p t v).fltNew = s.fltNew := rfl
@[simp] theorem State.setTask_fatalSrc (s : State) (p t : Nat) (v : Task) : (s.setTask p t v).fatalSrc = s.fatalSrc := rfl
@[simp] theorem State.setTask_fatalLine (s : State) (p t : Nat) (v : Task) : (s.setTask p t v).fatalLine = s.fatalLine := rfl
@[simp] theorem State.setTask_fatalRegs (s : State) (p t : Nat) (v : Task) : (s.setTask p t v).fatalRegs = s.fatalRegs := rfl
@[simp] theorem State.setTask_fatalPages (s : State) (p t : Nat) (v : Task) : (s.setTask p t v).fatalPages = s.fatalPages := rfl
@[simp] theorem State.setTask_nvQ (s : State) (p t : Nat) (v : Task) : (s.setTask p t v).nvQ = s.nvQ := rfl
@[simp] theorem State.setTask_sfPress (s : State) (p t : Nat) (v : Task) : (s.setTask p t v).sfPress = s.sfPress := rfl

@[simp] theorem State.setPart_fuse (s : State) (p : Nat) (v : Part) : (s.setPart p v).fuse = s.fuse := rfl
@[simp] theorem State.setPart_mem (s : State) (p : Nat) (v : Part) : (s.setPart p v).mem = s.mem := rfl
@[simp] theorem State.setPart_bad (s : State) (p : Nat) (v : Part) : (s.setPart p v).bad = s.bad := rfl
@[simp] theorem State.setPart_regs (s : State) (p : Nat) (v : Part) : (s.setPart p v).regs = s.regs := rfl
@[simp] theorem State.setPart_pend (s : State) (p : Nat) (v : Part) : (s.setPart p v).pend = s.pend := rfl
@[simp] theorem State.setPart_touched (s : State) (p : Nat) (v : Part) : (s.setPart p v).touched = s.touched := rfl
@[simp] theorem State.setPart_tasks (s : State) (p : Nat) (v : Part) : (s.setPart p v).tasks = s.tasks := rfl
@[simp] theorem State.setPart_engs (s : State) (p : Nat) (v : Part) : (s.setPart p v).engs = s.engs := rfl
@[simp] theorem State.setPart_trA (s : State) (p : Nat) (v : Part) : (s.setPart p v).trA = s.trA := rfl
@[simp] theorem State.setPart_trP (s : State) (p : Nat) (v : Part) : (s.setPart p v).trP = s.trP := rfl
@[simp] theorem State.setPart_mer (s : State) (p : Nat) (v : Part) : (s.setPart p v).mer = s.mer := rfl
@[simp] theorem State.setPart_fab (s : State) (p : Nat) (v : Part) : (s.setPart p v).fab = s.fab := rfl
@[simp] theorem State.setPart_fresh (s : State) (p : Nat) (v : Part) : (s.setPart p v).fresh = s.fresh := rfl
@[simp] theorem State.setPart_outbox (s : State) (p : Nat) (v : Part) : (s.setPart p v).outbox = s.outbox := rfl
@[simp] theorem State.setPart_evPass (s : State) (p : Nat) (v : Part) : (s.setPart p v).evPass = s.evPass := rfl
@[simp] theorem State.setPart_queues (s : State) (p : Nat) (v : Part) : (s.setPart p v).queues = s.queues := rfl
@[simp] theorem State.setPart_blkRst (s : State) (p : Nat) (v : Part) : (s.setPart p v).blkRst = s.blkRst := rfl
@[simp] theorem State.setPart_nv (s : State) (p : Nat) (v : Part) : (s.setPart p v).nv = s.nv := rfl
@[simp] theorem State.setPart_pending (s : State) (p : Nat) (v : Part) : (s.setPart p v).pending = s.pending := rfl
@[simp] theorem State.setPart_supRun (s : State) (p : Nat) (v : Part) : (s.setPart p v).supRun = s.supRun := rfl
@[simp] theorem State.setPart_spRegs (s : State) (p : Nat) (v : Part) : (s.setPart p v).spRegs = s.spRegs := rfl
@[simp] theorem State.setPart_cu (s : State) (p : Nat) (v : Part) : (s.setPart p v).cu = s.cu := rfl
@[simp] theorem State.setPart_clkStop (s : State) (p : Nat) (v : Part) : (s.setPart p v).clkStop = s.clkStop := rfl
@[simp] theorem State.setPart_merMark (s : State) (p : Nat) (v : Part) : (s.setPart p v).merMark = s.merMark := rfl
@[simp] theorem State.setPart_lines (s : State) (p : Nat) (v : Part) : (s.setPart p v).lines = s.lines := rfl
@[simp] theorem State.setPart_vfEnable (s : State) (p : Nat) (v : Part) : (s.setPart p v).vfEnable = s.vfEnable := rfl
@[simp] theorem State.setPart_numVfs (s : State) (p : Nat) (v : Part) : (s.setPart p v).numVfs = s.numVfs := rfl
@[simp] theorem State.setPart_rtcSetDue (s : State) (p : Nat) (v : Part) : (s.setPart p v).rtcSetDue = s.rtcSetDue := rfl
@[simp] theorem State.setPart_tpWin (s : State) (p : Nat) (v : Part) : (s.setPart p v).tpWin = s.tpWin := rfl
@[simp] theorem State.setPart_tpLast (s : State) (p : Nat) (v : Part) : (s.setPart p v).tpLast = s.tpLast := rfl
@[simp] theorem State.setPart_hbSent (s : State) (p : Nat) (v : Part) : (s.setPart p v).hbSent = s.hbSent := rfl
@[simp] theorem State.setPart_fltNew (s : State) (p : Nat) (v : Part) : (s.setPart p v).fltNew = s.fltNew := rfl
@[simp] theorem State.setPart_fatalSrc (s : State) (p : Nat) (v : Part) : (s.setPart p v).fatalSrc = s.fatalSrc := rfl
@[simp] theorem State.setPart_fatalLine (s : State) (p : Nat) (v : Part) : (s.setPart p v).fatalLine = s.fatalLine := rfl
@[simp] theorem State.setPart_fatalRegs (s : State) (p : Nat) (v : Part) : (s.setPart p v).fatalRegs = s.fatalRegs := rfl
@[simp] theorem State.setPart_fatalPages (s : State) (p : Nat) (v : Part) : (s.setPart p v).fatalPages = s.fatalPages := rfl
@[simp] theorem State.setPart_nvQ (s : State) (p : Nat) (v : Part) : (s.setPart p v).nvQ = s.nvQ := rfl
@[simp] theorem State.setPart_sfPress (s : State) (p : Nat) (v : Part) : (s.setPart p v).sfPress = s.sfPress := rfl

@[simp] theorem State.setEng_fuse (s : State) (e : Nat) (v : Eng) : (s.setEng e v).fuse = s.fuse := rfl
@[simp] theorem State.setEng_mem (s : State) (e : Nat) (v : Eng) : (s.setEng e v).mem = s.mem := rfl
@[simp] theorem State.setEng_bad (s : State) (e : Nat) (v : Eng) : (s.setEng e v).bad = s.bad := rfl
@[simp] theorem State.setEng_regs (s : State) (e : Nat) (v : Eng) : (s.setEng e v).regs = s.regs := rfl
@[simp] theorem State.setEng_pend (s : State) (e : Nat) (v : Eng) : (s.setEng e v).pend = s.pend := rfl
@[simp] theorem State.setEng_touched (s : State) (e : Nat) (v : Eng) : (s.setEng e v).touched = s.touched := rfl
@[simp] theorem State.setEng_tasks (s : State) (e : Nat) (v : Eng) : (s.setEng e v).tasks = s.tasks := rfl
@[simp] theorem State.setEng_parts (s : State) (e : Nat) (v : Eng) : (s.setEng e v).parts = s.parts := rfl
@[simp] theorem State.setEng_trA (s : State) (e : Nat) (v : Eng) : (s.setEng e v).trA = s.trA := rfl
@[simp] theorem State.setEng_trP (s : State) (e : Nat) (v : Eng) : (s.setEng e v).trP = s.trP := rfl
@[simp] theorem State.setEng_mer (s : State) (e : Nat) (v : Eng) : (s.setEng e v).mer = s.mer := rfl
@[simp] theorem State.setEng_fab (s : State) (e : Nat) (v : Eng) : (s.setEng e v).fab = s.fab := rfl
@[simp] theorem State.setEng_fresh (s : State) (e : Nat) (v : Eng) : (s.setEng e v).fresh = s.fresh := rfl
@[simp] theorem State.setEng_outbox (s : State) (e : Nat) (v : Eng) : (s.setEng e v).outbox = s.outbox := rfl
@[simp] theorem State.setEng_evPass (s : State) (e : Nat) (v : Eng) : (s.setEng e v).evPass = s.evPass := rfl
@[simp] theorem State.setEng_queues (s : State) (e : Nat) (v : Eng) : (s.setEng e v).queues = s.queues := rfl
@[simp] theorem State.setEng_blkRst (s : State) (e : Nat) (v : Eng) : (s.setEng e v).blkRst = s.blkRst := rfl
@[simp] theorem State.setEng_nv (s : State) (e : Nat) (v : Eng) : (s.setEng e v).nv = s.nv := rfl
@[simp] theorem State.setEng_pending (s : State) (e : Nat) (v : Eng) : (s.setEng e v).pending = s.pending := rfl
@[simp] theorem State.setEng_supRun (s : State) (e : Nat) (v : Eng) : (s.setEng e v).supRun = s.supRun := rfl
@[simp] theorem State.setEng_spRegs (s : State) (e : Nat) (v : Eng) : (s.setEng e v).spRegs = s.spRegs := rfl
@[simp] theorem State.setEng_cu (s : State) (e : Nat) (v : Eng) : (s.setEng e v).cu = s.cu := rfl
@[simp] theorem State.setEng_clkStop (s : State) (e : Nat) (v : Eng) : (s.setEng e v).clkStop = s.clkStop := rfl
@[simp] theorem State.setEng_merMark (s : State) (e : Nat) (v : Eng) : (s.setEng e v).merMark = s.merMark := rfl
@[simp] theorem State.setEng_lines (s : State) (e : Nat) (v : Eng) : (s.setEng e v).lines = s.lines := rfl
@[simp] theorem State.setEng_vfEnable (s : State) (e : Nat) (v : Eng) : (s.setEng e v).vfEnable = s.vfEnable := rfl
@[simp] theorem State.setEng_numVfs (s : State) (e : Nat) (v : Eng) : (s.setEng e v).numVfs = s.numVfs := rfl
@[simp] theorem State.setEng_rtcSetDue (s : State) (e : Nat) (v : Eng) : (s.setEng e v).rtcSetDue = s.rtcSetDue := rfl
@[simp] theorem State.setEng_tpWin (s : State) (e : Nat) (v : Eng) : (s.setEng e v).tpWin = s.tpWin := rfl
@[simp] theorem State.setEng_tpLast (s : State) (e : Nat) (v : Eng) : (s.setEng e v).tpLast = s.tpLast := rfl
@[simp] theorem State.setEng_hbSent (s : State) (e : Nat) (v : Eng) : (s.setEng e v).hbSent = s.hbSent := rfl
@[simp] theorem State.setEng_fltNew (s : State) (e : Nat) (v : Eng) : (s.setEng e v).fltNew = s.fltNew := rfl
@[simp] theorem State.setEng_fatalSrc (s : State) (e : Nat) (v : Eng) : (s.setEng e v).fatalSrc = s.fatalSrc := rfl
@[simp] theorem State.setEng_fatalLine (s : State) (e : Nat) (v : Eng) : (s.setEng e v).fatalLine = s.fatalLine := rfl
@[simp] theorem State.setEng_fatalRegs (s : State) (e : Nat) (v : Eng) : (s.setEng e v).fatalRegs = s.fatalRegs := rfl
@[simp] theorem State.setEng_fatalPages (s : State) (e : Nat) (v : Eng) : (s.setEng e v).fatalPages = s.fatalPages := rfl
@[simp] theorem State.setEng_nvQ (s : State) (e : Nat) (v : Eng) : (s.setEng e v).nvQ = s.nvQ := rfl
@[simp] theorem State.setEng_sfPress (s : State) (e : Nat) (v : Eng) : (s.setEng e v).sfPress = s.sfPress := rfl

@[simp] theorem State.emit_fuse (s : State) (o : Output) : (s.emit o).fuse = s.fuse := rfl
@[simp] theorem State.emit_mem (s : State) (o : Output) : (s.emit o).mem = s.mem := rfl
@[simp] theorem State.emit_bad (s : State) (o : Output) : (s.emit o).bad = s.bad := rfl
@[simp] theorem State.emit_regs (s : State) (o : Output) : (s.emit o).regs = s.regs := rfl
@[simp] theorem State.emit_pend (s : State) (o : Output) : (s.emit o).pend = s.pend := rfl
@[simp] theorem State.emit_touched (s : State) (o : Output) : (s.emit o).touched = s.touched := rfl
@[simp] theorem State.emit_tasks (s : State) (o : Output) : (s.emit o).tasks = s.tasks := rfl
@[simp] theorem State.emit_parts (s : State) (o : Output) : (s.emit o).parts = s.parts := rfl
@[simp] theorem State.emit_engs (s : State) (o : Output) : (s.emit o).engs = s.engs := rfl
@[simp] theorem State.emit_trA (s : State) (o : Output) : (s.emit o).trA = s.trA := rfl
@[simp] theorem State.emit_trP (s : State) (o : Output) : (s.emit o).trP = s.trP := rfl
@[simp] theorem State.emit_mer (s : State) (o : Output) : (s.emit o).mer = s.mer := rfl
@[simp] theorem State.emit_fab (s : State) (o : Output) : (s.emit o).fab = s.fab := rfl
@[simp] theorem State.emit_fresh (s : State) (o : Output) : (s.emit o).fresh = s.fresh := rfl
@[simp] theorem State.emit_evPass (s : State) (o : Output) : (s.emit o).evPass = s.evPass := rfl
@[simp] theorem State.emit_queues (s : State) (o : Output) : (s.emit o).queues = s.queues := rfl
@[simp] theorem State.emit_blkRst (s : State) (o : Output) : (s.emit o).blkRst = s.blkRst := rfl
@[simp] theorem State.emit_nv (s : State) (o : Output) : (s.emit o).nv = s.nv := rfl
@[simp] theorem State.emit_pending (s : State) (o : Output) : (s.emit o).pending = s.pending := rfl
@[simp] theorem State.emit_supRun (s : State) (o : Output) : (s.emit o).supRun = s.supRun := rfl
@[simp] theorem State.emit_spRegs (s : State) (o : Output) : (s.emit o).spRegs = s.spRegs := rfl
@[simp] theorem State.emit_cu (s : State) (o : Output) : (s.emit o).cu = s.cu := rfl
@[simp] theorem State.emit_clkStop (s : State) (o : Output) : (s.emit o).clkStop = s.clkStop := rfl
@[simp] theorem State.emit_merMark (s : State) (o : Output) : (s.emit o).merMark = s.merMark := rfl
@[simp] theorem State.emit_lines (s : State) (o : Output) : (s.emit o).lines = s.lines := rfl
@[simp] theorem State.emit_vfEnable (s : State) (o : Output) : (s.emit o).vfEnable = s.vfEnable := rfl
@[simp] theorem State.emit_numVfs (s : State) (o : Output) : (s.emit o).numVfs = s.numVfs := rfl
@[simp] theorem State.emit_rtcSetDue (s : State) (o : Output) : (s.emit o).rtcSetDue = s.rtcSetDue := rfl
@[simp] theorem State.emit_tpWin (s : State) (o : Output) : (s.emit o).tpWin = s.tpWin := rfl
@[simp] theorem State.emit_tpLast (s : State) (o : Output) : (s.emit o).tpLast = s.tpLast := rfl
@[simp] theorem State.emit_hbSent (s : State) (o : Output) : (s.emit o).hbSent = s.hbSent := rfl
@[simp] theorem State.emit_fltNew (s : State) (o : Output) : (s.emit o).fltNew = s.fltNew := rfl
@[simp] theorem State.emit_fatalSrc (s : State) (o : Output) : (s.emit o).fatalSrc = s.fatalSrc := rfl
@[simp] theorem State.emit_fatalLine (s : State) (o : Output) : (s.emit o).fatalLine = s.fatalLine := rfl
@[simp] theorem State.emit_fatalRegs (s : State) (o : Output) : (s.emit o).fatalRegs = s.fatalRegs := rfl
@[simp] theorem State.emit_fatalPages (s : State) (o : Output) : (s.emit o).fatalPages = s.fatalPages := rfl
@[simp] theorem State.emit_nvQ (s : State) (o : Output) : (s.emit o).nvQ = s.nvQ := rfl
@[simp] theorem State.emit_sfPress (s : State) (o : Output) : (s.emit o).sfPress = s.sfPress := rfl

@[simp] theorem State.useFresh_fuse (s : State) : (s.useFresh).fuse = s.fuse := rfl
@[simp] theorem State.useFresh_mem (s : State) : (s.useFresh).mem = s.mem := rfl
@[simp] theorem State.useFresh_bad (s : State) : (s.useFresh).bad = s.bad := rfl
@[simp] theorem State.useFresh_regs (s : State) : (s.useFresh).regs = s.regs := rfl
@[simp] theorem State.useFresh_pend (s : State) : (s.useFresh).pend = s.pend := rfl
@[simp] theorem State.useFresh_touched (s : State) : (s.useFresh).touched = s.touched := rfl
@[simp] theorem State.useFresh_tasks (s : State) : (s.useFresh).tasks = s.tasks := rfl
@[simp] theorem State.useFresh_parts (s : State) : (s.useFresh).parts = s.parts := rfl
@[simp] theorem State.useFresh_engs (s : State) : (s.useFresh).engs = s.engs := rfl
@[simp] theorem State.useFresh_trA (s : State) : (s.useFresh).trA = s.trA := rfl
@[simp] theorem State.useFresh_trP (s : State) : (s.useFresh).trP = s.trP := rfl
@[simp] theorem State.useFresh_mer (s : State) : (s.useFresh).mer = s.mer := rfl
@[simp] theorem State.useFresh_fab (s : State) : (s.useFresh).fab = s.fab := rfl
@[simp] theorem State.useFresh_outbox (s : State) : (s.useFresh).outbox = s.outbox := rfl
@[simp] theorem State.useFresh_evPass (s : State) : (s.useFresh).evPass = s.evPass := rfl
@[simp] theorem State.useFresh_queues (s : State) : (s.useFresh).queues = s.queues := rfl
@[simp] theorem State.useFresh_blkRst (s : State) : (s.useFresh).blkRst = s.blkRst := rfl
@[simp] theorem State.useFresh_nv (s : State) : (s.useFresh).nv = s.nv := rfl
@[simp] theorem State.useFresh_pending (s : State) : (s.useFresh).pending = s.pending := rfl
@[simp] theorem State.useFresh_supRun (s : State) : (s.useFresh).supRun = s.supRun := rfl
@[simp] theorem State.useFresh_spRegs (s : State) : (s.useFresh).spRegs = s.spRegs := rfl
@[simp] theorem State.useFresh_cu (s : State) : (s.useFresh).cu = s.cu := rfl
@[simp] theorem State.useFresh_clkStop (s : State) : (s.useFresh).clkStop = s.clkStop := rfl
@[simp] theorem State.useFresh_merMark (s : State) : (s.useFresh).merMark = s.merMark := rfl
@[simp] theorem State.useFresh_lines (s : State) : (s.useFresh).lines = s.lines := rfl
@[simp] theorem State.useFresh_vfEnable (s : State) : (s.useFresh).vfEnable = s.vfEnable := rfl
@[simp] theorem State.useFresh_numVfs (s : State) : (s.useFresh).numVfs = s.numVfs := rfl
@[simp] theorem State.useFresh_rtcSetDue (s : State) : (s.useFresh).rtcSetDue = s.rtcSetDue := rfl
@[simp] theorem State.useFresh_tpWin (s : State) : (s.useFresh).tpWin = s.tpWin := rfl
@[simp] theorem State.useFresh_tpLast (s : State) : (s.useFresh).tpLast = s.tpLast := rfl
@[simp] theorem State.useFresh_hbSent (s : State) : (s.useFresh).hbSent = s.hbSent := rfl
@[simp] theorem State.useFresh_fltNew (s : State) : (s.useFresh).fltNew = s.fltNew := rfl
@[simp] theorem State.useFresh_fatalSrc (s : State) : (s.useFresh).fatalSrc = s.fatalSrc := rfl
@[simp] theorem State.useFresh_fatalLine (s : State) : (s.useFresh).fatalLine = s.fatalLine := rfl
@[simp] theorem State.useFresh_fatalRegs (s : State) : (s.useFresh).fatalRegs = s.fatalRegs := rfl
@[simp] theorem State.useFresh_fatalPages (s : State) : (s.useFresh).fatalPages = s.fatalPages := rfl
@[simp] theorem State.useFresh_nvQ (s : State) : (s.useFresh).nvQ = s.nvQ := rfl
@[simp] theorem State.useFresh_sfPress (s : State) : (s.useFresh).sfPress = s.sfPress := rfl

@[simp] theorem State.passEvent_fuse (s : State) (c v : Nat) (b : List W) : (s.passEvent c v b).fuse = s.fuse := rfl
@[simp] theorem State.passEvent_mem (s : State) (c v : Nat) (b : List W) : (s.passEvent c v b).mem = s.mem := rfl
@[simp] theorem State.passEvent_bad (s : State) (c v : Nat) (b : List W) : (s.passEvent c v b).bad = s.bad := rfl
@[simp] theorem State.passEvent_regs (s : State) (c v : Nat) (b : List W) : (s.passEvent c v b).regs = s.regs := rfl
@[simp] theorem State.passEvent_pend (s : State) (c v : Nat) (b : List W) : (s.passEvent c v b).pend = s.pend := rfl
@[simp] theorem State.passEvent_touched (s : State) (c v : Nat) (b : List W) : (s.passEvent c v b).touched = s.touched := rfl
@[simp] theorem State.passEvent_tasks (s : State) (c v : Nat) (b : List W) : (s.passEvent c v b).tasks = s.tasks := rfl
@[simp] theorem State.passEvent_parts (s : State) (c v : Nat) (b : List W) : (s.passEvent c v b).parts = s.parts := rfl
@[simp] theorem State.passEvent_engs (s : State) (c v : Nat) (b : List W) : (s.passEvent c v b).engs = s.engs := rfl
@[simp] theorem State.passEvent_trA (s : State) (c v : Nat) (b : List W) : (s.passEvent c v b).trA = s.trA := rfl
@[simp] theorem State.passEvent_trP (s : State) (c v : Nat) (b : List W) : (s.passEvent c v b).trP = s.trP := rfl
@[simp] theorem State.passEvent_mer (s : State) (c v : Nat) (b : List W) : (s.passEvent c v b).mer = s.mer := rfl
@[simp] theorem State.passEvent_fab (s : State) (c v : Nat) (b : List W) : (s.passEvent c v b).fab = s.fab := rfl
@[simp] theorem State.passEvent_fresh (s : State) (c v : Nat) (b : List W) : (s.passEvent c v b).fresh = s.fresh := rfl
@[simp] theorem State.passEvent_outbox (s : State) (c v : Nat) (b : List W) : (s.passEvent c v b).outbox = s.outbox := rfl
@[simp] theorem State.passEvent_queues (s : State) (c v : Nat) (b : List W) : (s.passEvent c v b).queues = s.queues := rfl
@[simp] theorem State.passEvent_blkRst (s : State) (c v : Nat) (b : List W) : (s.passEvent c v b).blkRst = s.blkRst := rfl
@[simp] theorem State.passEvent_nv (s : State) (c v : Nat) (b : List W) : (s.passEvent c v b).nv = s.nv := rfl
@[simp] theorem State.passEvent_pending (s : State) (c v : Nat) (b : List W) : (s.passEvent c v b).pending = s.pending := rfl
@[simp] theorem State.passEvent_supRun (s : State) (c v : Nat) (b : List W) : (s.passEvent c v b).supRun = s.supRun := rfl
@[simp] theorem State.passEvent_spRegs (s : State) (c v : Nat) (b : List W) : (s.passEvent c v b).spRegs = s.spRegs := rfl
@[simp] theorem State.passEvent_cu (s : State) (c v : Nat) (b : List W) : (s.passEvent c v b).cu = s.cu := rfl
@[simp] theorem State.passEvent_clkStop (s : State) (c v : Nat) (b : List W) : (s.passEvent c v b).clkStop = s.clkStop := rfl
@[simp] theorem State.passEvent_merMark (s : State) (c v : Nat) (b : List W) : (s.passEvent c v b).merMark = s.merMark := rfl
@[simp] theorem State.passEvent_lines (s : State) (c v : Nat) (b : List W) : (s.passEvent c v b).lines = s.lines := rfl
@[simp] theorem State.passEvent_vfEnable (s : State) (c v : Nat) (b : List W) : (s.passEvent c v b).vfEnable = s.vfEnable := rfl
@[simp] theorem State.passEvent_numVfs (s : State) (c v : Nat) (b : List W) : (s.passEvent c v b).numVfs = s.numVfs := rfl
@[simp] theorem State.passEvent_rtcSetDue (s : State) (c v : Nat) (b : List W) : (s.passEvent c v b).rtcSetDue = s.rtcSetDue := rfl
@[simp] theorem State.passEvent_tpWin (s : State) (c v : Nat) (b : List W) : (s.passEvent c v b).tpWin = s.tpWin := rfl
@[simp] theorem State.passEvent_tpLast (s : State) (c v : Nat) (b : List W) : (s.passEvent c v b).tpLast = s.tpLast := rfl
@[simp] theorem State.passEvent_hbSent (s : State) (c v : Nat) (b : List W) : (s.passEvent c v b).hbSent = s.hbSent := rfl
@[simp] theorem State.passEvent_fltNew (s : State) (c v : Nat) (b : List W) : (s.passEvent c v b).fltNew = s.fltNew := rfl
@[simp] theorem State.passEvent_fatalSrc (s : State) (c v : Nat) (b : List W) : (s.passEvent c v b).fatalSrc = s.fatalSrc := rfl
@[simp] theorem State.passEvent_fatalLine (s : State) (c v : Nat) (b : List W) : (s.passEvent c v b).fatalLine = s.fatalLine := rfl
@[simp] theorem State.passEvent_fatalRegs (s : State) (c v : Nat) (b : List W) : (s.passEvent c v b).fatalRegs = s.fatalRegs := rfl
@[simp] theorem State.passEvent_fatalPages (s : State) (c v : Nat) (b : List W) : (s.passEvent c v b).fatalPages = s.fatalPages := rfl
@[simp] theorem State.passEvent_nvQ (s : State) (c v : Nat) (b : List W) : (s.passEvent c v b).nvQ = s.nvQ := rfl
@[simp] theorem State.passEvent_sfPress (s : State) (c v : Nat) (b : List W) : (s.passEvent c v b).sfPress = s.sfPress := rfl

@[simp] theorem State.elapse_fuse (s : State) (n : Nat) : (s.elapse n).fuse = s.fuse := rfl
@[simp] theorem State.elapse_mem (s : State) (n : Nat) : (s.elapse n).mem = s.mem := rfl
@[simp] theorem State.elapse_bad (s : State) (n : Nat) : (s.elapse n).bad = s.bad := rfl
@[simp] theorem State.elapse_regs (s : State) (n : Nat) : (s.elapse n).regs = s.regs := rfl
@[simp] theorem State.elapse_pend (s : State) (n : Nat) : (s.elapse n).pend = s.pend := rfl
@[simp] theorem State.elapse_touched (s : State) (n : Nat) : (s.elapse n).touched = s.touched := rfl
@[simp] theorem State.elapse_tasks (s : State) (n : Nat) : (s.elapse n).tasks = s.tasks := rfl
@[simp] theorem State.elapse_parts (s : State) (n : Nat) : (s.elapse n).parts = s.parts := rfl
@[simp] theorem State.elapse_engs (s : State) (n : Nat) : (s.elapse n).engs = s.engs := rfl
@[simp] theorem State.elapse_trA (s : State) (n : Nat) : (s.elapse n).trA = s.trA := rfl
@[simp] theorem State.elapse_trP (s : State) (n : Nat) : (s.elapse n).trP = s.trP := rfl
@[simp] theorem State.elapse_fresh (s : State) (n : Nat) : (s.elapse n).fresh = s.fresh := rfl
@[simp] theorem State.elapse_outbox (s : State) (n : Nat) : (s.elapse n).outbox = s.outbox := rfl
@[simp] theorem State.elapse_evPass (s : State) (n : Nat) : (s.elapse n).evPass = s.evPass := rfl
@[simp] theorem State.elapse_queues (s : State) (n : Nat) : (s.elapse n).queues = s.queues := rfl
@[simp] theorem State.elapse_blkRst (s : State) (n : Nat) : (s.elapse n).blkRst = s.blkRst := rfl
@[simp] theorem State.elapse_nv (s : State) (n : Nat) : (s.elapse n).nv = s.nv := rfl
@[simp] theorem State.elapse_pending (s : State) (n : Nat) : (s.elapse n).pending = s.pending := rfl
@[simp] theorem State.elapse_supRun (s : State) (n : Nat) : (s.elapse n).supRun = s.supRun := rfl
@[simp] theorem State.elapse_spRegs (s : State) (n : Nat) : (s.elapse n).spRegs = s.spRegs := rfl
@[simp] theorem State.elapse_cu (s : State) (n : Nat) : (s.elapse n).cu = s.cu := rfl
@[simp] theorem State.elapse_clkStop (s : State) (n : Nat) : (s.elapse n).clkStop = s.clkStop := rfl
@[simp] theorem State.elapse_merMark (s : State) (n : Nat) : (s.elapse n).merMark = s.merMark := rfl
@[simp] theorem State.elapse_lines (s : State) (n : Nat) : (s.elapse n).lines = s.lines := rfl
@[simp] theorem State.elapse_vfEnable (s : State) (n : Nat) : (s.elapse n).vfEnable = s.vfEnable := rfl
@[simp] theorem State.elapse_numVfs (s : State) (n : Nat) : (s.elapse n).numVfs = s.numVfs := rfl
@[simp] theorem State.elapse_rtcSetDue (s : State) (n : Nat) : (s.elapse n).rtcSetDue = s.rtcSetDue := rfl
@[simp] theorem State.elapse_tpWin (s : State) (n : Nat) : (s.elapse n).tpWin = s.tpWin := rfl
@[simp] theorem State.elapse_tpLast (s : State) (n : Nat) : (s.elapse n).tpLast = s.tpLast := rfl
@[simp] theorem State.elapse_hbSent (s : State) (n : Nat) : (s.elapse n).hbSent = s.hbSent := rfl
@[simp] theorem State.elapse_fltNew (s : State) (n : Nat) : (s.elapse n).fltNew = s.fltNew := rfl
@[simp] theorem State.elapse_fatalSrc (s : State) (n : Nat) : (s.elapse n).fatalSrc = s.fatalSrc := rfl
@[simp] theorem State.elapse_fatalLine (s : State) (n : Nat) : (s.elapse n).fatalLine = s.fatalLine := rfl
@[simp] theorem State.elapse_fatalRegs (s : State) (n : Nat) : (s.elapse n).fatalRegs = s.fatalRegs := rfl
@[simp] theorem State.elapse_fatalPages (s : State) (n : Nat) : (s.elapse n).fatalPages = s.fatalPages := rfl
@[simp] theorem State.elapse_nvQ (s : State) (n : Nat) : (s.elapse n).nvQ = s.nvQ := rfl
@[simp] theorem State.elapse_sfPress (s : State) (n : Nat) : (s.elapse n).sfPress = s.sfPress := rfl

@[simp] theorem State.wrByte_fuse (s : State) (a : Nat) (v : Byte) : (s.wrByte a v).fuse = s.fuse := rfl
@[simp] theorem State.wrByte_bad (s : State) (a : Nat) (v : Byte) : (s.wrByte a v).bad = s.bad := rfl
@[simp] theorem State.wrByte_regs (s : State) (a : Nat) (v : Byte) : (s.wrByte a v).regs = s.regs := rfl
@[simp] theorem State.wrByte_pend (s : State) (a : Nat) (v : Byte) : (s.wrByte a v).pend = s.pend := rfl
@[simp] theorem State.wrByte_touched (s : State) (a : Nat) (v : Byte) : (s.wrByte a v).touched = s.touched := rfl
@[simp] theorem State.wrByte_tasks (s : State) (a : Nat) (v : Byte) : (s.wrByte a v).tasks = s.tasks := rfl
@[simp] theorem State.wrByte_parts (s : State) (a : Nat) (v : Byte) : (s.wrByte a v).parts = s.parts := rfl
@[simp] theorem State.wrByte_engs (s : State) (a : Nat) (v : Byte) : (s.wrByte a v).engs = s.engs := rfl
@[simp] theorem State.wrByte_trA (s : State) (a : Nat) (v : Byte) : (s.wrByte a v).trA = s.trA := rfl
@[simp] theorem State.wrByte_trP (s : State) (a : Nat) (v : Byte) : (s.wrByte a v).trP = s.trP := rfl
@[simp] theorem State.wrByte_mer (s : State) (a : Nat) (v : Byte) : (s.wrByte a v).mer = s.mer := rfl
@[simp] theorem State.wrByte_fab (s : State) (a : Nat) (v : Byte) : (s.wrByte a v).fab = s.fab := rfl
@[simp] theorem State.wrByte_fresh (s : State) (a : Nat) (v : Byte) : (s.wrByte a v).fresh = s.fresh := rfl
@[simp] theorem State.wrByte_outbox (s : State) (a : Nat) (v : Byte) : (s.wrByte a v).outbox = s.outbox := rfl
@[simp] theorem State.wrByte_evPass (s : State) (a : Nat) (v : Byte) : (s.wrByte a v).evPass = s.evPass := rfl
@[simp] theorem State.wrByte_queues (s : State) (a : Nat) (v : Byte) : (s.wrByte a v).queues = s.queues := rfl
@[simp] theorem State.wrByte_blkRst (s : State) (a : Nat) (v : Byte) : (s.wrByte a v).blkRst = s.blkRst := rfl
@[simp] theorem State.wrByte_nv (s : State) (a : Nat) (v : Byte) : (s.wrByte a v).nv = s.nv := rfl
@[simp] theorem State.wrByte_pending (s : State) (a : Nat) (v : Byte) : (s.wrByte a v).pending = s.pending := rfl
@[simp] theorem State.wrByte_supRun (s : State) (a : Nat) (v : Byte) : (s.wrByte a v).supRun = s.supRun := rfl
@[simp] theorem State.wrByte_spRegs (s : State) (a : Nat) (v : Byte) : (s.wrByte a v).spRegs = s.spRegs := rfl
@[simp] theorem State.wrByte_cu (s : State) (a : Nat) (v : Byte) : (s.wrByte a v).cu = s.cu := rfl
@[simp] theorem State.wrByte_clkStop (s : State) (a : Nat) (v : Byte) : (s.wrByte a v).clkStop = s.clkStop := rfl
@[simp] theorem State.wrByte_merMark (s : State) (a : Nat) (v : Byte) : (s.wrByte a v).merMark = s.merMark := rfl
@[simp] theorem State.wrByte_lines (s : State) (a : Nat) (v : Byte) : (s.wrByte a v).lines = s.lines := rfl
@[simp] theorem State.wrByte_vfEnable (s : State) (a : Nat) (v : Byte) : (s.wrByte a v).vfEnable = s.vfEnable := rfl
@[simp] theorem State.wrByte_numVfs (s : State) (a : Nat) (v : Byte) : (s.wrByte a v).numVfs = s.numVfs := rfl
@[simp] theorem State.wrByte_rtcSetDue (s : State) (a : Nat) (v : Byte) : (s.wrByte a v).rtcSetDue = s.rtcSetDue := rfl
@[simp] theorem State.wrByte_tpWin (s : State) (a : Nat) (v : Byte) : (s.wrByte a v).tpWin = s.tpWin := rfl
@[simp] theorem State.wrByte_tpLast (s : State) (a : Nat) (v : Byte) : (s.wrByte a v).tpLast = s.tpLast := rfl
@[simp] theorem State.wrByte_hbSent (s : State) (a : Nat) (v : Byte) : (s.wrByte a v).hbSent = s.hbSent := rfl
@[simp] theorem State.wrByte_fltNew (s : State) (a : Nat) (v : Byte) : (s.wrByte a v).fltNew = s.fltNew := rfl
@[simp] theorem State.wrByte_fatalSrc (s : State) (a : Nat) (v : Byte) : (s.wrByte a v).fatalSrc = s.fatalSrc := rfl
@[simp] theorem State.wrByte_fatalLine (s : State) (a : Nat) (v : Byte) : (s.wrByte a v).fatalLine = s.fatalLine := rfl
@[simp] theorem State.wrByte_fatalRegs (s : State) (a : Nat) (v : Byte) : (s.wrByte a v).fatalRegs = s.fatalRegs := rfl
@[simp] theorem State.wrByte_fatalPages (s : State) (a : Nat) (v : Byte) : (s.wrByte a v).fatalPages = s.fatalPages := rfl
@[simp] theorem State.wrByte_nvQ (s : State) (a : Nat) (v : Byte) : (s.wrByte a v).nvQ = s.nvQ := rfl
@[simp] theorem State.wrByte_sfPress (s : State) (a : Nat) (v : Byte) : (s.wrByte a v).sfPress = s.sfPress := rfl

@[simp] theorem State.setBad_fuse (s : State) (a : Nat) (v : Bool) : (s.setBad a v).fuse = s.fuse := rfl
@[simp] theorem State.setBad_mem (s : State) (a : Nat) (v : Bool) : (s.setBad a v).mem = s.mem := rfl
@[simp] theorem State.setBad_regs (s : State) (a : Nat) (v : Bool) : (s.setBad a v).regs = s.regs := rfl
@[simp] theorem State.setBad_pend (s : State) (a : Nat) (v : Bool) : (s.setBad a v).pend = s.pend := rfl
@[simp] theorem State.setBad_touched (s : State) (a : Nat) (v : Bool) : (s.setBad a v).touched = s.touched := rfl
@[simp] theorem State.setBad_tasks (s : State) (a : Nat) (v : Bool) : (s.setBad a v).tasks = s.tasks := rfl
@[simp] theorem State.setBad_parts (s : State) (a : Nat) (v : Bool) : (s.setBad a v).parts = s.parts := rfl
@[simp] theorem State.setBad_engs (s : State) (a : Nat) (v : Bool) : (s.setBad a v).engs = s.engs := rfl
@[simp] theorem State.setBad_trA (s : State) (a : Nat) (v : Bool) : (s.setBad a v).trA = s.trA := rfl
@[simp] theorem State.setBad_trP (s : State) (a : Nat) (v : Bool) : (s.setBad a v).trP = s.trP := rfl
@[simp] theorem State.setBad_mer (s : State) (a : Nat) (v : Bool) : (s.setBad a v).mer = s.mer := rfl
@[simp] theorem State.setBad_fab (s : State) (a : Nat) (v : Bool) : (s.setBad a v).fab = s.fab := rfl
@[simp] theorem State.setBad_fresh (s : State) (a : Nat) (v : Bool) : (s.setBad a v).fresh = s.fresh := rfl
@[simp] theorem State.setBad_outbox (s : State) (a : Nat) (v : Bool) : (s.setBad a v).outbox = s.outbox := rfl
@[simp] theorem State.setBad_evPass (s : State) (a : Nat) (v : Bool) : (s.setBad a v).evPass = s.evPass := rfl
@[simp] theorem State.setBad_queues (s : State) (a : Nat) (v : Bool) : (s.setBad a v).queues = s.queues := rfl
@[simp] theorem State.setBad_blkRst (s : State) (a : Nat) (v : Bool) : (s.setBad a v).blkRst = s.blkRst := rfl
@[simp] theorem State.setBad_nv (s : State) (a : Nat) (v : Bool) : (s.setBad a v).nv = s.nv := rfl
@[simp] theorem State.setBad_pending (s : State) (a : Nat) (v : Bool) : (s.setBad a v).pending = s.pending := rfl
@[simp] theorem State.setBad_supRun (s : State) (a : Nat) (v : Bool) : (s.setBad a v).supRun = s.supRun := rfl
@[simp] theorem State.setBad_spRegs (s : State) (a : Nat) (v : Bool) : (s.setBad a v).spRegs = s.spRegs := rfl
@[simp] theorem State.setBad_cu (s : State) (a : Nat) (v : Bool) : (s.setBad a v).cu = s.cu := rfl
@[simp] theorem State.setBad_clkStop (s : State) (a : Nat) (v : Bool) : (s.setBad a v).clkStop = s.clkStop := rfl
@[simp] theorem State.setBad_merMark (s : State) (a : Nat) (v : Bool) : (s.setBad a v).merMark = s.merMark := rfl
@[simp] theorem State.setBad_lines (s : State) (a : Nat) (v : Bool) : (s.setBad a v).lines = s.lines := rfl
@[simp] theorem State.setBad_vfEnable (s : State) (a : Nat) (v : Bool) : (s.setBad a v).vfEnable = s.vfEnable := rfl
@[simp] theorem State.setBad_numVfs (s : State) (a : Nat) (v : Bool) : (s.setBad a v).numVfs = s.numVfs := rfl
@[simp] theorem State.setBad_rtcSetDue (s : State) (a : Nat) (v : Bool) : (s.setBad a v).rtcSetDue = s.rtcSetDue := rfl
@[simp] theorem State.setBad_tpWin (s : State) (a : Nat) (v : Bool) : (s.setBad a v).tpWin = s.tpWin := rfl
@[simp] theorem State.setBad_tpLast (s : State) (a : Nat) (v : Bool) : (s.setBad a v).tpLast = s.tpLast := rfl
@[simp] theorem State.setBad_hbSent (s : State) (a : Nat) (v : Bool) : (s.setBad a v).hbSent = s.hbSent := rfl
@[simp] theorem State.setBad_fltNew (s : State) (a : Nat) (v : Bool) : (s.setBad a v).fltNew = s.fltNew := rfl
@[simp] theorem State.setBad_fatalSrc (s : State) (a : Nat) (v : Bool) : (s.setBad a v).fatalSrc = s.fatalSrc := rfl
@[simp] theorem State.setBad_fatalLine (s : State) (a : Nat) (v : Bool) : (s.setBad a v).fatalLine = s.fatalLine := rfl
@[simp] theorem State.setBad_fatalRegs (s : State) (a : Nat) (v : Bool) : (s.setBad a v).fatalRegs = s.fatalRegs := rfl
@[simp] theorem State.setBad_fatalPages (s : State) (a : Nat) (v : Bool) : (s.setBad a v).fatalPages = s.fatalPages := rfl
@[simp] theorem State.setBad_nvQ (s : State) (a : Nat) (v : Bool) : (s.setBad a v).nvQ = s.nvQ := rfl
@[simp] theorem State.setBad_sfPress (s : State) (a : Nat) (v : Bool) : (s.setBad a v).sfPress = s.sfPress := rfl

@[simp] theorem State.setReg_regs (s : State) (a : Nat) (v : W) :
    (s.setReg a v).regs = FMap.set (regReset s.fuse) s.regs a v := rfl
@[simp] theorem State.setPnd_pend (s : State) (a : Nat) (v : W) :
    (s.setPnd a v).pend = FMap.set (regReset s.fuse) s.pend a v := rfl
@[simp] theorem State.setTask_tasks (s : State) (p t : Nat) (v : Task) :
    (s.setTask p t v).tasks = FMap.set (fun _ => Task.zero) s.tasks (p * 16 + t) v := rfl
@[simp] theorem State.setPart_parts (s : State) (p : Nat) (v : Part) :
    (s.setPart p v).parts = FMap.set (fun _ => Part.zero) s.parts p v := rfl
@[simp] theorem State.setEng_engs (s : State) (e : Nat) (v : Eng) :
    (s.setEng e v).engs = FMap.set (fun _ => Eng.zero) s.engs e v := rfl
@[simp] theorem State.emit_outbox (s : State) (o : Output) : (s.emit o).outbox = o :: s.outbox := rfl
@[simp] theorem State.useFresh_fresh (s : State) : s.useFresh.fresh = s.fresh + 1 := rfl
@[simp] theorem State.elapse_fab (s : State) (n : Nat) : (s.elapse n).fab = s.fab + n := rfl
@[simp] theorem State.wrByte_mem (s : State) (a : Nat) (v : Byte) : (s.wrByte a v).mem = FMap.set memDefault s.mem a v := rfl

/-! ### Registers: reading after writing -/

/-- A register written reads the value written; every other one reads as before. -/
theorem State.reg_setReg (s : State) (a b : Nat) (v : W) (h : FMap.wf (regReset s.fuse) s.regs = true) :
    (s.setReg a v).reg b = if b = a then v else s.reg b := FMap.get_set h a b v

/-- The same of pending values. -/
theorem State.pnd_setPnd (s : State) (a b : Nat) (v : W) (h : FMap.wf (regReset s.fuse) s.pend = true) :
    (s.setPnd a v).pnd b = if b = a then v else s.pnd b := FMap.get_set h a b v

/-- Writing a register keeps the canonical form of the registers. -/
theorem State.regs_wf_setReg (s : State) (a : Nat) (v : W) (h : FMap.wf (regReset s.fuse) s.regs = true) :
    FMap.wf (regReset s.fuse) (s.setReg a v).regs = true := FMap.wf_set a v h

/-- Writing a pending value keeps the canonical form of the pending values. -/
theorem State.pend_wf_setPnd (s : State) (a : Nat) (v : W) (h : FMap.wf (regReset s.fuse) s.pend = true) :
    FMap.wf (regReset s.fuse) (s.setPnd a v).pend = true := FMap.wf_set a v h

/-- A task written reads as written; every other one reads as before. -/
theorem State.task_setTask (s : State) (p t q u : Nat) (v : Task) (h : FMap.wf (fun _ => Task.zero) s.tasks = true) :
    (s.setTask p t v).task q u = if q * 16 + u = p * 16 + t then v else s.task q u := FMap.get_set h _ _ v

/-- The register a field belongs to takes the field; the others read as before. -/
theorem State.reg_setRf (s : State) (a b hi lo n : Nat) (h : FMap.wf (regReset s.fuse) s.regs = true) :
    (s.setRf a hi lo n).reg b = if b = a then putFld (s.reg a) hi lo n else s.reg b := FMap.get_set h a b _

/-- Nothing but time passes with the clocks. -/
theorem State.elapse_eq (s : State) (n : Nat) :
    s.elapse n = { s with mer := if s.clkStop then s.mer else s.mer + BitVec.ofNat 96 (n * (2 ^ 32 + (s.reg aMER_FRAC).toNat)), fab := s.fab + n } := rfl

@[simp] theorem State.elapse_reg (s : State) (n a : Nat) : (s.elapse n).reg a = s.reg a := rfl
@[simp] theorem State.elapse_mode (s : State) (n p : Nat) : (s.elapse n).mode p = s.mode p := rfl
@[simp] theorem State.elapse_task (s : State) (n p t : Nat) : (s.elapse n).task p t = s.task p t := rfl
@[simp] theorem State.setTask_reg (s : State) (p t a : Nat) (v : Task) : (s.setTask p t v).reg a = s.reg a := rfl
@[simp] theorem State.setTask_mode (s : State) (p t q : Nat) (v : Task) : (s.setTask p t v).mode q = s.mode q := rfl
@[simp] theorem State.setReg_task (s : State) (p t a : Nat) (v : W) : (s.setReg a v).task p t = s.task p t := rfl
@[simp] theorem State.setReg_rdByte (s : State) (a b : Nat) (v : W) : (s.setReg a v).rdByte b = s.rdByte b := rfl
@[simp] theorem State.setTask_rdByte (s : State) (p t b : Nat) (v : Task) : (s.setTask p t v).rdByte b = s.rdByte b := rfl

end Sys2Proof.Machine
end

