-- ==== Sys2Proof/Laws/Store.lean ====
section
/-!
SUPPORT. The laws of the stores: bytes and words read back what was written, and every memory operation keeps the canonical form.
-/
namespace Sys2Proof.Machine

/-- A byte written reads the value written; every other byte reads as before. -/
theorem State.rdByte_wrByte (s : State) (a b : Nat) (v : Byte) (h : Memory.wf s.mem = true) :
    (s.wrByte a v).rdByte b = if b = a then v else s.rdByte b := FMap.get_set h a b v

/-- Writing a byte keeps the canonical form of the stores. -/
theorem State.wrByte_wf (s : State) (a : Nat) (v : Byte) (h : Memory.wf s.mem = true) : Memory.wf (s.wrByte a v).mem = true :=
  FMap.wf_set a v h

/-- Writing bytes keeps the canonical form of the stores. -/
theorem State.wrBytes_wf (l : List Byte) (s : State) (a : Nat) (h : Memory.wf s.mem = true) :
    Memory.wf (s.wrBytes a l).mem = true := by
  induction l generalizing s a with
  | nil => exact h
  | cons b l ih => exact ih (s.wrByte a b) (a + 1) (s.wrByte_wf a b h)

/-- Bytes written read back; every byte outside them reads as before. -/
theorem State.rdByte_wrBytes (l : List Byte) (s : State) (a b : Nat) (h : Memory.wf s.mem = true) :
    (s.wrBytes a l).rdByte b = if a ≤ b ∧ b < a + l.length then l.getD (b - a) 0 else s.rdByte b := by
  induction l generalizing s a with
  | nil => rw [if_neg (by simp only [List.length_nil]; omega)]; rfl
  | cons v l ih =>
    have hw := ih (s.wrByte a v) (a + 1) (s.wrByte_wf a v h)
    simp only [State.wrBytes]
    rw [hw, s.rdByte_wrByte a b v h]
    by_cases hb : b = a
    · subst hb; rw [if_neg (by omega)]; simp
    · by_cases hc : a + 1 ≤ b ∧ b < a + 1 + l.length
      · rw [if_pos hc, if_pos (by simp; omega)]
        obtain ⟨n, rfl⟩ : ∃ n, b = a + (n + 1) := ⟨b - a - 1, by omega⟩
        rw [show a + (n + 1) - (a + 1) = n by omega, show a + (n + 1) - a = n + 1 by omega]
        simp
      · rw [if_neg hc, if_neg hb, if_neg (by simp; omega)]

/-- Writing bytes changes the stores alone. -/
theorem State.wrBytes_eq (l : List Byte) (s : State) (a : Nat) : ∃ m, s.wrBytes a l = { s with mem := m } := by
  induction l generalizing s a with
  | nil => exact ⟨s.mem, rfl⟩
  | cons v l ih =>
    obtain ⟨m, hm⟩ := ih (s.wrByte a v) (a + 1)
    exact ⟨m, hm⟩

/-- Writing a word changes the stores, the error marks and the mirror's dirty lines alone. -/
theorem State.wrMem_eq (s : State) (a : Nat) (w : W) :
    ∃ m b d, s.wrMem a w = { s with mem := m, bad := b, dirty := d } := by
  obtain ⟨m, hm⟩ := State.wrBytes_eq (bytesOf w) s a
  simp only [State.wrMem, hm, State.markLine]
  split
  · exact ⟨_, _, _, rfl⟩
  · exact ⟨_, _, _, rfl⟩

@[simp] theorem State.wrMem_task (s : State) (a p t : Nat) (w : W) : (s.wrMem a w).task p t = s.task p t := by
  obtain ⟨m, b, d, h⟩ := s.wrMem_eq a w; rw [h]; rfl
@[simp] theorem State.wrMem_reg (s : State) (a b : Nat) (w : W) : (s.wrMem a w).reg b = s.reg b := by
  obtain ⟨m, k, d, h⟩ := s.wrMem_eq a w; rw [h]; rfl
@[simp] theorem State.wrMem_mode (s : State) (a p : Nat) (w : W) : (s.wrMem a w).mode p = s.mode p := by
  obtain ⟨m, k, d, h⟩ := s.wrMem_eq a w; rw [h]; rfl
@[simp] theorem State.wrMem_regs (s : State) (a : Nat) (w : W) : (s.wrMem a w).regs = s.regs := by
  obtain ⟨m, k, d, h⟩ := s.wrMem_eq a w; rw [h]
@[simp] theorem State.wrMem_pend (s : State) (a : Nat) (w : W) : (s.wrMem a w).pend = s.pend := by
  obtain ⟨m, k, d, h⟩ := s.wrMem_eq a w; rw [h]
@[simp] theorem State.wrMem_fuse (s : State) (a : Nat) (w : W) : (s.wrMem a w).fuse = s.fuse := by
  obtain ⟨m, k, d, h⟩ := s.wrMem_eq a w; rw [h]
@[simp] theorem State.markLine_mem (s : State) (a : Nat) : (s.markLine a).mem = s.mem := by
  simp only [State.markLine]; split <;> rfl

/-- Writing a word keeps the canonical form of the stores. -/
theorem State.wrMem_wf (s : State) (a : Nat) (w : W) (h : Memory.wf s.mem = true) : Memory.wf (s.wrMem a w).mem = true := by
  simp only [State.wrMem, State.markLine_mem]
  exact State.wrBytes_wf (bytesOf w) s a h

/-- The bytes outside a word written read as before. -/
theorem State.rdByte_wrMem (s : State) (a b : Nat) (w : W) (h : Memory.wf s.mem = true) (hb : b < a ∨ a + 4 ≤ b) :
    (s.wrMem a w).rdByte b = s.rdByte b := by
  have e : (s.wrMem a w).rdByte b = (s.wrBytes a (bytesOf w)).rdByte b := by
    simp only [State.wrMem, State.rdByte, State.markLine_mem]; rfl
  rw [e, State.rdByte_wrBytes (bytesOf w) s a b h, if_neg]
  simp only [bytesOf, List.length_cons, List.length_nil]
  omega

/-- Clearing a page keeps the canonical form of the stores. -/
theorem State.clearPage_wf (s : State) (k n : Nat) (h : Memory.wf s.mem = true) : Memory.wf (s.clearPage k n).mem = true := by
  simp only [State.clearPage]
  exact FMap.wf_forget _ h

end Sys2Proof.Machine
end

