-- ==== Sys2Proof/Laws/Canonical.lean ====
section
/-!
SUPPORT. The operations through which every command changes the stores, the registers and the pending values keep their canonical
form. No other definition writes those three maps; a command that changes other fields keeps the form by definition.
-/
namespace Sys2Proof.Machine

theorem canonical_setReg {s : State} (a : Nat) (v : W) (h : Canonical s) : Canonical (s.setReg a v) := ⟨h.1, FMap.wf_set a v h.2.1, h.2.2⟩
theorem canonical_setPnd {s : State} (a : Nat) (v : W) (h : Canonical s) : Canonical (s.setPnd a v) := ⟨h.1, h.2.1, FMap.wf_set a v h.2.2⟩
theorem canonical_setRf {s : State} (a hi lo v : Nat) (h : Canonical s) : Canonical (s.setRf a hi lo v) := canonical_setReg _ _ h
theorem canonical_setReg64 {s : State} (a : Nat) (v : W64) (h : Canonical s) : Canonical (s.setReg64 a v) := canonical_setReg _ _ (canonical_setReg _ _ h)
theorem canonical_count {s : State} (a : Nat) (h : Canonical s) : Canonical (s.count a) := canonical_setReg _ _ h
theorem canonical_advance {s : State} (a : Nat) (h : Canonical s) : Canonical (s.advance a) := canonical_setReg _ _ h
theorem canonical_applyPnd {s : State} (a : Nat) (h : Canonical s) : Canonical (s.applyPnd a) := canonical_setReg _ _ h

/-- A fold of operations that each keep the form keeps it. -/
theorem canonical_foldl {α : Type} (f : State → α → State) (hf : ∀ s a, Canonical s → Canonical (f s a)) (l : List α) {s : State}
    (h : Canonical s) : Canonical (l.foldl f s) := by
  induction l generalizing s with
  | nil => exact h
  | cons a l ih => exact ih (hf s a h)

theorem canonical_applyMany {s : State} (a st n : Nat) (h : Canonical s) : Canonical (s.applyMany a st n) := by
  induction n with
  | zero => exact h
  | succ n ih => exact canonical_applyPnd _ ih
theorem canonical_applyRange {s : State} (lo hi : Nat) (h : Canonical s) : Canonical (s.applyRange lo hi) :=
  canonical_foldl _ (fun _ _ => canonical_applyPnd _) _ h
theorem canonical_zeroRegs {s : State} (l : List Nat) (h : Canonical s) : Canonical (s.zeroRegs l) :=
  canonical_foldl _ (fun _ a => canonical_setReg a 0) _ h
theorem canonical_setRegFor {s : State} (src a : Nat) (v : W) (h : Canonical s) : Canonical (s.setRegFor src a v) := by
  rw [State.setRegFor]; split
  · exact h
  · exact canonical_setReg _ _ h
theorem canonical_markRetp {s : State} (a : Nat) (h : Canonical s) : Canonical (s.markRetp a) := canonical_setRf _ _ _ _ h

theorem canonical_wrByte {s : State} (a : Nat) (v : Byte) (h : Canonical s) : Canonical (s.wrByte a v) := ⟨s.wrByte_wf a v h.1, h.2⟩
theorem canonical_wrBytes {s : State} (a : Nat) (l : List Byte) (h : Canonical s) : Canonical (s.wrBytes a l) := by
  obtain ⟨m, hm⟩ := State.wrBytes_eq l s a
  have hw := State.wrBytes_wf l s a h.1
  rw [hm] at hw ⊢
  exact ⟨hw, h.2⟩
theorem canonical_wrMem {s : State} (a : Nat) (w : W) (h : Canonical s) : Canonical (s.wrMem a w) := by
  obtain ⟨m, b, d, hm⟩ := s.wrMem_eq a w
  have hw := s.wrMem_wf a w h.1
  rw [hm] at hw ⊢
  exact ⟨hw, h.2⟩
theorem canonical_clearPage {s : State} (k n : Nat) (h : Canonical s) : Canonical (s.clearPage k n) := ⟨s.clearPage_wf k n h.1, h.2⟩

theorem canonical_clearPart {s : State} (p : Nat) (h : Canonical s) : Canonical (s.clearPart p) := by
  have hr := FMap.wf_forget (fun a => decide (0x300000 + 0x800 * p ≤ a ∧ a < 0x300000 + 0x800 * p + 0x800)) h.2.1
  have hp := FMap.wf_forget (fun a => decide (0x300000 + 0x800 * p ≤ a ∧ a < 0x300000 + 0x800 * p + 0x800)) h.2.2
  exact ⟨h.1, hr, hp⟩
theorem canonical_noteReset {s : State} (b : Nat) (h : Canonical s) : Canonical (s.noteReset b) := canonical_setRf _ _ _ _ (canonical_advance _ h)

end Sys2Proof.Machine
end

