-- ==== Sys2Proof/Laws/Engine.lean ====
section
/-!
SUPPORT. What the shared operations behind the engine instructions answer: an instruction that issues retires, or traps.
-/
namespace Sys2Proof.Machine

/-- An instruction that does not trap retires. -/
theorem State.issue_ok {s : State} {e p t w clks : Nat} {body : Nat → Nat → Ctx → Except Trap Eff} {f : Eff}
    (h : Issues s e p t w) (hb : body p t (s.task p t).ctx = .ok f) : s.issue e w clks body = s.retire p t w clks f := by
  simp only [State.issue, h.1, h.2, Except.bind, hb]

/-- An instruction whose own effect traps takes the trap. -/
theorem State.issue_error {s : State} {e p t w clks : Nat} {body : Nat → Nat → Ctx → Except Trap Eff} {tr : Trap}
    (h : Issues s e p t w) (hb : body p t (s.task p t).ctx = .error tr) : s.issue e w clks body = s.trap e p t tr := by
  simp only [State.issue, h.1, h.2, Except.bind, hb]

/-- Outside a delay slot the instructions that none may hold issue as the others do. -/
theorem State.issueNoSlot_eq {s : State} {e p t w clks : Nat} {body : Nat → Nat → Ctx → Except Trap Eff}
    (h : s.issuer e = some (p, t)) (hs : (s.task p t).ctx.slot = none) : s.issueNoSlot e w clks body = s.issue e w clks body := by
  simp only [State.issueNoSlot, h, hs, Option.isSome_none, Bool.false_eq_true, if_false]

/-- In a delay slot they trap. -/
theorem State.issueNoSlot_slot {s : State} {e p t w clks : Nat} {body : Nat → Nat → Ctx → Except Trap Eff}
    (h : Issues s e p t 1) (hs : (s.task p t).ctx.slot.isSome = true) :
    s.issueNoSlot e w clks body = s.trap e p t (Trap.plain 5) := by
  simp only [State.issueNoSlot, h.1, hs, if_true]
  exact State.issue_error h rfl

@[simp] theorem State.landWrites_task (l : List MemWr) (s : State) (p t : Nat) : (s.landWrites l).task p t = s.task p t := by
  induction l generalizing s with
  | nil => rfl
  | cons m l ih => exact (ih (s.wrMem m.a m.new)).trans (by simp)

/-- An instruction that changes its context and stores words, without a jump. -/
theorem State.retire_eq (s : State) (p t w clks : Nat) (c' : Ctx) (wr : List MemWr) :
    s.retire p t w clks { ctx := c', wr := wr, jump := none, late := none } =
      afterPass (s.landWrites wr) p t w clks (recordOf wr clks) c' := by
  simp only [State.retire, afterPass, Ctx.retire, Ctx.spend, nextP, State.landWrites_task]

/-- An instruction that changes its context alone. -/
theorem State.retire_reg (s : State) (p t w clks : Nat) (c' : Ctx) :
    s.retire p t w clks { ctx := c', wr := [], jump := none, late := none } = afterPass s p t w clks none c' :=
  State.retire_eq s p t w clks c' []

/-- A jump. -/
theorem State.retire_jump (s : State) (p t w : Nat) (c' : Ctx) (wr : List MemWr) (tgt : Option (BitVec 20)) :
    s.retire p t w w { ctx := c', wr := wr, jump := some tgt, late := none } =
      afterJump (s.landWrites wr) p t w (recordOf wr w) c' tgt := by
  simp only [State.retire, afterJump, Ctx.retire, Ctx.spend, State.landWrites_task]

/-- An instruction of page 0x38 or 0x39 that changes its context alone. -/
theorem State.regOp_ok {s : State} {e p t : Nat} (f : Ctx → Ctx) (h : Issues s e p t 1) :
    s.regOp e f = afterPass s p t 1 1 none (f (s.task p t).ctx) := by
  rw [State.regOp, State.issue_ok h rfl]; exact State.retire_reg ..

theorem State.immOp_ok {s : State} {e p t : Nat} (f : Ctx → Ctx) (h : Issues s e p t 2) :
    s.immOp e f = afterPass s p t 2 2 none (f (s.task p t).ctx) := by
  rw [State.immOp, State.issue_ok h rfl]; exact State.retire_reg ..

/-- A bit instruction whose operand reads `b`. -/
theorem State.bitOp_ok {s : State} {e p t : Nat} {o : Opnd} {b : Bool} (f : Bool → Bool → Bool) (h : Issues s e p t o.words)
    (hb : s.readBit (s.task p t).ctx p (o.ea (s.task p t).ctx .bit) = .ok b) :
    s.bitOp e o f = afterPass s p t o.words o.words none
      { (s.task p t).ctx with lr := f (s.task p t).ctx.lr b } := by
  rw [State.bitOp, State.issue_ok h (by simp only [hb, Except.bind]; rfl)]; exact State.retire_reg ..

theorem State.bitOp_error {s : State} {e p t : Nat} {o : Opnd} {tr : Trap} (f : Bool → Bool → Bool) (h : Issues s e p t o.words)
    (hb : s.readBit (s.task p t).ctx p (o.ea (s.task p t).ctx .bit) = .error tr) :
    s.bitOp e o f = s.trap e p t tr := by
  rw [State.bitOp, State.issue_error h (by simp only [hb, Except.bind]; rfl)]

/-- An instruction on A and a word operand that reads `v`. -/
theorem State.wordOp_ok {s : State} {e p t d : Nat} {o : Opnd} {v : W} {l : BitVec 8} (f : Ctx → W → Res)
    (h : Issues s e p t o.words) (hv : s.readWord (s.task p t).ctx p (o.ea (s.task p t).ctx .word) = .ok v) :
    s.wordOp e o d l f = afterPass s p t o.words o.words none ((s.task p t).ctx.putRes (f (s.task p t).ctx v) l d) := by
  rw [State.wordOp, State.issue_ok h (by simp only [hv, Except.bind]; rfl)]; exact State.retire_reg ..

theorem State.cmpOp_ok {s : State} {e p t d : Nat} {o : Opnd} {v : W} {l : BitVec 8} (f : Ctx → W → BitVec 8)
    (h : Issues s e p t o.words) (hv : s.readWord (s.task p t).ctx p (o.ea (s.task p t).ctx .word) = .ok v) :
    s.cmpOp e o d l f = afterPass s p t o.words o.words none ((s.task p t).ctx.putFlags (f (s.task p t).ctx v) l d) := by
  rw [State.cmpOp, State.issue_ok h (by simp only [hv, Except.bind]; rfl)]; exact State.retire_reg ..

/-- A load whose word reads `v`. -/
theorem State.loadOp_ok {s : State} {e p t : Nat} {o : Opnd} {sp : Space} {v : W} (f : Ctx → W → Ctx) (h : Issues s e p t o.words)
    (hv : s.readW (s.task p t).ctx p (decide (sp = .image)) (o.ea (s.task p t).ctx sp) sp (o.ea (s.task p t).ctx sp) = .ok v) :
    s.loadOp e o sp f = afterPass s p t o.words o.words none (f (s.task p t).ctx v) := by
  rw [State.loadOp, State.issue_ok h (by simp only [hv, Except.bind]; rfl)]; exact State.retire_reg ..

theorem State.loadOp_error {s : State} {e p t : Nat} {o : Opnd} {sp : Space} {tr : Trap} (f : Ctx → W → Ctx)
    (h : Issues s e p t o.words)
    (hv : s.readW (s.task p t).ctx p (decide (sp = .image)) (o.ea (s.task p t).ctx sp) sp (o.ea (s.task p t).ctx sp) = .error tr) :
    s.loadOp e o sp f = s.trap e p t tr := by
  rw [State.loadOp, State.issue_error h (by simp only [hv, Except.bind]; rfl)]

/-- A store whose word lies at `a`. -/
theorem State.storeOp_ok {s : State} {e p t a : Nat} {o : Opnd} {sp : Space} (f : Ctx → W) (h : Issues s e p t o.words)
    (ha : s.locate p (decide (sp = .image)) (o.ea (s.task p t).ctx sp) sp (o.ea (s.task p t).ctx sp) = .ok a) :
    s.storeOp e o sp f = afterPass (s.wrMem a (f (s.task p t).ctx)) p t o.words o.words
      (record (decide (sp = .image)) (o.ea (s.task p t).ctx sp) (s.rdMem a) o.words) (s.task p t).ctx := by
  rw [State.storeOp, State.issue_ok h (by simp only [State.storeW, ha, Except.map]; rfl)]; exact State.retire_eq ..

theorem State.storeOp_error {s : State} {e p t : Nat} {o : Opnd} {sp : Space} {tr : Trap} (f : Ctx → W)
    (h : Issues s e p t o.words)
    (ha : s.locate p (decide (sp = .image)) (o.ea (s.task p t).ctx sp) sp (o.ea (s.task p t).ctx sp) = .error tr) :
    s.storeOp e o sp f = s.trap e p t tr := by
  rw [State.storeOp, State.issue_error h (by simp only [State.storeW, ha, Except.map]; rfl)]

/-- The bit store of a mapped word without an error. -/
theorem State.storeBit_ok {s : State} {p b a : Nat} (v : Bool)
    (ha : s.locate p (bitPlace b).1 (bitPlace b).2.1 .bit b = .ok a) (hb : s.isBad a = false) :
    s.storeBit p b v = .ok { image := (bitPlace b).1, w := (bitPlace b).2.1, a := a, old := s.rdMem a,
                             new := putBit (s.rdMem a) (bitPlace b).2.2 v } := by
  simp only [State.storeBit, ha, Except.bind, hb, Bool.false_eq_true, if_false]

theorem State.storeBit_error {s : State} {p b : Nat} {tr : Trap} (v : Bool)
    (ha : s.locate p (bitPlace b).1 (bitPlace b).2.1 .bit b = .error tr) : s.storeBit p b v = .error tr := by
  simp only [State.storeBit, ha, Except.bind]

/-- The bit read from a mapped word without an error that no store is landing in. -/
theorem State.readBit_ok {s : State} {c : Ctx} {p b a : Nat}
    (ha : s.locate p (bitPlace b).1 (bitPlace b).2.1 .bit b = .ok a) (hb : s.isBad a = false)
    (hr : c.recorded (bitPlace b).1 (bitPlace b).2.1 = none) :
    s.readBit c p b = .ok (bitAt (s.rdMem a) (bitPlace b).2.2) := by
  simp only [State.readBit, State.readW, ha, Except.bind, hb, Bool.false_eq_true, if_false, hr, Except.map, Option.getD_none]

/-- ST, STN, SET and RST where a bit is stored. -/
theorem State.bitStore_ok {s : State} {e p t a : Nat} {o : Opnd} {v : Bool} (f : Bool → Option Bool) (h : Issues s e p t o.words)
    (hf : f (s.task p t).ctx.lr = some v)
    (ha : s.locate p (bitPlace (o.ea (s.task p t).ctx .bit)).1 (bitPlace (o.ea (s.task p t).ctx .bit)).2.1 .bit
      (o.ea (s.task p t).ctx .bit) = .ok a) (hb : s.isBad a = false) :
    s.bitStore e o f = afterPass (s.wrMem a (putBit (s.rdMem a) (bitPlace (o.ea (s.task p t).ctx .bit)).2.2 v)) p t o.words o.words
      (record (bitPlace (o.ea (s.task p t).ctx .bit)).1 (bitPlace (o.ea (s.task p t).ctx .bit)).2.1 (s.rdMem a) o.words)
      (s.task p t).ctx := by
  rw [State.bitStore, State.issue_ok h (by simp only [hf, State.storeBit_ok v ha hb, Except.map]; rfl)]; exact State.retire_eq ..

/-- SET and RST where none is stored. -/
theorem State.bitStore_none {s : State} {e p t a : Nat} {o : Opnd} (f : Bool → Option Bool) (h : Issues s e p t o.words)
    (hf : f (s.task p t).ctx.lr = none)
    (ha : s.locate p (bitPlace (o.ea (s.task p t).ctx .bit)).1 (bitPlace (o.ea (s.task p t).ctx .bit)).2.1 .bit
      (o.ea (s.task p t).ctx .bit) = .ok a) :
    s.bitStore e o f = afterPass s p t o.words o.words none (s.task p t).ctx := by
  rw [State.bitStore, State.issue_ok h (by simp only [hf, State.checkBit, ha, Except.map]; rfl)]; exact State.retire_reg ..

theorem State.bitStore_error {s : State} {e p t : Nat} {o : Opnd} {tr : Trap} (f : Bool → Option Bool) (h : Issues s e p t o.words)
    (ha : s.locate p (bitPlace (o.ea (s.task p t).ctx .bit)).1 (bitPlace (o.ea (s.task p t).ctx .bit)).2.1 .bit
      (o.ea (s.task p t).ctx .bit) = .error tr) :
    s.bitStore e o f = s.trap e p t tr := by
  rw [State.bitStore]
  refine State.issue_error h ?_
  split
  · simp only [State.storeBit_error _ ha, Except.map]
  · simp only [State.checkBit, ha, Except.map]

/-- EDP and EDN. -/
theorem State.edge_ok {s : State} {e p t a : Nat} {o : Opnd} (f : Bool → Bool → Bool) (h : Issues s e p t o.words)
    (ha : s.locate p (bitPlace (o.ea (s.task p t).ctx .bit)).1 (bitPlace (o.ea (s.task p t).ctx .bit)).2.1 .bit
      (o.ea (s.task p t).ctx .bit) = .ok a) (hb : s.isBad a = false)
    (hr : (s.task p t).ctx.recorded (bitPlace (o.ea (s.task p t).ctx .bit)).1 (bitPlace (o.ea (s.task p t).ctx .bit)).2.1 = none) :
    s.edge e o f = afterPass (s.wrMem a (putBit (s.rdMem a) (bitPlace (o.ea (s.task p t).ctx .bit)).2.2 (s.task p t).ctx.lr)) p t
      o.words (o.words + 1)
      (record (bitPlace (o.ea (s.task p t).ctx .bit)).1 (bitPlace (o.ea (s.task p t).ctx .bit)).2.1 (s.rdMem a) (o.words + 1))
      { (s.task p t).ctx with
        lr := f (s.task p t).ctx.lr (bitAt (s.rdMem a) (bitPlace (o.ea (s.task p t).ctx .bit)).2.2) } := by
  rw [State.edge, State.issue_ok h (by
    simp only [State.readBit_ok ha hb hr, State.storeBit_ok _ ha hb, Except.bind, Except.map]; rfl)]
  exact State.retire_eq ..

/-- The words of a block that are stored lie in word space. -/
theorem State.storeBlock_record {s : State} {p w clks : Nat} {l : List W} {wr : List MemWr} (h : s.storeBlock p w l = .ok wr)
    (hn : wr ≠ []) :
    recordOf wr clks = some { image := false, words := wr.map (fun k => (k.w, k.old)), next := decide (clks = 1) } := by
  cases l with
  | nil => simp only [State.storeBlock, Except.ok.injEq] at h; exact absurd h.symm hn
  | cons v l =>
    simp only [State.storeBlock, State.storeW, Except.bind, Except.map] at h
    split at h
    · cases h
    · rename_i m hm
      split at hm
      · cases hm
      · cases hm
        split at h
        · cases h
        · cases h; rfl

/-- A block instruction. -/
theorem State.blockOp_ok {s : State} {e p t n x : Nat} {o : Opnd} {ws : List W} {wr : List MemWr}
    (f : Nat → Nat → Bool → List W → List W × Bool) (h : Issues s e p t o.words)
    (hr : s.readBlock (s.task p t).ctx p (o.ea (s.task p t).ctx .word) n = .ok ws)
    (hw : s.storeBlock p (o.ea (s.task p t).ctx .word) (f p t (s.task p t).ctx.lr ws).1 = .ok wr) :
    s.blockOp e n x o f = afterPass (s.landWrites wr) p t o.words (o.words + x) (recordOf wr (o.words + x))
      { (s.task p t).ctx with lr := (f p t (s.task p t).ctx.lr ws).2 } := by
  rw [State.blockOp, State.issue_ok h (by simp only [hr, hw, Except.bind, Except.map]; rfl)]; exact State.retire_eq ..

/-- A call below depth 256. -/
theorem State.call_ok {s : State} {e p t w a : Nat} {d : BitVec 20} (tgt : Ctx → Nat) (h : Issues s e p t w)
    (hs : (s.task p t).ctx.slot = none) (hc : (s.task p t).ctx.csd < 256) (ht : s.target p (tgt (s.task p t).ctx) = .ok d)
    (ha : s.locate p false ((s.ctxBase p t + 256 + (s.task p t).ctx.csd) % 2 ^ 21) .word
      ((s.ctxBase p t + 256 + (s.task p t).ctx.csd) % 2 ^ 21) = .ok a) :
    s.call e w tgt = afterJump (s.wrMem a (BitVec.ofNat 32 (((s.task p t).ctx.p.toNat + w +
        s.lengthAt p ((s.task p t).ctx.p.toNat + w)) % 2 ^ 20))) p t w
      (record false ((s.ctxBase p t + 256 + (s.task p t).ctx.csd) % 2 ^ 21) (s.rdMem a) w)
      { (s.task p t).ctx with csd := (s.task p t).ctx.csd + 1 } (some d) := by
  rw [State.call, State.issueNoSlot_eq h.1 hs, State.issue_ok h (by
    simp only [Nat.not_le.mpr hc, if_false, ht, Except.bind, State.storeW, ha, Except.map]; rfl)]
  exact State.retire_jump ..

/-- A SYS service that issues. -/
theorem State.sys_ok {s : State} {e p t : Nat} (k : State → Nat → Nat → Ctx → State × (Ctx → Ctx)) (h : Issues s e p t 1)
    (hs : (s.task p t).ctx.slot = none) :
    s.sys e k = afterService s (k s p t (s.task p t).ctx).1 p t (k s p t (s.task p t).ctx).2 := by
  simp only [State.sys, h.1, h.2, hs, Option.isSome_none, Bool.false_eq_true, if_false, afterService]

/-- A SYS service in a delay slot. -/
theorem State.sys_slot {s : State} {e p t : Nat} (k : State → Nat → Nat → Ctx → State × (Ctx → Ctx)) (h : Issues s e p t 1)
    (hs : (s.task p t).ctx.slot.isSome = true) : s.sys e k = s.trap e p t (Trap.plain 5) := by
  simp only [State.sys, h.1, h.2, hs, if_true]

end Sys2Proof.Machine
end

