-- ==== Sys2Proof/Laws/Session.lean ====
section
/-!
SUPPORT. What the service port does with a request, once for every OP: it is answered without effect, or it executes (R425, R426, R428).
-/
namespace Sys2Proof.Machine

/-- The state in which a request of the open session is looked at. -/
abbrev State.spTaken (s : State) : State := ({ s with spAt := s.fab } : State).spHeard

/-- Only the outcome counts: executing a request runs it once, on the state it meets. -/
theorem State.execute_const (s : State) (seq op : Nat) (k : State → Answer) : s.execute seq op k = s.execute seq op (fun _ => k s) := rfl

/-- The next request of the open session executes. -/
theorem State.serve_next {s : State} {sess seq : BitVec 16} {op : Nat} (k : State → Answer) (hu : s.spUp = true) (hm : s.mgmt = false)
    (hr : s.supRun = true) (ho : s.spSession ≠ 0) (hs : s.spSession = sess.toNat) (hl : seq.toNat ≠ s.spLast)
    (hn : seq.toNat = (s.spLast + 1) % 65536) : s.serve sess seq op k = s.spTaken.execute seq.toNat op (fun _ => k s.spTaken) := by
  have hd : decide (s.spSession ≠ 0 ∧ s.spSession = sess.toNat) = true := decide_eq_true ⟨ho, hs⟩
  have hu' : ({ s with spAt := s.fab } : State).spUp = true := hu
  have hl' : ¬ seq.toNat = s.spTaken.spLast := hl
  have hn' : seq.toNat = (s.spTaken.spLast + 1) % 65536 := hn
  rw [State.serve, hd]
  simp only [hu, and_self, if_true]
  rw [State.serveAny, if_neg (by rw [hu']; decide), if_neg (by simp [hm]), if_neg (by simp [hr])]
  simp only [Bool.true_eq_false, if_false]
  rw [if_neg hl', if_pos hn', State.execute_const]

/-- A request of another session is answered with STATUS 02. -/
theorem State.serve_other {s : State} {sess seq : BitVec 16} {op : Nat} (k : State → Answer) (hu : s.spUp = true) (hm : s.mgmt = false)
    (hr : s.supRun = true) (ho : s.spSession = 0 ∨ s.spSession ≠ sess.toNat) : s.serve sess seq op k = s.spHeard.reply op 2 [] := by
  have hd : decide (s.spSession ≠ 0 ∧ s.spSession = sess.toNat) = false := decide_eq_false (by rintro ⟨h1, h2⟩; exact ho.elim h1 (fun h => h h2))
  rw [State.serve, hd]
  simp only [Bool.false_eq_true, false_and, if_false]
  rw [State.serveAny, if_neg (by rw [hu]; decide), if_neg (by simp [hm]), if_neg (by simp [hr])]
  simp

/-- A request out of order is answered with STATUS 06. -/
theorem State.serve_order {s : State} {sess seq : BitVec 16} {op : Nat} (k : State → Answer) (hu : s.spUp = true) (hm : s.mgmt = false)
    (hr : s.supRun = true) (ho : s.spSession ≠ 0) (hs : s.spSession = sess.toNat) (hl : seq.toNat ≠ s.spLast)
    (hn : seq.toNat ≠ (s.spLast + 1) % 65536) : s.serve sess seq op k = s.spTaken.reply op 6 [] := by
  have hd : decide (s.spSession ≠ 0 ∧ s.spSession = sess.toNat) = true := decide_eq_true ⟨ho, hs⟩
  have hu' : ({ s with spAt := s.fab } : State).spUp = true := hu
  have hl' : ¬ seq.toNat = s.spTaken.spLast := hl
  have hn' : ¬ seq.toNat = (s.spTaken.spLast + 1) % 65536 := hn
  rw [State.serve, hd]
  simp only [hu, and_self, if_true]
  rw [State.serveAny, if_neg (by rw [hu']; decide), if_neg (by simp [hm]), if_neg (by simp [hr])]
  simp only [Bool.true_eq_false, if_false]
  rw [if_neg hl', if_neg hn']

/-- The next request whose right the grant has executes. -/
theorem State.serveR_next {s : State} {r : Nat} {sess seq : BitVec 16} {op : Nat} (k : State → Answer) (hu : s.spUp = true) (hm : s.mgmt = false)
    (hr : s.supRun = true) (ho : s.spSession ≠ 0) (hs : s.spSession = sess.toNat) (hl : seq.toNat ≠ s.spLast)
    (hn : seq.toNat = (s.spLast + 1) % 65536) (hg : s.spTaken.granted 0x3FE r = true) :
    s.serveR r sess seq op k = s.spTaken.execute seq.toNat op (fun _ => k s.spTaken) := by
  rw [State.serveR, State.serve_next _ hu hm hr ho hs hl hn, if_pos hg]

/-- The next request whose right the grant lacks is answered with STATUS 03. -/
theorem State.serveR_denied {s : State} {r : Nat} {sess seq : BitVec 16} {op : Nat} (k : State → Answer) (hu : s.spUp = true) (hm : s.mgmt = false)
    (hr : s.supRun = true) (ho : s.spSession ≠ 0) (hs : s.spSession = sess.toNat) (hl : seq.toNat ≠ s.spLast)
    (hn : seq.toNat = (s.spLast + 1) % 65536) (hg : s.spTaken.granted 0x3FE r = false) :
    s.serveR r sess seq op k = s.spTaken.execute seq.toNat op (fun _ => (s.spTaken, 3, [])) := by
  rw [State.serveR, State.serve_next _ hu hm hr ho hs hl hn, if_neg (by rw [hg]; decide)]

end Sys2Proof.Machine
end

