-- ==== Sys2Proof/Tests/Slice0.lean ====
section
/-!
SUPPORT. The model's own tests: commands that are well formed and not, small runs of single steps, and for every statement with premises a state and operands that meet
them.
-/
set_option Elab.async false
set_option maxRecDepth 8192

namespace Sys2Proof.Tests

open Sys2Proof Sys2Proof.Machine

/-- The state after reset with some registers set. -/
def withRegs (l : List (Nat × W)) : State := l.foldl (fun (s : State) (e : Nat × W) => s.setReg e.1 e.2) State.reset
/-- Partition 0 in Run, its first program page, data page and image pages mapped (to pages 0, 0, 0 and 1). -/
def mapped : State :=
  { withRegs [(aPD_MODE 0, 2)] with
    trA := [(entryKey 0 0 0, 0x80000000), (entryKey 0 1 0, 0x80000000), (entryKey 0 2 0, 0x80000000), (entryKey 0 2 64, 0x80000001)] }
/-- The same with task `t` of partition `p` running on engine `e`. -/
def runs (e p t : Nat) : State := mapped.setEng e { Eng.zero with run := some (p * 16 + t) }
/-- A state whose next clock brings the Graticule tick of Meridian time 40 µs. -/
def at40 (s : State) : State := { s with mer := 39999 * 2 ^ 32 }
/-- A copy of task 1 of partition 3 that the cycle unit has not begun. -/
def job31 (out : Bool) : CuJob :=
  { out := out, p := 3, t := 1, edge := 0, begun := false, todo := [], cur := [], want := none, vec := [], div := false, built := [],
    hold := none, undo := [] }
/-- Partition 3 in mode `m`, its task 1 enabled with period 20 µs on engine 0, in task state `v`, at Meridian time 40 µs. -/
def task3 (m v : Nat) (l : List (Nat × W)) : State :=
  at40 (withRegs ([(aPD_MODE 3, BitVec.ofNat 32 m), (aTT_CTL 3 1, 0x80000000), (aTT_PERIOD 3 1, 20), (aPD_TSTAT 3 1, BitVec.ofNat 32 v)] ++ l))
/-- Image page 0 is Staged, and all 4,096 image pages are asked for. -/
def stageFull : State :=
  { withRegs [(aTR_ARG0, 0x80030000), (aTR_ARG1, 0x1000), (aPD_MODE 3, 1), (ownAddr 2 0, 0x20030000)] with supRun := true }
/-- A search that finds a page it may not take finds fewer pages than it looks at. -/
theorem pagesWhere_length (q : Nat → Bool) (n i : Nat) : (pagesWhere q n i).length ≤ n := by
  induction n generalizing i with
  | zero => simp [pagesWhere]
  | succ n ih => have := ih (i + 1); simp only [pagesWhere]; split <;> (try simp only [List.length_cons]) <;> omega
theorem pagesWhere_miss (q : Nat → Bool) (n i : Nat) (h : q i = false) : (pagesWhere q (n + 1) i).length < n + 1 := by
  have := pagesWhere_length q n (i + 1)
  simp only [pagesWhere, h]; simp; omega
theorem stageFull_free : (stageFull.freePages stageFull.trKind).length < stageFull.trCount := by
  have h : stageFull.trKind = 2 := by decide +kernel
  have h' : stageFull.trCount = 4095 + 1 := by decide +kernel
  rw [h, h']
  exact pagesWhere_miss _ 4095 0 (by decide +kernel)
theorem stageFull_wit : isVf (0 : BitVec 10).toNat = false ∧ stageFull.rb aTR_CMD_STAT 0 = false ∧ stageFull.mgmt = false ∧
    stageFull.supRun = true ∧ stageFull.trPart < stageFull.fuse.partitions ∧ stageFull.mode stageFull.trPart ≠ 0 ∧
    stageFull.trKind < 3 ∧ stageFull.trCount ≠ 0 ∧
    (stageFull.freePages stageFull.trKind).length < stageFull.trCount :=
  ⟨by decide +kernel, by decide +kernel, by decide +kernel, by decide +kernel, by decide +kernel, by decide +kernel, by decide +kernel,
   by decide +kernel, stageFull_free⟩
/-- The row of `FLT_SEQ`. -/
def fltSeqRow : RegRow := ((regRow aFLT_SEQ).getD ⟨0, [], 0, 0, 0, 0, 0, 0, false⟩)
/-- The state after reset of the smallest variant, which lacks engines, lanes, partitions and controllers. -/
def absent : State := { State.reset with fuse := { State.reset.fuse with variant := .t64s } }
/-- A measurement against the mains of 100 s, one crossing seen. -/
def mains1 : Meas := { mains := true, win := 100, hz60 := false, start := some 0, last := 0, secs := 0, n := 0, e := 0 }
/-- Controller 3 applying a snapshot of valid bit timing. -/
def can3ok : State :=
  { withRegs [(aGCTL_UPDATE_STAT, 8)] with snap := [(aCAN_NBT 3, some 0x00761200), (aCAN_DBT 3, some 0x00120400)] }
/-- The smallest variant with some registers set. -/
def withAbsent (l : List (Nat × W)) : State := l.foldl (fun (s : State) (e : Nat × W) => s.setReg e.1 e.2) absent
/-- The smallest variant with every port configured and a queue commit pending. -/
def allPorts : State := withAbsent ((aQM_COMMIT, 2) :: (List.range 16).map (fun p => (aSW_PORT_CFG p, 0x80000000)))
theorem findRow_reset (l : List RegRow) (a : Nat) (r : RegRow) (h : l.all (fun r => r.reset == 0) = true) (hr : findRow l a = some r) :
    r.reset = 0 := by
  induction l with
  | nil => simp [findRow] at hr
  | cons x l ih =>
    simp only [List.all_cons, Bool.and_eq_true, beq_iff_eq] at h
    simp only [findRow] at hr
    split at hr
    · simp_all
    · exact ih h.2 hr
theorem regRow_table (a : Nat) (h1 : 0x610000 ≤ a) (h2 : a < 0x630000) : regRow a = findRow rowsDt a := by
  unfold regRow regBlocks
  repeat (first | rw [findReg, if_pos (by omega)] | rw [findReg, if_neg (by omega)])
theorem regReset_table (fu : Fuse) (a : Nat) (h1 : 0x610000 ≤ a) (h2 : a < 0x630000) : regReset fu a = 0 := by
  have hp : addrPresent fu a = true := by
    unfold addrPresent
    repeat (first | rw [if_neg (by omega)] | rfl)
  unfold regReset
  rw [if_neg (by omega), if_neg (by omega), hp, if_neg (by simp), if_neg (by omega), if_neg (by simp only [aTR_OWN_DATA, aTR_OWN_IMG]; omega), if_neg (by omega),
    if_neg (by simp only [aQM_POOL]; omega), if_neg (by simp only [aSP_MAC_LO]; omega), if_neg (by simp only [aSP_MAC_HI]; omega),
    if_neg (by simp only [aTR_FREE_PROG]; omega), if_neg (by simp only [aTR_FREE_DATA]; omega), if_neg (by simp only [aTR_FREE_IMG]; omega), regRow_table a h1 h2]
  split
  · rename_i r hr
    rw [findRow_reset rowsDt a r (by decide) hr]; rfl
  · rfl
/-- A state whose idle decode table, number 1, holds identifier 7 and CRC register `c`. -/
def idle7 (c : W) : State := { absent with regs := [(aDT_ID1, 7), (aDT_CRC1, c)] }
theorem idle7_word (c : W) (a : Nat) (h1 : 0x610000 ≤ a) (h2 : a < 0x630000) : (idle7 c).reg a = 0 := by
  simp only [State.reg, idle7, FMap.get, FMap.find?]
  rw [if_neg (by simp only [aDT_ID1]; omega), if_neg (by simp only [aDT_CRC1]; omega)]
  simp only [Option.getD_none]
  exact regReset_table _ a h1 h2
theorem idle7_entry (c : W) (e : Nat) (he : e < 64) : (idle7 c).dtEntry 1 e = List.replicate 64 0 := by
  rw [State.dtEntry, List.eq_replicate_iff]
  refine ⟨by simp, fun x hx => ?_⟩
  obtain ⟨i, hi, rfl⟩ := List.mem_map.1 hx
  have := List.mem_range.1 hi
  exact idle7_word c _ (by simp only [aENT_HDR]; omega) (by simp only [aENT_HDR]; omega)
theorem idle7_crc (c : W) : (idle7 c).dtCrcOf 1 = (idle7 0).dtCrcOf 1 := by
  have : (idle7 c).reg (aDtId 1) = (idle7 0).reg (aDtId 1) := rfl
  have h : (List.range 64).flatMap (fun e => ((idle7 c).dtEntry 1 e).flatMap bytesOf) = (List.range 64).flatMap (fun e => ((idle7 0).dtEntry 1 e).flatMap bytesOf) := by
    rw [List.flatMap_def, List.flatMap_def, List.map_congr_left]
    intro e he
    rw [idle7_entry c e (List.mem_range.1 he), idle7_entry 0 e (List.mem_range.1 he)]
  rw [State.dtCrcOf, State.dtCrcOf, this, h]
theorem idle7_reg (c : W) (a : Nat) (h1 : a ≠ aDT_ID1) (h2 : a ≠ aDT_CRC1) : (idle7 c).reg a = regReset absent.fuse a := by
  simp [State.reg, idle7, FMap.get, FMap.find?, Ne.symm h1, Ne.symm h2]
theorem idle7_wit : isVf (0 : BitVec 10).toNat = false ∧ (idle7 ((idle7 0).dtCrcOf 1)).dtPending = false ∧
    (idle7 ((idle7 0).dtCrcOf 1)).reg (aDtId (1 - (idle7 ((idle7 0).dtCrcOf 1)).dtActive)) ≠ 0 ∧
    (idle7 ((idle7 0).dtCrcOf 1)).dtCrcOf (1 - (idle7 ((idle7 0).dtCrcOf 1)).dtActive) =
      (idle7 ((idle7 0).dtCrcOf 1)).reg (aDtCrc (1 - (idle7 ((idle7 0).dtCrcOf 1)).dtActive)) ∧
    (∀ e < 64, FMap.get (fun _ => false) (idle7 ((idle7 0).dtCrcOf 1)).dtBad ((1 - (idle7 ((idle7 0).dtCrcOf 1)).dtActive) * 64 + e) = false) ∧
    (idle7 ((idle7 0).dtCrcOf 1)).dtMalformed (1 - (idle7 ((idle7 0).dtCrcOf 1)).dtActive) = none ∧
    ((idle7 ((idle7 0).dtCrcOf 1)).reg (aDtId (1 - (idle7 ((idle7 0).dtCrcOf 1)).dtActive)) ≠ (idle7 ((idle7 0).dtCrcOf 1)).reg aDT_ACTIVE_ID ∨
      ∀ e < 64, (idle7 ((idle7 0).dtCrcOf 1)).dtChanges e = false) ∧
    (idle7 ((idle7 0).dtCrcOf 1)).dtBlocked = [] := by
  generalize hc : (idle7 0).dtCrcOf 1 = c
  have ha : 1 - (idle7 c).dtActive = 1 := by
    rw [State.dtActive, State.rf, idle7_reg c _ (by decide) (by decide)]; decide +kernel
  have hi : (idle7 c).reg (aDtId 1) = 7 := rfl
  have hr : (idle7 c).runningParts = [] := rfl
  rw [ha, hi, idle7_crc, hc, State.dtPending, State.rb, idle7_reg c aDT_STAT (by decide) (by decide), idle7_reg c aDT_ACTIVE_ID (by decide) (by decide)]
  refine ⟨by decide, by decide +kernel, by decide, rfl, fun _ _ => rfl, ?_, .inl (by decide +kernel), ?_⟩
  · rw [State.dtMalformed, List.find?_eq_none]
    intro e he
    rw [idle7_entry c e (List.mem_range.1 he)]; decide
  · rw [State.dtBlocked, hr]; simp
theorem dtBlocked_idle (s : State) (h : s.runningParts = []) : s.dtBlocked = [] := by rw [State.dtBlocked, h]; simp
theorem regRow_stage (a : Nat) (h1 : 0xC1000 ≤ a) (h2 : a < 0xC1260) : regRow a = findRow rowsSf a := by
  unfold regRow regBlocks
  repeat (first | rw [findReg, if_pos (by omega)] | rw [findReg, if_neg (by omega)])
theorem regReset_stage (fu : Fuse) (a : Nat) (h1 : 0xC1000 ≤ a) (h2 : a < 0xC1260) : regReset fu a = 0 := by
  unfold regReset
  rw [if_neg (by omega), if_neg (by omega)]
  split
  · rfl
  rw [if_neg (by omega), if_neg (by simp only [aTR_OWN_DATA, aTR_OWN_IMG]; omega), if_neg (by omega),
    if_neg (by simp only [aQM_POOL]; omega), if_neg (by simp only [aSP_MAC_LO]; omega), if_neg (by simp only [aSP_MAC_HI]; omega),
    if_neg (by simp only [aTR_FREE_PROG]; omega), if_neg (by simp only [aTR_FREE_DATA]; omega), if_neg (by simp only [aTR_FREE_IMG]; omega), regRow_stage a h1 h2]
  split
  · rename_i r hr
    rw [findRow_reset rowsSf a r (by decide) hr]; rfl
  · rfl
/-- The safety unit with a staged set that uses nothing, its test pulse period 100 ms and its CRC register `c`, and its right granted to PF0. -/
def staged0 (c : W) : State := { State.reset with regs := [(aAU_GRANT, 1), (0xC1248, 100), (0xC125C, c)] }
theorem staged0_stg (c : W) (o : Nat) (h : o < 0x25C) (h' : o ≠ 0x248) : (staged0 c).stg o = 0 := by
  simp only [State.stg, State.reg, staged0, FMap.get, FMap.find?]
  rw [if_neg (by simp only [aAU_GRANT]; omega), if_neg (by omega), if_neg (by omega)]
  exact regReset_stage _ _ (by omega) (by omega)
theorem staged0_tp (c : W) : (staged0 c).stg 0x248 = 100 := by
  simp [State.stg, State.reg, staged0, FMap.get, FMap.find?, aAU_GRANT]
theorem staged0_crc (c : W) : (staged0 c).stgCrc = (staged0 0).stgCrc := by
  have h : (List.range 151).flatMap (fun i => bytesOf ((staged0 c).stg (4 * i))) = (List.range 151).flatMap (fun i => bytesOf ((staged0 0).stg (4 * i))) := by
    rw [List.flatMap_def, List.flatMap_def, List.map_congr_left]
    intro i hi
    have := List.mem_range.1 hi
    by_cases h8 : 4 * i = 0x248
    · rw [h8, staged0_tp, staged0_tp]
    · rw [staged0_stg c _ (by omega) h8, staged0_stg 0 _ (by omega) h8]
  rw [State.stgCrc, State.stgCrc, h]
theorem staged0_reg (c : W) (a : Nat) (h1 : a ≠ aAU_GRANT) (h2 : a ≠ 0xC125C) (h3 : a ≠ 0xC1248) : (staged0 c).reg a = regReset State.reset.fuse a := by
  simp [State.reg, staged0, FMap.get, FMap.find?, Ne.symm h1, Ne.symm h2, Ne.symm h3]
theorem staged0_fn (c : W) (f : Nat) (hf : f < 16) : (staged0 c).stgFn f = true := by
  have z : ∀ o, o < 0x248 → (staged0 c).stg o = 0 := fun o h => staged0_stg c o (by omega) (by omega)
  have hc : ∀ g, g < 16 → (staged0 c).stgChans g = [] := by
    intro g hg; rw [State.stgChans, z (0x20 * g) (by omega)]; rfl
  have hr : ∀ g, g < 16 → (staged0 c).stgReset g = [] := by
    intro g hg; rw [State.stgReset, z (0x20 * g) (by omega)]; rfl
  have hd : (staged0 c).stgFeeds f = [] := by rw [State.stgFeeds, z (0x20 * f) (by omega)]; rfl
  have h1 : ((List.range f).any fun g => ((staged0 c).stgChans g).any ([] : List Nat).contains) = false := by
    rw [List.any_eq_false]; intro g hg; rw [hc g (by have := List.mem_range.1 hg; omega)]; simp
  have h2 : (sfAll.any fun g => ((staged0 c).stgReset g).any ([] : List Nat).contains) = false := by
    rw [List.any_eq_false]; intro g hg; rw [hr g (by have := List.mem_range.1 hg; omega)]; simp
  rw [State.stgFn]
  simp only [hc f hf, hd, h1, h2, z (0x20 * f) (by omega), z (0x20 * f + 4) (by omega), z (0x20 * f + 8) (by omega), z (0x20 * f + 0xC) (by omega),
    z (0x20 * f + 0x10) (by omega), z (0x20 * f + 0x14) (by omega), List.all_nil]
  decide
theorem staged0_unit (c : W) : (staged0 c).rb aSF_BSTAT 1 = false ∧ (staged0 c).rb aSF_BSTAT 0 = false ∧ (staged0 c).granted 0 0 = true ∧
    (staged0 c).rb aSF_CMD_STAT 0 = false ∧ (staged0 c).ustate ≤ 1 := by
  have hg : (staged0 c).regFor 0 aAU_GRANT = 1 := by simp [State.regFor, State.reg, staged0, FMap.get, FMap.find?]
  refine ⟨?_, ?_, by rw [State.granted, hg]; decide, ?_, ?_⟩
  · rw [State.rb, staged0_reg c _ (by decide) (by decide) (by decide)]; decide +kernel
  · rw [State.rb, staged0_reg c _ (by decide) (by decide) (by decide)]; decide +kernel
  · rw [State.rb, staged0_reg c _ (by decide) (by decide) (by decide)]; decide +kernel
  · rw [State.ustate, State.rf, staged0_reg c _ (by decide) (by decide) (by decide)]; decide +kernel
theorem staged0_sq (c : W) (n : Nat) (hn : n < 8) : (staged0 c).stgSq n = true := by
  have hb : bitAt (0 : W) 31 = false := by decide
  rw [State.stgSq, staged0_stg c (0x200 + 8 * n) (by omega) (by omega), staged0_stg c (0x204 + 8 * n) (by omega) (by omega), hb]
  rfl
theorem staged0_global (c : W) : (staged0 c).stgGlobal = true := by
  simp only [State.stgGlobal, State.stgWidth, staged0_stg c 0x24C (by omega) (by omega), staged0_stg c 0x244 (by omega) (by omega), staged0_tp c,
    staged0_stg c 0x250 (by omega) (by omega), staged0_stg c 0x254 (by omega) (by omega), staged0_stg c 0x258 (by omega) (by omega)]
  decide
theorem staged0_fns (c : W) : sfAll.find? (fun f => !(staged0 c).stgFn f) = none := by
  rw [List.find?_eq_none]; intro f hf; rw [staged0_fn c f (List.mem_range.1 hf)]; simp
theorem staged0_sqs (c : W) : sqAll.find? (fun n => !(staged0 c).stgSq n) = none := by
  rw [List.find?_eq_none]; intro n hn; rw [staged0_sq c n (List.mem_range.1 hn)]; simp
theorem staged0_good (c : W) : (staged0 c).stgBad = none := by
  have h1 := staged0_fns c
  have h2 := staged0_sqs c
  have h3 := staged0_global c
  generalize staged0 c = s at *
  unfold State.stgBad
  rw [h1]
  simp only [h2, h3, if_true]
theorem staged0_owned (c : W) : (staged0 c).stgOwned = true := by
  have z : ∀ o, o < 0x248 → (staged0 c).stg o = 0 := fun o h => staged0_stg c o (by omega) (by omega)
  rw [State.stgOwned, List.all_eq_true]
  intro f hf
  have := List.mem_range.1 hf
  have h1 : (staged0 c).stgChans f = [] := by rw [State.stgChans, z (0x20 * f) (by omega)]; rfl
  have h2 : (staged0 c).stgReset f = [] := by rw [State.stgReset, z (0x20 * f) (by omega)]; rfl
  rw [h1, h2]; rfl
theorem staged0_last (c : W) : (staged0 c).stg 0x25C = c := by
  simp [State.stg, State.reg, staged0, FMap.get, FMap.find?, aAU_GRANT]
theorem staged0_wit (c : W) (hc : (staged0 0).stgCrc = c) : ((staged0 c).fuse.field = true) ∧ (isVf (0 : BitVec 10).toNat = false) ∧ ((staged0 c).rb aSF_BSTAT 1 = false) ∧
    ((staged0 c).rb aSF_BSTAT 0 = false) ∧ ((staged0 c).granted (0 : BitVec 10).toNat 0 = true) ∧
    ((staged0 c).rb aSF_CMD_STAT 0 = false) ∧ ((staged0 c).ustate ≤ 1) ∧ ((staged0 c).stgCrc = (staged0 c).stg 0x25C) ∧
    ((staged0 c).stgBad = none) ∧ ((staged0 c).stgOwned = true) := by
  obtain ⟨h1, h2, h3, h4, h5⟩ := staged0_unit c
  exact ⟨rfl, by decide, h1, h2, h3, h4, h5, by rw [staged0_crc, hc, staged0_last], staged0_good c, staged0_owned c⟩

/-- States and operands that meet the premises of the clauses of `Obligations.StepTakesTheFrontCommand`. -/
theorem witness_StepTakesTheFrontCommand :
    (∃ (c : Instr) (rest : List Instr) (s : State), s.pending = c :: rest) ∧
    (∃ s : State, s.pending = []) :=
  ⟨⟨.vaoPowerOn true, [], { State.reset with pending := [.vaoPowerOn true] }, rfl⟩,
   ⟨State.reset, rfl⟩⟩

/-- States and operands that meet the premises of the clauses of `Obligations.PartitionCommandResult`. -/
theorem witness_PartitionCommandResult :
    (∃ (s : State) (src : BitVec 10) (p : BitVec 9) (q : Nat), (CommandOpen s src p q) ∧ (s.mode q = 1) ∧ ((s.runWaits q = true ∨ s.startMismatch q = false))) ∧
    (∃ (s : State) (src : BitVec 10) (p : BitVec 9) (q : Nat), (CommandOpen s src p q) ∧ (s.mode q = 1) ∧ (s.runWaits q = false) ∧ (s.startMismatch q = true)) ∧
    (∃ (s : State) (src : BitVec 10) (p : BitVec 9) (q : Nat), (CommandOpen s src p q) ∧ (s.mode q ≠ 1)) ∧
    (∃ (s : State) (src : BitVec 10) (p : BitVec 9) (q : Nat), (CommandOpen s src p q) ∧ ((s.mode q = 2 ∨ s.mode q = 3)) ∧ (s.inPause q = false)) ∧
    (∃ (s : State) (src : BitVec 10) (p : BitVec 9) (q : Nat), (CommandOpen s src p q) ∧ (s.mode q ≠ 2) ∧ (s.mode q ≠ 3)) ∧
    (∃ (s : State) (src : BitVec 10) (p : BitVec 9) (q : Nat), (CommandOpen s src p q) ∧ (s.mode q = 2) ∧ (s.holdRefusal q = none) ∧ (s.inPause q = false)) ∧
    (∃ (s : State) (src : BitVec 10) (p : BitVec 9) (q : Nat) (n : Nat), (CommandOpen s src p q) ∧ (s.mode q = 2) ∧ (s.holdRefusal q = some n)) ∧
    (∃ (s : State) (src : BitVec 10) (p : BitVec 9) (q : Nat), (CommandOpen s src p q) ∧ (s.mode q ≠ 2)) ∧
    (∃ (s : State) (src : BitVec 10) (p : BitVec 9) (q : Nat), (CommandOpen s src p q) ∧ (s.mode q = 3)) ∧
    (∃ (s : State) (src : BitVec 10) (p : BitVec 9) (q : Nat), (CommandOpen s src p q) ∧ (s.mode q ≠ 3)) ∧
    (∃ (s : State) (src : BitVec 10) (p : BitVec 9) (q : Nat) (arg : Byte) (n : Nat), (CommandOpen s src p q) ∧ (s.mode q = 3) ∧ (arg.toNat < 16) ∧ (taskEntry arg.toNat = some n) ∧ (s.tstate q n ≠ tOff) ∧ (s.inPause q = false) ∧ ((n ≠ 8 ∨ (s.task q n).heldMid = true ∨ s.editPending q = false)) ∧ ((n = 8 ∨ (s.task q n).heldMid = true ∨ s.otherMid q n = false))) ∧
    (∃ (s : State) (src : BitVec 10) (p : BitVec 9) (q : Nat) (arg : Byte), (CommandOpen s src p q) ∧ (s.mode q = 3) ∧ ((16 ≤ arg.toNat ∨ taskEntry arg.toNat = none))) ∧
    (∃ (s : State) (src : BitVec 10) (p : BitVec 9) (q : Nat), (CommandOpen s src p q) ∧ (s.mode q ≠ 3)) ∧
    (∃ (s : State) (src : BitVec 10) (p : BitVec 9) (q : Nat), (ReachesPart s src p q) ∧ (s.rb (aPD_CMD_STAT q) 0 = true)) ∧
    (∃ (s : State) (src : BitVec 10) (p : BitVec 9) (q : Nat), (ReachesPart s src p q) ∧ (isVf src.toNat = false) ∧ (s.mode q = 1)) ∧
    (∃ (s : State) (src : BitVec 10) (p : BitVec 9) (q : Nat), (ReachesPart s src p q) ∧ (isVf src.toNat = false) ∧ (s.mode q ≠ 1)) ∧
    (∃ (s : State) (p : Nat) (cause : Nat), (Canonical s) ∧ (p < 512) ∧ (cause < 256) ∧ (s.mode p = 2) ∧ (s.pairPart p = false)) :=
  ⟨⟨withRegs ([(aPD_MODE 3, 1)]), 0, 3, 3, by decide +kernel⟩,
   ⟨withRegs ([(aPD_MODE 3, 1)] ++ [(aHDR_TABLE_ID 3, 5)]), 0, 3, 3, by decide +kernel⟩,
   ⟨withRegs ([(aPD_MODE 3, 2)]), 0, 3, 3, by decide +kernel⟩,
   ⟨withRegs ([(aPD_MODE 3, 3)]), 0, 3, 3, by decide +kernel⟩,
   ⟨withRegs ([(aPD_MODE 3, 1)]), 0, 3, 3, by decide +kernel⟩,
   ⟨withRegs ([(aPD_MODE 3, 2)]), 0, 3, 3, by decide +kernel⟩,
   ⟨withRegs ([(aPD_MODE 3, 2)] ++ [(aPD_OPT 3, 4)]), 0, 3, 3, 3, by decide +kernel⟩,
   ⟨withRegs ([(aPD_MODE 3, 1)]), 0, 3, 3, by decide +kernel⟩,
   ⟨withRegs ([(aPD_MODE 3, 3)]), 0, 3, 3, by decide +kernel⟩,
   ⟨withRegs ([(aPD_MODE 3, 2)]), 0, 3, 3, by decide +kernel⟩,
   ⟨withRegs ([(aPD_MODE 3, 3)] ++ [(aPD_TSTAT 3 2, 7)]), 0, 3, 3, 2, 2, by decide +kernel⟩,
   ⟨withRegs ([(aPD_MODE 3, 3)]), 0, 3, 3, 9, by decide +kernel⟩,
   ⟨withRegs ([(aPD_MODE 3, 2)]), 0, 3, 3, by decide +kernel⟩,
   ⟨withRegs ([(aPD_MODE 3, 2)] ++ [(aPD_CMD_STAT 3, 1)]), 0, 3, 3, by decide +kernel⟩,
   ⟨withRegs ([(aPD_MODE 3, 1)]), 0, 3, 3, by decide +kernel⟩,
   ⟨withRegs ([(aPD_MODE 3, 2)]), 0, 3, 3, by decide +kernel⟩,
   ⟨runs 0 0 0, 0, 4, by decide +kernel⟩⟩

/-- States and operands that meet the premises of the clauses of `Obligations.TableCommitsResult`. -/
theorem witness_TableCommitsResult :
    (∃ (src : BitVec 10), (isVf src.toNat = false)) ∧
    (∃ (s : State) (dt : Nat) (p : Nat) (t : Nat) (r : Nat), ((s.elapse dt).onTick = true) ∧ ((s.elapse dt).rb aDSP_COMMIT 1 = true) ∧ ((s.elapse dt).checkTables (s.elapse dt).created = some (p, t, r))) ∧
    (∃ (s : State) (dt : Nat), ((s.elapse dt).onTick = true) ∧ ((s.elapse dt).rb aDSP_COMMIT 1 = true) ∧ ((s.elapse dt).checkTables (s.elapse dt).created = none)) ∧
    (∃ (s : State) (src : BitVec 10), (isVf src.toNat = false) ∧ (s.dtPending = true)) ∧
    (∃ (s : State) (src : BitVec 10), (isVf src.toNat = false) ∧ (s.dtPending = false) ∧ (s.reg (aDtId (1 - s.dtActive)) = 0)) ∧
    (∃ (s : State) (src : BitVec 10), (isVf src.toNat = false) ∧ (s.dtPending = false) ∧ (s.reg (aDtId (1 - s.dtActive)) ≠ 0) ∧ (s.dtCrcOf (1 - s.dtActive) = s.reg (aDtCrc (1 - s.dtActive))) ∧ ((∀ e < 64, FMap.get (fun _ => false) s.dtBad ((1 - s.dtActive) * 64 + e) = false)) ∧ (s.dtMalformed (1 - s.dtActive) = none) ∧ ((s.reg (aDtId (1 - s.dtActive)) ≠ s.reg aDT_ACTIVE_ID ∨ ∀ e < 64, s.dtChanges e = false)) ∧ (s.dtBlocked = [])) ∧
    (∃ (s : State) (dt : Nat), ((s.elapse dt).onTick = true) ∧ ((s.elapse dt).dtPending = true) ∧ ((s.elapse dt).dtBlocked = [])) ∧
    (∃ (s : State) (dt : Nat), ((s.elapse dt).onTick = true) ∧ ((s.elapse dt).dtPending = true) ∧ ((s.elapse dt).dtBlocked ≠ [])) :=
  ⟨⟨0, by decide +kernel⟩,
   ⟨((withRegs [(aPD_MODE 3, 1), (aDSP_COMMIT, 2)]).setPnd (aTT_CTL 3 1) 0x80000000), 800, 3, 1, 2, by decide +kernel⟩,
   ⟨withRegs [(aPD_MODE 3, 1), (aDSP_COMMIT, 2)], 800, by decide +kernel⟩,
   ⟨withRegs [(aDT_STAT, 2)], 0x3FE, by decide +kernel⟩,
   ⟨State.reset, 0, by decide +kernel⟩,
   ⟨idle7 ((idle7 0).dtCrcOf 1), 0, idle7_wit⟩,
   ⟨withRegs [(aDT_STAT, 2), (aDT_ID1, 7)], 800, ⟨by decide +kernel, by decide +kernel, dtBlocked_idle _ (by decide +kernel)⟩⟩,
   ⟨withRegs [(aDT_STAT, 2), (aPD_MODE 3, 2), (aENT_HDR 1 0, 0x80000000), (aHDR_USED_LO 3, 1)], 800, by decide +kernel⟩⟩

/-- States and operands that meet the premises of the clauses of `Obligations.PassesAndReleasesResult`. -/
theorem witness_PassesAndReleasesResult :
    (∃ (s : State) (e : BitVec 7) (k : Nat), ((s.eng e.toNat).run = some k) ∧ (s.outranked e.toNat k = true)) ∧
    (∃ (s : State) (e : BitVec 7) (k : Nat), ((s.eng e.toNat).run = some k) ∧ (s.outranked e.toNat k = false)) ∧
    (∃ (s : State) (e : BitVec 7) (k : Nat), ((s.eng e.toNat).sw = some k) ∧ (s.tstate (k / 16) (k % 16) = tReady)) ∧
    (∃ (s : State) (e : BitVec 7) (k : Nat) (r : State), ((s.eng e.toNat).sw = some k) ∧ (s.tstate (k / 16) (k % 16) = tPreempted) ∧ (s.restoreCtx (k / 16) (k % 16) = some r)) ∧
    (∃ (s : State) (e : BitVec 7) (k : Nat), ((s.eng e.toNat).sw = some k) ∧ (s.tstate (k / 16) (k % 16) = tPreempted) ∧ (s.restoreCtx (k / 16) (k % 16) = none)) ∧
    (∃ (s : State) (e : BitVec 7) (k : Nat), ((s.eng e.toNat).sw = some k) ∧ (s.tstate (k / 16) (k % 16) = tHeld) ∧ ((s.task (k / 16) (k % 16)).stepping = true)) ∧
    (∃ (s : State) (e : BitVec 7) (k : Nat), ((s.eng e.toNat).run = some k) ∧ (s.mode (k / 16) = 2) ∧ ((s.part (k / 16)).brk.any (fun b => b.2 == (s.task (k / 16) (k % 16)).ctx.p) = true) ∧ ((s.task (k / 16) (k % 16)).ctx.slot = none) ∧ ((s.task (k / 16) (k % 16)).passBrk = false) ∧ (s.holdRefusal (k / 16) = none)) ∧
    (∃ (s : State) (p : BitVec 9) (dt : Nat), ((s.elapse dt).onTick = true) ∧ (((s.elapse dt).part (p.toNat)).cmd = some .run) ∧ ((s.elapse dt).mode (p.toNat) = 1) ∧ ((s.elapse dt).runWaits (p.toNat) = false) ∧ ((s.elapse dt).fatal = false) ∧ ((s.elapse dt).startMismatch (p.toNat) = false)) ∧
    (∃ (s : State) (p : BitVec 9) (dt : Nat), ((s.elapse dt).onTick = true) ∧ (((s.elapse dt).part (p.toNat)).cmd = some .run) ∧ ((s.elapse dt).mode (p.toNat) = 1) ∧ ((s.elapse dt).runWaits (p.toNat) = false) ∧ ((s.elapse dt).fatal = false) ∧ ((s.elapse dt).startMismatch (p.toNat) = true)) ∧
    (∃ (s : State) (p : BitVec 9) (dt : Nat), ((s.elapse dt).onTick = true) ∧ (((s.elapse dt).part (p.toNat)).cmd = some .resume) ∧ ((s.elapse dt).mode (p.toNat) = 3) ∧ ((s.elapse dt).inPause (p.toNat) = false) ∧ ((s.elapse dt).fatal = false)) ∧
    (∃ (s : State) (p : BitVec 9) (t : BitVec 3) (dt : Nat), ((s.elapse dt).onTick = true) ∧ ((s.elapse dt).onGrid (p.toNat) (t.toNat) (s.elapse dt).grid = true) ∧ ((s.elapse dt).mode (p.toNat) = 2) ∧ ((s.elapse dt).fatal = false) ∧ (((s.elapse dt).task (p.toNat) (t.toNat)).notBefore.toNat < (s.elapse dt).grid.toNat) ∧ ((s.elapse dt).standbyCopy (p.toNat) = false) ∧ ((s.elapse dt).tstate (p.toNat) (t.toNat) = tIdle) ∧ ((s.elapse dt).inPause (p.toNat) = false) ∧ ((s.elapse dt).ruCap.contains ((p.toNat) * 16 + (t.toNat)) = false)) ∧
    (∃ (s : State) (p : BitVec 9) (t : BitVec 3) (dt : Nat), ((s.elapse dt).onTick = true) ∧ ((s.elapse dt).onGrid (p.toNat) (t.toNat) (s.elapse dt).grid = true) ∧ ((s.elapse dt).mode (p.toNat) = 2) ∧ ((s.elapse dt).fatal = false) ∧ (((s.elapse dt).task (p.toNat) (t.toNat)).notBefore.toNat < (s.elapse dt).grid.toNat) ∧ ((s.elapse dt).standbyCopy (p.toNat) = false) ∧ ((s.elapse dt).tstate (p.toNat) (t.toNat) = tIdle) ∧ ((s.elapse dt).inPause (p.toNat) = true)) ∧
    (∃ (s : State) (p : BitVec 9) (t : BitVec 3) (dt : Nat), ((s.elapse dt).onTick = true) ∧ ((s.elapse dt).onGrid (p.toNat) (t.toNat) (s.elapse dt).grid = true) ∧ ((s.elapse dt).mode (p.toNat) = 2) ∧ ((s.elapse dt).fatal = false) ∧ (((s.elapse dt).task (p.toNat) (t.toNat)).notBefore.toNat < (s.elapse dt).grid.toNat) ∧ ((s.elapse dt).standbyCopy (p.toNat) = false) ∧ (tInput ≤ (s.elapse dt).tstate (p.toNat) (t.toNat)) ∧ ((s.elapse dt).tstate (p.toNat) (t.toNat) ≤ tOutput)) ∧
    (∃ (s : State) (p : BitVec 9) (t : BitVec 4) (steps : Nat) (dt : Nat) (j : CuJob), ((s.elapse dt).cuFirst = some j) ∧ ((s.elapse dt).moverUp = true) ∧ (j.out = false) ∧ (j.p = (p.toNat)) ∧ (j.t = (t.toNat)) ∧ ((s.elapse dt).tstate (p.toNat) (t.toNat) = tInput) ∧ ((((s.elapse dt).finishOthers j).cuRun (((s.elapse dt).finishOthers j).cuBegin j) steps).2.cur = []) ∧ ((((s.elapse dt).finishOthers j).cuRun (((s.elapse dt).finishOthers j).cuBegin j) steps).2.todo = [])) ∧
    (∃ (s : State) (p : BitVec 9) (t : BitVec 4) (steps : Nat) (dt : Nat) (j : CuJob), ((s.elapse dt).cuFirst = some j) ∧ ((s.elapse dt).moverUp = true) ∧ (j.out = false) ∧ (j.p = (p.toNat)) ∧ (j.t = (t.toNat)) ∧ ((s.elapse dt).tstate (p.toNat) (t.toNat) = tInput) ∧ (((((s.elapse dt).finishOthers j).cuRun (((s.elapse dt).finishOthers j).cuBegin j) steps).2.cur ≠ [] ∨ (((s.elapse dt).finishOthers j).cuRun (((s.elapse dt).finishOthers j).cuBegin j) steps).2.todo ≠ []))) ∧
    (∃ (s : State) (p : BitVec 9) (t : BitVec 4) (steps : Nat) (dt : Nat) (j : CuJob), ((s.elapse dt).cuFirst = some j) ∧ ((s.elapse dt).moverUp = true) ∧ (j.out = true) ∧ (j.p = (p.toNat)) ∧ (j.t = (t.toNat)) ∧ ((s.elapse dt).tstate (p.toNat) (t.toNat) = tOutput) ∧ ((((s.elapse dt).finishOthers j).cuRun (((s.elapse dt).finishOthers j).cuBegin j) steps).2.cur = []) ∧ ((((s.elapse dt).finishOthers j).cuRun (((s.elapse dt).finishOthers j).cuBegin j) steps).2.todo = [])) ∧
    (∃ (s : State) (p : BitVec 9) (t : BitVec 4) (dt : Nat) (j : CuJob), ((s.elapse dt).cuFirst = some j) ∧ ((s.elapse dt).moverUp = true) ∧ ((j.p ≠ (p.toNat) ∨ j.t ≠ (t.toNat)))) ∧
    (∃ (s : State) (j : CuJob), (s.pairPart j.p = false)) ∧
    (∃ (s : State) (j : CuJob), (s.shadowPass j.p j.t = false) ∧ (((s.sendOut j.p j.t j.built).passDone j.p j.t).pairPart j.p = true) ∧ (((s.sendOut j.p j.t j.built).passDone j.p j.t).ruRole = 3) ∧ (j.t ≠ 8)) ∧
    (∃ (s : State) (p : BitVec 9) (t : BitVec 4) (dt : Nat) (d : W64), (((s.elapse dt).task (p.toNat) (t.toNat)).limit = some d) ∧ ((s.elapse dt).mode (p.toNat) = 2) ∧ (tInput ≤ (s.elapse dt).tstate (p.toNat) (t.toNat)) ∧ ((s.elapse dt).tstate (p.toNat) (t.toNat) ≤ tOutput) ∧ (d.toNat ≤ ((s.elapse dt).ptime (p.toNat)).toNat) ∧ ((s.elapse dt).rb (aPD_EVT (p.toNat)) 2 = false)) ∧
    (∃ (s : State) (p : BitVec 9) (t : BitVec 4) (dt : Nat), (((s.elapse dt).task (p.toNat) (t.toNat)).limit = none)) ∧
    (∃ (s : State) (p : BitVec 9) (dt : Nat), ((s.elapse dt).mode (p.toNat) = 1) ∧ (((s.elapse dt).part (p.toNat)).stopping = true) ∧ ((s.elapse dt).allOff (p.toNat) = true) ∧ ((s.elapse dt).moverUp = true) ∧ (((s.elapse dt).part (p.toNat)).sending = .stop) ∧ (((((s.elapse dt).stopChannels (p.toNat) 27 26).setPart (p.toNat) { ((s.elapse dt).stopChannels (p.toNat) 27 26).part (p.toNat) with stopping := false }).part (p.toNat)).cmd = some .stop)) ∧
    (∃ (s : State) (p : BitVec 9) (dt : Nat), ((s.elapse dt).mode (p.toNat) = 1) ∧ (((s.elapse dt).part (p.toNat)).stopping = true) ∧ ((s.elapse dt).allOff (p.toNat) = true) ∧ ((s.elapse dt).moverUp = true) ∧ (((s.elapse dt).part (p.toNat)).sending ≠ .stop) ∧ (((((s.elapse dt).stopChannels (p.toNat) 29 28).setPart (p.toNat) { ((s.elapse dt).stopChannels (p.toNat) 29 28).part (p.toNat) with stopping := false }).part (p.toNat)).cmd = none)) ∧
    (∃ (s : State) (p : BitVec 9) (t : BitVec 3) (dt : Nat), ((s.elapse dt).mode (p.toNat) = 1) ∧ (((s.elapse dt).part (p.toNat)).stopping = false) ∧ (((s.elapse dt).part (p.toNat)).sending ≠ .none) ∧ ((s.elapse dt).onTick = true) ∧ ((s.elapse dt).onGrid (p.toNat) (t.toNat) (s.elapse dt).grid = true) ∧ ((s.elapse dt).moverUp = true)) ∧
    (∃ (s : State) (p : BitVec 9) (t : BitVec 3) (dt : Nat), ((s.elapse dt).mode (p.toNat) = 3) ∧ (((s.elapse dt).part (p.toNat)).sending = .held) ∧ ((s.elapse dt).onTick = true) ∧ ((s.elapse dt).onGrid (p.toNat) (t.toNat) (s.elapse dt).grid = true) ∧ ((s.elapse dt).moverUp = true)) :=
  ⟨⟨((runs 0 0 0).setReg (aPD_TSTAT 0 1) 3).setTask 0 1 { Task.zero with relAt := 5 } |>.setTask 0 0 { Task.zero with prio := 3 }, 0, 0, by decide +kernel⟩,
   ⟨runs 0 0 0, 0, 0, by decide +kernel⟩,
   ⟨((withRegs [(aPD_TSTAT 0 1, 3)]).setEng 0 { Eng.zero with sw := some 1 }), 0, 1, by decide +kernel⟩,
   ⟨((mapped.setReg (aPD_TSTAT 0 0) 5).setEng 0 { Eng.zero with sw := some 0 }), 0, 0, (((mapped.setReg (aPD_TSTAT 0 0) 5).setEng 0 { Eng.zero with sw := some 0 }).restoreCtx 0 0).getD State.reset, by decide +kernel⟩,
   ⟨((withRegs [(aPD_TSTAT 0 1, 5)]).setEng 0 { Eng.zero with sw := some 1 }), 0, 1, by decide +kernel⟩,
   ⟨(((withRegs [(aPD_TSTAT 0 1, 7)]).setTask 0 1 { Task.zero with stepping := true }).setEng 0 { Eng.zero with sw := some 1 }), 0, 1, by decide +kernel⟩,
   ⟨(runs 0 0 0).setPart 0 { Part.zero with brk := [(0, 0)] }, 0, 0, by decide +kernel⟩,
   ⟨(withRegs [(aPD_MODE 3, 1)]).setPart 3 { Part.zero with cmd := some .run }, 3, 800, by decide +kernel⟩,
   ⟨(withRegs [(aPD_MODE 3, 1), (aHDR_TABLE_ID 3, 5)]).setPart 3 { Part.zero with cmd := some .run }, 3, 800, by decide +kernel⟩,
   ⟨(withRegs [(aPD_MODE 3, 3)]).setPart 3 { Part.zero with cmd := some .resume }, 3, 800, by decide +kernel⟩,
   ⟨task3 2 1 [], 3, 1, 1, by decide +kernel⟩,
   ⟨(task3 2 1 []).setPart 3 { Part.zero with pause := some { start := 0, len := 64, fault := false } }, 3, 1, 1, by decide +kernel⟩,
   ⟨task3 2 4 [], 3, 1, 1, by decide +kernel⟩,
   ⟨{ task3 2 2 [] with cu := [job31 false] }, 3, 1, 9, 1, job31 false, by decide +kernel⟩,
   ⟨{ task3 2 2 [] with cu := [{ job31 false with begun := true, todo := [0] }] }, 3, 1, 0, 1, { job31 false with begun := true, todo := [0] }, by decide +kernel⟩,
   ⟨{ task3 2 6 [] with cu := [job31 true] }, 3, 1, 9, 1, job31 true, by decide +kernel⟩,
   ⟨{ task3 2 6 [] with cu := [job31 true] }, 3, 2, 1, job31 true, by decide +kernel⟩,
   ⟨State.reset, job31 true, by decide +kernel⟩,
   ⟨task3 2 6 [(aRU_CFG, 0x80000000), (aRU_PARTS 0, 8), (aRU_ROLE, 3)], job31 true, by decide +kernel⟩,
   ⟨(task3 2 4 []).setTask 3 1 { Task.zero with limit := some 5 }, 3, 1, 1, 5, by decide +kernel⟩,
   ⟨task3 2 4 [], 3, 1, 1, by decide +kernel⟩,
   ⟨(withRegs [(aPD_MODE 3, 1)]).setPart 3 { Part.zero with cmd := some .stop, stopping := true, sending := .stop }, 3, 1, by decide +kernel⟩,
   ⟨(withRegs [(aPD_MODE 3, 1)]).setPart 3 { Part.zero with stopping := true, sending := .safe }, 3, 1, by decide +kernel⟩,
   ⟨(task3 1 0 []).setPart 3 { Part.zero with sending := .stop }, 3, 1, 1, by decide +kernel⟩,
   ⟨(task3 3 7 []).setPart 3 { Part.zero with sending := .held }, 3, 1, 1, by decide +kernel⟩⟩

/-- States and operands that meet the premises of the clauses of `Obligations.OnlineEditResult`. -/
theorem witness_OnlineEditResult :
    (∃ (s : State) (src : BitVec 10) (p : BitVec 9), (isVf src.toNat = false) ∧ (p.toNat < s.fuse.partitions) ∧ (s.mode p.toNat ≠ 0) ∧ (s.editPending p.toNat = false) ∧ ((s.setReg (aPD_COMMIT p.toNat) 2).editReason p.toNat = 0)) ∧
    (∃ (s : State) (src : BitVec 10) (p : BitVec 9) (r : Nat), (isVf src.toNat = false) ∧ (p.toNat < s.fuse.partitions) ∧ (s.mode p.toNat ≠ 0) ∧ (s.editPending p.toNat = false) ∧ ((s.setReg (aPD_COMMIT p.toNat) 2).editReason p.toNat = r) ∧ (r ≠ 0) ∧ (r ≠ 3)) ∧
    (∃ (s : State) (src : BitVec 10) (p : BitVec 9), (isVf src.toNat = false) ∧ (p.toNat < s.fuse.partitions) ∧ (s.mode p.toNat ≠ 0) ∧ (s.editPending p.toNat = true)) ∧
    (∃ (s : State) (src : BitVec 10) (p : BitVec 9), (isVf src.toNat = false) ∧ (p.toNat < s.fuse.partitions) ∧ (s.mode p.toNat = 0)) ∧
    (∃ (s : State) (p : BitVec 9) (dt : Nat) (ms : List Move), ((s.elapse dt).editReady (p.toNat) = true) ∧ (((s.elapse dt).migrateAll (p.toNat) ((s.elapse dt).migCount (p.toNat)) 0).2 = some ms)) ∧
    (∃ (s : State) (p : BitVec 9) (dt : Nat), ((s.elapse dt).editReady (p.toNat) = true) ∧ (((s.elapse dt).migrateAll (p.toNat) ((s.elapse dt).migCount (p.toNat)) 0).2 = none)) ∧
    (∃ (s : State) (p : BitVec 9) (dt : Nat), ((s.elapse dt).editReady (p.toNat) = false)) ∧
    (∃ (s : State) (p : BitVec 9) (dt : Nat) (z : Pause), (((s.elapse dt).part (p.toNat)).pause = some z) ∧ (z.start + z.len ≤ (s.elapse dt).fab) ∧ (z.fault = false) ∧ (((s.elapse dt).dtPending = false ∨ (s.elapse dt).headerChanges (p.toNat) = false))) ∧
    (∃ (s : State) (p : BitVec 9) (dt : Nat) (z : Pause), (((s.elapse dt).part (p.toNat)).pause = some z) ∧ (z.start + z.len ≤ (s.elapse dt).fab) ∧ (z.fault = true)) ∧
    (∃ (s : State) (p : BitVec 9) (dt : Nat) (t : W64), (((s.elapse dt).part (p.toNat)).edit = some t) ∧ ((s.elapse dt).mode (p.toNat) = 2) ∧ ((s.elapse dt).inPause (p.toNat) = false) ∧ (t.toNat + 1000000000 ≤ ((s.elapse dt).ptime (p.toNat)).toNat)) :=
  ⟨⟨withRegs [(aPD_MODE 3, 1)], 0, 3, by decide +kernel⟩,
   ⟨(withRegs [(aPD_MODE 3, 1)]).setPnd (aHDR_TABLE_ID 3) 5, 0, 3, 5, by decide +kernel⟩,
   ⟨withRegs [(aPD_MODE 3, 1), (aPD_COMMIT 3, 2)], 0, 3, by decide +kernel⟩,
   ⟨State.reset, 0, 3, by decide +kernel⟩,
   ⟨(withRegs [(aPD_MODE 3, 1)]).setPart 3 { Part.zero with edit := some 0 }, 3, 1, [], by decide +kernel⟩,
   ⟨(withRegs [(aPD_MODE 3, 1)] |>.setPnd (aHDR_MIG 3) 0x1000000).setPart 3 { Part.zero with edit := some 0 }, 3, 1, by decide +kernel⟩,
   ⟨State.reset, 3, 1, by decide +kernel⟩,
   ⟨(withRegs [(aPD_MODE 3, 1)]).setPart 3 { Part.zero with pause := some { start := 0, len := 64, fault := false } }, 3, 64, { start := 0, len := 64, fault := false }, by decide +kernel⟩,
   ⟨(withRegs [(aPD_MODE 3, 1)]).setPart 3 { Part.zero with pause := some { start := 0, len := 64, fault := true } }, 3, 64, { start := 0, len := 64, fault := true }, by decide +kernel⟩,
   ⟨{ (withRegs [(aPD_MODE 3, 2)]).setPart 3 { Part.zero with edit := some 0 } with mer := 1000000000 * 2 ^ 32 }, 3, 1, 0, by decide +kernel⟩⟩

/-- States and operands that meet the premises of the clauses of `Obligations.PartitionAndPageCommandsResult`. -/
theorem witness_PartitionAndPageCommandsResult :
    (∃ (s : State) (src : BitVec 10), (isVf src.toNat = false) ∧ (s.rb aTR_CMD_STAT 0 = false) ∧ (s.mgmt = false) ∧ (s.supRun = true) ∧ (s.trPart < s.fuse.partitions) ∧ (s.mode s.trPart = 0)) ∧
    (∃ (s : State) (src : BitVec 10), (isVf src.toNat = false) ∧ (s.rb aTR_CMD_STAT 0 = false) ∧ (s.mgmt = false) ∧ (s.supRun = true) ∧ (s.trPart < s.fuse.partitions) ∧ (s.mode s.trPart ≠ 0)) ∧
    (∃ (s : State) (src : BitVec 10), (isVf src.toNat = false) ∧ (s.rb aTR_CMD_STAT 0 = false) ∧ (s.mgmt = false) ∧ (s.supRun = true) ∧ (s.fuse.partitions ≤ s.trPart)) ∧
    (∃ (s : State) (src : BitVec 10), (isVf src.toNat = false) ∧ (s.rb aTR_CMD_STAT 0 = false) ∧ (s.mgmt = false) ∧ (s.supRun = true) ∧ (s.trPart < s.fuse.partitions) ∧ (s.mode s.trPart = 1) ∧ ((s.part s.trPart).stopping = false) ∧ (s.pairPart s.trPart = false)) ∧
    (∃ (s : State) (src : BitVec 10), (isVf src.toNat = false) ∧ (s.rb aTR_CMD_STAT 0 = false) ∧ (s.mgmt = false) ∧ (s.supRun = true) ∧ (s.trPart < s.fuse.partitions) ∧ (s.mode s.trPart = 1) ∧ ((s.part s.trPart).stopping = false) ∧ (s.pairPart s.trPart = true)) ∧
    (∃ (s : State) (src : BitVec 10), (isVf src.toNat = false) ∧ (s.rb aTR_CMD_STAT 0 = false) ∧ (s.mgmt = false) ∧ (s.supRun = true) ∧ (s.trPart < s.fuse.partitions) ∧ (s.mode s.trPart ≠ 0) ∧ (s.trKind < 3) ∧ (s.trCount ≠ 0) ∧ (((s.freePages s.trKind).take s.trCount).length = s.trCount)) ∧
    (∃ (s : State) (src : BitVec 10), (isVf src.toNat = false) ∧ (s.rb aTR_CMD_STAT 0 = false) ∧ (s.mgmt = false) ∧ (s.supRun = true) ∧ (s.trPart < s.fuse.partitions) ∧ (s.mode s.trPart ≠ 0) ∧ (s.trKind < 3) ∧ (s.trCount ≠ 0) ∧ ((s.freePages s.trKind).length < s.trCount)) ∧
    (∃ (s : State) (src : BitVec 10), (isVf src.toNat = false) ∧ (s.rb aTR_CMD_STAT 0 = false) ∧ (s.mgmt = false) ∧ (s.supRun = true) ∧ (s.trPart < s.fuse.partitions) ∧ (s.trKind < 3) ∧ (s.trCount ≠ 0) ∧ (s.trFirst + s.trCount ≤ pageCount s.trKind) ∧ ((∀ n ∈ ((List.range s.trCount).map (fun i => s.trFirst + i)), s.pgState (s.trKind) n = pgStaged ∧ s.pgPart (s.trKind) n = s.trPart ∧ (pagesOf s.trP s.trPart).contains ((s.trKind), n) = false))) ∧
    (∃ (s : State) (src : BitVec 10), (isVf src.toNat = false) ∧ (s.rb aTR_CMD_STAT 0 = false) ∧ (s.mgmt = false) ∧ (s.supRun = true) ∧ ((s.trKind) < 3) ∧ ((s.trFirst) < pageCount (s.trKind)) ∧ (s.pgState (s.trKind) (s.trFirst) = pgRetired) ∧ (s.granted src.toNat 4 = true)) ∧
    (∃ (s : State) (src : BitVec 10), (isVf src.toNat = false) ∧ (s.rb aTR_CMD_STAT 0 = false) ∧ (s.mgmt = false) ∧ (s.supRun = true) ∧ ((s.trKind) < 3) ∧ ((s.trFirst) < pageCount (s.trKind)) ∧ (s.pgState (s.trKind) (s.trFirst) = pgRetired) ∧ (s.granted src.toNat 4 = false)) ∧
    (∃ (s : State) (src : BitVec 10), (isVf src.toNat = false) ∧ (s.rb aTR_CMD_STAT 0 = true)) ∧
    (∃ (s : State) (src : BitVec 10), (isVf src.toNat = false) ∧ (s.rb aTR_CMD_STAT 0 = false) ∧ (s.mgmt = false) ∧ (s.supRun = false)) :=
  ⟨⟨{ withRegs [(aTR_ARG0, 0x30000)] with supRun := true }, 0, by decide +kernel⟩,
   ⟨{ withRegs [(aTR_ARG0, 0x30000), (aPD_MODE 3, 1)] with supRun := true }, 0, by decide +kernel⟩,
   ⟨{ withRegs [(aTR_ARG0, 0x3FF0000)] with supRun := true }, 0, by decide +kernel⟩,
   ⟨{ withRegs [(aTR_ARG0, 0x30000), (aPD_MODE 3, 1)] with supRun := true }, 0, by decide +kernel⟩,
   ⟨{ withRegs [(aTR_ARG0, 0x30000), (aPD_MODE 3, 1), (aRU_CFG, 0x80000000), (aRU_PARTS 0, 8)] with supRun := true }, 0, by decide +kernel⟩,
   ⟨{ withRegs [(aTR_ARG0, 0x80030000), (aTR_ARG1, 2), (aPD_MODE 3, 1)] with supRun := true }, 0, by decide +kernel⟩,
   ⟨stageFull, 0, stageFull_wit⟩,
   ⟨{ withRegs [(aTR_ARG0, 0x80030000), (aTR_ARG1, 1), (aPD_MODE 3, 1), (ownAddr 2 0, BitVec.ofNat 32 (pgStaged * 2 ^ 29 + 3 * 2 ^ 16))] with supRun := true }, 0, by decide +kernel⟩,
   ⟨{ withRegs [(aTR_ARG0, 0x80000000), (ownAddr 2 0, BitVec.ofNat 32 (pgRetired * 2 ^ 29)), (aAU_GRANT, 0x10)] with supRun := true }, 0, by decide +kernel⟩,
   ⟨{ withRegs [(aTR_ARG0, 0x80000000), (ownAddr 2 0, BitVec.ofNat 32 (pgRetired * 2 ^ 29))] with supRun := true }, 0, by decide +kernel⟩,
   ⟨withRegs [(aTR_CMD_STAT, 1)], 0, by decide +kernel⟩,
   ⟨{ State.reset with supRun := false }, 0, by decide +kernel⟩⟩

/-- States and operands that meet the premises of the clauses of `Obligations.PagesAndEntriesResult`. -/
theorem witness_PagesAndEntriesResult :
    (∃ (s : State) (dt : Nat) (k : Nat) (n : Nat) (r : List (Nat × Nat)), ((s.elapse dt).moverUp = true) ∧ ((s.elapse dt).anyPause = false) ∧ ((s.elapse dt).retCopy = none) ∧ ((s.elapse dt).zeroQ = (k, n) :: r)) ∧
    (∃ (s : State) (dt : Nat), ((s.elapse dt).anyPause = true)) ∧
    (∃ (s : State) (src : BitVec 10) (i : BitVec 12) (d : W), (isVf src.toNat = false) ∧ ((fld (s.regFor src.toNat aTR_PSEL) 9 0) < s.fuse.partitions) ∧ (i.toNat < entriesPerPart) ∧ (s.mode (fld (s.regFor src.toNat aTR_PSEL) 9 0) ≠ 0) ∧ (s.editPending (fld (s.regFor src.toNat aTR_PSEL) 9 0) = false) ∧ ((entV d = true → entPPN d < pageCount (entryKind i.toNat) ∧ (s.pgState (entryKind i.toNat) (entPPN d) = pgStaged ∨ s.pgState (entryKind i.toNat) (entPPN d) = pgOwned) ∧ s.pgPart (entryKind i.toNat) (entPPN d) = (fld (s.regFor src.toNat aTR_PSEL) 9 0)))) ∧
    (∃ (s : State) (src : BitVec 10) (i : BitVec 12) (d : W), (isVf src.toNat = false) ∧ ((fld (s.regFor src.toNat aTR_PSEL) 9 0) < s.fuse.partitions) ∧ (i.toNat < entriesPerPart) ∧ (s.mode (fld (s.regFor src.toNat aTR_PSEL) 9 0) ≠ 0) ∧ (s.editPending (fld (s.regFor src.toNat aTR_PSEL) 9 0) = false) ∧ (entV d = true) ∧ (s.pgPart (entryKind i.toNat) (entPPN d) ≠ (fld (s.regFor src.toNat aTR_PSEL) 9 0))) ∧
    (∃ (s : State) (src : BitVec 10) (i : BitVec 12), (isVf src.toNat = false) ∧ ((fld (s.regFor src.toNat aTR_PSEL) 9 0) < s.fuse.partitions) ∧ (i.toNat < entriesPerPart) ∧ (s.mode (fld (s.regFor src.toNat aTR_PSEL) 9 0) ≠ 0) ∧ (s.editPending (fld (s.regFor src.toNat aTR_PSEL) 9 0) = true)) ∧
    (∃ (s : State) (src : BitVec 10) (p : BitVec 9) (d : W), (isVf src.toNat = false) ∧ (p.toNat < s.fuse.partitions) ∧ (s.mode p.toNat ≠ 0) ∧ (s.editPending p.toNat = false) ∧ ((fld d 15 0) + (fld d 31 16) ≤ 61440) ∧ ((fld d 31 16) ≤ 4096) ∧ (s.hitsPart (fld d 15 0) (fld d 31 16) (some p.toNat) = false) ∧ (overlap (fld d 15 0) (fld d 31 16) (s.rf aMOV_DEV_RANGE 15 0) (s.rf aMOV_DEV_RANGE 31 16) = false) ∧ (overlap (fld d 15 0) (fld d 31 16) (fld (s.pnd aMOV_DEV_RANGE) 15 0) (fld (s.pnd aMOV_DEV_RANGE) 31 16) = false)) ∧
    (∃ (s : State) (src : BitVec 10) (p : BitVec 9) (d : W), (isVf src.toNat = false) ∧ (p.toNat < s.fuse.partitions) ∧ (s.mode p.toNat ≠ 0) ∧ (s.editPending p.toNat = false) ∧ ((61440 < (fld d 15 0) + (fld d 31 16) ∨ 4096 < (fld d 31 16)))) ∧
    (∃ (a : BitVec 28), (a.toNat < 0xD000000)) ∧
    (∃ (a : BitVec 28), (0xE000000 ≤ a.toNat) ∧ (a.toNat < 0xE000000 + 512 * entriesPerPart)) ∧
    (∃ (s : State) (k : BitVec 2) (n : BitVec 14) (dt : Nat) (f : Nat), (k.toNat < 3) ∧ (n.toNat < pageCount k.toNat) ∧ ((s.elapse dt).pgRetp k.toNat n.toNat = true) ∧ ((s.elapse dt).pgState k.toNat n.toNat = pgOwned) ∧ (((s.elapse dt).freePages k.toNat).head? = some f) ∧ ((s.elapse dt).mode ((s.elapse dt).pgPart k.toNat n.toNat) = 1) ∧ (((s.elapse dt).part ((s.elapse dt).pgPart k.toNat n.toNat)).stopping = false) ∧ ((s.elapse dt).retCopy = none) ∧ ((s.elapse dt).anyPause = false) ∧ ((s.elapse dt).moverUp = true)) ∧
    (∃ (s : State) (dt : Nat) (k : Nat) (n : Nat) (f : Nat) (p : Nat), ((s.elapse dt).moverUp = true) ∧ ((s.elapse dt).anyPause = false) ∧ ((s.elapse dt).retCopy = some (k, n, f, p)) ∧ ((s.elapse dt).mode p = 1)) :=
  ⟨⟨{ State.reset with zeroQ := [(2, 0)] }, 1, 2, 0, [], by decide +kernel⟩,
   ⟨{ State.reset with parts := [(3, { Part.zero with pause := some { start := 0, len := 64, fault := false } })] }, 1, by decide +kernel⟩,
   ⟨withRegs [(aPD_MODE 0, 1), (ownAddr 0 5, BitVec.ofNat 32 (pgStaged * 2 ^ 29))], 0, 0, 0x80000005, by decide +kernel⟩,
   ⟨withRegs [(aPD_MODE 0, 1), (ownAddr 0 5, BitVec.ofNat 32 (pgStaged * 2 ^ 29 + 2 ^ 16))], 0, 0, 0x80000005, by decide +kernel⟩,
   ⟨withRegs [(aPD_MODE 0, 1), (aPD_COMMIT 0, 2)], 0, 0, by decide +kernel⟩,
   ⟨withRegs [(aPD_MODE 3, 1)], 0, 3, 0x00100020, by decide +kernel⟩,
   ⟨withRegs [(aPD_MODE 3, 1)], 0, 3, 0x1001F000, by decide +kernel⟩,
   ⟨5, by decide +kernel⟩,
   ⟨0xE000005, by decide +kernel⟩,
   ⟨(withRegs [(aPD_MODE 3, 1), (ownAddr 2 0, BitVec.ofNat 32 (pgOwned * 2 ^ 29 + 2 ^ 28 + 3 * 2 ^ 16))]), 2, 0, 1, 1, by decide +kernel⟩,
   ⟨{ withRegs [(aPD_MODE 3, 1)] with retCopy := some (2, 0, 1, 3) }, 1, 2, 0, 1, 3, by decide +kernel⟩⟩

/-- States and operands that meet the premises of the clauses of `Obligations.SeqWriteClearsItsGroup`. -/
theorem witness_SeqWriteClearsItsGroup :
    (∃ (s : State) (off : BitVec 28) (d : W) (r : RegRow), FMap.wf (regReset s.fuse) s.regs = true ∧ off.toNat < 0x8000000 ∧ regRow off.toNat = some r ∧ r.ws ≠ 0 ∧ addrPresent s.fuse off.toNat = true ∧ farBstat off.toNat = none ∧ d = s.reg off.toNat) :=
  ⟨State.reset, BitVec.ofNat 28 aFLT_SEQ, 0, fltSeqRow, by decide +kernel⟩

/-- States and operands that meet the premises of the clauses of `Obligations.AbsentUnitLocations`. -/
theorem witness_AbsentUnitLocations :
    (∃ (s : State) (src : BitVec 10) (off : BitVec 28), isVf src.toNat = false ∧ off.toNat % 8 = 0 ∧ off.toNat + 4 < 0x8000000 ∧ addrPresent s.fuse off.toNat = false ∧ addrPresent s.fuse (off.toNat + 4) = false) ∧
    (∃ (s : State) (src : BitVec 10) (off : BitVec 28), isVf src.toNat = true ∧ s.fuse.partitions < src.toNat ∧ s.fnOn src.toNat = true ∧ inImage off.toNat = false ∧ off.toNat % 4 = 0) :=
  ⟨⟨absent, 0, 0x228000, by decide +kernel⟩,
   ⟨{ absent with vfEnable := true, numVfs := 300 }, 200, 0, by decide +kernel⟩⟩

/-- States and operands that meet the premises of the clauses of `Obligations.HostRegisterAccessResult`. -/
theorem witness_HostRegisterAccessResult :
    (∃ (s : State) (off : BitVec 28) (d : W64) (r : RegRow), ((off.toNat) % 4 = 0) ∧ ((off.toNat) < 0x8000000) ∧ (addrPresent s.fuse (off.toNat) = true) ∧ (regRow (off.toNat) = some r) ∧ ((inPd (off.toNat) = false ∨ s.mode (pdIdx (off.toNat)) ≠ 0)) ∧ (r.ws = 0) ∧ (rwpMask (off.toNat) = 0) ∧ (r.wo = 0) ∧ (r.rw = 0) ∧ (r.pend ≠ 0) ∧ (¬ (0x410000 ≤ (off.toNat) ∧ (off.toNat) < 0x420000)) ∧ ((inPd (off.toNat) = false ∨ (off.toNat) % 0x800 ≠ 0x394)) ∧ ((off.toNat) ≠ aMOV_DEV_RANGE) ∧ (s.commitShut (off.toNat) = false) ∧ (s.pendBad (off.toNat) (lo32 d) = false)) ∧
    (∃ (s : State) (off : BitVec 28) (r : RegRow), ((off.toNat) % 4 = 0) ∧ ((off.toNat) < 0x8000000) ∧ (addrPresent s.fuse (off.toNat) = true) ∧ (regRow (off.toNat) = some r) ∧ ((inPd (off.toNat) = false ∨ s.mode (pdIdx (off.toNat)) ≠ 0)) ∧ (r.ws = 0) ∧ (rwpMask (off.toNat) = 0) ∧ (r.wo = 0) ∧ (r.rw = 0) ∧ (r.pend ≠ 0) ∧ (¬ (0x410000 ≤ (off.toNat) ∧ (off.toNat) < 0x420000)) ∧ ((inPd (off.toNat) = false ∨ (off.toNat) % 0x800 ≠ 0x394)) ∧ ((off.toNat) ≠ aMOV_DEV_RANGE) ∧ (s.commitShut (off.toNat) = true)) ∧
    (∃ (s : State) (off : BitVec 28) (d : W64) (r : RegRow), ((off.toNat) % 4 = 0) ∧ ((off.toNat) < 0x8000000) ∧ (addrPresent s.fuse (off.toNat) = true) ∧ (regRow (off.toNat) = some r) ∧ ((inPd (off.toNat) = false ∨ s.mode (pdIdx (off.toNat)) ≠ 0)) ∧ (r.ws = 0) ∧ (rwpMask (off.toNat) = 0) ∧ (r.wo = 0) ∧ (r.rw = 0) ∧ (r.pend ≠ 0) ∧ (¬ (0x410000 ≤ (off.toNat) ∧ (off.toNat) < 0x420000)) ∧ ((inPd (off.toNat) = false ∨ (off.toNat) % 0x800 ≠ 0x394)) ∧ ((off.toNat) ≠ aMOV_DEV_RANGE) ∧ (s.commitShut (off.toNat) = false) ∧ (s.pendBad (off.toNat) (lo32 d) = true)) ∧
    (∃ (s : State) (off : BitVec 28) (r : RegRow), ((off.toNat) % 4 = 0) ∧ ((off.toNat) < 0x8000000) ∧ (addrPresent s.fuse (off.toNat) = true) ∧ (regRow (off.toNat) = some r) ∧ ((inPd (off.toNat) = false ∨ s.mode (pdIdx (off.toNat)) ≠ 0)) ∧ (r.ws = 0) ∧ (rwpMask (off.toNat) = 0) ∧ (r.wo = 0) ∧ (r.rw = 0) ∧ (r.pend = 0) ∧ ((off.toNat) ≠ aFLT_DUMP)) ∧
    (∃ (s : State) (src : BitVec 10) (off : BitVec 28) (size : BitVec 4) (full : Bool), (s.fnOn src.toNat = true) ∧ ((full = false ∨ sizeOk off.toNat size.toNat = false))) ∧
    (∃ (s : State) (src : BitVec 10), (s.fnOn src.toNat = false)) ∧
    (∃ (off : BitVec 28), (off.toNat % 8 = 0)) ∧
    (∃ (s : State) (off : BitVec 28), ((off.toNat) % 4 = 0) ∧ ((off.toNat) < 0x1000000) ∧ ((regRow (off.toNat)).isSome = true) ∧ (addrPresent s.fuse (off.toNat) = true) ∧ ((inPd (off.toNat) = false ∨ s.mode (pdIdx (off.toNat)) ≠ 0)) ∧ (farBstat (off.toNat) = none) ∧ (highOf (off.toNat) = none) ∧ (s.latched 0 (off.toNat) = none)) ∧
    (∃ (s : State) (src : BitVec 10) (off : BitVec 28) (h : Nat), (isVf src.toNat = false) ∧ ((off.toNat) % 4 = 0) ∧ ((off.toNat) < 0x1000000) ∧ ((regRow (off.toNat)).isSome = true) ∧ (addrPresent s.fuse (off.toNat) = true) ∧ ((inPd (off.toNat) = false ∨ s.mode (pdIdx (off.toNat)) ≠ 0)) ∧ (farBstat (off.toNat) = none) ∧ (highOf (off.toNat) = some h)) ∧
    (∃ (s : State) (off : BitVec 28) (d : W) (r : RegRow) (b : Nat), ((off.toNat) < 0x8000000) ∧ (addrPresent s.fuse (off.toNat) = true) ∧ (regRow (off.toNat) = some r) ∧ (r.ws = 0) ∧ (rwpMask (off.toNat) ≠ 0) ∧ (farBstat (off.toNat) = some b) ∧ ((farCodes (off.toNat) = none ∨ ∃ n, farCodes (off.toNat) = some n ∧ fld d 3 0 ≠ 0 ∧ fld d 3 0 ≤ n)) ∧ (rwpBad (off.toNat) d = false) ∧ (s.rb b 1 = false) ∧ (s.rb b 0 = false)) ∧
    (∃ (s : State) (off : BitVec 28) (d : W) (r : RegRow) (b : Nat), ((off.toNat) < 0x8000000) ∧ (addrPresent s.fuse (off.toNat) = true) ∧ (regRow (off.toNat) = some r) ∧ (r.ws = 0) ∧ (rwpMask (off.toNat) ≠ 0) ∧ (farBstat (off.toNat) = some b) ∧ (farCodes (off.toNat) = none) ∧ (rwpBad (off.toNat) d = false)) ∧
    (∃ (s : State) (inst : BitVec 8) (dt : Nat) (src : Nat) (a : Nat) (d : W), ((s.elapse dt).rb (instBstat inst.toNat) 1 = false) ∧ (FMap.get (fun _ => none) (s.elapse dt).posted (instBstat inst.toNat) = some (src, a, d))) ∧
    (∃ (s : State) (off : BitVec 28) (sub : BitVec 15) (b : Nat), ((off.toNat) % 4 = 0) ∧ ((off.toNat) < 0x8000000) ∧ ((regRow (off.toNat)).isSome = true) ∧ (addrPresent s.fuse (off.toNat) = true) ∧ (inPd (off.toNat) = false) ∧ (farBstat (off.toNat) = some b) ∧ (b ≠ aRTC_BSTAT) ∧ (servedHere (off.toNat) = false) ∧ (inEvWindow (off.toNat) = false) ∧ ((s.settle b sub 0).rb b 1 = false) ∧ ((s.settle b sub 0).nvBlock = false)) :=
  ⟨⟨withRegs [(aPD_MODE 3, 1)], BitVec.ofNat 28 (aTT_PERIOD 3 1), 20, (regRow (aTT_PERIOD 3 1)).getD fltSeqRow, by decide +kernel⟩,
   ⟨withRegs [(aPD_MODE 3, 1), (aDSP_COMMIT, 2)], BitVec.ofNat 28 (aTT_PERIOD 3 1), (regRow (aTT_PERIOD 3 1)).getD fltSeqRow, by decide +kernel⟩,
   ⟨State.reset, BitVec.ofNat 28 aRTC_TRIM, 1000000, (regRow aRTC_TRIM).getD fltSeqRow, by decide +kernel⟩,
   ⟨State.reset, BitVec.ofNat 28 aFLT_FIRST, (regRow aFLT_FIRST).getD fltSeqRow, by decide +kernel⟩,
   ⟨State.reset, 0, 4, 2, true, by decide +kernel⟩,
   ⟨State.reset, 3, by decide +kernel⟩,
   ⟨8, by decide +kernel⟩,
   ⟨State.reset, BitVec.ofNat 28 aFLT_FIRST, by decide +kernel⟩,
   ⟨State.reset, 0, BitVec.ofNat 28 aMER_TIME_LO, aMER_TIME_HI, by decide +kernel⟩,
   ⟨State.reset, BitVec.ofNat 28 aRTC_ZONE, 3600, (regRow aRTC_ZONE).getD fltSeqRow, aRTC_BSTAT, ⟨by decide +kernel, by decide +kernel, by decide +kernel, by decide +kernel, by decide +kernel, by decide +kernel, .inl (by decide +kernel), by decide +kernel, by decide +kernel, by decide +kernel⟩⟩,
   ⟨withRegs [(aRTC_BSTAT, 1)], BitVec.ofNat 28 aRTC_ZONE, 3600, (regRow aRTC_ZONE).getD fltSeqRow, aRTC_BSTAT, by decide +kernel⟩,
   ⟨{ withRegs [(aRTC_BSTAT, 1)] with posted := [(aRTC_BSTAT, some (0, aRTC_ZONE, 3600))] }, 0, 1, 0, aRTC_ZONE, 3600, by decide +kernel⟩,
   ⟨{ State.reset with nvBlock := false }, BitVec.ofNat 28 aNV_CADCFG, 0, aNV_BSTAT, by decide +kernel⟩⟩

/-- States and operands that meet the premises of the clauses of `Obligations.AliasWindowAndConfigurationResult`. -/
theorem witness_AliasWindowAndConfigurationResult :
    (∃ (s : State) (src : BitVec 10) (off : BitVec 28) (r : RegRow), (isVf src.toNat = false) ∧ (s.fnOn src.toNat = true) ∧ (0x8000000 ≤ off.toNat) ∧ (off.toNat < 0xA000000) ∧ (regRow ((aliasOf (off.toNat - 0x8000000)).1) = some r) ∧ (((aliasOf (off.toNat - 0x8000000)).1) < 0x100000) ∧ (addrPresent s.fuse ((aliasOf (off.toNat - 0x8000000)).1) = true) ∧ (((rwpMask ((aliasOf (off.toNat - 0x8000000)).1)).getLsbD ((aliasOf (off.toNat - 0x8000000)).2) || r.wo.testBit ((aliasOf (off.toNat - 0x8000000)).2) || r.ws.testBit ((aliasOf (off.toNat - 0x8000000)).2)) = true)) ∧
    (∃ (s : State) (src : BitVec 10) (off : BitVec 28) (r : RegRow), (isVf src.toNat = false) ∧ (s.fnOn src.toNat = true) ∧ (0x8000000 ≤ off.toNat) ∧ (off.toNat < 0xA000000) ∧ (regRow ((aliasOf (off.toNat - 0x8000000)).1) = some r) ∧ (((aliasOf (off.toNat - 0x8000000)).1) < 0x100000) ∧ (addrPresent s.fuse ((aliasOf (off.toNat - 0x8000000)).1) = true) ∧ (((rwpMask ((aliasOf (off.toNat - 0x8000000)).1)).getLsbD ((aliasOf (off.toNat - 0x8000000)).2) || r.wo.testBit ((aliasOf (off.toNat - 0x8000000)).2) || r.ws.testBit ((aliasOf (off.toNat - 0x8000000)).2)) = false) ∧ (r.rw.testBit ((aliasOf (off.toNat - 0x8000000)).2) = true)) ∧
    (∃ (s : State) (src : BitVec 10) (off : BitVec 28) (r : RegRow), (isVf src.toNat = false) ∧ (s.fnOn src.toNat = true) ∧ (0x8000000 ≤ off.toNat) ∧ (off.toNat < 0xA000000) ∧ (regRow ((aliasOf (off.toNat - 0x8000000)).1) = some r) ∧ (((aliasOf (off.toNat - 0x8000000)).1) < 0x100000) ∧ (addrPresent s.fuse ((aliasOf (off.toNat - 0x8000000)).1) = true) ∧ (((rwpMask ((aliasOf (off.toNat - 0x8000000)).1)).getLsbD ((aliasOf (off.toNat - 0x8000000)).2) || r.wo.testBit ((aliasOf (off.toNat - 0x8000000)).2) || r.ws.testBit ((aliasOf (off.toNat - 0x8000000)).2)) = false) ∧ (r.rw.testBit ((aliasOf (off.toNat - 0x8000000)).2) = false) ∧ (r.pend.testBit ((aliasOf (off.toNat - 0x8000000)).2) = true)) ∧
    (∃ (s : State) (off : BitVec 28) (data : List Byte), (onePacket off.toNat data.length = true) ∧ (off.toNat < 0xD000000) ∧ (s.pageShut off.toNat = none)) ∧
    (∃ (s : State) (off : BitVec 28) (data : List Byte) (c : Nat), (onePacket off.toNat data.length = true) ∧ (off.toNat < 0xD000000) ∧ (s.pageShut off.toNat = some c)) ∧
    (∃ (s : State) (vf : BitVec 10) (off : BitVec 28) (data : List Byte), (isVf vf.toNat = true) ∧ (s.fnOn vf.toNat = true) ∧ (vf.toNat ≤ s.fuse.partitions) ∧ (inImage off.toNat = true) ∧ (onePacket off.toNat data.length = true)) ∧
    (∃ (s : State) (fn : BitVec 10) (ready : Bool), (s.pcieUp ready = true) ∧ (s.fnOn fn.toNat = true)) ∧
    (∃ (s : State) (ready : Bool), (s.pcieUp ready = false)) ∧
    (∃ (s : State) (k : BitVec 10), (Canonical s) ∧ (isVf k.toNat = true) ∧ (FMap.wf (fun _ => false) s.fnMask = true) ∧ (FMap.wf (fun _ => (0, 0)) s.latch = true)) ∧
    (∃ (s : State), (Canonical s)) ∧
    (∃ (s : State), (FMap.wf (regReset s.fuse) s.regs = true)) :=
  ⟨⟨State.reset, 0, BitVec.ofNat 28 (0x8000000 + aRST_CMD * 32), (regRow aRST_CMD).getD fltSeqRow, by decide +kernel⟩,
   ⟨State.reset, 0, BitVec.ofNat 28 (0x8000000 + aFLT_CFG * 32 + 4), (regRow aFLT_CFG).getD fltSeqRow, by decide +kernel⟩,
   ⟨State.reset, 0, BitVec.ofNat 28 (0x8000000 + aRTC_TRIM * 32), (regRow aRTC_TRIM).getD fltSeqRow, by decide +kernel⟩,
   ⟨withRegs [(ownAddr 1 0, BitVec.ofNat 32 (pgOwned * 2 ^ 29))], 0x8000002, [1, 2, 3], by decide +kernel⟩,
   ⟨State.reset, 0x8000002, [1, 2, 3], 0x0A, by decide +kernel⟩,
   ⟨{ mapped with vfEnable := true, numVfs := 4 }, 1, 0x80004, [1, 2, 3], by decide +kernel⟩,
   ⟨withRegs [(aRST_BOOTPH, 5)], 0, true, by decide +kernel⟩,
   ⟨State.reset, false, by decide +kernel⟩,
   ⟨State.reset, 3, by decide +kernel⟩,
   ⟨State.reset, by decide +kernel⟩,
   ⟨State.reset, by decide +kernel⟩⟩

/-- States and operands that meet the premises of the clauses of `Obligations.StrobesAndSurveyResult`. -/
theorem witness_StrobesAndSurveyResult :
    (∃ (s : State) (src : BitVec 10) (d : W), (isVf src.toNat = false) ∧ (((List.range 19).filter (fun b => bitAt (putBit d 16 true) b && s.groupPresent b)).any s.applying = false) ∧ (((List.range 19).filter (fun b => bitAt (putBit d 16 true) b && s.groupPresent b)).any s.groupUnreach = false)) ∧
    (∃ (s : State) (src : BitVec 10) (d : W), (isVf src.toNat = false) ∧ (((List.range 19).filter (fun b => bitAt (putBit d 16 true) b && s.groupPresent b)).any s.applying = true)) ∧
    (∃ (s : State) (src : BitVec 10) (d : W), (isVf src.toNat = false) ∧ (((List.range 19).filter (fun b => bitAt (putBit d 17 true) b && s.groupPresent b)).any s.applying = false) ∧ (((List.range 19).filter (fun b => bitAt (putBit d 17 true) b && s.groupPresent b)).any s.groupUnreach = false)) ∧
    (∃ (s : State) (src : BitVec 10) (d : W), (isVf src.toNat = false) ∧ (((List.range 19).filter (fun b => bitAt (putBit d 17 true) b && s.groupPresent b)).any s.applying = true)) ∧
    (∃ (s : State) (src : BitVec 10) (d : W), (isVf src.toNat = false) ∧ (((List.range 19).filter (fun b => bitAt (putBit d 18 true) b && s.groupPresent b)).any s.applying = false) ∧ (((List.range 19).filter (fun b => bitAt (putBit d 18 true) b && s.groupPresent b)).any s.groupUnreach = false)) ∧
    (∃ (s : State) (src : BitVec 10) (d : W), (isVf src.toNat = false) ∧ (((List.range 19).filter (fun b => bitAt (putBit d 18 true) b && s.groupPresent b)).any s.applying = true)) ∧
    (∃ (s : State) (src : BitVec 10) (d : W) (n : BitVec 4), (isVf src.toNat = false) ∧ (((List.range 19).filter (fun b => bitAt (putBit d n.toNat true) b && s.groupPresent b)).any s.applying = false) ∧ (((List.range 19).filter (fun b => bitAt (putBit d n.toNat true) b && s.groupPresent b)).any s.groupUnreach = false)) ∧
    (∃ (s : State) (src : BitVec 10) (d : W) (n : BitVec 4), (isVf src.toNat = false) ∧ (((List.range 19).filter (fun b => bitAt (putBit d n.toNat true) b && s.groupPresent b)).any s.applying = true)) ∧
    (∃ (s : State) (dt : Nat), ((s.elapse dt).applying 16 = true) ∧ ((s.elapse dt).rb aFIO_BSTAT 1 = false)) ∧
    (∃ (s : State) (dt : Nat) (n : BitVec 4), (n.toNat < (s.elapse dt).fuse.cans) ∧ ((s.elapse dt).applying n.toNat = true) ∧ ((s.elapse dt).rb (aCAN_BSTAT n.toNat) 1 = false) ∧ (((s.elapse dt).canMode n.toNat = 0 ∨ (s.elapse dt).canEst n.toNat = 2 ∨ ((s.elapse dt).can n.toNat).bus = none)) ∧ ((s.elapse dt).canCheck n.toNat = 0)) ∧
    (∃ (s : State) (dt : Nat) (n : BitVec 4), (n.toNat < (s.elapse dt).fuse.cans) ∧ ((s.elapse dt).applying n.toNat = true) ∧ ((s.elapse dt).rb (aCAN_BSTAT n.toNat) 1 = false) ∧ (((s.elapse dt).canMode n.toNat = 0 ∨ (s.elapse dt).canEst n.toNat = 2 ∨ ((s.elapse dt).can n.toNat).bus = none)) ∧ ((s.elapse dt).canCheck n.toNat = 1)) ∧
    (∃ (s : State) (dt : Nat), ((s.elapse dt).applying 17 = true)) ∧
    (∃ (s : State) (dt : Nat), ((s.elapse dt).applying 18 = true) ∧ ((s.elapse dt).rb aRTC_BSTAT 1 = false)) ∧
    (∃ (s : State) (src : BitVec 10), (isVf src.toNat = false) ∧ (s.rb aGCTL_SURVEY_STAT 0 = false)) ∧
    (∃ (s : State) (src : BitVec 10), (isVf src.toNat = false) ∧ (s.rb aGCTL_SURVEY_STAT 0 = true)) ∧
    (∃ (s : State) (dt : Nat), ((s.elapse dt).rb aGCTL_SURVEY_STAT 0 = true)) :=
  ⟨⟨State.reset, 0, 5, by decide +kernel⟩,
   ⟨withRegs [(aGCTL_UPDATE_STAT, 0x7FFFF)], 0, 5, by decide +kernel⟩,
   ⟨State.reset, 0, 5, by decide +kernel⟩,
   ⟨withRegs [(aGCTL_UPDATE_STAT, 0x7FFFF)], 0, 5, by decide +kernel⟩,
   ⟨State.reset, 0, 5, by decide +kernel⟩,
   ⟨withRegs [(aGCTL_UPDATE_STAT, 0x7FFFF)], 0, 5, by decide +kernel⟩,
   ⟨State.reset, 0, 5, 3, by decide +kernel⟩,
   ⟨withRegs [(aGCTL_UPDATE_STAT, 0x7FFFF)], 0, 5, 3, by decide +kernel⟩,
   ⟨withRegs [(aGCTL_UPDATE_STAT, 0x10000)], 1, by decide +kernel⟩,
   ⟨can3ok, 1, 3, by decide +kernel⟩,
   ⟨withRegs [(aGCTL_UPDATE_STAT, 8)], 1, 3, by decide +kernel⟩,
   ⟨withRegs [(aGCTL_UPDATE_STAT, 0x20000)], 1, by decide +kernel⟩,
   ⟨withRegs [(aGCTL_UPDATE_STAT, 0x40000)], 1, by decide +kernel⟩,
   ⟨State.reset, 0, by decide +kernel⟩,
   ⟨withRegs [(aGCTL_SURVEY_STAT, 1)], 0, by decide +kernel⟩,
   ⟨withRegs [(aGCTL_SURVEY_STAT, 1)], 1, by decide +kernel⟩⟩

/-- States and operands that meet the premises of the clauses of `Obligations.RtcCommandsResult`. -/
theorem witness_RtcCommandsResult :
    (∃ (s : State) (src : BitVec 10), (isVf src.toNat = false) ∧ (s.rb aRTC_BSTAT 1 = false) ∧ (s.rb aRTC_BSTAT 0 = false) ∧ (s.rtcSetDue = false) ∧ (s.rtcRun = true) ∧ (s.rtcSetOk = true)) ∧
    (∃ (s : State) (src : BitVec 10), (isVf src.toNat = false) ∧ (s.rb aRTC_BSTAT 1 = false) ∧ (s.rb aRTC_BSTAT 0 = false) ∧ (s.rtcSetDue = false) ∧ (s.rtcRun = false) ∧ (s.rtcSetOk = true)) ∧
    (∃ (s : State) (src : BitVec 10), (isVf src.toNat = false) ∧ (s.rb aRTC_BSTAT 1 = false) ∧ (s.rb aRTC_BSTAT 0 = false) ∧ (s.rtcSetDue = false) ∧ (s.rtcSetOk = false)) ∧
    (∃ (s : State) (src : BitVec 10) (sub : BitVec 15), (isVf src.toNat = false) ∧ (s.rb aRTC_BSTAT 1 = false) ∧ (s.rb aRTC_BSTAT 0 = false) ∧ (s.rtcSetDue = false) ∧ ((s.atTick sub).rtcValid = true) ∧ ((s.atTick sub).reg aRTC_CORR = (s.reg aRTC_CORR)) ∧ ((s.reg aRTC_CORR).toInt.natAbs < 1000000)) ∧
    (∃ (s : State) (src : BitVec 10) (sub : BitVec 15), (isVf src.toNat = false) ∧ (s.rb aRTC_BSTAT 1 = false) ∧ (s.rb aRTC_BSTAT 0 = false) ∧ (s.rtcSetDue = false) ∧ ((s.atTick sub).rtcValid = true) ∧ ((s.atTick sub).reg aRTC_CORR = (s.reg aRTC_CORR)) ∧ (1000000 ≤ (s.reg aRTC_CORR).toInt.natAbs)) ∧
    (∃ (s : State) (src : BitVec 10) (sub : BitVec 15), (isVf src.toNat = false) ∧ (s.rb aRTC_BSTAT 1 = false) ∧ (s.rb aRTC_BSTAT 0 = false) ∧ (s.rtcSetDue = false) ∧ ((s.atTick sub).rtcValid = false)) ∧
    (∃ (s : State) (src : BitVec 10), (isVf src.toNat = false) ∧ (s.rb aRTC_BSTAT 1 = false) ∧ (s.rb aRTC_BSTAT 0 = false) ∧ (s.rtcSetDue = false) ∧ (s.rtcDst = none) ∧ (s.rb aRTC_STAT 3 = false) ∧ (s.rtcSec + 3601 < calSeconds) ∧ (s.rtcValid = true)) ∧
    (∃ (s : State) (src : BitVec 10), (isVf src.toNat = false) ∧ (s.rb aRTC_BSTAT 1 = false) ∧ (s.rb aRTC_BSTAT 0 = false) ∧ (s.rtcSetDue = false) ∧ (s.rtcDst = none) ∧ (s.rb aRTC_STAT 3 = true) ∧ (3599 ≤ s.rtcSec) ∧ (s.rtcSec < calSeconds) ∧ (s.rtcValid = true)) ∧
    (∃ (s : State) (src : BitVec 10), (isVf src.toNat = false) ∧ (s.rb aRTC_BSTAT 1 = false) ∧ (s.rb aRTC_BSTAT 0 = false) ∧ (s.rtcSetDue = false) ∧ (s.rtcDst ≠ none)) ∧
    (∃ (s : State) (src : BitVec 10), (isVf src.toNat = false) ∧ (s.rb aRTC_BSTAT 1 = false) ∧ (s.rb aRTC_BSTAT 0 = false) ∧ (s.rtcSetDue = false) ∧ (s.rtcDst = none)) ∧
    (∃ (s : State) (src : BitVec 10), (isVf src.toNat = false) ∧ (s.rb aRTC_BSTAT 1 = false) ∧ (s.rb aRTC_BSTAT 0 = false) ∧ (s.rtcSetDue = false) ∧ (s.rb aRTC_STAT 2 = false) ∧ ((fld (s.reg aRTC_MEASCFG) 31 30 = 1 ∧ s.merValid = true ∨ fld (s.reg aRTC_MEASCFG) 31 30 = 2)) ∧ (100 ≤ fld (s.reg aRTC_MEASCFG) 13 0) ∧ (fld (s.reg aRTC_MEASCFG) 13 0 ≤ 10000) ∧ (s.meas = none) ∧ (s.rtcValid = true)) ∧
    (∃ (s : State) (src : BitVec 10), (isVf src.toNat = false) ∧ (s.rb aRTC_BSTAT 1 = false) ∧ (s.rb aRTC_BSTAT 0 = false) ∧ (s.rtcSetDue = false) ∧ ((s.meas ≠ none ∨ s.rb aRTC_STAT 2 = true))) ∧
    (∃ (s : State) (src : BitVec 10), (isVf src.toNat = false) ∧ (s.rb aRTC_BSTAT 1 = false) ∧ (s.rb aRTC_BSTAT 0 = false) ∧ (s.rtcSetDue = false)) ∧
    (∃ (s : State) (src : BitVec 10), (isVf src.toNat = false) ∧ (s.rb aRTC_BSTAT 1 = false) ∧ (s.rb aRTC_BSTAT 0 = false) ∧ (s.rtcSetDue = true)) ∧
    (∃ (s : State) (src : BitVec 10), (isVf src.toNat = false) ∧ (s.rb aRTC_BSTAT 1 = true)) :=
  ⟨⟨withRegs [(aRTC_SET1, 0x7E82C000)], 0, by decide +kernel⟩,
   ⟨{ withRegs [(aRTC_SET1, 0x7E82C000)] with rtcRun := false }, 0, by decide +kernel⟩,
   ⟨State.reset, 0, by decide +kernel⟩,
   ⟨withRegs [(aRTC_STAT, 1), (aRTC_CORR, 500)], 0, 7, by decide +kernel⟩,
   ⟨withRegs [(aRTC_STAT, 1), (aRTC_CORR, 2000000)], 0, 7, by decide +kernel⟩,
   ⟨State.reset, 0, 7, by decide +kernel⟩,
   ⟨withRegs [(aRTC_STAT, 1)], 0, by decide +kernel⟩,
   ⟨{ withRegs [(aRTC_STAT, 9)] with rtcSec := 5000 }, 0, by decide +kernel⟩,
   ⟨{ State.reset with rtcDst := some true }, 0, by decide +kernel⟩,
   ⟨State.reset, 0, by decide +kernel⟩,
   ⟨withRegs [(aRTC_STAT, 1), (aRTC_MEASCFG, 0x80000064)], 0, by decide +kernel⟩,
   ⟨withRegs [(aRTC_STAT, 4)], 0, by decide +kernel⟩,
   ⟨State.reset, 0, by decide +kernel⟩,
   ⟨{ State.reset with rtcSetDue := true, rtcRun := false }, 0, by decide +kernel⟩,
   ⟨withRegs [(aRTC_BSTAT, 2)], 0, by decide +kernel⟩⟩

/-- States and operands that meet the premises of the clauses of `Obligations.RtcTimeResult`. -/
theorem witness_RtcTimeResult :
    (∃ (s : State) (dt : Nat), ((s.elapse dt).rtcRun = true)) ∧
    (∃ (s : State) (dt : Nat), ((s.elapse dt).rtcRun = false)) ∧
    (∃ (s : State), (s.rtcSec + 1 < calSeconds) ∧ (s.rtcDst = none) ∧ (s.rtcFold = none)) ∧
    (∃ (s : State) (dt : Nat) (m : Meas) (t : W64), ((s.elapse dt).meas = some m) ∧ (m.mains = true) ∧ (m.ended = false) ∧ (m.start = some t)) ∧
    (∃ (s : State) (dt : Nat) (m : Meas), ((s.elapse dt).meas = some m) ∧ (m.mains = true) ∧ (m.ended = false) ∧ (m.start = none)) ∧
    (∃ (s : State) (dt : Nat) (m : Meas), ((s.elapse dt).meas = some m) ∧ (m.mains = true)) ∧
    (∃ (s : State) (dt : Nat) (m : Meas), ((s.elapse dt).meas = some m) ∧ (m.ended = true) ∧ (m.ratio.2 ≠ 0) ∧ (-(2 ^ 31) ≤ (nearest (m.ratio.1 * 1000000000) m.ratio.2)) ∧ ((nearest (m.ratio.1 * 1000000000) m.ratio.2) < 2 ^ 31)) ∧
    (∃ (s : State), (s.rtcRun = true)) ∧
    (∃ (s : State), (s.rtcRun = false)) :=
  ⟨⟨State.reset, 1, by decide +kernel⟩,
   ⟨{ State.reset with rtcRun := false }, 1, by decide +kernel⟩,
   ⟨State.reset, by decide +kernel⟩,
   ⟨{ State.reset with meas := some mains1 }, 1, mains1, 0, by decide +kernel⟩,
   ⟨{ State.reset with meas := some { mains1 with start := none } }, 1, { mains1 with start := none }, by decide +kernel⟩,
   ⟨{ State.reset with meas := some mains1 }, 1, mains1, by decide +kernel⟩,
   ⟨{ State.reset with meas := some { mains1 with e := 1600000000, n := 5000 } }, 1, { mains1 with e := 1600000000, n := 5000 }, by decide +kernel⟩,
   ⟨State.reset, by decide +kernel⟩,
   ⟨{ State.reset with rtcRun := false }, by decide +kernel⟩⟩

/-- States and operands that meet the premises of the clauses of `Obligations.PortsAndFramesResult`. -/
theorem witness_PortsAndFramesResult :
    (∃ (s : State) (lane : BitVec 7) (src : BitVec 10) (d : W), (isVf src.toNat = false) ∧ ((lane.toNat) < s.fuse.lanes) ∧ (fld d 15 12 < 4) ∧ (s.rb (aLN_BSTAT (lane.toNat)) 1 = false) ∧ (s.rb (aLN_BSTAT (lane.toNat)) 0 = false)) ∧
    (∃ (s : State) (lane : BitVec 7) (src : BitVec 10) (d : W), (isVf src.toNat = false) ∧ ((lane.toNat) < s.fuse.lanes) ∧ (4 ≤ fld d 15 12)) ∧
    (∃ (s : State) (lane : BitVec 7), ((lane.toNat) < s.fuse.lanes) ∧ (1 ≤ s.laneMode (lane.toNat)) ∧ (s.laneMode (lane.toNat) ≤ 9) ∧ (s.rf (aLN_MODE (lane.toNat)) 15 12 = 0) ∧ (s.rb (aLN_BSTAT (lane.toNat)) 1 = false)) ∧
    (∃ (s : State) (lane : BitVec 7) (c : BitVec 8), ((lane.toNat) < s.fuse.lanes) ∧ (3 ≤ c.toNat) ∧ (c.toNat ≤ 5) ∧ (1 ≤ s.laneMode (lane.toNat)) ∧ (s.laneMode (lane.toNat) ≤ 9) ∧ (s.rf (aLN_MODE (lane.toNat)) 15 12 = 0) ∧ (s.rb (aLN_BSTAT (lane.toNat)) 1 = false)) ∧
    (∃ (s : State) (lane : BitVec 7), ((lane.toNat) < s.fuse.lanes) ∧ (s.rf (aLN_STAT (lane.toNat)) 0 0 ≠ 0)) ∧
    (∃ (s : State) (port : BitVec 7), ((s.port (port.toNat)).reform = true)) ∧
    (∃ (s : State) (port : BitVec 7), (s.portUp (port.toNat) = true) ∧ (s.configured (port.toNat) = true) ∧ (s.rb (aSW_PORT_CFG (port.toNat)) 28 = true)) ∧
    (∃ (s : State) (port : BitVec 7) (dt : Nat) (head : List Byte), ((s.elapse dt).configured (port.toNat) = true) ∧ ((s.elapse dt).carries (port.toNat) = true) ∧ ((s.elapse dt).switchOff = false) ∧ (etherType head = 0x8808)) ∧
    (∃ (s : State) (port : BitVec 7) (dt : Nat) (head : List Byte) (i : Nat), ((s.elapse dt).configured (port.toNat) = true) ∧ ((s.elapse dt).carries (port.toNat) = true) ∧ ((s.elapse dt).switchOff = false) ∧ (etherType head ≠ 0x8808) ∧ (((s.elapse dt).member && (s.elapse dt).syncPorts.contains (port.toNat)) = false) ∧ (etherType head = (s.elapse dt).rf aSW_ETYPE 15 0) ∧ ((SpanHdr.of (head.drop (headerAt head))).ver = 1) ∧ (1 ≤ (SpanHdr.of (head.drop (headerAt head))).ty) ∧ ((SpanHdr.of (head.drop (headerAt head))).ty ≤ 4) ∧ ((SpanHdr.of (head.drop (headerAt head))).ty ≠ 3) ∧ ((s.elapse dt).findStream (SpanHdr.of (head.drop (headerAt head))).stream = some i) ∧ ((s.elapse dt).conforms i = true)) ∧
    (∃ (s : State) (port : BitVec 7) (dt : Nat) (head : List Byte), ((s.elapse dt).configured (port.toNat) = true) ∧ ((s.elapse dt).carries (port.toNat) = true) ∧ ((s.elapse dt).switchOff = false) ∧ (etherType head ≠ 0x8808) ∧ (((s.elapse dt).member && (s.elapse dt).syncPorts.contains (port.toNat)) = false) ∧ (etherType head = (s.elapse dt).rf aSW_ETYPE 15 0) ∧ ((SpanHdr.of (head.drop (headerAt head))).ver = 1) ∧ (((SpanHdr.of (head.drop (headerAt head))).ty = 1 ∨ (SpanHdr.of (head.drop (headerAt head))).ty = 2 ∨ (SpanHdr.of (head.drop (headerAt head))).ty = 4)) ∧ ((s.elapse dt).findStream (SpanHdr.of (head.drop (headerAt head))).stream = none)) ∧
    (∃ (s : State) (port : BitVec 7) (dt : Nat) (head : List Byte), ((s.elapse dt).configured (port.toNat) = true) ∧ ((s.elapse dt).carries (port.toNat) = true) ∧ ((s.elapse dt).switchOff = false) ∧ (etherType head ≠ 0x8808) ∧ (((s.elapse dt).member && (s.elapse dt).syncPorts.contains (port.toNat)) = false) ∧ (etherType head ≠ (s.elapse dt).rf aSW_ETYPE 15 0)) ∧
    (∃ (s : State) (port : BitVec 7) (dt : Nat) (r : Rx), ((s.elapse dt).rxOf (port.toNat) = some r) ∧ ((s.elapse dt).clkStop = false) ∧ (r.drop = true)) ∧
    (∃ (s : State) (port : BitVec 7) (dt : Nat) (r : Rx), ((s.elapse dt).rxOf (port.toNat) = some r) ∧ ((s.elapse dt).clkStop = false) ∧ (r.drop = false) ∧ (r.span = true) ∧ (r.ty ≠ 3)) ∧
    (∃ (s : State) (port : BitVec 7) (dt : Nat), ((s.elapse dt).carries (port.toNat) = true) ∧ (((s.elapse dt).port (port.toNat)).expEnd ≤ (s.elapse dt).fab) ∧ (((s.elapse dt).port (port.toNat)).cut = none) ∧ ((s.elapse dt).switchOff = false) ∧ (((s.elapse dt).port (port.toNat)).susp = none) ∧ (((s.elapse dt).port (port.toNat)).blkEnd ≤ (s.elapse dt).fab)) ∧
    (∃ (s : State) (port : BitVec 7) (dt : Nat), ((s.elapse dt).rb (aSW_PORT_STAT (port.toNat)) 1 = true)) ∧
    (∃ (s : State) (dt : Nat) (n : BitVec 14) (b : Block), (FMap.get (fun _ => none) (s.elapse dt).slotWait n.toNat = some b) ∧ ((s.elapse dt).slotHeld n.toNat (1 - (s.elapse dt).slotCur n.toNat) = false)) ∧
    (∃ (s : State) (dt : Nat) (i : BitVec 16), ((s.elapse dt).rf (aSW_ST6 i.toNat) 31 16 ≠ 0) ∧ ((s.elapse dt).rb (aSW_ST7 i.toNat) 15 = true) ∧ ((s.elapse dt).rf (aSW_ST6 i.toNat) 31 16 * 8000 ≤ (s.elapse dt).fab - FMap.get (fun _ => 0) (s.elapse dt).accepted i.toNat)) :=
  ⟨⟨State.reset, 5, 0, 1, by decide +kernel⟩,
   ⟨State.reset, 5, 0, 0x4001, by decide +kernel⟩,
   ⟨withRegs [(aLN_MODE 5, 1)], 5, by decide +kernel⟩,
   ⟨withRegs [(aLN_STAT 5, 15), (aLN_MODE 5, 1)], 5, 4, by decide +kernel⟩,
   ⟨withRegs [(aLN_STAT 5, 15)], 5, by decide +kernel⟩,
   ⟨State.reset.setPort 5 { Port.zero with reform := true }, 5, by decide +kernel⟩,
   ⟨withRegs [(aSW_PORT_STAT 5, 1), (aSW_PORT_CFG 5, 0x90000000)], 5, by decide +kernel⟩,
   ⟨withRegs [(aSW_PORT_STAT 5, 1), (aSW_PORT_CFG 5, 0x80000000)], 5, 1, (List.replicate 12 0) ++ [0x88, 0x08], by decide +kernel⟩,
   ⟨withRegs [(aSW_PORT_STAT 5, 1), (aSW_PORT_CFG 5, 0x80000000), (aSW_ST0 0, 0x80000000), (aSW_ETYPE, 0x1234)], 5, 1, (List.replicate 12 0) ++ [0x12, 0x34, 0x11] ++ List.replicate 20 0, 0, by decide +kernel⟩,
   ⟨withRegs [(aSW_PORT_STAT 5, 1), (aSW_PORT_CFG 5, 0x80000000), (aSW_ETYPE, 0x1234)], 5, 1, (List.replicate 12 0) ++ [0x12, 0x34, 0x11] ++ List.replicate 20 0, by decide +kernel⟩,
   ⟨withRegs [(aSW_PORT_STAT 5, 1), (aSW_PORT_CFG 5, 0x80000000), (aSW_ETYPE, 0x1234)], 5, 1, (List.replicate 12 0) ++ [0x08, 0x00], by decide +kernel⟩,
   ⟨State.reset.setRx 5 (some { head := [], span := true, hdrAt := 0, ty := 1, stream := 0, w0 := 0, w5 := 0, w6 := 0, drop := true, f0 := 0, f1 := 0, gone := [], late := false }), 5, 1, { head := [], span := true, hdrAt := 0, ty := 1, stream := 0, w0 := 0, w5 := 0, w6 := 0, drop := true, f0 := 0, f1 := 0, gone := [], late := false }, by decide +kernel⟩,
   ⟨State.reset.setRx 5 (some { head := [], span := true, hdrAt := 0, ty := 1, stream := 0, w0 := 0, w5 := 0, w6 := 0, drop := false, f0 := 0, f1 := 0, gone := [], late := false }), 5, 1, { head := [], span := true, hdrAt := 0, ty := 1, stream := 0, w0 := 0, w5 := 0, w6 := 0, drop := false, f0 := 0, f1 := 0, gone := [], late := false }, by decide +kernel⟩,
   ⟨withRegs [(aSW_PORT_STAT 5, 1), (aSW_PORT_CFG 5, 0x80000000)], 5, 1, by decide +kernel⟩,
   ⟨withRegs [(aSW_PORT_STAT 5, 3)], 5, 1, by decide +kernel⟩,
   ⟨{ State.reset with slotWait := [(5, some { modid := 0, mseq := 0, status := 0, data := [1] })] }, 1, 5, { modid := 0, mseq := 0, status := 0, data := [1] }, by decide +kernel⟩,
   ⟨withRegs [(aSW_ST6 5, 0x10000), (aSW_ST7 5, 0x8000)], 8000, 5, by decide +kernel⟩⟩

/-- States and operands that meet the premises of the clauses of `Obligations.NetworkAndMoverCommitsResult`. -/
theorem witness_NetworkAndMoverCommitsResult :
    (∃ (src : BitVec 10), (isVf src.toNat = false)) ∧
    (∃ (src : BitVec 10), (isVf src.toNat = false)) ∧
    (∃ (src : BitVec 10), (isVf src.toNat = false)) ∧
    (∃ (src : BitVec 10), (isVf src.toNat = true)) ∧
    (∃ (s : State) (dt : Nat) (r : Nat) (p : Nat) (k : Nat), ((s.elapse dt).onTick = true) ∧ ((s.elapse dt).rb aSW_COMMIT 1 = true) ∧ ((s.elapse dt).swCheck = some (r, p, k))) ∧
    (∃ (s : State) (dt : Nat), ((s.elapse dt).onTick = true) ∧ ((s.elapse dt).rb aSW_COMMIT 1 = true) ∧ ((s.elapse dt).swCheck = none)) ∧
    (∃ (s : State) (dt : Nat), ((s.elapse dt).onTick = true) ∧ ((s.elapse dt).rb aQM_COMMIT 1 = true) ∧ ((s.elapse dt).queueCheck ≠ 0)) ∧
    (∃ (s : State) (dt : Nat), ((s.elapse dt).onTick = true) ∧ ((s.elapse dt).rb aQM_COMMIT 1 = true) ∧ ((s.elapse dt).queueCheck = 0)) ∧
    (∃ (s : State) (dt : Nat), ((s.elapse dt).rb aMOV_COMMIT 1 = true) ∧ ((s.elapse dt).movCheck (s.elapse dt).movCandidate ≠ 0)) ∧
    (∃ (s : State) (dt : Nat), ((s.elapse dt).rb aMOV_COMMIT 1 = true) ∧ ((s.elapse dt).movCheck (s.elapse dt).movCandidate = 0)) ∧
    (∃ (s : State) (src : BitVec 10) (d : W), (isVf src.toNat = false) ∧ (s.rb aMOV_COMMIT 1 = false) ∧ (fld d 31 16 + fld d 15 0 ≤ 61440) ∧ (fld d 31 16 ≤ 4096)) ∧
    (∃ (s : State) (src : BitVec 10), (isVf src.toNat = false) ∧ (s.rb aMOV_COMMIT 1 = true)) ∧
    (∃ (s : State) (dt : Nat) (g : BitVec 4), ((s.elapse dt).moverUp = true) ∧ ((s.elapse dt).onTick = true) ∧ ((s.elapse dt).merMark.toNat < (s.elapse dt).grid.toNat) ∧ ((s.elapse dt).groupGrid g.toNat (s.elapse dt).grid = true)) ∧
    (∃ (s : State) (dt : Nat) (t : Nat), ((s.elapse dt).stationUp = true) ∧ ((s.elapse dt).hbSent = some t) ∧ (t + 80000 ≤ (s.elapse dt).fab)) ∧
    (∃ (s : State) (dt : Nat), ((s.elapse dt).stationUp = true) ∧ ((s.elapse dt).hbSent = none)) ∧
    (∃ (s : State) (dt : Nat) (t : Nat), ((s.elapse dt).hbSent = some t) ∧ (¬ t + 80000 ≤ (s.elapse dt).fab)) :=
  ⟨⟨0, by decide +kernel⟩,
   ⟨0, by decide +kernel⟩,
   ⟨0, by decide +kernel⟩,
   ⟨7, by decide +kernel⟩,
   ⟨(withAbsent [(aSW_COMMIT, 2)]).setPnd (aSW_PORT_CFG 0) 0xE0000000, 800, 2, 0, 0, by decide +kernel⟩,
   ⟨withAbsent [(aSW_COMMIT, 2)], 800, by decide +kernel⟩,
   ⟨(withAbsent [(aQM_COMMIT, 2)]).setPnd (aQM_Q0 600) 0x80000000, 800, by decide +kernel⟩,
   ⟨allPorts, 800, by decide +kernel⟩,
   ⟨(withRegs [(aMOV_COMMIT, 2)]).setPnd (aSG_PERIOD 2) 0x80000001, 1, by decide +kernel⟩,
   ⟨withRegs [(aMOV_COMMIT, 2)], 1, by decide +kernel⟩,
   ⟨State.reset, 0, 0x00100020, by decide +kernel⟩,
   ⟨withRegs [(aMOV_COMMIT, 2)], 0, by decide +kernel⟩,
   ⟨at40 (withRegs [(aSG_PERIOD 2, 0x80000014)]), 1, 2, by decide +kernel⟩,
   ⟨{ withRegs [(aRST_BOOTPH, 5)] with hbSent := some 0 }, 80000, 0, by decide +kernel⟩,
   ⟨withRegs [(aRST_BOOTPH, 5)], 1, by decide +kernel⟩,
   ⟨{ State.reset with hbSent := some 0 }, 79999, 0, by decide +kernel⟩⟩

/-- States and operands that meet the premises of the clauses of `Obligations.LeasesAndWitnessesResult`. -/
theorem witness_LeasesAndWitnessesResult :
    (∃ (s : State) (m : Bool) (pair : BitVec 16) (epoch : BitVec 16) (len : BitVec 16) (dt : Nat) (k : Nat), ((s.elapse dt).clkStop = false) ∧ ((s.elapse dt).witEntry pair.toNat = some k) ∧ ((s.elapse dt).rb (aWT_2 k) 29 = false) ∧ (200 ≤ len.toNat) ∧ (len.toNat ≤ 2000) ∧ ((s.elapse dt).witHolder k = some m) ∧ ((s.elapse dt).rf (aWT_2 k) 15 0 = epoch.toNat)) ∧
    (∃ (s : State) (m : Bool) (pair : BitVec 16) (len : BitVec 16) (dt : Nat) (k : Nat), ((s.elapse dt).clkStop = false) ∧ ((s.elapse dt).witEntry pair.toNat = some k) ∧ ((s.elapse dt).rb (aWT_2 k) 29 = false) ∧ (200 ≤ len.toNat) ∧ (len.toNat ≤ 2000) ∧ ((s.elapse dt).witHolder k ≠ some m)) ∧
    (∃ (s : State) (m : Bool) (pair : BitVec 16) (epoch : BitVec 16) (len : BitVec 16) (dt : Nat) (k : Nat), ((s.elapse dt).clkStop = false) ∧ ((s.elapse dt).witEntry pair.toNat = some k) ∧ ((s.elapse dt).rb (aWT_2 k) 29 = false) ∧ (200 ≤ len.toNat) ∧ (len.toNat ≤ 2000) ∧ (newer epoch.toNat ((s.elapse dt).witHigh k) = true) ∧ (((s.elapse dt).witHolder k = none ∨ (s.elapse dt).witHolder k = some m ∨ (s.elapse dt).witExpiry k + 40000 ≤ (s.elapse dt).fab))) ∧
    (∃ (s : State) (pair : BitVec 16) (epoch : BitVec 16) (len : BitVec 16) (dt : Nat) (k : Nat), ((s.elapse dt).clkStop = false) ∧ ((s.elapse dt).witEntry pair.toNat = some k) ∧ ((s.elapse dt).rb (aWT_2 k) 29 = false) ∧ (200 ≤ len.toNat) ∧ (len.toNat ≤ 2000) ∧ (newer epoch.toNat ((s.elapse dt).witHigh k) = false)) ∧
    (∃ (s : State) (m : Bool) (pair : BitVec 16) (epoch : BitVec 16) (len : BitVec 16) (dt : Nat) (k : Nat), ((s.elapse dt).clkStop = false) ∧ ((s.elapse dt).witEntry pair.toNat = some k) ∧ ((s.elapse dt).rb (aWT_2 k) 29 = false) ∧ (200 ≤ len.toNat) ∧ (len.toNat ≤ 2000) ∧ (newer epoch.toNat ((s.elapse dt).witHigh k) = true) ∧ ((s.elapse dt).witHolder k = some (!m)) ∧ ((s.elapse dt).fab < (s.elapse dt).witExpiry k + 40000)) ∧
    (∃ (s : State) (m : Bool) (pair : BitVec 16) (epoch : BitVec 16) (len : BitVec 16) (dt : Nat) (k : Nat), ((s.elapse dt).clkStop = false) ∧ ((s.elapse dt).witEntry pair.toNat = some k) ∧ ((s.elapse dt).rb (aWT_2 k) 29 = false) ∧ (200 ≤ len.toNat) ∧ (len.toNat ≤ 2000) ∧ ((s.elapse dt).witHolder k = some m) ∧ ((s.elapse dt).rf (aWT_2 k) 15 0 = epoch.toNat)) ∧
    (∃ (s : State) (m : Bool) (pair : BitVec 16) (epoch : BitVec 16) (len : BitVec 16) (dt : Nat) (k : Nat), ((s.elapse dt).clkStop = false) ∧ ((s.elapse dt).witEntry pair.toNat = some k) ∧ ((s.elapse dt).rb (aWT_2 k) 29 = false) ∧ (200 ≤ len.toNat) ∧ (len.toNat ≤ 2000) ∧ ((s.elapse dt).witHolder k = some m) ∧ ((s.elapse dt).rf (aWT_2 k) 15 0 = epoch.toNat) ∧ (newer ((epoch.toNat + 1) % 65536) ((s.elapse dt).witHigh k) = true)) ∧
    (∃ (s : State) (pair : BitVec 16) (dt : Nat) (k : Nat), ((s.elapse dt).clkStop = false) ∧ ((s.elapse dt).witEntry pair.toNat = some k) ∧ ((s.elapse dt).rb (aWT_2 k) 29 = true)) ∧
    (∃ (s : State) (dt : Nat) (k : BitVec 4), ((s.elapse dt).rb (aWT_2 k.toNat) 29 = true) ∧ (FMap.get (fun _ => 0) (s.elapse dt).witQuiet k.toNat ≤ (s.elapse dt).fab)) ∧
    (∃ (s : State) (dt : Nat), ((s.elapse dt).ruRuns = true) ∧ ((s.elapse dt).ruRole = 3)) ∧
    (∃ (s : State) (dt : Nat), ((s.elapse dt).ruRole = 3) ∧ ((s.elapse dt).leaseValid = false) ∧ ((s.elapse dt).clkStop = false)) ∧
    (∃ (s : State) (dt : Nat), (((s.elapse dt).ruRole = 4 ∨ (s.elapse dt).ruRole = 5)) ∧ ((s.elapse dt).peerValid = false) ∧ ((s.elapse dt).ru.swapTo = none) ∧ ((s.elapse dt).clkStop = false)) ∧
    (∃ (s : State) (dt : Nat), ((s.elapse dt).ruRuns = true) ∧ ((s.elapse dt).ruRole = 1) ∧ ((s.elapse dt).mayClaim = true)) ∧
    (∃ (s : State) (dt : Nat) (e : Nat), ((s.elapse dt).ruRole = 2) ∧ ((s.elapse dt).ru.retry = true) ∧ ((s.elapse dt).ru.claim = some e)) ∧
    (∃ (s : State) (dt : Nat) (f : Nat) (e : Nat), ((s.elapse dt).ru.firstG = some f) ∧ ((s.elapse dt).ru.claim = some e) ∧ ((s.elapse dt).ruRole = 2) ∧ (f + 40000 ≤ (s.elapse dt).fab)) ∧
    (∃ (s : State) (dt : Nat) (w : BitVec 3) (pair : BitVec 16), ((s.elapse dt).fromWitness w.toNat pair.toNat = true)) ∧
    (∃ (s : State) (dt : Nat) (w : BitVec 3) (m : Bool) (pair : BitVec 16) (epoch : BitVec 16) (high : BitVec 16), ((s.elapse dt).fromWitness w.toNat pair.toNat = true) ∧ (m = (((s.elapse dt).noteEpoch epoch.toNat).noteEpoch high.toNat).isMember1) ∧ ((((s.elapse dt).noteEpoch epoch.toNat).noteEpoch high.toNat).ruRole = 2) ∧ ((((s.elapse dt).noteEpoch epoch.toNat).noteEpoch high.toNat).ru.claim.isSome = true)) :=
  ⟨⟨withRegs [(aWT_0 1, 0x80000007), (aWT_2 1, 0xC0000004), (aWT_3 1, 0)], true, 7, 4, 1000, 1, 1, by decide +kernel⟩,
   ⟨withRegs [(aWT_0 1, 0x80000007), (aWT_2 1, 0x80000004), (aWT_3 1, 0)], true, 7, 1000, 1, 1, by decide +kernel⟩,
   ⟨withRegs [(aWT_0 1, 0x80000007), (aWT_2 1, 0), (aWT_3 1, 0)], true, 7, 4, 1000, 1, 1, by decide +kernel⟩,
   ⟨withRegs [(aWT_0 1, 0x80000007), (aWT_2 1, 0), (aWT_3 1, 4)], 7, 4, 1000, 1, 1, by decide +kernel⟩,
   ⟨withRegs [(aWT_0 1, 0x80000007), (aWT_2 1, 0x80000004), (aWT_3 1, 0)], true, 7, 4, 1000, 1, 1, by decide +kernel⟩,
   ⟨withRegs [(aWT_0 1, 0x80000007), (aWT_2 1, 0xC0000004), (aWT_3 1, 0)], true, 7, 4, 1000, 1, 1, by decide +kernel⟩,
   ⟨withRegs [(aWT_0 1, 0x80000007), (aWT_2 1, 0xC0000004), (aWT_3 1, 0)], true, 7, 4, 1000, 1, 1, by decide +kernel⟩,
   ⟨withRegs [(aWT_0 1, 0x80000007), (aWT_2 1, 0x20000000), (aWT_3 1, 0)], 7, 1, 1, by decide +kernel⟩,
   ⟨withRegs [(aWT_2 1, 0x20000000)], 1, 1, by decide +kernel⟩,
   ⟨withRegs [(aRU_CFG, 0x80000000), (aRU_ROLE, 3)], 1, by decide +kernel⟩,
   ⟨withRegs [(aRU_ROLE, 3)], 1, by decide +kernel⟩,
   ⟨withRegs [(aRU_ROLE, 5)], 1, by decide +kernel⟩,
   ⟨withRegs [(aRU_CFG, 0x80000000), (aRU_ROLE, 1)], 2000000, by decide +kernel⟩,
   ⟨{ withRegs [(aRU_ROLE, 2)] with ru := { Ru.zero with retry := true, claim := some 5 } }, 1, 5, by decide +kernel⟩,
   ⟨{ withRegs [(aRU_ROLE, 2)] with ru := { Ru.zero with firstG := some 0, claim := some 5 } }, 50000, 0, 5, by decide +kernel⟩,
   ⟨withRegs [(aRU_CFG, 0x80000007), (aRU_WIT 2, 0x80000000)], 1, 2, 7, by decide +kernel⟩,
   ⟨{ withRegs [(aRU_CFG, 0x80000007), (aRU_WIT 2, 0x80000000), (aRU_ROLE, 2)] with ru := { Ru.zero with claim := some 5 } }, 1, 2, false, 7, 1, 1, by decide +kernel⟩⟩

/-- States and operands that meet the premises of the clauses of `Obligations.MirrorFramesResult`. -/
theorem witness_MirrorFramesResult :
    (∃ (s : State) (p : BitVec 9) (t : BitVec 3) (stamp : W) (dt : Nat), ((s.elapse dt).shadowTask (p.toNat) (t.toNat) = true) ∧ ((s.elapse dt).fullStamp (p.toNat) stamp = none)) ∧
    (∃ (s : State) (p : BitVec 9) (t : BitVec 3) (dt : Nat), ((s.elapse dt).shadowTask (p.toNat) (t.toNat) = true)) ∧
    (∃ (s : State) (p : BitVec 9) (t : BitVec 3) (dt : Nat), ((s.elapse dt).shadowTask (p.toNat) (t.toNat) = true)) ∧
    (∃ (s : State) (p : BitVec 9) (dt : Nat), ((s.elapse dt).standbyCopy (p.toNat) = true)) ∧
    (∃ (s : State) (p : BitVec 9) (dt : Nat), ((s.elapse dt).standbyCopy (p.toNat) = true)) ∧
    (∃ (s : State) (dt : Nat), (((s.elapse dt).ruRole = 4 ∨ (s.elapse dt).ruRole = 5))) ∧
    (∃ (s : State) (dt : Nat), ((s.elapse dt).ruRole = 3)) ∧
    (∃ (s : State) (p : BitVec 9) (t : BitVec 3) (stamp : W) (dt : Nat) (e : Nat × W × Bool), ((s.elapse dt).ruRole = 3) ∧ ((s.elapse dt).pairPart (p.toNat) = true) ∧ ((s.elapse dt).ru.open_.find? (fun e => e.1 == (p.toNat) * 16 + (t.toNat) && e.2.1 == stamp) = some e) ∧ ((s.elapse dt).ru.verdict = none)) ∧
    (∃ (s : State) (p : BitVec 9) (t : BitVec 3) (stamp : W) (flags : Byte) (dt : Nat) (e : Nat × W × Bool), ((s.elapse dt).ruRole = 3) ∧ ((s.elapse dt).pairPart (p.toNat) = true) ∧ ((s.elapse dt).ru.open_.find? (fun e => e.1 == (p.toNat) * 16 + (t.toNat) && e.2.1 == stamp) = some e) ∧ ((s.elapse dt).ru.verdict.map Prod.fst = some ((p.toNat) * 16 + (t.toNat))) ∧ ((((({ (s.elapse dt) with ru := { (s.elapse dt).ru with open_ := verdictLeft ((p.toNat) * 16 + (t.toNat)) stamp (s.elapse dt).ru.open_ } } : State)).ruEvent 4).shad (p.toNat) (t.toNat)).stamp = stamp) ∧ (flags.getLsbD 0 = false)) ∧
    (∃ (s : State) (p : BitVec 9) (t : BitVec 3) (stamp : W) (dt : Nat), ((s.elapse dt).ru.open_.find? (fun e => e.1 == (p.toNat) * 16 + (t.toNat) && e.2.1 == stamp) = none)) ∧
    (∃ (s : State) (dt : Nat), ((s.elapse dt).ruRuns = true)) ∧
    (∃ (s : State) (dt : Nat), ((s.elapse dt).ruRuns = true)) ∧
    (∃ (s : State) (p : BitVec 9) (dt : Nat), ((s.elapse dt).standbyCopy (p.toNat) = true)) ∧
    (∃ (s : State) (p : BitVec 9) (t : BitVec 3) (dt : Nat), ((s.elapse dt).shadowTask (p.toNat) (t.toNat) = true) ∧ ((s.elapse dt).tstate (p.toNat) (t.toNat) = tIdle) ∧ (((s.elapse dt).shad (p.toNat) (t.toNat)).due.isSome = true) ∧ (((s.elapse dt).shad (p.toNat) (t.toNat)).vecs = [])) ∧
    (∃ (s : State) (dt : Nat) (k : Nat) (t0 : Nat), ((s.elapse dt).ru.verdict = some (k, t0)) ∧ (t0 + (s.elapse dt).rf (aTT_PERIOD (k / 16) (k % 16)) 23 0 * 800 ≤ (s.elapse dt).fab)) ∧
    (∃ (s : State) (p : BitVec 9) (t : BitVec 3) (dt : Nat), ((s.elapse dt).ruCap.contains (p.toNat * 16 + t.toNat) = true) ∧ ((s.elapse dt).inPause p.toNat = false)) ∧
    (∃ (s : State) (p : BitVec 9) (t : BitVec 3) (dt : Nat) (t0 : Nat) (j : CuJob), (((s.elapse dt).shad (p.toNat) (t.toNat)).waits = some t0) ∧ ((s.elapse dt).cu.find? (fun j => !j.out && j.p == (p.toNat) && j.t == (t.toNat)) = some j) ∧ ((j.todo.head?.map (fun i => ((s.elapse dt).pickBlock j i).isSome)).getD true = true)) ∧
    (∃ (s : State) (p : BitVec 9) (t : BitVec 3) (dt : Nat) (t0 : Nat) (j : CuJob), (((s.elapse dt).shad (p.toNat) (t.toNat)).waits = some t0) ∧ ((s.elapse dt).cu.find? (fun j => !j.out && j.p == (p.toNat) && j.t == (t.toNat)) = some j) ∧ ((j.todo.head?.map (fun i => ((s.elapse dt).pickBlock j i).isSome)).getD true = false) ∧ (t0 + 40000 ≤ (s.elapse dt).fab)) ∧
    (∃ (s : State) (p : BitVec 9) (t : BitVec 3) (dt : Nat) (t0 : Nat) (j : CuJob), (((s.elapse dt).shad (p.toNat) (t.toNat)).waits = some t0) ∧ ((s.elapse dt).cu.find? (fun j => !j.out && j.p == (p.toNat) && j.t == (t.toNat)) = some j) ∧ ((j.todo.head?.map (fun i => ((s.elapse dt).pickBlock j i).isSome)).getD true = false) ∧ ((s.elapse dt).fab < t0 + 40000)) :=
  ⟨⟨withRegs [(aRU_CFG, 0x80000000), (aRU_PARTS 0, 8), (aRU_ROLE, 5), (aPD_MODE 3, 2)], 3, 1, 5, 1, by decide +kernel⟩,
   ⟨withRegs [(aRU_CFG, 0x80000000), (aRU_PARTS 0, 8), (aRU_ROLE, 5), (aPD_MODE 3, 2)], 3, 1, 1, by decide +kernel⟩,
   ⟨withRegs [(aRU_CFG, 0x80000000), (aRU_PARTS 0, 8), (aRU_ROLE, 5), (aPD_MODE 3, 2)], 3, 1, 1, by decide +kernel⟩,
   ⟨withRegs [(aRU_CFG, 0x80000000), (aRU_PARTS 0, 8), (aRU_ROLE, 5), (aPD_MODE 3, 2)], 3, 1, by decide +kernel⟩,
   ⟨withRegs [(aRU_CFG, 0x80000000), (aRU_PARTS 0, 8), (aRU_ROLE, 5), (aPD_MODE 3, 2)], 3, 5, by decide +kernel⟩,
   ⟨withRegs [(aRU_CFG, 0x80000000), (aRU_PARTS 0, 8), (aRU_ROLE, 5), (aPD_MODE 3, 2)], 1, by decide +kernel⟩,
   ⟨withRegs [(aRU_CFG, 0x80000000), (aRU_PARTS 0, 8), (aRU_ROLE, 3), (aPD_MODE 3, 2)], 1, by decide +kernel⟩,
   ⟨{ withRegs [(aRU_CFG, 0x80000000), (aRU_PARTS 0, 8), (aRU_ROLE, 3), (aPD_MODE 3, 2)] with ru := { Ru.zero with open_ := [(49, 5, false)] } }, 3, 1, 5, 1, (49, 5, false), by decide +kernel⟩,
   ⟨({ withRegs [(aRU_CFG, 0x80000000), (aRU_PARTS 0, 8), (aRU_ROLE, 3), (aPD_MODE 3, 2)] with ru := { Ru.zero with verdict := some (49, 0), open_ := [(49, 5, false)] } }).setShad 3 1 { Shadow.zero with stamp := 5 }, 3, 1, 5, 0, 1, (49, 5, false), by decide +kernel⟩,
   ⟨State.reset, 3, 1, 5, 1, by decide +kernel⟩,
   ⟨withRegs [(aRU_CFG, 0x80000000), (aRU_PARTS 0, 8), (aRU_ROLE, 5), (aPD_MODE 3, 2)], 1, by decide +kernel⟩,
   ⟨withRegs [(aRU_CFG, 0x80000000), (aRU_PARTS 0, 8), (aRU_ROLE, 5), (aPD_MODE 3, 2)], 1, by decide +kernel⟩,
   ⟨withRegs [(aRU_CFG, 0x80000000), (aRU_PARTS 0, 8), (aRU_ROLE, 5), (aPD_MODE 3, 2)], 3, 1, by decide +kernel⟩,
   ⟨(withRegs [(aRU_CFG, 0x80000000), (aRU_PARTS 0, 8), (aRU_ROLE, 5), (aPD_MODE 3, 2), (aPD_TSTAT 3 1, 1)]).setShad 3 1 { Shadow.zero with due := some 0 }, 3, 1, 1, by decide +kernel⟩,
   ⟨{ State.reset with ru := { Ru.zero with verdict := some (49, 0) } }, 1, 49, 0, by decide +kernel⟩,
   ⟨{ State.reset with ruCap := [49] }, 3, 1, 1, by decide +kernel⟩,
   ⟨{ (withRegs [(aRU_CFG, 0x80000000), (aRU_PARTS 0, 8), (aRU_ROLE, 5), (aPD_MODE 3, 2), (aPD_TSTAT 3 1, 2), (aSW_SLOT0 0, 0x4000)]).setShad 3 1 { Shadow.zero with waits := some 0, follows := true } with cu := [{ job31 false with want := some [], todo := [] }] }, 3, 1, 1, 0, { job31 false with want := some [], todo := [] }, by decide +kernel⟩,
   ⟨{ (withRegs [(aRU_CFG, 0x80000000), (aRU_PARTS 0, 8), (aRU_ROLE, 5), (aPD_MODE 3, 2), (aPD_TSTAT 3 1, 2), (aSW_SLOT0 0, 0x4000)]).setShad 3 1 { Shadow.zero with waits := some 0, follows := true } with cu := [{ job31 false with want := some [some 7], todo := [0] }] }, 3, 1, 40000, 0, { job31 false with want := some [some 7], todo := [0] }, by decide +kernel⟩,
   ⟨{ (withRegs [(aRU_CFG, 0x80000000), (aRU_PARTS 0, 8), (aRU_ROLE, 5), (aPD_MODE 3, 2), (aPD_TSTAT 3 1, 2), (aSW_SLOT0 0, 0x4000)]).setShad 3 1 { Shadow.zero with waits := some 0, follows := true } with cu := [{ job31 false with want := some [some 7], todo := [0] }] }, 3, 1, 39999, 0, { job31 false with want := some [some 7], todo := [0] }, by decide +kernel⟩⟩

/-- States and operands that meet the premises of the clauses of `Obligations.SwapCommandsAndRedundancyCommitResult`. -/
theorem witness_SwapCommandsAndRedundancyCommitResult :
    (∃ (s : State) (src : BitVec 10), (isVf src.toNat = false) ∧ (s.rb aRU_CMD_STAT 0 = false) ∧ (s.mgmt = false) ∧ (s.supRun = true) ∧ (s.swapRefusal = 0)) ∧
    (∃ (s : State) (src : BitVec 10), (isVf src.toNat = false) ∧ (s.rb aRU_CMD_STAT 0 = false) ∧ (s.mgmt = false) ∧ (s.supRun = true) ∧ (s.ruRole ≠ 3) ∧ (s.ruRole ≠ 5)) ∧
    (∃ (s : State) (src : BitVec 10), (isVf src.toNat = false) ∧ (s.rb aRU_CMD_STAT 0 = false) ∧ (s.mgmt = false) ∧ (s.supRun = true)) ∧
    (∃ (s : State) (src : BitVec 10), (isVf src.toNat = false) ∧ (s.rb aRU_CMD_STAT 0 = false) ∧ (s.mgmt = false) ∧ (s.supRun = true)) ∧
    (∃ (s : State) (src : BitVec 10), (isVf src.toNat = false) ∧ (s.rb aRU_CMD_STAT 0 = false) ∧ (s.mgmt = false) ∧ (s.supRun = true)) ∧
    (∃ (s : State) (src : BitVec 10), (isVf src.toNat = false) ∧ (s.rb aRU_CMD_STAT 0 = false) ∧ (s.mgmt = false) ∧ (s.supRun = true)) ∧
    (∃ (s : State) (src : BitVec 10), (isVf src.toNat = false) ∧ (s.rb aRU_CMD_STAT 0 = true)) ∧
    (∃ (s : State) (src : BitVec 10), (isVf src.toNat = false) ∧ (s.rb aRU_CMD_STAT 0 = false) ∧ (s.mgmt = false) ∧ (s.supRun = false)) ∧
    (∃ (s : State) (dt : Nat), ((s.elapse dt).ruRole = 3) ∧ ((s.elapse dt).comm = false) ∧ (((s.elapse dt).rf aRU_TIMING 31 16) ≠ 0) ∧ ((s.elapse dt).rb aRU_CMD_STAT 0 = false) ∧ ((s.elapse dt).ru.holdAt + ((s.elapse dt).rf aRU_TIMING 31 16) * 48000000000 ≤ (s.elapse dt).fab) ∧ (((s.elapse dt).ru.swapTry = 0 ∨ (s.elapse dt).ru.swapTry + 48000000000 ≤ (s.elapse dt).fab))) ∧
    (∃ (s : State) (dt : Nat), ((s.elapse dt).ruRole = 3) ∧ ((s.elapse dt).ru.swapFrom.isSome = true) ∧ ((s.elapse dt).atSwapBoundary = true) ∧ ((s.elapse dt).onTick = true)) ∧
    (∃ (s : State) (dt : Nat) (t0 : Nat), ((s.elapse dt).ru.swapFrom = some t0) ∧ (t0 + 800000000 ≤ (s.elapse dt).fab)) ∧
    (∃ (s : State) (dt : Nat) (t0 : Nat), ((s.elapse dt).ru.swapTo = some t0) ∧ (t0 + (s.elapse dt).leaseClks ≤ (s.elapse dt).fab)) ∧
    (∃ (src : BitVec 10), (isVf src.toNat = false)) ∧
    (∃ (s : State) (dt : Nat), ((s.elapse dt).onTick = true) ∧ ((s.elapse dt).rb aRU_COMMIT 1 = true) ∧ (((s.elapse dt).ruCheck (s.elapse dt).ruCandidate) ≠ 0)) ∧
    (∃ (s : State) (dt : Nat), ((s.elapse dt).onTick = true) ∧ ((s.elapse dt).rb aRU_COMMIT 1 = true) ∧ ((s.elapse dt).ruCheck (s.elapse dt).ruCandidate = 0) ∧ (((s.elapse dt).ruRole ≠ 3 ∨ (s.elapse dt).ruCandidate.member = true))) :=
  ⟨⟨{ withRegs [(aRU_ROLE, 0x53)] with supRun := true, ru := { Ru.zero with stateAt := 1 } }, 0, by decide +kernel⟩,
   ⟨{ withRegs [(aRU_ROLE, 1)] with supRun := true }, 0, by decide +kernel⟩,
   ⟨{ withRegs [(aRU_ROLE, 5)] with supRun := true }, 0, by decide +kernel⟩,
   ⟨{ withRegs [(aRU_ROLE, 6)] with supRun := true }, 0, by decide +kernel⟩,
   ⟨{ withRegs [(aRU_ROLE, 3)] with supRun := true }, 0, by decide +kernel⟩,
   ⟨{ withRegs [(aRU_ROLE, 1), (aRU_CFG, 0x20000000)] with supRun := true }, 0, by decide +kernel⟩,
   ⟨withRegs [(aRU_CMD_STAT, 1)], 0, by decide +kernel⟩,
   ⟨{ State.reset with supRun := false }, 0, by decide +kernel⟩,
   ⟨withRegs [(aRU_ROLE, 3), (aRU_TIMING, 0x3C0000)], 3000000000000, by decide +kernel⟩,
   ⟨{ withRegs [(aRU_ROLE, 3)] with ru := { Ru.zero with swapFrom := some 0 } }, 800, by decide +kernel⟩,
   ⟨{ State.reset with ru := { Ru.zero with swapFrom := some 0 } }, 800000000, 0, by decide +kernel⟩,
   ⟨{ State.reset with ru := { Ru.zero with swapTo := some 0 } }, 2000000, 0, by decide +kernel⟩,
   ⟨0, by decide +kernel⟩,
   ⟨(withRegs [(aRU_COMMIT, 2)]).setPnd aRU_CFG 0x80000000, 800, by decide +kernel⟩,
   ⟨withRegs [(aRU_COMMIT, 2)], 800, by decide +kernel⟩⟩

/-- States and operands that meet the premises of the clauses of `Obligations.MeridianTimeResult`. -/
theorem witness_MeridianTimeResult :
    (∃ (s : State) (src : BitVec 10), (isVf src.toNat = false) ∧ (s.rb aMER_STAT 2 = false)) ∧
    (∃ (s : State) (src : BitVec 10), (isVf src.toNat = false) ∧ (s.rb aMER_STAT 2 = true)) ∧
    (∃ (s : State) (src : BitVec 10), (isVf src.toNat = false) ∧ (s.rb aMER_STAT 2 = false) ∧ (s.rb aRTC_STAT 0 = true)) ∧
    (∃ (s : State) (src : BitVec 10), (isVf src.toNat = false) ∧ (s.rb aMER_STAT 2 = false) ∧ (s.rb aRTC_STAT 0 = false)) ∧
    (∃ (s : State) (dt : Nat), (((s.elapse dt).seedDue = true ∨ (s.elapse dt).seedCmd = true)) ∧ ((s.elapse dt).rb aRTC_STAT 0 = true)) ∧
    (∃ (s : State) (src : BitVec 10), (isVf src.toNat = false) ∧ (s.merRole ≠ 1)) ∧
    (∃ (s : State) (src : BitVec 10), (isVf src.toNat = false) ∧ (s.merRole = 1)) ∧
    (∃ (s : State) (port : BitVec 7) (steps : Byte) (dt : Nat), ((s.elapse dt).merOn (port.toNat) = false ∨ 32 < steps.toNat)) ∧
    (∃ (s : State) (port : BitVec 7) (prio : Byte) (master : BitVec 16) (steps : Byte) (valid : Bool) (ppsl : Bool) (dt : Nat), ((s.elapse dt).merOn (port.toNat) = true) ∧ (steps.toNat ≤ 32) ∧ (({ (s.elapse dt) with merCand := FMap.set (fun _ => none) (s.elapse dt).merCand (port.toNat) (some (Cand.mk prio.toNat master.toNat steps.toNat valid ppsl (s.elapse dt).fab)) }.refreshMer).merRole = 1) ∧ (({ (s.elapse dt) with merCand := FMap.set (fun _ => none) (s.elapse dt).merCand (port.toNat) (some (Cand.mk prio.toNat master.toNat steps.toNat valid ppsl (s.elapse dt).fab)) }.refreshMer).rf aMER_STAT 23 16 = (port.toNat))) ∧
    (∃ (s : State) (port : BitVec 7) (prio : Byte) (master : BitVec 16) (steps : Byte) (valid : Bool) (ppsl : Bool) (dt : Nat), ((s.elapse dt).merOn (port.toNat) = true) ∧ (steps.toNat ≤ 32) ∧ ((({ (s.elapse dt) with merCand := FMap.set (fun _ => none) (s.elapse dt).merCand (port.toNat) (some (Cand.mk prio.toNat master.toNat steps.toNat valid ppsl (s.elapse dt).fab)) }.refreshMer).merRole ≠ 1 ∨ ({ (s.elapse dt) with merCand := FMap.set (fun _ => none) (s.elapse dt).merCand (port.toNat) (some (Cand.mk prio.toNat master.toNat steps.toNat valid ppsl (s.elapse dt).fab)) }.refreshMer).rf aMER_STAT 23 16 ≠ (port.toNat)))) ∧
    (∃ (s : State) (dt : Nat), (((s.elapse dt).refreshMer).merRole = 2) ∧ (((s.elapse dt).refreshMer).fatal = false) ∧ (((s.elapse dt).refreshMer).onTick = true) ∧ (((s.elapse dt).refreshMer).merMark.toNat < ((s.elapse dt).refreshMer).grid.toNat) ∧ (((s.elapse dt).refreshMer).grid.toNat / 1000 % (((s.elapse dt).refreshMer).rf aMER_CFG2 9 0 * 1000) = 0)) ∧
    (∃ (s : State) (dt : Nat), ((s.elapse dt).merRole ≠ 2) ∧ ((s.elapse dt).syncCand ((s.elapse dt).rf aMER_STAT 23 16) = none)) ∧
    (∃ (s : State) (port : BitVec 7) (dt : Nat), ((s.elapse dt).merOn (port.toNat) = true)) ∧
    (∃ (s : State) (port : BitVec 7) (rseq : BitVec 16) (dt : Nat) (t : W64), ((s.elapse dt).merOn (port.toNat) = true) ∧ (FMap.get (fun _ => none) (s.elapse dt).merReq (port.toNat) = some (rseq.toNat, t))) ∧
    (∃ (s : State) (port : BitVec 7) (dt : Nat), ((s.elapse dt).merOn (port.toNat) = false)) ∧
    (∃ (s : State) (dt : Nat), ((s.elapse dt).rb aMER_PPS 31 = true) ∧ ((s.elapse dt).merValid = true) ∧ ((s.elapse dt).now.toNat % 1000000000 < 2)) ∧
    (∃ (s : State) (dt : Nat), (((s.elapse dt).ppsSec * 1000000000 + (s.elapse dt).rf aMER_PPS 8 0 * 1000000 ≤ (s.elapse dt).now.toNat ∨ (s.elapse dt).rb aMER_PPS 31 = false ∨ (s.elapse dt).merValid = false))) ∧
    (∃ (s : State) (dt : Nat), ((s.elapse dt).rb aMER_PPS 30 = true) ∧ ((∀ t, (s.elapse dt).ppsAt = some t → t + 400000000 ≤ (s.elapse dt).fab))) :=
  ⟨⟨State.reset, 0, by decide +kernel⟩,
   ⟨withRegs [(aMER_STAT, 4)], 0, by decide +kernel⟩,
   ⟨withRegs [(aRTC_STAT, 1)], 0, by decide +kernel⟩,
   ⟨withRegs [(aRTC_STAT, 0)], 0, by decide +kernel⟩,
   ⟨{ withRegs [(aRTC_STAT, 1)] with seedDue := true }, 1, by decide +kernel⟩,
   ⟨State.reset, 0, by decide +kernel⟩,
   ⟨withRegs [(aMER_STAT, 0x40)], 0, by decide +kernel⟩,
   ⟨State.reset, 5, 0, 1, by decide +kernel⟩,
   ⟨withRegs [(aMER_PEN 5, 0x80000000)], 5, 1, 1, 0, true, false, 1, by decide +kernel⟩,
   ⟨withRegs [(aMER_PEN 5, 0x80000000), (aMER_CFG, 0x80000000)], 5, 1, 1, 0, true, false, 1, by decide +kernel⟩,
   ⟨{ withRegs [(aMER_CFG, 0x80000000)] with mer := 999999999 * 2 ^ 32 }, 1, by decide +kernel⟩,
   ⟨State.reset, 1, by decide +kernel⟩,
   ⟨withRegs [(aMER_PEN 5, 0x80000000)], 5, 1, by decide +kernel⟩,
   ⟨{ withRegs [(aMER_PEN 5, 0x80000000)] with merReq := [(5, some (7, 0))] }, 5, 7, 1, 0, by decide +kernel⟩,
   ⟨State.reset, 5, 1, by decide +kernel⟩,
   ⟨withRegs [(aMER_PPS, 0x80000064), (aMER_STAT, 1)], 1, by decide +kernel⟩,
   ⟨withRegs [(aMER_PPS, 0)], 1, by decide +kernel⟩,
   ⟨withRegs [(aMER_PPS, 0x40000000)], 1, ⟨by decide +kernel, nofun⟩⟩⟩

/-- States and operands that meet the premises of the clauses of `Obligations.FieldChannelsResult`. -/
theorem witness_FieldChannelsResult :
    (∃ (s : State) (ch : BitVec 5) (level : Bool) (samples : Nat) (dt : Nat), ((s.elapse dt).fuse.field = true) ∧ ((((List.range samples).filter (fun i => !(s.elapse dt).sampleIgnored (ch.toNat) ((s.elapse dt).fab - 8000 * i))).length) ≠ 0) ∧ (level = ((if samples = 0 then (s.elapse dt) else (s.elapse dt).setRf (aFIO_DIAG (ch.toNat)) 0 0 level.toNat).chan (ch.toNat)).level)) ∧
    (∃ (s : State) (ch : BitVec 5) (level : Bool) (samples : Nat) (dt : Nat), ((s.elapse dt).fuse.field = true) ∧ ((((List.range samples).filter (fun i => !(s.elapse dt).sampleIgnored (ch.toNat) ((s.elapse dt).fab - 8000 * i))).length) ≠ 0) ∧ (level ≠ ((if samples = 0 then (s.elapse dt) else (s.elapse dt).setRf (aFIO_DIAG (ch.toNat)) 0 0 level.toNat).chan (ch.toNat)).level) ∧ (10 * (if samples = 0 then (s.elapse dt) else (s.elapse dt).setRf (aFIO_DIAG (ch.toNat)) 0 0 level.toNat).rf (aFIO_CFG (ch.toNat)) 7 0 ≤ ((if samples = 0 then (s.elapse dt) else (s.elapse dt).setRf (aFIO_DIAG (ch.toNat)) 0 0 level.toNat).chan (ch.toNat)).cnt + (((List.range samples).filter (fun i => !(s.elapse dt).sampleIgnored (ch.toNat) ((s.elapse dt).fab - 8000 * i))).length))) ∧
    (∃ (s : State) (ch : BitVec 5) (level : Bool) (samples : Nat) (dt : Nat), ((s.elapse dt).fuse.field = true) ∧ ((((List.range samples).filter (fun i => !(s.elapse dt).sampleIgnored (ch.toNat) ((s.elapse dt).fab - 8000 * i))).length) ≠ 0) ∧ (level ≠ ((if samples = 0 then (s.elapse dt) else (s.elapse dt).setRf (aFIO_DIAG (ch.toNat)) 0 0 level.toNat).chan (ch.toNat)).level) ∧ (((if samples = 0 then (s.elapse dt) else (s.elapse dt).setRf (aFIO_DIAG (ch.toNat)) 0 0 level.toNat).chan (ch.toNat)).cnt + (((List.range samples).filter (fun i => !(s.elapse dt).sampleIgnored (ch.toNat) ((s.elapse dt).fab - 8000 * i))).length) < 10 * (if samples = 0 then (s.elapse dt) else (s.elapse dt).setRf (aFIO_DIAG (ch.toNat)) 0 0 level.toNat).rf (aFIO_CFG (ch.toNat)) 7 0)) ∧
    (∃ (s : State) (ch : BitVec 5) (samples : Nat) (dt : Nat), ((s.elapse dt).fuse.field = true) ∧ ((((List.range samples).filter (fun i => !(s.elapse dt).sampleIgnored (ch.toNat) ((s.elapse dt).fab - 8000 * i))).length) = 0)) ∧
    (∃ (s : State) (dt : Nat) (n : Nat) (on : Bool) (l : List (Nat × Bool)), ((s.elapse dt).fPause = false) ∧ ((s.elapse dt).rb aFIO_BSTAT 1 = false) ∧ ((s.elapse dt).fioLink = (n, on) :: l)) ∧
    (∃ (s : State) (src : BitVec 10), (s.fuse.field = true) ∧ (isVf src.toNat = false) ∧ (s.rb aFIO_BSTAT 1 = false) ∧ (s.rb aFIO_BSTAT 0 = false)) ∧
    (∃ (s : State) (src : BitVec 10), (s.fuse.field = true) ∧ (isVf src.toNat = false) ∧ (s.rb aFIO_BSTAT 1 = true)) ∧
    (∃ (s : State) (ch : BitVec 5), (s.rb aFIO_OUTST (ch.toNat) = true) ∧ (s.rb (aFIO_DIAG (ch.toNat)) 2 = false)) ∧
    (∃ (s : State) (ch : BitVec 5), (s.rb aFIO_OUTST (ch.toNat) = true)) ∧
    (∃ (s : State) (ch : BitVec 5), ((s.chan (ch.toNat)).prot = true)) ∧
    (∃ (s : State) (ch : BitVec 5), (s.isOut (ch.toNat) = true) ∧ ((s.chan (ch.toNat)).drive = true) ∧ (s.rb (aFIO_CFG (ch.toNat)) 24 = true) ∧ (s.suppressed (ch.toNat) = false)) ∧
    (∃ (s : State) (ch : BitVec 5), (s.isOut (ch.toNat) = true) ∧ ((s.chan (ch.toNat)).drive = false) ∧ (s.suppressed (ch.toNat) = false)) ∧
    (∃ (s : State) (g : BitVec 2) (meas : W), (s.fuse.field = true) ∧ ((s.setReg (aFIO_GMEAS g.toNat) meas).fuse.field = true) ∧ ((s.setReg (aFIO_GMEAS g.toNat) meas).grp g.toNat 0 = false)) ∧
    (∃ (s : State) (g : BitVec 2) (meas : W), (s.fuse.field = true) ∧ ((s.setReg (aFIO_GMEAS g.toNat) meas).fuse.field = true) ∧ ((s.setReg (aFIO_GMEAS g.toNat) meas).grp g.toNat 1 = false)) ∧
    (∃ (s : State) (g : BitVec 2) (meas : W), (s.fuse.field = true) ∧ ((s.setReg (aFIO_GMEAS g.toNat) meas).fuse.field = true) ∧ ((s.setReg (aFIO_GMEAS g.toNat) meas).grp g.toNat 2 = false)) ∧
    (∃ (s : State) (g : BitVec 2) (meas : W) (b : BitVec 2), (s.fuse.field = true) ∧ (b.toNat < 3) ∧ ((s.setReg (aFIO_GMEAS g.toNat) meas).grp g.toNat b.toNat = true)) ∧
    (∃ (s : State) (n : BitVec 2) (dt : Nat), ((s.elapse dt).tpOn (n.toNat) = true) ∧ ((s.elapse dt).tpLow = 0) ∧ ((s.elapse dt).tpTurn (n.toNat) = true)) ∧
    (∃ (s : State) (n : BitVec 2) (dt : Nat), (((s.elapse dt).tpOn (n.toNat) = false ∨ (s.elapse dt).tpLow ≠ 0 ∨ (s.elapse dt).tpTurn (n.toNat) = false))) ∧
    (∃ (s : State) (n : BitVec 2) (dt : Nat), ((s.elapse dt).tpLow.getLsbD (n.toNat) = true) ∧ (nearClocks ((s.elapse dt).tpWidth (n.toNat)) ((s.elapse dt).tpSince (n.toNat)) = true)) ∧
    (∃ (s : State) (n : BitVec 2) (dt : Nat), ((s.elapse dt).tpLow.getLsbD (n.toNat) = true) ∧ (nearClocks ((s.elapse dt).tpWidth (n.toNat) - 16000) ((s.elapse dt).tpSince (n.toNat)) = true)) ∧
    (∃ (s : State) (n : BitVec 2), (s.tpOn (n.toNat) = true)) ∧
    (∃ (s : State) (n : BitVec 2), (s.rb (aTP_CFG (n.toNat)) 31 = true) ∧ (s.rb aFIO_TPST (4 * (n.toNat) + 1) = true)) ∧
    (∃ (s : State) (dt : Nat), ((s.elapse dt).fuse.field = true) ∧ ((s.elapse dt).rb aFIO_BSTAT 1 = false) ∧ ((s.elapse dt).hbLink ≠ 0)) ∧
    (∃ (s : State) (dt : Nat), ((s.elapse dt).rf aFIO_HB 9 0 * 776000 ≤ (s.elapse dt).fab - (s.elapse dt).lastHb)) :=
  ⟨⟨State.reset, 3, false, 4, 8000, by decide +kernel⟩,
   ⟨withRegs [(aFIO_CFG 3, 1)], 3, true, 10, 80000, by decide +kernel⟩,
   ⟨withRegs [(aFIO_CFG 3, 1)], 3, true, 9, 80000, by decide +kernel⟩,
   ⟨State.reset, 3, 0, 1, by decide +kernel⟩,
   ⟨{ State.reset with fioLink := [(3, true)] }, 1, 3, true, [], by decide +kernel⟩,
   ⟨State.reset, 0, by decide +kernel⟩,
   ⟨withRegs [(aFIO_BSTAT, 2)], 0, by decide +kernel⟩,
   ⟨withRegs [(aFIO_OUTST, 8)], 3, by decide +kernel⟩,
   ⟨withRegs [(aFIO_OUTST, 8), (aFIO_DIAG 3, 4)], 3, by decide +kernel⟩,
   ⟨State.reset.setChan 3 { Fio.zero with prot := true }, 3, by decide +kernel⟩,
   ⟨(withRegs [(aFIO_CFG 3, 0x81000000)]).setChan 3 { Fio.zero with drive := true }, 3, by decide +kernel⟩,
   ⟨withRegs [(aFIO_CFG 3, 0x81000000)], 3, by decide +kernel⟩,
   ⟨State.reset, 1, 0, by decide +kernel⟩,
   ⟨State.reset, 1, 0, by decide +kernel⟩,
   ⟨State.reset, 1, 0, by decide +kernel⟩,
   ⟨withRegs [(aFIO_GSTAT, 0x20)], 1, 0, 1, by decide +kernel⟩,
   ⟨withRegs [(aTP_CFG 1, 0x80000000)], 1, 1, by decide +kernel⟩,
   ⟨State.reset, 1, 1, by decide +kernel⟩,
   ⟨{ withRegs [(aTP_CFG 1, 0x80000004)] with tpLow := 2 }, 1, 160000, by decide +kernel⟩,
   ⟨{ withRegs [(aTP_CFG 1, 0x80000004)] with tpLow := 2 }, 1, 144000, by decide +kernel⟩,
   ⟨withRegs [(aTP_CFG 1, 0x80000000)], 1, by decide +kernel⟩,
   ⟨withRegs [(aTP_CFG 1, 0x80000000), (aFIO_TPST, 0x20)], 1, by decide +kernel⟩,
   ⟨{ State.reset with hbLink := 1 }, 1, by decide +kernel⟩,
   ⟨State.reset, 1000000000, by decide +kernel⟩⟩

/-- States and operands that meet the premises of the clauses of `Obligations.SafetyUnitResult`. -/
theorem witness_SafetyUnitResult :
    (∃ (s : State) (dt : Nat), ((s.elapse dt).fuse.field = true) ∧ ((if (s.elapse dt).rb aSF_UNIT 4 && (s.elapse dt).sfLinked then ((s.elapse dt).sfJoin.setRf aSF_UNIT 4 4 0).sfEvent 16 0 else (s.elapse dt)).sfDiff ≤ 2)) ∧
    (∃ (s : State) (dt : Nat), ((s.elapse dt).fuse.field = true) ∧ (2 < (if (s.elapse dt).rb aSF_UNIT 4 && (s.elapse dt).sfLinked then ((s.elapse dt).sfJoin.setRf aSF_UNIT 4 4 0).sfEvent 16 0 else (s.elapse dt)).sfDiff)) ∧
    (∃ (s : State), (s.fuse.field = true) ∧ (s.chanA = true)) ∧
    (∃ (s : State), (s.fuse.field = true)) ∧
    (∃ (s : State) (n : BitVec 3), (s.sqOn (n.toNat) = true) ∧ (s.chanA = true)) ∧
    (∃ (s : State) (n : BitVec 3), ((s.sqr (n.toNat)).dark ≠ 0)) ∧
    (∃ (s : State) (n : BitVec 3), ((s.rf (aSQ_STAT (n.toNat)) 1 0 = 1 ∨ s.rf (aSQ_STAT (n.toNat)) 1 0 = 2))) ∧
    (∃ (s : State) (src : BitVec 10), (s.fuse.field = true) ∧ (isVf src.toNat = false) ∧ (s.rb aSF_BSTAT 1 = false) ∧ (s.rb aSF_BSTAT 0 = false) ∧ (s.granted src.toNat 0 = false)) ∧
    (∃ (s : State) (src : BitVec 10), (s.fuse.field = true) ∧ (isVf src.toNat = false) ∧ (s.rb aSF_BSTAT 1 = false) ∧ (s.rb aSF_BSTAT 0 = false) ∧ (s.granted src.toNat 0 = true) ∧ (s.rb aSF_CMD_STAT 0 = true)) ∧
    (∃ (s : State) (src : BitVec 10), (s.fuse.field = true) ∧ (isVf src.toNat = false) ∧ (s.rb aSF_BSTAT 1 = false) ∧ (s.rb aSF_BSTAT 0 = false) ∧ (s.granted src.toNat 0 = true) ∧ (s.rb aSF_CMD_STAT 0 = false) ∧ (s.ustate = 1) ∧ (s.rb aSF_UNIT 5 = true)) ∧
    (∃ (s : State) (src : BitVec 10), (s.fuse.field = true) ∧ (isVf src.toNat = false) ∧ (s.rb aSF_BSTAT 1 = false) ∧ (s.rb aSF_BSTAT 0 = false) ∧ (s.granted src.toNat 0 = true) ∧ (s.rb aSF_CMD_STAT 0 = false) ∧ ((s.ustate ≠ 1 ∨ s.rb aSF_UNIT 5 = false))) ∧
    (∃ (s : State) (src : BitVec 10), (s.fuse.field = true) ∧ (isVf src.toNat = false) ∧ (s.rb aSF_BSTAT 1 = false) ∧ (s.rb aSF_BSTAT 0 = false) ∧ (s.granted src.toNat 0 = true) ∧ (s.rb aSF_CMD_STAT 0 = false) ∧ (s.ustate = 2)) ∧
    (∃ (s : State) (src : BitVec 10), (s.fuse.field = true) ∧ (isVf src.toNat = false) ∧ (s.rb aSF_BSTAT 1 = false) ∧ (s.rb aSF_BSTAT 0 = false) ∧ (s.granted src.toNat 0 = true) ∧ (s.rb aSF_CMD_STAT 0 = false) ∧ (s.ustate ≠ 2)) ∧
    (∃ (s : State) (src : BitVec 10), (s.fuse.field = true) ∧ (isVf src.toNat = false) ∧ (s.rb aSF_BSTAT 1 = false) ∧ (s.rb aSF_BSTAT 0 = false) ∧ (s.granted src.toNat 0 = true) ∧ (s.rb aSF_CMD_STAT 0 = false) ∧ (s.ustate ≤ 1) ∧ (s.stgCrc = s.stg 0x25C) ∧ (s.stgBad = none) ∧ (s.stgOwned = true)) ∧
    (∃ (s : State) (src : BitVec 10), (s.fuse.field = true) ∧ (isVf src.toNat = false) ∧ (s.rb aSF_BSTAT 1 = false) ∧ (s.rb aSF_BSTAT 0 = false) ∧ (s.granted src.toNat 0 = true) ∧ (s.rb aSF_CMD_STAT 0 = false) ∧ (s.ustate ≤ 1)) ∧
    (∃ (s : State) (src : BitVec 10), (s.fuse.field = true) ∧ (isVf src.toNat = false) ∧ (s.rb aSF_BSTAT 1 = false) ∧ (s.rb aSF_BSTAT 0 = false) ∧ (s.granted src.toNat 0 = true) ∧ (s.rb aSF_CMD_STAT 0 = false) ∧ (1 < s.ustate)) ∧
    (∃ (s : State) (src : BitVec 10), (s.fuse.field = true) ∧ (isVf src.toNat = false) ∧ (s.rb aSF_BSTAT 1 = false) ∧ (s.rb aSF_BSTAT 0 = false) ∧ (s.granted src.toNat 0 = true) ∧ (s.rb aSF_CMD_STAT 0 = false) ∧ (s.sfShown (s.rf aSF_ARG 3 0) = 2) ∧ (rsrcRequest (s.sfp (0x20 * (s.rf aSF_ARG 3 0))) = true)) ∧
    (∃ (s : State) (src : BitVec 10), (s.fuse.field = true) ∧ (isVf src.toNat = false) ∧ (s.rb aSF_BSTAT 1 = false) ∧ (s.rb aSF_BSTAT 0 = false) ∧ (s.granted src.toNat 0 = true) ∧ (s.rb aSF_CMD_STAT 0 = false) ∧ (s.sfShown (s.rf aSF_ARG 3 0) ≠ 2)) ∧
    (∃ (s : State) (src : BitVec 10), (s.fuse.field = true) ∧ (isVf src.toNat = false) ∧ (s.rb aSF_BSTAT 1 = false) ∧ (s.rb aSF_BSTAT 0 = false) ∧ (s.granted src.toNat 0 = true) ∧ (s.rb aSF_CMD_STAT 0 = false) ∧ ((s.rf aSF_ARG 3 0) ≤ 7) ∧ (s.sqFaulty (s.rf aSF_ARG 3 0) = true)) ∧
    (∃ (s : State) (src : BitVec 10), (s.fuse.field = true) ∧ (isVf src.toNat = false) ∧ (s.rb aSF_BSTAT 1 = false) ∧ (s.rb aSF_BSTAT 0 = false) ∧ (s.granted src.toNat 0 = true) ∧ (s.rb aSF_CMD_STAT 0 = false) ∧ ((7 < (s.rf aSF_ARG 3 0) ∨ s.sqFaulty (s.rf aSF_ARG 3 0) = false))) ∧
    (∃ (s : State) (dt : Nat), ((s.elapse dt).rb aSF_CMD_STAT 0 = true)) :=
  ⟨⟨State.reset, 1, ⟨by decide +kernel, by rw [if_neg (by decide +kernel)]; decide +kernel⟩⟩,
   ⟨{ State.reset with sfDiff := 3 }, 1, ⟨by decide +kernel, by rw [if_neg (by decide +kernel)]; decide +kernel⟩⟩,
   ⟨withRegs [(aRST_BOOTPH, 2)], by decide +kernel⟩,
   ⟨State.reset, by decide +kernel⟩,
   ⟨withRegs [(aSQ_STAT 3, 1), (aRST_BOOTPH, 2)], 3, by decide +kernel⟩,
   ⟨State.reset.setSq 3 { Sq.zero with dark := 1 }, 3, by decide +kernel⟩,
   ⟨withRegs [(aSQ_STAT 3, 1)], 3, by decide +kernel⟩,
   ⟨State.reset, 0, by decide +kernel⟩,
   ⟨withRegs [(aAU_GRANT, 1), (aSF_CMD_STAT, 1)], 0, by decide +kernel⟩,
   ⟨withRegs [(aAU_GRANT, 1), (aSF_UNIT, 0x21)], 0, by decide +kernel⟩,
   ⟨withRegs [(aAU_GRANT, 1), (aSF_UNIT, 2)], 0, by decide +kernel⟩,
   ⟨withRegs [(aAU_GRANT, 1), (aSF_UNIT, 2)], 0, by decide +kernel⟩,
   ⟨withRegs [(aAU_GRANT, 1), (aSF_UNIT, 1)], 0, by decide +kernel⟩,
   ⟨staged0 (staged0 0).stgCrc, 0, staged0_wit _ rfl⟩,
   ⟨withRegs [(aAU_GRANT, 1), (aSF_UNIT, 1)], 0, by decide +kernel⟩,
   ⟨withRegs [(aAU_GRANT, 1), (aSF_UNIT, 2)], 0, by decide +kernel⟩,
   ⟨{ ((withRegs [(aAU_GRANT, 1)]).setSfc 0 0 { SfChan.zero with st := 2 }).setSfc 0 1 { SfChan.zero with st := 2 } with sfSet := [(0, 0x11000000)] }, 0, by decide +kernel⟩,
   ⟨withRegs [(aAU_GRANT, 1)], 0, by decide +kernel⟩,
   ⟨withRegs [(aAU_GRANT, 1), (aSF_ARG, 3), (aSQ_STAT 3, 3)], 0, by decide +kernel⟩,
   ⟨withRegs [(aAU_GRANT, 1), (aSF_ARG, 3)], 0, by decide +kernel⟩,
   ⟨withRegs [(aSF_CMD_STAT, 1)], 1, by decide +kernel⟩⟩

/-- States and operands that meet the premises of the clauses of `Obligations.CanControllersResult`. -/
theorem witness_CanControllersResult :
    (∃ (s : State) (src : BitVec 10) (n : BitVec 4), (isVf src.toNat = false) ∧ ((n.toNat) < s.fuse.cans) ∧ (s.rb (aCAN_BSTAT (n.toNat)) 1 = false) ∧ (s.rb (aCAN_BSTAT (n.toNat)) 0 = false) ∧ (s.canEst (n.toNat) = 2) ∧ (s.rb (aCAN_STAT (n.toNat)) 27 = false)) ∧
    (∃ (s : State) (src : BitVec 10) (n : BitVec 4), (isVf src.toNat = false) ∧ ((n.toNat) < s.fuse.cans) ∧ (s.rb (aCAN_BSTAT (n.toNat)) 1 = false) ∧ (s.rb (aCAN_BSTAT (n.toNat)) 0 = false) ∧ ((s.canEst (n.toNat) ≠ 2 ∨ s.rb (aCAN_STAT (n.toNat)) 27 = true))) ∧
    (∃ (s : State) (src : BitVec 10) (n : BitVec 4), (isVf src.toNat = false) ∧ ((n.toNat) < s.fuse.cans) ∧ (s.rb (aCAN_BSTAT (n.toNat)) 1 = false) ∧ (s.rb (aCAN_BSTAT (n.toNat)) 0 = false)) ∧
    (∃ (s : State) (src : BitVec 10) (n : BitVec 4) (m : BitVec 9), (isVf src.toNat = false) ∧ ((n.toNat) < s.fuse.cans) ∧ (s.rb (aCAN_BSTAT (n.toNat)) 1 = false) ∧ (s.rb (aCAN_BSTAT (n.toNat)) 0 = false) ∧ (m.toNat < 32) ∧ (s.mbDev (n.toNat) m.toNat = true) ∧ (s.mbPend (n.toNat) m.toNat = false) ∧ (s.canMode (n.toNat) ≠ 0)) ∧
    (∃ (s : State) (src : BitVec 10) (n : BitVec 4), (isVf src.toNat = false) ∧ ((n.toNat) < s.fuse.cans) ∧ (s.rb (aCAN_BSTAT (n.toNat)) 1 = false) ∧ (s.rb (aCAN_BSTAT (n.toNat)) 0 = false)) ∧
    (∃ (s : State) (n : BitVec 4) (ctl : W) (ago : Nat) (dt : Nat), ((s.elapse dt).canHears (n.toNat) = true) ∧ ((s.elapse dt).canJoined (n.toNat) ago = true) ∧ ((bitAt ctl 31 = false ∨ (s.elapse dt).rb (aCAN_CTL (n.toNat)) 2 = true ∧ bitAt ctl 28 = false))) ∧
    (∃ (s : State) (n : BitVec 4) (ago : Nat) (dt : Nat), ((s.elapse dt).canHears (n.toNat) = true) ∧ ((s.elapse dt).canJoined (n.toNat) ago = false)) ∧
    (∃ (s : State) (n : BitVec 4) (ctl : W) (ago : Nat) (dt : Nat), ((s.elapse dt).canHears (n.toNat) = true) ∧ ((s.elapse dt).canJoined (n.toNat) ago = true) ∧ (bitAt ctl 31 = true) ∧ ((s.elapse dt).rb (aCAN_CTL (n.toNat)) 2 = false)) ∧
    (∃ (s : State) (n : BitVec 4) (dt : Nat) (k : Nat) (r : List W), (((s.elapse dt).can (n.toNat)).hold = some (k, r))) ∧
    (∃ (s : State) (n : BitVec 4) (dt : Nat), ((s.elapse dt).canRuns (n.toNat) = true) ∧ (((s.elapse dt).canMode (n.toNat) = 1 ∨ (s.elapse dt).canMode (n.toNat) = 3)) ∧ ((s.elapse dt).canEst (n.toNat) ≠ 2) ∧ (((s.elapse dt).can (n.toNat)).bus = none) ∧ ((s.elapse dt).canJoined (n.toNat) 0 = true)) ∧
    (∃ (s : State) (n : BitVec 4) (dt : Nat) (m : Nat), (((s.elapse dt).can (n.toNat)).bus = some m)) ∧
    (∃ (s : State) (n : BitVec 4) (dt : Nat) (code : BitVec 4), ((s.elapse dt).canRuns (n.toNat) = true) ∧ ((s.elapse dt).canMode (n.toNat) ≠ 0) ∧ ((s.elapse dt).canEst (n.toNat) ≠ 2) ∧ ((s.elapse dt).canJoined (n.toNat) 0 = true) ∧ (code.toNat ≤ 8)) ∧
    (∃ (s : State) (n : BitVec 4), (s.canRuns (n.toNat) = true) ∧ (s.canEst (n.toNat) = 2) ∧ (s.rb (aCAN_STAT (n.toNat)) 27 = true)) ∧
    (∃ (s : State) (n : BitVec 4) (dt : Nat), ((s.elapse dt).canRuns (n.toNat) = true) ∧ ((s.elapse dt).canTt (n.toNat) = 1) ∧ ((s.elapse dt).canMode (n.toNat) ≠ 0) ∧ (((s.elapse dt).ttInstant (n.toNat) = true ∨ (s.elapse dt).ttLate (n.toNat) = true))) ∧
    (∃ (s : State) (n : BitVec 4) (dt : Nat), ((s.elapse dt).canRuns (n.toNat) = true) ∧ ((s.elapse dt).canSync (n.toNat) = true) ∧ (2 * (s.elapse dt).rf (aCAN_TTCYC (n.toNat)) 19 0 ≤ (s.elapse dt).canCt (n.toNat))) ∧
    (∃ (s : State) (n : BitVec 4) (dt : Nat) (m : BitVec 5), ((s.elapse dt).canRuns (n.toNat) = true) ∧ ((s.elapse dt).canSync (n.toNat) = true) ∧ ((s.elapse dt).canMode (n.toNat) ≠ 0) ∧ ((s.elapse dt).canTt (n.toNat) ≠ 0) ∧ (bitAt ((s.elapse dt).reg (aMB_TRIG (n.toNat) m.toNat)) 31 = true) ∧ ((s.elapse dt).rb (aMB_STAT (n.toNat) m.toNat) 30 = true) ∧ ((s.elapse dt).mbPend (n.toNat) m.toNat = false) ∧ ((s.elapse dt).canCt (n.toNat) = fld ((s.elapse dt).reg (aMB_TRIG (n.toNat) m.toNat)) 19 0) ∧ ((s.elapse dt).rf (aCAN_TTSTAT (n.toNat)) 21 16 % 2 ^ fld ((s.elapse dt).reg (aMB_TRIG (n.toNat) m.toNat)) 23 20 = fld ((s.elapse dt).reg (aMB_TRIG (n.toNat) m.toNat)) 29 24 % 2 ^ fld ((s.elapse dt).reg (aMB_TRIG (n.toNat) m.toNat)) 23 20)) ∧
    (∃ (s : State) (n : BitVec 4) (dt : Nat) (m : BitVec 5), ((s.elapse dt).rb (aMB_TRIG (n.toNat) m.toNat) 31 = true) ∧ ((s.elapse dt).mbPend (n.toNat) m.toNat = true) ∧ (((s.elapse dt).can (n.toNat)).bus ≠ some m.toNat) ∧ ((FMap.get (fun _ => 0) (s.elapse dt).trigEnd ((n.toNat) * 32 + m.toNat)).toNat ≤ (s.elapse dt).now.toNat)) :=
  ⟨⟨withRegs [(aCAN_STAT 3, 0x20000000)], 0, 3, by decide +kernel⟩,
   ⟨State.reset, 0, 3, by decide +kernel⟩,
   ⟨withRegs [(aOBJ_OWN 3 1, 0x80000000)], 0, 3, by decide +kernel⟩,
   ⟨withRegs [(aMB_OWN 3 1, 0x80000000), (aCAN_CTL 3, 1)], 0, 3, 1, by decide +kernel⟩,
   ⟨withRegs [(aMB_OWN 3 1, 0x80000000)], 0, 3, by decide +kernel⟩,
   ⟨withRegs [(aCAN_CTL 3, 1)], 3, 0x01000000, 0, 1, by decide +kernel⟩,
   ⟨(withRegs [(aCAN_CTL 3, 1)]).canJoin 3, 3, 0, 1, by decide +kernel⟩,
   ⟨withRegs [(aCAN_CTL 3, 1)], 3, 0x81000000, 0, 1, by decide +kernel⟩,
   ⟨State.reset.setCan 3 { Can.zero with hold := some (1, []) }, 3, 1, 1, [], by decide +kernel⟩,
   ⟨withRegs [(aCAN_CTL 3, 1)], 3, 1, by decide +kernel⟩,
   ⟨State.reset.setCan 3 { Can.zero with bus := some 1 }, 3, 1, 1, by decide +kernel⟩,
   ⟨withRegs [(aCAN_CTL 3, 1)], 3, 1, 1, by decide +kernel⟩,
   ⟨withRegs [(aCAN_STAT 3, 0x28000000)], 3, by decide +kernel⟩,
   ⟨withRegs [(aCAN_CTL 3, 0x41)], 3, 1, by decide +kernel⟩,
   ⟨withRegs [(aCAN_STAT 3, 0x04000000)], 3, 1, by decide +kernel⟩,
   ⟨withRegs [(aCAN_STAT 3, 0x04000000), (aCAN_CTL 3, 0x41), (aMB_TRIG 3 1, 0x80000000), (aMB_STAT 3 1, 0x40000000)], 3, 1, 1, by decide +kernel⟩,
   ⟨withRegs [(aMB_TRIG 3 1, 0x80000000), (aMB_STAT 3 1, 0x80000000)], 3, 1, 1, by decide +kernel⟩⟩

/-- States and operands that meet the premises of the clauses of `Obligations.FaultsAndBootResult`. -/
theorem witness_FaultsAndBootResult :
    (∃ (s : State) (src : BitVec 6) (cls : BitVec 2), (cls.toNat ≠ 0) ∧ (classAllowed (src.toNat) cls.toNat = true) ∧ (s.sourcePresent (src.toNat) = true) ∧ (FMap.get (fun _ => 0) s.lines (src.toNat) < cls.toNat) ∧ ((s.clkStop = false ∨ 25 ≤ (src.toNat) ∧ (src.toNat) ≤ 29))) ∧
    (∃ (s : State), (s.fatal = true)) ∧
    (∃ (s : State), (s.rb aFIO_BSTAT 1 = false) ∧ (s.clkStop = false) ∧ (1 ≤ s.rf aRST_BOOTPH 3 0)) ∧
    (∃ (s : State), (s.rf aFLT_DUMP 7 0 = 1)) ∧
    (∃ (s : State) (a : Nat) (page : List Byte), (s.dumpPend = some (a, page))) ∧
    (∃ (s : State), (s.supRun = true) ∧ ((s.rf aFLT_DUMP 7 0 = 2 ∨ s.rf aFLT_DUMP 7 0 = 3))) ∧
    (∃ (s : State), (s.fatal = true) ∧ (s.frst = true)) ∧
    (∃ (s : State), (s.fuse.field = true)) ∧
    (∃ (s : State) (src : BitVec 10) (e : BitVec 7), (isVf src.toNat = false) ∧ (e.toNat < s.fuse.engines) ∧ (s.rb (aENG_TEST e.toNat) 1 = false) ∧ (s.rf (aENG_TEST e.toNat) 15 8 ≠ 2)) ∧
    (∃ (s : State) (e : BitVec 7), (s.rb (aENG_TEST (e.toNat)) 1 = true)) ∧
    (∃ (s : State), (s.fPh = 2)) ∧
    (∃ (s : State), (s.fPh = 3)) ∧
    (∃ (s : State), (s.lpg = true) ∧ (s.fPh = 4) ∧ (s.bootFails < 3) ∧ (s.rf aRST_BOOTPH 3 0 = 0)) ∧
    (∃ (s : State), (s.rf aRST_BOOTPH 3 0 = 5)) ∧
    (∃ (s : State) (dt : Nat), ((s.elapse dt).rf aRST_BOOTPH 3 0 = 6) ∧ ((s.elapse dt).fatal = false)) ∧
    (∃ (s : State), (s.fPh = 4) ∧ (s.fPause = false)) :=
  ⟨⟨State.reset, 1, 3, by decide +kernel⟩,
   ⟨withRegs [(aFLT_FATAL_LO, 2)], by decide +kernel⟩,
   ⟨{ withRegs [(aRST_BOOTPH, 8)] with clkStop := false }, by decide +kernel⟩,
   ⟨withRegs [(aFLT_DUMP, 1)], by decide +kernel⟩,
   ⟨{ State.reset with dumpPend := some (479, []) }, 479, [], by decide +kernel⟩,
   ⟨{ withRegs [(aFLT_DUMP, 2)] with supRun := true }, by decide +kernel⟩,
   ⟨withRegs [(aFLT_FATAL_LO, 2), (aFLT_CFG, 2)], by decide +kernel⟩,
   ⟨State.reset, by decide +kernel⟩,
   ⟨State.reset, 0, 3, by decide +kernel⟩,
   ⟨withRegs [(aENG_TEST 3, 2)], 3, by decide +kernel⟩,
   ⟨{ State.reset with fPh := 2 }, by decide +kernel⟩,
   ⟨{ State.reset with fPh := 3 }, by decide +kernel⟩,
   ⟨{ withRegs [(aRST_BOOTPH, 0)] with lpg := true, fPh := 4, bootFails := 0 }, by decide +kernel⟩,
   ⟨withRegs [(aRST_BOOTPH, 5)], by decide +kernel⟩,
   ⟨withRegs [(aRST_BOOTPH, 6)], 1, by decide +kernel⟩,
   ⟨{ State.reset with fPh := 4 }, by decide +kernel⟩⟩

/-- States and operands that meet the premises of the clauses of `Obligations.ResetsAndWatchdogResult`. -/
theorem witness_ResetsAndWatchdogResult :
    (∃ (src : BitVec 10), (isVf src.toNat = false)) ∧
    (∃ (src : BitVec 10), (isVf src.toNat = false)) ∧
    (∃ (s : State) (src : BitVec 10) (arg : BitVec 10), (isVf src.toNat = false) ∧ (s.blockPresent arg.toNat = true)) ∧
    (∃ (s : State) (src : BitVec 10) (arg : BitVec 10), (isVf src.toNat = false) ∧ (s.blockPresent arg.toNat = false)) ∧
    (∃ (s : State) (src : BitVec 10) (arg : BitVec 10), (isVf src.toNat = false) ∧ ((arg.toNat) < s.fuse.partitions)) ∧
    (∃ (s : State) (e : BitVec 7) (dt : Nat), ((s.elapse dt).engInReset e.toNat = true) ∧ (FMap.get (fun _ => 0) (s.elapse dt).wdgExp e.toNat = 0)) ∧
    (∃ (s : State) (code : BitVec 10) (dt : Nat), ((s.elapse dt).inReset code.toNat = true) ∧ ((s.elapse dt).blockHeld code.toNat = false)) ∧
    (∃ (s : State) (ch : BitVec 8) (dt : Nat), ((s.elapse dt).wdgRuns (ch.toNat) = true) ∧ (wdgS (ch.toNat) = false) ∧ ((s.elapse dt).wdgOpen (ch.toNat) = true)) ∧
    (∃ (s : State) (e : BitVec 7) (dt : Nat), (FMap.get (fun _ => false) (s.elapse dt).wdgReq e.toNat = true) ∧ ((s.elapse dt).wdgRuns e.toNat = true)) ∧
    (∃ (s : State) (dt : Nat) (n : BitVec 1), ((s.elapse dt).supRun = true) ∧ ((s.elapse dt).wdgRuns (0xF0 + n.toNat) = true)) ∧
    (∃ (s : State) (ch : BitVec 8) (dt : Nat), ((s.elapse dt).wdgRuns (ch.toNat) = true) ∧ ((s.elapse dt).wdgLen (ch.toNat) ≤ (s.elapse dt).wdgAge (ch.toNat))) ∧
    (∃ (s : State) (ch : BitVec 8) (dt : Nat), ((FMap.get (fun _ => 0) (s.elapse dt).wdgExp (ch.toNat)) ≠ 0) ∧ ((FMap.get (fun _ => 0) (s.elapse dt).wdgExp (ch.toNat)) + 800000 ≤ (s.elapse dt).fab + 1)) :=
  ⟨⟨0, by decide +kernel⟩,
   ⟨0, by decide +kernel⟩,
   ⟨State.reset, 0, 3, by decide +kernel⟩,
   ⟨State.reset, 0, 0x1F, by decide +kernel⟩,
   ⟨State.reset, 0, 3, by decide +kernel⟩,
   ⟨{ State.reset with engRst := [(3, true)] }, 3, 1, by decide +kernel⟩,
   ⟨{ State.reset with blkRst := [(3, true)] }, 3, 1, by decide +kernel⟩,
   ⟨withRegs [(aRST_BOOTPH, 8), (aWDG_EPER 3, 1)], 3, 800000, by decide +kernel⟩,
   ⟨{ withRegs [(aRST_BOOTPH, 8)] with wdgReq := [(3, true)] }, 3, 1, by decide +kernel⟩,
   ⟨{ withRegs [(aRST_BOOTPH, 8)] with supRun := true }, 1, 0, by decide +kernel⟩,
   ⟨withRegs [(aRST_BOOTPH, 8), (aWDG_EPER 3, 1)], 3, 800000, by decide +kernel⟩,
   ⟨{ State.reset with wdgExp := [(3, 1)] }, 3, 800000, by decide +kernel⟩⟩

/-- States and operands that meet the premises of the clauses of `Obligations.NvAndEventRecorderResult`. -/
theorem witness_NvAndEventRecorderResult :
    (∃ (s : State) (src : BitVec 10), (isVf src.toNat = false) ∧ (s.rb aNV_BSTAT 1 = false) ∧ (s.rb aNV_BSTAT 0 = false) ∧ (s.nvBlock = false) ∧ (s.pfHold = false) ∧ (s.rb aNV_STAT 0 = false)) ∧
    (∃ (s : State) (src : BitVec 10), (isVf src.toNat = false) ∧ (s.rb aNV_BSTAT 1 = false) ∧ (s.rb aNV_BSTAT 0 = false) ∧ (s.nvBlock = false) ∧ (s.pfHold = false) ∧ (s.rb aNV_STAT 0 = false)) ∧
    (∃ (s : State) (src : BitVec 10), (isVf src.toNat = false) ∧ (s.rb aNV_BSTAT 1 = false) ∧ (s.rb aNV_BSTAT 0 = false) ∧ (s.nvBlock = false) ∧ (s.pfHold = false) ∧ (s.rb aNV_STAT 0 = false)) ∧
    (∃ (s : State) (src : BitVec 10), (isVf src.toNat = false) ∧ (s.rb aNV_BSTAT 1 = false) ∧ (s.rb aNV_BSTAT 0 = false)) ∧
    (∃ (s : State) (n : Nat) (kind : Nat) (bs : List Byte) (l : List (Nat × List Byte × Nat)), (s.nvQ = (n, bs, kind) :: l)) ∧
    (∃ (s : State) (dt : Nat), ((s.elapse dt).rf aNV_CADCFG 10 0 ≠ 0) ∧ ((s.elapse dt).cadSaving = none) ∧ ((s.elapse dt).pfHold = false) ∧ ((s.elapse dt).nvBlock = false)) ∧
    (∃ (s : State) (dt : Nat) (kind : Nat) (ws : FMap W), ((s.elapse dt).cadSaving = some (kind, ws))) ∧
    (∃ (s : State), (s.pfHold = false) ∧ (s.nvQ = []) ∧ (s.rb aNV_STAT 0 = false)) ∧
    (∃ (s : State) (src : BitVec 10) (p : BitVec 9) (d : W), (isVf src.toNat = false) ∧ (s.rb aNV_BSTAT 1 = false) ∧ (s.rb aNV_BSTAT 0 = false) ∧ ((p.toNat) < s.fuse.partitions) ∧ (s.mode (p.toNat) ≠ 2) ∧ (s.mode (p.toNat) ≠ 3) ∧ (fld (d &&& 0x0FFF07FF) 10 0 + fld (d &&& 0x0FFF07FF) 27 16 ≤ 2048) ∧ (((List.range s.fuse.partitions).any (fun q => q != (p.toNat) && (cadRange (s.reg (aCAD_ALLOC q))).any (cadRange (d &&& 0x0FFF07FF)).contains)) = false)) ∧
    (∃ (s : State) (src : BitVec 10) (p : BitVec 9) (d : W), (isVf src.toNat = false) ∧ (s.rb aNV_BSTAT 1 = false) ∧ (s.rb aNV_BSTAT 0 = false) ∧ (p.toNat < s.fuse.partitions) ∧ ((s.mode p.toNat = 2 ∨ s.mode p.toNat = 3 ∨ 2048 < fld (d &&& 0x0FFF07FF) 10 0 + fld (d &&& 0x0FFF07FF) 27 16))) ∧
    (∃ (s : State) (r : EvRec) (l : List EvRec), (s.evrShut = false) ∧ (s.evPass = r :: l)) ∧
    (∃ (s : State) (c : BitVec 16), ((s.bkt c.toNat).1 < 16)) ∧
    (∃ (s : State), (s.frozen = false) ∧ (s.fpend = false) ∧ (s.evrShut = false)) ∧
    (∃ (s : State) (src : BitVec 10), (isVf src.toNat = false) ∧ (s.rb aEVR_BSTAT 1 = false) ∧ (s.rb aEVR_BSTAT 0 = false)) ∧
    (∃ (s : State) (src : BitVec 10), (isVf src.toNat = false) ∧ (s.rb aEVR_BSTAT 1 = false) ∧ (s.rb aEVR_BSTAT 0 = false) ∧ (s.holds src.toNat = true) ∧ (s.granted src.toNat 3 = true)) ∧
    (∃ (s : State) (dt : Nat), (24000000000 ≤ (s.elapse dt).fab - (s.elapse dt).evAccess)) ∧
    (∃ (s : State) (src : BitVec 10), (isVf src.toNat = false) ∧ (s.rb aEVR_BSTAT 1 = false) ∧ (s.rb aEVR_BSTAT 0 = false)) :=
  ⟨⟨{ State.reset with nvBlock := false }, 0, by decide +kernel⟩,
   ⟨{ State.reset with nvBlock := false }, 0, by decide +kernel⟩,
   ⟨{ State.reset with nvBlock := false }, 0, by decide +kernel⟩,
   ⟨State.reset, 0, by decide +kernel⟩,
   ⟨{ State.reset with nvQ := [(100, [], 0)] }, 100, 0, [], [], by decide +kernel⟩,
   ⟨{ withRegs [(aNV_CADCFG, 5)] with nvBlock := false }, 1, by decide +kernel⟩,
   ⟨{ State.reset with cadSaving := some (1, []) }, 1, 1, [], by decide +kernel⟩,
   ⟨State.reset, by decide +kernel⟩,
   ⟨absent, 0, 3, 0x00100020, by decide +kernel⟩,
   ⟨State.reset, 0, 3, 0x0FFF0020, by decide +kernel⟩,
   ⟨{ State.reset with nvBlock := false, evPass := [{ code := 0x100, sev := 4, body := [], time := 0 }] }, { code := 0x100, sev := 4, body := [], time := 0 }, [], by decide +kernel⟩,
   ⟨State.reset.setBkt 256 (3, 0), 0x100, by decide +kernel⟩,
   ⟨{ State.reset with nvBlock := false }, by decide +kernel⟩,
   ⟨State.reset, 0, by decide +kernel⟩,
   ⟨withRegs [(aEVR_STAT, 4), (aAU_GRANT, 8)], 0, by decide +kernel⟩,
   ⟨State.reset, 24000000000, by decide +kernel⟩,
   ⟨State.reset, 0, by decide +kernel⟩⟩

/-- States and operands that meet the premises of the clauses of `Obligations.ServicePortResult`. -/
theorem witness_ServicePortResult :
    (∃ (s : State) (sess : BitVec 16), (s.spUp = true) ∧ (s.mgmt = false) ∧ (s.supRun = true) ∧ ((s.spSession = 0 ∨ s.spSession ≠ sess.toNat))) ∧
    (∃ (s : State) (sess : BitVec 16) (seq : BitVec 16), (s.spUp = true) ∧ (s.mgmt = false) ∧ (s.supRun = true) ∧ (s.spSession ≠ 0) ∧ (s.spSession = sess.toNat) ∧ (seq.toNat ≠ s.spLast) ∧ (seq.toNat ≠ (s.spLast + 1) % 65536)) ∧
    (∃ (s : State) (sess : BitVec 16) (seq : BitVec 16), (s.spUp = true) ∧ (s.mgmt = false) ∧ (s.supRun = true) ∧ (s.spSession ≠ 0) ∧ (s.spSession = sess.toNat) ∧ (seq.toNat ≠ s.spLast) ∧ (seq.toNat = (s.spLast + 1) % 65536) ∧ ((({ s with spAt := s.fab } : State).spHeard).granted 0x3FE 5 = false)) ∧
    (∃ (s : State) (sess : BitVec 16) (seq : BitVec 16), (s.spUp = true) ∧ (s.mgmt = false) ∧ (s.supRun = true) ∧ (s.spSession ≠ 0) ∧ (s.spSession = sess.toNat) ∧ (seq.toNat ≠ s.spLast) ∧ (seq.toNat = (s.spLast + 1) % 65536) ∧ ((({ s with spAt := s.fab } : State).spHeard).granted 0x3FE 3 = false)) ∧
    (∃ (s : State) (sess : BitVec 16) (seq : BitVec 16), (s.spUp = true) ∧ (s.mgmt = false) ∧ (s.supRun = true) ∧ (s.spSession ≠ 0) ∧ (s.spSession = sess.toNat) ∧ (seq.toNat ≠ s.spLast) ∧ (seq.toNat = (s.spLast + 1) % 65536) ∧ ((({ s with spAt := s.fab } : State).spHeard).granted 0x3FE 6 = false)) ∧
    (∃ (s : State) (sess : BitVec 16) (seq : BitVec 16), (s.spUp = true) ∧ (s.mgmt = false) ∧ (s.supRun = true) ∧ (s.spSession ≠ 0) ∧ (s.spSession = sess.toNat) ∧ (seq.toNat ≠ s.spLast) ∧ (seq.toNat = (s.spLast + 1) % 65536) ∧ ((({ s with spAt := s.fab } : State).spHeard).granted 0x3FE 2 = false)) ∧
    (∃ (s : State), (s.spUp = true) ∧ (s.mgmt = false) ∧ (s.supRun = true)) ∧
    (∃ (s : State) (peer : BitVec 48), (s.spUp = true) ∧ (s.mgmt = false) ∧ (s.supRun = true) ∧ (((s.spHeard).spSession = 0 ∨ (s.spHeard).spPeer = peer.toNat))) ∧
    (∃ (s : State) (peer : BitVec 48), (s.spUp = true) ∧ (s.mgmt = false) ∧ (s.supRun = true) ∧ ((s.spHeard).spSession ≠ 0) ∧ ((s.spHeard).spPeer ≠ peer.toNat)) ∧
    (∃ (s : State) (sess : BitVec 16) (seq : BitVec 16), (s.spUp = true) ∧ (s.mgmt = false) ∧ (s.supRun = true) ∧ (s.spSession ≠ 0) ∧ (s.spSession = sess.toNat) ∧ (seq.toNat ≠ s.spLast) ∧ (seq.toNat = (s.spLast + 1) % 65536)) ∧
    (∃ (s : State) (dt : Nat), ((s.elapse dt).spSession ≠ 0) ∧ (fabSeconds 60 ≤ (s.elapse dt).fab - (s.elapse dt).spAt)) ∧
    (∃ (s : State) (sess : BitVec 16) (seq : BitVec 16), (s.spUp = true) ∧ (s.mgmt = false) ∧ (s.supRun = true) ∧ (s.spSession ≠ 0) ∧ (s.spSession = sess.toNat) ∧ (seq.toNat ≠ s.spLast) ∧ (seq.toNat = (s.spLast + 1) % 65536)) ∧
    (∃ (s : State) (sess : BitVec 16) (seq : BitVec 16) (space : Byte) (fn : BitVec 16) (off : W) (count : BitVec 16), (s.spUp = true) ∧ (s.mgmt = false) ∧ (s.supRun = true) ∧ (s.spSession ≠ 0) ∧ (s.spSession = sess.toNat) ∧ (seq.toNat ≠ s.spLast) ∧ (seq.toNat = (s.spLast + 1) % 65536) ∧ (spArgs (space.toNat) fn.toNat (count.toNat) = true) ∧ ((spRegs (space.toNat) (off.toNat) = true → (off.toNat) % 4 = 0 ∧ (count.toNat) % 4 = 0))) ∧
    (∃ (s : State) (sess : BitVec 16) (seq : BitVec 16) (space : Byte) (fn : BitVec 16) (count : BitVec 16), (s.spUp = true) ∧ (s.mgmt = false) ∧ (s.supRun = true) ∧ (s.spSession ≠ 0) ∧ (s.spSession = sess.toNat) ∧ (seq.toNat ≠ s.spLast) ∧ (seq.toNat = (s.spLast + 1) % 65536) ∧ (spArgs (space.toNat) fn.toNat (count.toNat) = false)) ∧
    (∃ (s : State) (sess : BitVec 16) (seq : BitVec 16) (space : Byte) (fn : BitVec 16) (off : W) (data : List Byte), (s.spUp = true) ∧ (s.mgmt = false) ∧ (s.supRun = true) ∧ (s.spSession ≠ 0) ∧ (s.spSession = sess.toNat) ∧ (seq.toNat ≠ s.spLast) ∧ (seq.toNat = (s.spLast + 1) % 65536) ∧ ((({ s with spAt := s.fab } : State).spHeard).granted 0x3FE 5 = true) ∧ (spArgs (space.toNat) fn.toNat (data.length) = true) ∧ ((spRegs (space.toNat) (off.toNat) = true → (off.toNat) % 4 = 0 ∧ (data.length) % 4 = 0))) ∧
    (∃ (s : State) (sess : BitVec 16) (seq : BitVec 16), (s.spUp = true) ∧ (s.mgmt = false) ∧ (s.supRun = true) ∧ (s.spSession ≠ 0) ∧ (s.spSession = sess.toNat) ∧ (seq.toNat ≠ s.spLast) ∧ (seq.toNat = (s.spLast + 1) % 65536)) ∧
    (∃ (s : State) (sess : BitVec 16) (seq : BitVec 16) (k : BitVec 16) (r : EvStored), (s.spUp = true) ∧ (s.mgmt = false) ∧ (s.supRun = true) ∧ (s.spSession ≠ 0) ∧ (s.spSession = sess.toNat) ∧ (seq.toNat ≠ s.spLast) ∧ (seq.toNat = (s.spLast + 1) % 65536) ∧ ((({ s with spAt := s.fab } : State).spHeard).holds 0x3FE = true) ∧ ((({ s with spAt := s.fab } : State).spHeard).evStore[k.toNat]? = some r)) ∧
    (∃ (s : State) (sess : BitVec 16) (seq : BitVec 16), (s.spUp = true) ∧ (s.mgmt = false) ∧ (s.supRun = true) ∧ (s.spSession ≠ 0) ∧ (s.spSession = sess.toNat) ∧ (seq.toNat ≠ s.spLast) ∧ (seq.toNat = (s.spLast + 1) % 65536) ∧ ((({ s with spAt := s.fab } : State).spHeard).holds 0x3FE = false)) ∧
    (∃ (s : State) (sess : BitVec 16) (seq : BitVec 16), (s.spUp = true) ∧ (s.mgmt = false) ∧ (s.supRun = true) ∧ (s.spSession ≠ 0) ∧ (s.spSession = sess.toNat) ∧ (seq.toNat ≠ s.spLast) ∧ (seq.toNat = (s.spLast + 1) % 65536) ∧ ((({ s with spAt := s.fab } : State).spHeard).granted 0x3FE 3 = true)) ∧
    (∃ (s : State) (sess : BitVec 16) (seq : BitVec 16) (count : BitVec 16), (s.spUp = true) ∧ (s.mgmt = false) ∧ (s.supRun = true) ∧ (s.spSession ≠ 0) ∧ (s.spSession = sess.toNat) ∧ (seq.toNat ≠ s.spLast) ∧ (seq.toNat = (s.spLast + 1) % 65536) ∧ ((count.toNat) ≤ 1024)) ∧
    (∃ (s : State) (sess : BitVec 16) (seq : BitVec 16) (part : BitVec 16), (s.spUp = true) ∧ (s.mgmt = false) ∧ (s.supRun = true) ∧ (s.spSession ≠ 0) ∧ (s.spSession = sess.toNat) ∧ (seq.toNat ≠ s.spLast) ∧ (seq.toNat = (s.spLast + 1) % 65536) ∧ ((({ s with spAt := s.fab } : State).spHeard).granted 0x3FE 6 = true) ∧ ((part.toNat) < (({ s with spAt := s.fab } : State).spHeard).fuse.partitions)) ∧
    (∃ (s : State) (sess : BitVec 16) (seq : BitVec 16) (part : BitVec 16), (s.spUp = true) ∧ (s.mgmt = false) ∧ (s.supRun = true) ∧ (s.spSession ≠ 0) ∧ (s.spSession = sess.toNat) ∧ (seq.toNat ≠ s.spLast) ∧ (seq.toNat = (s.spLast + 1) % 65536) ∧ ((({ s with spAt := s.fab } : State).spHeard).granted 0x3FE 6 = true) ∧ ((({ s with spAt := s.fab } : State).spHeard).fuse.partitions ≤ part.toNat)) ∧
    (∃ (s : State) (sess : BitVec 16) (seq : BitVec 16) (part : BitVec 16) (b : Byte) (addr : BitVec 24), (s.spUp = true) ∧ (s.mgmt = false) ∧ (s.supRun = true) ∧ (s.spSession ≠ 0) ∧ (s.spSession = sess.toNat) ∧ (seq.toNat ≠ s.spLast) ∧ (seq.toNat = (s.spLast + 1) % 65536) ∧ ((({ s with spAt := s.fab } : State).spHeard).granted 0x3FE 6 = true) ∧ ((part.toNat) < (({ s with spAt := s.fab } : State).spHeard).fuse.partitions) ∧ (b.toNat < 8) ∧ (addr.toNat < 2 ^ 20)) ∧
    (∃ (src : BitVec 10), (isVf src.toNat = false)) ∧
    (∃ (s : State), (s.spUp = true)) :=
  ⟨⟨{ withRegs [(aRST_BOOTPH, 8), (aSP_STAT, 0x70003)] with mgmt := false, supRun := true, spLast := 0, spRegs := [(aAU_GRANT, 0xFF)] }, 9, by decide +kernel⟩,
   ⟨{ withRegs [(aRST_BOOTPH, 8), (aSP_STAT, 0x70003)] with mgmt := false, supRun := true, spLast := 0, spRegs := [(aAU_GRANT, 0xFF)] }, 7, 5, by decide +kernel⟩,
   ⟨{ withRegs [(aRST_BOOTPH, 8), (aSP_STAT, 0x70003)] with mgmt := false, supRun := true, spLast := 0, spRegs := [(aAU_GRANT, 0)] }, 7, 1, by decide +kernel⟩,
   ⟨{ withRegs [(aRST_BOOTPH, 8), (aSP_STAT, 0x70003)] with mgmt := false, supRun := true, spLast := 0, spRegs := [(aAU_GRANT, 0)] }, 7, 1, by decide +kernel⟩,
   ⟨{ withRegs [(aRST_BOOTPH, 8), (aSP_STAT, 0x70003)] with mgmt := false, supRun := true, spLast := 0, spRegs := [(aAU_GRANT, 0)] }, 7, 1, by decide +kernel⟩,
   ⟨{ withRegs [(aRST_BOOTPH, 8), (aSP_STAT, 0x70003)] with mgmt := false, supRun := true, spLast := 0, spRegs := [(aAU_GRANT, 0)] }, 7, 1, by decide +kernel⟩,
   ⟨{ withRegs [(aRST_BOOTPH, 8), (aSP_STAT, 0x70003)] with mgmt := false, supRun := true, spLast := 0, spRegs := [(aAU_GRANT, 0xFF)] }, by decide +kernel⟩,
   ⟨{ withRegs [(aRST_BOOTPH, 8)] with mgmt := false, supRun := true }, 5, by decide +kernel⟩,
   ⟨{ withRegs [(aRST_BOOTPH, 8), (aSP_STAT, 0x70003)] with mgmt := false, supRun := true, spLast := 0, spRegs := [(aAU_GRANT, 0xFF)] }, 5, by decide +kernel⟩,
   ⟨{ withRegs [(aRST_BOOTPH, 8), (aSP_STAT, 0x70003)] with mgmt := false, supRun := true, spLast := 0, spRegs := [(aAU_GRANT, 0xFF)] }, 7, 1, by decide +kernel⟩,
   ⟨{ withRegs [(aRST_BOOTPH, 8), (aSP_STAT, 0x70003)] with mgmt := false, supRun := true, spLast := 0, spRegs := [(aAU_GRANT, 0xFF)] }, 48000000000, by decide +kernel⟩,
   ⟨{ withRegs [(aRST_BOOTPH, 8), (aSP_STAT, 0x70003)] with mgmt := false, supRun := true, spLast := 0, spRegs := [(aAU_GRANT, 0xFF)] }, 7, 1, by decide +kernel⟩,
   ⟨{ withRegs [(aRST_BOOTPH, 8), (aSP_STAT, 0x70003)] with mgmt := false, supRun := true, spLast := 0, spRegs := [(aAU_GRANT, 0xFF)] }, 7, 1, 0, 0, 0, 4, by decide +kernel⟩,
   ⟨{ withRegs [(aRST_BOOTPH, 8), (aSP_STAT, 0x70003)] with mgmt := false, supRun := true, spLast := 0, spRegs := [(aAU_GRANT, 0xFF)] }, 7, 1, 9, 0, 4, by decide +kernel⟩,
   ⟨{ withRegs [(aRST_BOOTPH, 8), (aSP_STAT, 0x70003)] with mgmt := false, supRun := true, spLast := 0, spRegs := [(aAU_GRANT, 0xFF)] }, 7, 1, 0, 0, 0, [1, 0, 0, 0], by decide +kernel⟩,
   ⟨{ withRegs [(aRST_BOOTPH, 8), (aSP_STAT, 0x70003)] with mgmt := false, supRun := true, spLast := 0, spRegs := [(aAU_GRANT, 0xFF)] }, 7, 1, by decide +kernel⟩,
   ⟨{ withRegs [(aRST_BOOTPH, 8), (aSP_STAT, 0x70003), (aEVR_STAT, 12)] with mgmt := false, supRun := true, spLast := 0, spRegs := [(aAU_GRANT, 0xFF)], evStore := [{ hdr := [], body := [] }] }, 7, 1, 0, { hdr := [], body := [] }, by decide +kernel⟩,
   ⟨{ withRegs [(aRST_BOOTPH, 8), (aSP_STAT, 0x70003)] with mgmt := false, supRun := true, spLast := 0, spRegs := [(aAU_GRANT, 0xFF)] }, 7, 1, by decide +kernel⟩,
   ⟨{ withRegs [(aRST_BOOTPH, 8), (aSP_STAT, 0x70003)] with mgmt := false, supRun := true, spLast := 0, spRegs := [(aAU_GRANT, 0xFF)] }, 7, 1, by decide +kernel⟩,
   ⟨{ withRegs [(aRST_BOOTPH, 8), (aSP_STAT, 0x70003)] with mgmt := false, supRun := true, spLast := 0, spRegs := [(aAU_GRANT, 0xFF)] }, 7, 1, 4, by decide +kernel⟩,
   ⟨{ withRegs [(aRST_BOOTPH, 8), (aSP_STAT, 0x70003)] with mgmt := false, supRun := true, spLast := 0, spRegs := [(aAU_GRANT, 0xFF)] }, 7, 1, 3, by decide +kernel⟩,
   ⟨{ withRegs [(aRST_BOOTPH, 8), (aSP_STAT, 0x70003)] with mgmt := false, supRun := true, spLast := 0, spRegs := [(aAU_GRANT, 0xFF)] }, 7, 1, 512, by decide +kernel⟩,
   ⟨{ withRegs [(aRST_BOOTPH, 8), (aSP_STAT, 0x70003)] with mgmt := false, supRun := true, spLast := 0, spRegs := [(aAU_GRANT, 0xFF)] }, 7, 1, 3, 1, 5, by decide +kernel⟩,
   ⟨0, by decide +kernel⟩,
   ⟨{ withRegs [(aRST_BOOTPH, 8), (aSP_STAT, 0x70003)] with mgmt := false, supRun := true, spLast := 0, spRegs := [(aAU_GRANT, 0xFF)] }, by decide +kernel⟩⟩

/-- States and operands that meet the premises of the clauses of `Obligations.UpdatesAndAuthorisationResult`. -/
theorem witness_UpdatesAndAuthorisationResult :
    (∃ (s : State) (sess : BitVec 16) (seq : BitVec 16) (b : Byte) (data : List Byte), (s.spUp = true) ∧ (s.mgmt = false) ∧ (s.supRun = true) ∧ (s.spSession ≠ 0) ∧ (s.spSession = sess.toNat) ∧ (seq.toNat ≠ s.spLast) ∧ (seq.toNat = (s.spLast + 1) % 65536) ∧ ((({ s with spAt := s.fab } : State).spHeard).granted 0x3FE 2 = true) ∧ ((b.toNat = 1 ∨ b.toNat = 2)) ∧ (data.length = 256)) ∧
    (∃ (s : State) (sess : BitVec 16) (seq : BitVec 16) (data : List Byte) (kind : Nat) (cart : List Byte) (body : List Byte), (s.spUp = true) ∧ (s.mgmt = false) ∧ (s.supRun = true) ∧ (s.spSession ≠ 0) ∧ (s.spSession = sess.toNat) ∧ (seq.toNat ≠ s.spLast) ∧ (seq.toNat = (s.spLast + 1) % 65536) ∧ ((({ s with spAt := s.fab } : State).spHeard).granted 0x3FE 2 = true) ∧ (data.length ≠ 0) ∧ (data.length ≤ 1024) ∧ ((({ s with spAt := s.fab } : State).spHeard).xfer = some (kind, cart, body))) ∧
    (∃ (s : State) (sess : BitVec 16) (seq : BitVec 16) (kind : Nat) (cart : List Byte) (body : List Byte), (s.spUp = true) ∧ (s.mgmt = false) ∧ (s.supRun = true) ∧ (s.spSession ≠ 0) ∧ (s.spSession = sess.toNat) ∧ (seq.toNat ≠ s.spLast) ∧ (seq.toNat = (s.spLast + 1) % 65536) ∧ ((({ s with spAt := s.fab } : State).spHeard).granted 0x3FE 2 = true) ∧ ((({ s with spAt := s.fab } : State).spHeard).xfer = some (kind, cart, body))) ∧
    (∃ (s : State) (sess : BitVec 16) (seq : BitVec 16), (s.spUp = true) ∧ (s.mgmt = false) ∧ (s.supRun = true) ∧ (s.spSession ≠ 0) ∧ (s.spSession = sess.toNat) ∧ (seq.toNat ≠ s.spLast) ∧ (seq.toNat = (s.spLast + 1) % 65536) ∧ ((({ s with spAt := s.fab } : State).spHeard).granted 0x3FE 2 = true) ∧ ((({ s with spAt := s.fab } : State).spHeard).xfer = none)) ∧
    (∃ (s : State) (sess : BitVec 16) (seq : BitVec 16) (m : Img), (s.spUp = true) ∧ (s.mgmt = false) ∧ (s.supRun = true) ∧ (s.spSession ≠ 0) ∧ (s.spSession = sess.toNat) ∧ (seq.toNat ≠ s.spLast) ∧ (seq.toNat = (s.spLast + 1) % 65536) ∧ ((({ s with spAt := s.fab } : State).spHeard).granted 0x3FE 2 = true) ∧ ((({ s with spAt := s.fab } : State).spHeard).img ((({ s with spAt := s.fab } : State).spHeard).inactive 1) = some m) ∧ ((({ s with spAt := s.fab } : State).spHeard).steeping 1 = false) ∧ ((({ s with spAt := s.fab } : State).spHeard).steeping 2 = false) ∧ (fld (wordAt m.cart 0x14) 31 16 ≤ (({ s with spAt := s.fab } : State).spHeard).slotGen (({ s with spAt := s.fab } : State).spHeard).bootRec.act)) ∧
    (∃ (s : State) (sess : BitVec 16) (seq : BitVec 16) (m : Img), (s.spUp = true) ∧ (s.mgmt = false) ∧ (s.supRun = true) ∧ (s.spSession ≠ 0) ∧ (s.spSession = sess.toNat) ∧ (seq.toNat ≠ s.spLast) ∧ (seq.toNat = (s.spLast + 1) % 65536) ∧ ((({ s with spAt := s.fab } : State).spHeard).granted 0x3FE 2 = true) ∧ ((({ s with spAt := s.fab } : State).spHeard).img ((({ s with spAt := s.fab } : State).spHeard).inactive 2) = some m) ∧ ((({ s with spAt := s.fab } : State).spHeard).steeping 1 = false) ∧ ((({ s with spAt := s.fab } : State).spHeard).steeping 2 = false)) ∧
    (∃ (s : State) (sess : BitVec 16) (seq : BitVec 16) (b : Byte), (s.spUp = true) ∧ (s.mgmt = false) ∧ (s.supRun = true) ∧ (s.spSession ≠ 0) ∧ (s.spSession = sess.toNat) ∧ (seq.toNat ≠ s.spLast) ∧ (seq.toNat = (s.spLast + 1) % 65536) ∧ ((({ s with spAt := s.fab } : State).spHeard).granted 0x3FE 2 = true) ∧ ((b.toNat = 1 ∨ b.toNat = 2))) ∧
    (∃ (s : State) (sess : BitVec 16) (seq : BitVec 16), (s.spUp = true) ∧ (s.mgmt = false) ∧ (s.supRun = true) ∧ (s.spSession ≠ 0) ∧ (s.spSession = sess.toNat) ∧ (seq.toNat ≠ s.spLast) ∧ (seq.toNat = (s.spLast + 1) % 65536) ∧ ((({ s with spAt := s.fab } : State).spHeard).granted 0x3FE 2 = true) ∧ ((({ s with spAt := s.fab } : State).spHeard).steeping 1 = true) ∧ ((({ s with spAt := s.fab } : State).spHeard).rb aUPD_STAT 6 = false)) ∧
    (∃ (s : State) (sess : BitVec 16) (seq : BitVec 16), (s.spUp = true) ∧ (s.mgmt = false) ∧ (s.supRun = true) ∧ (s.spSession ≠ 0) ∧ (s.spSession = sess.toNat) ∧ (seq.toNat ≠ s.spLast) ∧ (seq.toNat = (s.spLast + 1) % 65536) ∧ ((({ s with spAt := s.fab } : State).spHeard).granted 0x3FE 2 = true) ∧ ((({ s with spAt := s.fab } : State).spHeard).steeping 2 = true)) ∧
    (∃ (s : State) (sess : BitVec 16) (seq : BitVec 16) (a : W) (b : W) (c : W), (s.spUp = true) ∧ (s.mgmt = false) ∧ (s.supRun = true) ∧ (s.spSession ≠ 0) ∧ (s.spSession = sess.toNat) ∧ (seq.toNat ≠ s.spLast) ∧ (seq.toNat = (s.spLast + 1) % 65536) ∧ ((({ s with spAt := s.fab } : State).spHeard).granted 0x3FE 2 = true) ∧ ((optOf false (some (optCopy ((BitVec.ofNat 32 (({ s with spAt := s.fab } : State).spHeard).opt.gen + 1 : W)) a b c))).isSome = true) ∧ ((({ s with spAt := s.fab } : State).spHeard).nvBlock = false) ∧ ((({ s with spAt := s.fab } : State).spHeard).pfHold = false)) ∧
    (∃ (s : State), (s.rb aAU_BSTAT 1 = false) ∧ (s.rb aAU_BSTAT 0 = false)) ∧
    (∃ (s : State), (s.rb aAU_BSTAT 1 = false) ∧ (s.rb aAU_BSTAT 0 = false)) ∧
    (∃ (s : State) (src : BitVec 10), (isVf src.toNat = false) ∧ (s.rb aAU_BSTAT 1 = false) ∧ (s.rb aAU_BSTAT 0 = false) ∧ (s.granted src.toNat 7 = true) ∧ ((s.auArgSlot src.toNat) < 8)) ∧
    (∃ (s : State) (src : BitVec 10), (isVf src.toNat = false) ∧ (s.rb aAU_BSTAT 1 = false) ∧ (s.rb aAU_BSTAT 0 = false) ∧ (s.granted src.toNat 7 = false)) ∧
    (∃ (s : State) (dt : Nat) (x : Exch), ((s.elapse dt).auExch = some x) ∧ ((s.elapse dt).fdieDue (x.at_ + fabSeconds 10) 10 = true)) ∧
    (∃ (s : State) (dt : Nat), ((s.elapse dt).hasGrant 0 = true) ∧ ((s.elapse dt).fdieDue (FMap.get (fun _ => 0) (s.elapse dt).auEnd 0) 600 = true)) ∧
    (∃ (s : State) (dt : Nat), ((s.elapse dt).hasGrant 0x3FE = true) ∧ ((s.elapse dt).fdieDue (FMap.get (fun _ => 0) (s.elapse dt).auEnd 1) 600 = true)) ∧
    (∃ (s : State) (dt : Nat) (t : Nat) (n : Nat), ((s.elapse dt).auLock = some (t, n)) ∧ ((s.elapse dt).fdieDue t n = true)) ∧
    (∃ (s : State) (dt : Nat), ((s.elapse dt).mgmt = true)) ∧
    (∃ (s : State) (dt : Nat), ((s.elapse dt).rb aUPD_STAT 6 = true)) ∧
    (∃ (s : State) (dt : Nat), ((s.elapse dt).fPause = true)) :=
  ⟨⟨{ withRegs [(aRST_BOOTPH, 8), (aSP_STAT, 0x70003)] with mgmt := false, supRun := true, spLast := 0, spRegs := [(aAU_GRANT, 0xFF)] }, 7, 1, 1, List.replicate 256 0, by decide +kernel⟩,
   ⟨{ withRegs [(aRST_BOOTPH, 8), (aSP_STAT, 0x70003)] with mgmt := false, supRun := true, spLast := 0, spRegs := [(aAU_GRANT, 0xFF)], xfer := some (1, [], []) }, 7, 1, [1], 1, [], [], by decide +kernel⟩,
   ⟨{ withRegs [(aRST_BOOTPH, 8), (aSP_STAT, 0x70003)] with mgmt := false, supRun := true, spLast := 0, spRegs := [(aAU_GRANT, 0xFF)], xfer := some (1, [], []) }, 7, 1, 1, [], [], by decide +kernel⟩,
   ⟨{ withRegs [(aRST_BOOTPH, 8), (aSP_STAT, 0x70003)] with mgmt := false, supRun := true, spLast := 0, spRegs := [(aAU_GRANT, 0xFF)] }, 7, 1, by decide +kernel⟩,
   ⟨{ withRegs [(aRST_BOOTPH, 8), (aSP_STAT, 0x70003)] with mgmt := false, supRun := true, spLast := 0, spRegs := [(aAU_GRANT, 0xFF)], slots := [(1, some { cart := [], body := [] })] }, 7, 1, { cart := [], body := [] }, by decide +kernel⟩,
   ⟨{ withRegs [(aRST_BOOTPH, 8), (aSP_STAT, 0x70003)] with mgmt := false, supRun := true, spLast := 0, spRegs := [(aAU_GRANT, 0xFF)], slots := [(3, some { cart := [], body := [] })] }, 7, 1, { cart := [], body := [] }, by decide +kernel⟩,
   ⟨{ withRegs [(aRST_BOOTPH, 8), (aSP_STAT, 0x70003)] with mgmt := false, supRun := true, spLast := 0, spRegs := [(aAU_GRANT, 0xFF)] }, 7, 1, 1, by decide +kernel⟩,
   ⟨{ withRegs [(aRST_BOOTPH, 8), (aSP_STAT, 0x70003)] with mgmt := false, supRun := true, spLast := 0, spRegs := [(aAU_GRANT, 0xFF)], bootRec := { State.reset.bootRec with steep := true } }, 7, 1, by decide +kernel⟩,
   ⟨{ withRegs [(aRST_BOOTPH, 8), (aSP_STAT, 0x70003)] with mgmt := false, supRun := true, spLast := 0, spRegs := [(aAU_GRANT, 0xFF)], fRec := { State.reset.fRec with steep := true } }, 7, 1, by decide +kernel⟩,
   ⟨{ withRegs [(aRST_BOOTPH, 8), (aSP_STAT, 0x70003)] with mgmt := false, supRun := true, spLast := 0, spRegs := [(aAU_GRANT, 0xFF)], nvBlock := false }, 7, 1, 0x00320064, 25, 0, by decide +kernel⟩,
   ⟨State.reset, by decide +kernel⟩,
   ⟨State.reset, by decide +kernel⟩,
   ⟨withRegs [(aAU_GRANT, 0x80), (aAU_ARG, 0x20001)], 0, by decide +kernel⟩,
   ⟨State.reset, 0, by decide +kernel⟩,
   ⟨{ State.reset with auExch := some { req := 0, slot := 0, rights := 1, nonce := [], at_ := 0 } }, 8000000000, { req := 0, slot := 0, rights := 1, nonce := [], at_ := 0 }, by decide +kernel⟩,
   ⟨{ State.reset with auEnd := [(0, 5)] }, 1, by decide +kernel⟩,
   ⟨{ State.reset with auEnd := [(1, 5)] }, 1, by decide +kernel⟩,
   ⟨{ State.reset with auLock := some (5, 60) }, 1, 5, 60, by decide +kernel⟩,
   ⟨{ State.reset with mgmt := true }, 1, by decide +kernel⟩,
   ⟨withRegs [(aUPD_STAT, 0x40)], 1, by decide +kernel⟩,
   ⟨{ State.reset with fPause := true }, 1, by decide +kernel⟩⟩

/-! ### Premises of the statements about the core and the engine instructions -/

/-- An answer that is `v`. -/
def okIs {α : Type} [DecidableEq α] (r : Except Trap α) (v : α) : Bool := match r with | .ok x => decide (x = v) | .error _ => false
/-- An answer that is a trap. -/
def isErr {α : Type} (r : Except Trap α) : Bool := match r with | .ok _ => false | .error _ => true
theorem okIs_eq {α : Type} [DecidableEq α] {r : Except Trap α} {v : α} (h : okIs r v = true) : r = .ok v := by
  cases r with
  | ok x => simp [okIs] at h; rw [h]
  | error t => simp [okIs] at h
theorem isErr_eq {α : Type} {r : Except Trap α} (h : isErr r = true) : ∃ t, r = .error t := by
  cases r with
  | ok x => simp [isErr] at h
  | error t => exact ⟨t, rfl⟩
/-- Task 0 of partition 0 running on engine 0 with context `c`. -/
def run0 (c : Ctx) : State := (runs 0 0 0).setTask 0 0 { Task.zero with ctx := c }
theorem issues_of {s : State} {e p t w : Nat} (h : s.issuer e = some (p, t)) (h' : okIs (s.fetchOk p (s.task p t).ctx.p.toNat w) () = true) :
    Issues s e p t w := ⟨h, okIs_eq h'⟩
/-- An operand of MODE 0b00 and one that lies in no mapped page. -/
def near : Opnd := ⟨0, 2, 0⟩
def far : Opnd := ⟨3, 0x3F, 0x1234⟩

/-- A task that issues with LR = 1 and every depth in between, and its two words fetched. -/
def mid : Ctx := { Ctx.zero with lr := true, bsd := 3, csd := 2 }
theorem witness_issue : Issues (run0 mid) 0 0 0 1 ∧ Issues (run0 mid) 0 0 0 2 ∧ Issues (run0 Ctx.zero) 0 0 0 1 ∧ Issues (run0 Ctx.zero) 0 0 0 2 :=
  ⟨issues_of (by decide +kernel) (by decide +kernel), issues_of (by decide +kernel) (by decide +kernel),
   issues_of (by decide +kernel) (by decide +kernel), issues_of (by decide +kernel) (by decide +kernel)⟩
theorem witness_StepKeepsCanonicalForm : ∃ s t : State, Canonical s ∧ step s = .next t :=
  ⟨{ withRegs [(aMER_FRAC, 0x3FE00000)] with pending := [.powerFailWithdrawn] }, _, by decide +kernel, rfl⟩
theorem witness_ResetLeavesDocumentedValues : ∃ p n m b e l : Nat, p < 512 ∧ n < 14336 ∧ 14336 ≤ m ∧ m < 16384 ∧ b < 2 ∧ e < 64 ∧ l < 128 :=
  ⟨511, 14335, 14336, 1, 63, 127, by decide⟩
theorem witness_RegisterWriteThenRead : ∃ s : State, FMap.wf (regReset s.fuse) s.regs = true ∧ FMap.wf (regReset s.fuse) s.pend = true ∧
    ∃ hi lo hi' lo' : Nat, lo ≤ hi ∧ hi < 32 ∧ lo' ≤ hi' ∧ hi' < 32 ∧ (hi < lo' ∨ hi' < lo) :=
  ⟨(withRegs [(aMER_FRAC, 0x3FE00000)]).setPnd (aTT_CTL 3 1) 0x80000000, by decide +kernel, by decide +kernel, 15, 8, 31, 16, by decide⟩
theorem witness_StoreWordWriteThenRead : ∃ (s : State) (a b : Nat), Memory.wf s.mem = true ∧ FMap.wf (fun _ => false) s.bad = true ∧ a % 4 = 0 ∧ b % 4 = 0 ∧ b ≠ a :=
  ⟨{ mapped with mem := [(4, 7)], bad := [(8, true)] }, 8, 4, by decide +kernel⟩
theorem witness_EngineWordsRoundTrip : ∃ (i j : Instr) (w : BitVec 14 × Option (BitVec 14)) (v : BitVec 14 × Option (BitVec 14)),
    i.wf = true ∧ engEncode i = some w ∧ w.2 = none ∧ j.wf = true ∧ engEncode j = some v ∧ v.2 = some 0x1234 :=
  ⟨.opLd 0 0 5 0, .opAdd 0 3 2 0x1234, _, _, by decide, rfl, rfl, by decide, rfl, rfl⟩
/-- Task 0 of partition 0 on engine 0, its partition in mode `m`, with a breakpoint at 0 when `b`. -/
def inMode (m : Nat) (b : Bool) (k : Task) : State :=
  (((runs 0 0 0).setReg (aPD_MODE 0) (BitVec.ofNat 32 m)).setTask 0 0 k).setPart 0 (if b then { Part.zero with brk := [(0, 0)] } else Part.zero)
theorem inMode_brk : ((inMode 2 false Task.zero).part 0).brk = [] := by decide +kernel
theorem witness_WhichTaskIssues : (State.reset.eng 0).run = none ∧ State.reset.issuer 3 = none ∧
    ((inMode 2 false Task.zero).eng 0).run = some (0 * 16 + 0) ∧ ((inMode 2 false Task.zero).task 0 0).ctx.slot = none ∧ (inMode 2 false Task.zero).mode 0 = 2 ∧
    (∀ b ∈ ((inMode 2 false Task.zero).part 0).brk, b.2 ≠ ((inMode 2 false Task.zero).task 0 0).ctx.p) ∧
    (∃ b ∈ ((inMode 2 true Task.zero).part 0).brk, b.2 = ((inMode 2 true Task.zero).task 0 0).ctx.p) ∧
    ((inMode 2 false { Task.zero with ctx := { Ctx.zero with slot := some none } }).task 0 0).ctx.slot.isSome = true ∧
    (inMode 1 false Task.zero).mode 0 = 1 ∧ (inMode 3 false { Task.zero with stepping := true }).mode 0 = 3 ∧
    ((inMode 3 false { Task.zero with stepping := true }).task 0 0).stepping = true ∧ ((inMode 3 false { Task.zero with toHold := true }).task 0 0).toHold = true :=
  ⟨by decide +kernel, by decide +kernel, by decide +kernel, by decide +kernel, by decide +kernel,
   fun b hb => absurd (inMode_brk ▸ hb) List.not_mem_nil, ⟨(0, 0), by decide +kernel, by decide +kernel⟩,
   by decide +kernel, by decide +kernel, by decide +kernel, by decide +kernel, by decide +kernel⟩
theorem witness_TrapCapturesTheFirst : FMap.wf (regReset (withRegs [(aENG_TRAP 3, 0x100)]).fuse) (withRegs [(aENG_TRAP 3, 0x100)]).regs = true ∧
    (withRegs [(aENG_TRAP 3, 0x100)]).rb (aENG_TRAP 3) 8 = true ∧ State.reset.rb (aENG_TRAP 3) 8 = false := by decide +kernel
theorem witness_BitLogicResult : Issues (run0 mid) 0 0 0 near.words ∧ (run0 mid).readBit mid 0 (near.ea mid .bit) = .ok false ∧
    Issues (run0 mid) 0 0 0 far.words ∧ ∃ t, (run0 mid).readBit mid 0 (far.ea mid .bit) = .error t :=
  ⟨witness_issue.1, okIs_eq (by decide +kernel), witness_issue.2.1, isErr_eq (by decide +kernel)⟩
theorem witness_BitStoreResult : Issues (run0 mid) 0 0 0 near.words ∧ mid.lr = true ∧ Ctx.zero.lr = false ∧
    (∃ a, (run0 mid).locate 0 (bitPlace (near.ea mid .bit)).1 (bitPlace (near.ea mid .bit)).2.1 .bit (near.ea mid .bit) = .ok a ∧ (run0 mid).isBad a = false) ∧
    Issues (run0 Ctx.zero) 0 0 0 near.words ∧
    (∃ a, (run0 Ctx.zero).locate 0 (bitPlace (near.ea Ctx.zero .bit)).1 (bitPlace (near.ea Ctx.zero .bit)).2.1 .bit (near.ea Ctx.zero .bit) = .ok a) ∧
    Issues (run0 mid) 0 0 0 far.words ∧
    ∃ t, (run0 mid).locate 0 (bitPlace (far.ea mid .bit)).1 (bitPlace (far.ea mid .bit)).2.1 .bit (far.ea mid .bit) = .error t :=
  ⟨witness_issue.1, rfl, rfl, ⟨pageBase 2 0, okIs_eq (by decide +kernel), by decide +kernel⟩, witness_issue.2.2.1,
   ⟨pageBase 2 0, okIs_eq (by decide +kernel)⟩, witness_issue.2.1, isErr_eq (by decide +kernel)⟩
theorem witness_LrAndBranchStackResult : Issues (run0 mid) 0 0 0 1 ∧ 0 < mid.bsd ∧ mid.bsd < 16 ∧ Issues (run0 Ctx.zero) 0 0 0 1 ∧ Ctx.zero.bsd = 0 ∧
    Issues (run0 { mid with bsd := 16 }) 0 0 0 1 :=
  ⟨witness_issue.1, by decide, by decide, witness_issue.2.2.1, rfl, issues_of (by decide +kernel) (by decide +kernel)⟩
theorem witness_EdgeResult : Issues (run0 mid) 0 0 0 near.words ∧
    (run0 mid).locate 0 (bitPlace (near.ea mid .bit)).1 (bitPlace (near.ea mid .bit)).2.1 .bit (near.ea mid .bit) = .ok (pageBase 2 0) ∧
    (run0 mid).isBad (pageBase 2 0) = false ∧ mid.recorded (bitPlace (near.ea mid .bit)).1 (bitPlace (near.ea mid .bit)).2.1 = none :=
  ⟨witness_issue.1, okIs_eq (by decide +kernel), by decide +kernel, rfl⟩
/-- Stores of a list of words at word 2 of word space in page 0 of the data store. -/
def wrs (l : List W) : List MemWr := match (run0 mid).storeBlock 0 2 l with | .ok r => r | .error _ => []
theorem witness_TimerBlockResult : Issues (run0 mid) 0 0 0 near.words ∧ (run0 mid).readBlock mid 0 (near.ea mid .word) 4 = .ok [0, 0, 0, 0] ∧
    ∀ b ∈ [((Tmr.ofWords [0, 0, 0, 0]).step ((run0 mid).stampUs 0 0)).1.ton ((Tmr.ofWords [0, 0, 0, 0]).step ((run0 mid).stampUs 0 0)).2 mid.lr,
      ((Tmr.ofWords [0, 0, 0, 0]).step ((run0 mid).stampUs 0 0)).1.tof ((Tmr.ofWords [0, 0, 0, 0]).step ((run0 mid).stampUs 0 0)).2 mid.lr,
      ((Tmr.ofWords [0, 0, 0, 0]).step ((run0 mid).stampUs 0 0)).1.tp ((Tmr.ofWords [0, 0, 0, 0]).step ((run0 mid).stampUs 0 0)).2 mid.lr,
      (if mid.lr then (Tmr.ofWords [0, 0, 0, 0]).reset else Tmr.ofWords [0, 0, 0, 0])],
      okIs ((run0 mid).storeBlock 0 (near.ea mid .word) b.words) (wrs b.words) = true ∧ wrs b.words ≠ [] :=
  ⟨witness_issue.1, okIs_eq (by decide +kernel), by decide +kernel⟩
theorem witness_TimerLaws : ∃ (b : Tmr) (d t : W), b.inp = true ∧ b.run = true ∧ b.et.toNat + d.toNat < b.pt.toNat ∧ b.init = true ∧ (t - b.stamp).toNat < 2 ^ 31 ∧
    ∃ (b' : Tmr) (t' : W), b'.run = true ∧ b'.pt.toNat ≤ b'.et.toNat + d.toNat ∧ b'.init = true ∧ 2 ^ 31 ≤ (t' - b'.stamp).toNat ∧ ∃ b'' : Tmr, b''.init = false :=
  ⟨{ Tmr.ofWords [100, 5, 0, 0] with inp := true, run := true, init := true }, 7, 9, by decide,
   by decide, by decide, by decide, by decide, { Tmr.ofWords [10, 5, 0, 0] with run := true, init := true }, 0x80000000, by decide, by decide, by decide, by decide,
   { Tmr.ofWords [0, 0, 0, 0] with init := false }, by decide⟩
theorem witness_CounterBlockResult : Issues (run0 mid) 0 0 0 near.words ∧ (run0 mid).readBlock mid 0 (near.ea mid .word) 3 = .ok [0, 0, 0] ∧
    ∀ b ∈ [{ Ctr.ofWords [0, 0, 0] with cv := 1, ui := true }, { Ctr.ofWords [0, 0, 0] with cv := 0xFFFFFFFF, di := true },
      { Ctr.ofWords [0, 0, 0] with cv := 0 }, { Ctr.ofWords [0, 0, 0] with cv := (Ctr.ofWords [0, 0, 0]).pv }],
      okIs ((run0 mid).storeBlock 0 (near.ea mid .word) (b : Ctr).words) (wrs (b : Ctr).words) = true ∧ wrs (b : Ctr).words ≠ [] :=
  ⟨witness_issue.1, okIs_eq (by decide +kernel), by decide +kernel⟩
/-- The premises of every instruction that reads one word of word space. -/
theorem witness_ArithmeticResult : Issues (run0 mid) 0 0 0 near.words ∧ (run0 mid).readWord mid 0 (near.ea mid .word) = .ok 0 ∧ (run0 mid).rb (aPD_OPT 0) 1 = false ∧
    Issues ((run0 mid).setReg (aPD_OPT 0) 2) 0 0 0 near.words ∧ ((run0 mid).setReg (aPD_OPT 0) 2).readWord mid 0 (near.ea mid .word) = .ok 0 ∧
    ((run0 mid).setReg (aPD_OPT 0) 2).rb (aPD_OPT 0) 1 = true ∧ Issues (run0 mid) 0 0 0 2 :=
  ⟨witness_issue.1, okIs_eq (by decide +kernel), by decide +kernel, issues_of (by decide +kernel) (by decide +kernel), okIs_eq (by decide +kernel),
   by decide +kernel, witness_issue.2.1⟩
theorem witness_ArithmeticFlagsAreExact : ∃ a m : W, m ≠ 0 ∧ ¬(a = 0x80000000 ∧ m = 0xFFFFFFFF) := ⟨7, 3, by decide⟩
theorem witness_LogicAndShiftResult : Issues (run0 mid) 0 0 0 near.words ∧ (run0 mid).readWord mid 0 (near.ea mid .word) = .ok 0 ∧ Issues (run0 mid) 0 0 0 2 :=
  ⟨witness_issue.1, okIs_eq (by decide +kernel), witness_issue.2.1⟩
theorem witness_ShiftsAreExact : ∃ i j k n : Nat, 1 ≤ i ∧ i ≤ 31 ∧ 32 ≤ j ∧ k % 32 ≠ 0 ∧ n % 32 = 0 := ⟨31, 32, 33, 64, by decide⟩
theorem witness_Binary32Result : Issues (run0 mid) 0 0 0 near.words ∧ (run0 mid).readWord mid 0 (near.ea mid .word) = .ok 0 ∧ Issues (run0 mid) 0 0 0 1 :=
  ⟨witness_issue.1, okIs_eq (by decide +kernel), witness_issue.1⟩
theorem witness_CompareAndConditionResult : Issues (run0 mid) 0 0 0 near.words ∧ (run0 mid).readWord mid 0 (near.ea mid .word) = .ok 0 ∧ Issues (run0 mid) 0 0 0 2 :=
  ⟨witness_issue.1, okIs_eq (by decide +kernel), witness_issue.2.1⟩
theorem witness_JumpResult : mid.slot = none ∧ Issues (run0 mid) 0 0 0 near.words ∧ (run0 mid).target 0 (near.ea mid .prog) = .ok 2 ∧ mid.lr = true ∧ Ctx.zero.lr = false ∧
    (∃ t, (run0 mid).target 0 (far.ea mid .prog) = .error t) ∧ (run0 mid).target 0 (mid.xa.toNat % 2 ^ 20) = .ok 0 ∧ mid.csd < 256 ∧ 0 < mid.csd ∧
    (∃ a, (run0 mid).locate 0 false (((run0 mid).ctxBase 0 0 + 256 + mid.csd) % 2 ^ 21) .word (((run0 mid).ctxBase 0 0 + 256 + mid.csd) % 2 ^ 21) = .ok a) ∧
    (run0 mid).readWord mid 0 (((run0 mid).ctxBase 0 0 + 256 + (mid.csd - 1)) % 2 ^ 21) = .ok 0 ∧ (run0 mid).target 0 (fld (0 : W) 19 0) = .ok 0 ∧
    Issues (run0 { mid with csd := 256 }) 0 0 0 1 ∧ Issues (run0 Ctx.zero) 0 0 0 1 ∧ Ctx.zero.csd = 0 ∧ (run0 mid).mode 0 ≠ 1 ∧
    Issues (run0 { mid with slot := some none }) 0 0 0 1 :=
  ⟨rfl, witness_issue.1, okIs_eq (by decide +kernel), rfl, rfl, isErr_eq (by decide +kernel), okIs_eq (by decide +kernel), by decide, by decide,
   ⟨pageBase 1 0 + 4 * 258, okIs_eq (by decide +kernel)⟩, okIs_eq (by decide +kernel), okIs_eq (by decide +kernel),
   issues_of (by decide +kernel) (by decide +kernel), witness_issue.2.2.1, rfl, by decide +kernel, issues_of (by decide +kernel) (by decide +kernel)⟩
theorem witness_LoadAndStoreResult : Issues (run0 mid) 0 0 0 near.words ∧ Issues (run0 mid) 0 0 0 far.words ∧
    (run0 mid).readW mid 0 false (near.ea mid .word) .word (near.ea mid .word) = .ok 0 ∧ (run0 mid).readW mid 0 true (near.ea mid .image) .image (near.ea mid .image) = .ok 0 ∧
    (∃ t, (run0 mid).readW mid 0 false (far.ea mid .word) .word (far.ea mid .word) = .error t) ∧ (∃ t, (run0 mid).readW mid 0 true (far.ea mid .image) .image (far.ea mid .image) = .error t) ∧
    (run0 mid).locate 0 false (near.ea mid .word) .word (near.ea mid .word) = .ok (pageBase 1 0 + 8) ∧
    (run0 mid).locate 0 true (near.ea mid .image) .image (near.ea mid .image) = .ok (pageBase 2 0 + 8) ∧
    (∃ t, (run0 mid).locate 0 false (far.ea mid .word) .word (far.ea mid .word) = .error t) ∧ (∃ t, (run0 mid).locate 0 true (far.ea mid .image) .image (far.ea mid .image) = .error t) :=
  ⟨witness_issue.1, witness_issue.2.1, okIs_eq (by decide +kernel), okIs_eq (by decide +kernel), isErr_eq (by decide +kernel), isErr_eq (by decide +kernel),
   okIs_eq (by decide +kernel), okIs_eq (by decide +kernel), isErr_eq (by decide +kernel), isErr_eq (by decide +kernel)⟩
/-- The premises of every clause of the frame, in one state. -/
theorem witness_EngineInstructionFrame : (run0 mid).mode 0 = 2 ∧ FMap.wf (fun _ => Task.zero) (run0 mid).tasks = true ∧ Memory.wf (run0 mid).mem = true ∧
    Issues (run0 mid) 0 0 0 1 ∧ Issues (run0 mid) 0 0 0 2 ∧ Issues (run0 mid) 0 0 0 near.words ∧ (run0 mid).readBit mid 0 (near.ea mid .bit) = .ok false ∧
    (run0 mid).readWord mid 0 (near.ea mid .word) = .ok 0 ∧ (run0 mid).readW mid 0 true (near.ea mid .image) .image (near.ea mid .image) = .ok 0 ∧
    (run0 mid).locate 0 (bitPlace (near.ea mid .bit)).1 (bitPlace (near.ea mid .bit)).2.1 .bit (near.ea mid .bit) = .ok (pageBase 2 0) ∧
    (run0 mid).isBad (pageBase 2 0) = false ∧ mid.recorded (bitPlace (near.ea mid .bit)).1 (bitPlace (near.ea mid .bit)).2.1 = none ∧
    (run0 mid).locate 0 false (near.ea mid .word) .word (near.ea mid .word) = .ok (pageBase 1 0 + 8) ∧
    (run0 mid).locate 0 true (near.ea mid .image) .image (near.ea mid .image) = .ok (pageBase 2 0 + 8) :=
  ⟨by decide +kernel, by decide +kernel, by decide +kernel, witness_issue.1, witness_issue.2.1, witness_issue.1, okIs_eq (by decide +kernel), okIs_eq (by decide +kernel),
   okIs_eq (by decide +kernel), okIs_eq (by decide +kernel), by decide +kernel, rfl, okIs_eq (by decide +kernel), okIs_eq (by decide +kernel)⟩
theorem witness_IndexAndImmediateResult : Issues (run0 mid) 0 0 0 1 ∧ Issues (run0 mid) 0 0 0 2 := ⟨witness_issue.1, witness_issue.2.1⟩
theorem witness_TimeAndInterruptServices : Issues (run0 mid) 0 0 0 1 ∧ mid.slot = none ∧ (run0 mid).mode 0 = 2 ∧ (run0 mid).holdRefusal 0 = none ∧
    ((run0 mid).setReg (aPD_OPT 0) 4).holdRefusal 0 ≠ none ∧ (run0 { mid with slot := some none }).issuer 0 = some (0, 0) ∧
    ((run0 { mid with slot := some none }).task 0 0).ctx.slot.isSome = true :=
  ⟨witness_issue.1, rfl, by decide +kernel, by decide +kernel, by decide +kernel, by decide +kernel, by decide +kernel⟩
/-- `run0 c` with some registers set. -/
def run1 (c : Ctx) (l : List (Nat × W)) : State := l.foldl (fun (s : State) (e : Nat × W) => s.setReg e.1 e.2) (run0 c)
/-- A context whose A, X and Y hold `a`, `x` and `y`. -/
def axy (a : W) (x y : BitVec 24) : Ctx := { Ctx.zero with a := a, x := x, y := y }
theorem witness_CompareNeverSetsOs : Issues (run0 mid) 0 0 0 near.words ∧ Issues (run0 mid) 0 0 0 2 := ⟨witness_issue.1, witness_issue.2.1⟩
/-- The addresses of words 0 to 17 of the data page of partition 0. -/
def buf18 : List Nat := (List.range 18).map (fun i => pageBase 1 0 + 4 * i)
/-- Object 0 and mailbox 0 of controller 0 owned by partition 0. -/
def canRun (c : Ctx) (l : List (Nat × W)) : State := run1 c ([(aOBJ_OWN 0 0, 0), (aMB_OWN 0 0, 0)] ++ l)
theorem witness_CanServices : Issues (run0 Ctx.zero) 0 0 0 1 ∧ Ctx.zero.slot = none ∧ (run0 Ctx.zero).objDev 0 0 = true ∧ (run0 Ctx.zero).mbDev 0 0 = true ∧
    Issues (run0 (axy 0 (16 * 512) 0)) 0 0 0 1 ∧ (run0 (axy 0 (16 * 512) 0)).fuse.cans ≤ 16 * 512 / 512 ∧
    Issues { run0 Ctx.zero with blkRst := [(0, true)] } 0 0 0 1 ∧ { run0 Ctx.zero with blkRst := [(0, true)] }.inReset 0 = true ∧
    Issues (canRun Ctx.zero []) 0 0 0 1 ∧
    0 < (canRun Ctx.zero []).fuse.cans ∧ (canRun Ctx.zero []).inReset 0 = false ∧ (canRun Ctx.zero []).objDev 0 0 = false ∧ (canRun Ctx.zero []).rf (aOBJ_OWN 0 0) 9 0 = 0 ∧
    (canRun Ctx.zero []).mbDev 0 0 = false ∧ (canRun Ctx.zero []).rf (aMB_OWN 0 0) 9 0 = 0 ∧ (canRun Ctx.zero []).mbPend 0 0 = false ∧ (canRun Ctx.zero []).silent 0 = false ∧
    (canRun Ctx.zero []).locsW 0 0 18 = .ok buf18 ∧ buf18.find? (canRun Ctx.zero []).isBad = none ∧
    Issues (canRun Ctx.zero [(aMB_STAT 0 0, 0x80000000)]) 0 0 0 1 ∧ (canRun Ctx.zero [(aMB_STAT 0 0, 0x80000000)]).mbPend 0 0 = true ∧
    Issues (canRun (axy 0 0 0x1000) []) 0 0 0 1 ∧ (canRun (axy 0 0 0x1000) []).locsW 0 0x1000 18 = .error none :=
  ⟨witness_issue.2.2.1, rfl, by decide +kernel, by decide +kernel, issues_of (by decide +kernel) (by decide +kernel), by decide +kernel,
   issues_of (by decide +kernel) (by decide +kernel), by decide +kernel, issues_of (by decide +kernel) (by decide +kernel), by decide +kernel, by decide +kernel,
   by decide +kernel, by decide +kernel, by decide +kernel, by decide +kernel, by decide +kernel, by decide +kernel, rfl,
   by decide +kernel, issues_of (by decide +kernel) (by decide +kernel), by decide +kernel, issues_of (by decide +kernel) (by decide +kernel),
   rfl⟩
/-- `run1` after the restart of the F-die, its recorder open. -/
def open1 (c : Ctx) (l : List (Nat × W)) : State := { run1 c l with nvBlock := false }
/-- A configuration of the safety unit with function 0 of TYPE 1, its request source 1, assigned to partition 0, and its channels in state `v`. -/
def sf1 (v : Nat) : State :=
  { run0 Ctx.zero with sfSet := [(0, 0x11000001), (0xC, 0x400)], sf := [(0, { SfChan.zero with st := v }), (1, { SfChan.zero with st := v })] }
theorem witness_CaddyEventAndSafetyServices : Issues (run0 Ctx.zero) 0 0 0 1 ∧ (run0 Ctx.zero).nvBlock = true ∧
    Issues (open1 (axy 5 2 0) [(aCAD_ALLOC 0, 0x00080010)]) 0 0 0 1 ∧ (open1 (axy 5 2 0) [(aCAD_ALLOC 0, 0x00080010)]).nvBlock = false ∧
    (open1 (axy 5 2 0) [(aCAD_ALLOC 0, 0x00080010)]).rb aNV_BSTAT 1 = false ∧ (open1 (axy 5 2 0) [(aCAD_ALLOC 0, 0x00080010)]).pfHold = false ∧
    2 < (open1 (axy 5 2 0) [(aCAD_ALLOC 0, 0x00080010)]).rf (aCAD_ALLOC 0) 27 16 ∧
    Issues (open1 (axy 5 9 0) [(aCAD_ALLOC 0, 0x00080010)]) 0 0 0 1 ∧ (open1 (axy 5 9 0) [(aCAD_ALLOC 0, 0x00080010)]).rf (aCAD_ALLOC 0) 27 16 ≤ 9 ∧
    Issues (run0 (axy 0x3F000000 0 0)) 0 0 0 1 ∧ (0x3F000000 : W).toNat / 2 ^ 24 % 64 = 63 ∧
    Issues (run0 (axy 0x02008123 0 0)) 0 0 0 1 ∧ (0x02008123 : W).toNat / 2 ^ 24 % 64 = 2 ∧ 0x8000 ≤ (0x02008123 : W).toNat % 65536 ∧
    (run0 (axy 0x02008123 0 0)).locsW 0 0 2 = .ok [pageBase 1 0, pageBase 1 0 + 4] ∧
    [pageBase 1 0, pageBase 1 0 + 4].find? (run0 (axy 0x02008123 0 0)).isBad = none ∧ (run0 (axy 0x02008123 0 0)).evrShut = true ∧
    (open1 (axy 0x02008123 0 0) []).evrShut = false ∧ ((open1 (axy 0x02008123 0 0) []).admission 0x8123 0 2 0 [0, 0]).2 = true ∧
    ({ open1 (axy 0x02008123 0 0) [] with evBkt := [(0x8123, (0, 0))] }.admission 0x8123 0 2 0 [0, 0]).2 = false ∧
    { absent with fuse := { absent.fuse with variant := .t512n } }.fuse.field = false ∧
    Issues (sf1 2) 0 0 0 1 ∧ (sf1 2).fuse.field = true ∧ (sf1 2).silent 0 = false ∧ (sf1 2).sfAssigned 0 0 = true ∧ (sf1 2).sfShown 0 = 2 ∧
    rsrcRequest ((sf1 2).sfp 0) = true ∧ (sf1 1).sfShown 0 ≠ 2 ∧ (sf1 2).sfAssigned 1 0 = false :=
  ⟨witness_issue.2.2.1, rfl, issues_of (by decide +kernel) (by decide +kernel), rfl, by decide +kernel, rfl, by decide +kernel,
   issues_of (by decide +kernel) (by decide +kernel), by decide +kernel, issues_of (by decide +kernel) (by decide +kernel), by decide,
   issues_of (by decide +kernel) (by decide +kernel), by decide, by decide, rfl, by decide +kernel, rfl, rfl, by decide +kernel, by decide +kernel, rfl,
   issues_of (by decide +kernel) (by decide +kernel), rfl, by decide +kernel, by decide +kernel, by decide +kernel, by decide +kernel, by decide +kernel, by decide +kernel⟩
/-- Whether an answer is a list of places. -/
def okSome (r : Except (Option Nat) (List Nat)) : Bool := match r with | .ok _ => true | .error _ => false
/-- Whether output data is whole. -/
def dataIs (d : OutData) : Bool := match d with | .data _ => true | _ => false
/-- Partition 0 with two descriptors: 0 an IN descriptor of slot 5 (16 bytes at most), 1 an OUT descriptor of 8 bytes to stream 1. -/
def imgRun (x : BitVec 24) : State :=
  run1 (axy 0 x 0) [(aPD_MOV_RANGE 0, 0x00020000), (aMD_0 0, 0x10000005), (aMD_1 0, 0x00000004), (aMD_2 0, 0x80000008),
    (aSW_SLOT0 5, 0x80040010), (aMD_0 1, 0x20000001), (aMD_1 1, 0x00010010), (aMD_2 1, 8), (aSW_ST0 1, 0x80000200)]
theorem witness_ImageServices : Issues (run0 (axy 0 0x4000 0)) 0 0 0 1 ∧ Issues { run0 Ctx.zero with blkRst := [(0x10, true)] } 0 0 0 1 ∧
    { run0 Ctx.zero with blkRst := [(0x10, true)] }.moverUp = false ∧ Issues (imgRun 5) 0 0 0 1 ∧ (imgRun 5).moverUp = true ∧
    ((imgRun 5).descs 0).find? (fun i => (imgRun 5).dKind i == 1 && (imgRun 5).dTarget i % 16384 == 5 && !(imgRun 5).dDis i) = some 0 ∧
    ((imgRun 5).descs 0).find? (fun i => (imgRun 5).dKind i == 1 && (imgRun 5).dTarget i % 16384 == 6 && !(imgRun 5).dDis i) = none ∧
    (imgRun 5).slotV 5 = true ∧ (imgRun 5).descBad 0 = false ∧ (imgRun 5).slotPageBad 5 = false ∧
    okSome ((imgRun 5).locs 0 2 ((imgRun 5).rf (aMD_1 0) 15 0) (packWords ((imgRun 5).newest 5).1).length) = true ∧
    okSome ((imgRun 5).locs 0 2 ((imgRun 5).rf (aMD_2 0) 15 0) (if (imgRun 5).rb (aMD_2 0) 31 then 1 else 0)) = true ∧
    Issues (imgRun 2) 0 0 0 1 ∧ (imgRun 2).rf (aPD_MOV_RANGE 0) 31 16 ≤ 2 ∧ Issues (imgRun 0) 0 0 0 1 ∧ (imgRun 0).dKind 0 ≠ 2 ∧
    Issues (imgRun 1) 0 0 0 1 ∧ (imgRun 1).dKind 1 = 2 ∧ (imgRun 1).dDis 1 = false ∧ (imgRun 1).descBad 1 = false ∧ (imgRun 1).outStream 0 1 = some 1 ∧
    dataIs ((imgRun 1).readData 0 2 (0x10000 + (imgRun 1).rf (aMD_1 1) 15 0) ((imgRun 1).dLen 1)) = true :=
  ⟨issues_of (by decide +kernel) (by decide +kernel), issues_of (by decide +kernel) (by decide +kernel), by decide +kernel,
   issues_of (by decide +kernel) (by decide +kernel), by decide +kernel, by decide +kernel, by decide +kernel, by decide +kernel, by decide +kernel,
   by decide +kernel, by decide +kernel, by decide +kernel, issues_of (by decide +kernel) (by decide +kernel), by decide +kernel,
   issues_of (by decide +kernel) (by decide +kernel), by decide +kernel, issues_of (by decide +kernel) (by decide +kernel), by decide +kernel,
   by decide +kernel, by decide +kernel, by decide +kernel, by decide +kernel⟩
/-- Partition 0 using decode-table entry `e`, whose header is `h` and whose first micro-operation is `w`. -/
def custRun (h w : W) : State := run1 Ctx.zero [(aHDR_USED_LO 0, 2), (aENT_HDR 0 1, h), (aENT_HDR 0 1 + 0x80, w)]
/-- Whether micro-operations ran without a trap. -/
def ran (r : Except Trap Mic) : Bool := match r with | .ok _ => true | .error _ => false
theorem witness_CustomerAndIllegalResult : Issues (run0 Ctx.zero) 0 0 0 1 ∧ (run0 Ctx.zero).customUsable 0 0 1 = false ∧
    Issues (custRun 0x8F000000 0) 0 0 0 2 ∧ (custRun 0x8F000000 0).customUsable 0 3 1 = true ∧
    FMap.get (fun _ => false) (custRun 0x8F000000 0).dtBad ((custRun 0x8F000000 0).dtActive * 64 + 1) = false ∧
    ran (Mic.run (custRun 0x8F000000 0) Ctx.zero 0 0 ((((custRun 0x8F000000 0).dtEntry (custRun 0x8F000000 0).dtActive 1).drop 32).take 1) Mic.init) = true :=
  ⟨witness_issue.2.2.1, by decide +kernel, issues_of (by decide +kernel) (by decide +kernel), by decide +kernel, by decide +kernel, by decide +kernel⟩
/-! ### Commands that cannot be sent: one ill-formed term for each check, and a well-formed neighbour -/
theorem test_wf_requester : (Instr.survey 513).wf = false ∧ (Instr.survey 512).wf = true ∧ (Instr.survey 0x3FE).wf = true := by decide
theorem test_wf_word_one : (Instr.opLd 0 2 5 7).wf = false ∧ (Instr.opLd 0 3 5 7).wf = true := by decide
theorem test_wf_task_entry : (Instr.inputCopyComplete 0 9 0 0).wf = false ∧ (Instr.inputCopyComplete 0 8 0 0).wf = true := by decide
theorem test_wf_found : (Instr.scrub 0 3).wf = false ∧ (Instr.scrub 0 2).wf = true := by decide
theorem test_wf_vf : (Instr.vfFlr 0).wf = false ∧ (Instr.vfFlr 513).wf = false ∧ (Instr.vfFlr 512).wf = true := by decide
theorem test_wf_function_and_msix : (Instr.configurationRequest 513 true 0 0 false).wf = false ∧ (Instr.configurationRequest 0 true 3 0 false).wf = false ∧
    (Instr.configurationRequest 0 true 2 0 false).wf = true := by decide
theorem test_wf_store : (Instr.pageRetirement 3 0 0).wf = false ∧ (Instr.pageRetirement 2 0 0).wf = true := by decide
theorem test_wf_channel : (Instr.watchdogWindowOpen 0x80 0).wf = false ∧ (Instr.watchdogWindowOpen 0xF1 0).wf = true := by decide
theorem test_wf_can_data : (Instr.canFrameReceived 0 0 0 (List.replicate 65 0) 0 0).wf = false ∧
    (Instr.canFrameReceived 0 0 0 (List.replicate 64 0) 0 0).wf = true := by decide +kernel
theorem test_wf_lines : (Instr.data 0 0 0 [(0, [1])] 0).wf = false ∧ (Instr.data 0 0 0 [(0, List.replicate 64 0)] 0).wf = true := by decide +kernel
theorem test_wf_cartouche : (Instr.xbegin 0 0 0 []).wf = false ∧ (Instr.xbegin 0 0 0 (List.replicate 256 0)).wf = true := by decide +kernel
theorem test_wf_pins : (Instr.safetyEvaluation [] [] [] [] [] 0).wf = false ∧
    (Instr.safetyEvaluation [] [] (List.replicate 8 ⟨0, 0⟩) (List.replicate 8 ⟨0, 0⟩) [] 0).wf = true := by decide +kernel
theorem test_wf_illegal : (Instr.opIllegal 0 0x0008).wf = false ∧ (Instr.opIllegal 0 0x0E00).wf = true := by decide +kernel
theorem test_wf_packet : (Instr.storeWindowWrite 0xFFF [0, 0]).wf = false ∧ (Instr.storeWindowWrite 0xFFF [0]).wf = true := by decide

/-! ### Words of the engines written out from the spec (the worked fan program of spec/03, R72, R73) -/
theorem test_words_fan_program :
    Machine.engDecode 0 0x39C0 0x0131 = .opLdk 0 305 ∧ Machine.engDecode 0 0x39C1 0x0B40 = .opLdks 0 0x0B40 ∧ Machine.engDecode 0 0x19C1 0 = .opSta 0 3 1 0 ∧
    Machine.engDecode 0 0x2F20 0 = .opLdi 0 0 0x20 0 ∧ Machine.engDecode 0 0x0008 0 = .opLd 0 0 8 0 ∧ Machine.engDecode 0 0x3808 0 = .opBpsh 0 ∧
    Machine.engDecode 0 0x39C3 0x015E = .opCmpk 0 350 ∧ Machine.engDecode 0 0x380D 0 = .opBppa 0 ∧ Machine.engDecode 0 0x04E0 0x0040 = .opOr 0 3 0x20 0x40 ∧
    Machine.engDecode 0 0x030A 0 = .opAndn 0 0 0xA 0 ∧ Machine.engDecode 0 0x10C1 0 = .opTon 0 3 1 0 ∧ Machine.engDecode 0 0x08D0 3 = .opSt 0 3 0x10 3 ∧
    Machine.engDecode 0 0x3801 0 = .opEnd 0 := by decide +kernel
theorem test_words_arithmetic_and_jumps : Machine.engDecode 5 0x1A42 0 = .opAdd 5 1 2 0 ∧ Machine.engDecode 5 0x28C1 0x3FFF = .opFadd 5 3 1 0x3FFF ∧
    Machine.engDecode 5 0x35C0 0x0100 = .opJmp 5 3 0 0x100 ∧ Machine.engDecode 5 0x3FC7 9 = .opCustomer 5 3 7 9 := by decide +kernel
theorem test_words_illegal : Machine.engDecode 0 0x0E00 0 = .opIllegal 0 0x0E00 ∧ Machine.engDecode 0 0x3B00 0 = .opIllegal 0 0x3B00 ∧
    Machine.engDecode 0 0x3841 0 = .opIllegal 0 0x3841 ∧ Machine.engDecode 0 0x3900 0 = .opIllegal 0 0x3900 := by decide +kernel

/-! ### Single steps -/
/-- Whether the outcome is a next state that passes a test. -/
def goes (o : Host.Outcome State Machine.Fault Machine.Refusal) (q : State → Bool) : Bool := match o with | .next t => q t | _ => false
theorem test_step_takes_the_front : goes (step { State.reset with pending := [.powerFailWithdrawn, .identify] }) (fun t => t.pending == [.identify]) = true := by
  decide +kernel
theorem test_word_spells_no_command : decodeTableWord 8 0x12 = none ∧ State.reset.withFetchWord 8 0x12 = State.reset := ⟨rfl, rfl⟩
/-- SETL writes LR, which the next instruction sees (R94). -/
theorem test_setl : goes (exec (.opSetl 0) (run0 Ctx.zero)) (fun t => (t.task 0 0).ctx.lr && ((t.task 0 0).ctx.p == 1)) = true := by decide +kernel
/-- LDK 305 of the fan program: its result lies two words ahead, that is at the very next instruction. -/
theorem test_ldk : goes (exec (.opLdk 0 305) (run0 Ctx.zero)) (fun t => ((t.task 0 0).ctx.a == 305) && ((t.task 0 0).ctx.p == 2)) = true := by decide +kernel
/-- A reserved word stops the partition with trap 0x05 (R73, R74). -/
theorem test_illegal_stops : goes (exec (.opIllegal 0 0x0E00) (run0 Ctx.zero)) (fun t => t.rb (aENG_TRAP 0) 8 && (t.rf (aENG_TRAP 0) 7 0 == 5)) = true := by
  decide +kernel
/-- PF0 writes a task period of a partition that is created; of one that is not, the write is refused (R472). -/
theorem test_register_write : goes (exec (.registerWrite 0 (BitVec.ofNat 28 (aTT_PERIOD 3 1)) 4 true 20) (task3 1 0 [])) (fun t => t.pnd (aTT_PERIOD 3 1) == 20 || t.reg (aTT_PERIOD 3 1) == 20) = true ∧
    goes (exec (.registerWrite 0 (BitVec.ofNat 28 (aTT_PERIOD 3 1)) 4 true 20) State.reset) (fun t => t.pnd (aTT_PERIOD 3 1) == 0) = true := by
  decide +kernel

end Sys2Proof.Tests
end

section
/-!
PROOFS. Register locations of a unit that the Legend reports absent (spec/00 R4): a read returns zero bytes, a write is ignored, and
neither records a refusal.
-/
namespace Sys2Proof.Machine

/-! ### Which accesses are checked and served -/

/-- PF0 and the requesters that are no function are always enabled. -/
theorem State.fnOn_of_not_isVf (s : State) {src : Nat} (h : isVf src = false) : s.fnOn src = true := by
  have hsrc : src = 0 ∨ 512 < src := by
    rw [isVf, decide_eq_false_iff_not] at h
    omega
  simp [State.fnOn, hsrc]

theorem sizeOk_four {off : Nat} (h : off % 4 = 0) : sizeOk off 4 = true := by simp [sizeOk, h]
theorem sizeOk_eight {off : Nat} (h : off % 8 = 0) : sizeOk off 8 = true := by simp [sizeOk, h]

theorem exec_registerWrite (src : BitVec 10) (off : BitVec 28) (size : BitVec 4) (full : Bool) (d : W64) (s : State) :
    exec (.registerWrite src off size full d) s = execRegisterWrite src off size full d s := rfl
theorem exec_registerRead (src : BitVec 10) (bar2 : Bool) (off : BitVec 28) (len : BitVec 13) (s : State) :
    exec (.registerRead src bar2 off len) s = .next (s.hostRead src.toNat bar2 off.toNat len.toNat 0) := rfl
/-- A served write of 4 bytes is one access (R40). -/
theorem exec_registerWrite_four {s : State} {src : BitVec 10} {off : BitVec 28} (d : W64) (hf : s.fnOn src.toNat = true)
    (ha : off.toNat % 4 = 0) : exec (.registerWrite src off 4 true d) s = .next (s.write1 src.toNat off.toNat (lo32 d)) := by
  simp [exec_registerWrite, execRegisterWrite, hf, sizeOk_four ha]
/-- A served write of 8 bytes is two accesses in ascending order (R40). -/
theorem exec_registerWrite_eight {s : State} {src : BitVec 10} {off : BitVec 28} (d : W64) (hf : s.fnOn src.toNat = true)
    (ha : off.toNat % 8 = 0) : exec (.registerWrite src off 8 true d) s =
      .next ((s.write1 src.toNat off.toNat (lo32 d)).write1 src.toNat (off.toNat + 4) (hi32 d)) := by
  simp [exec_registerWrite, execRegisterWrite, hf, sizeOk_eight ha]

/-! ### A read whose words all read zero -/

theorem flatMap_bytesOf_zero (k : Nat) : (List.replicate k (0 : W)).flatMap bytesOf = zeros (k * 4) := by
  have hz : bytesOf 0 = List.replicate 4 0 := by decide
  rw [List.flatMap_replicate, hz, List.flatten_replicate_replicate, zeros]

/-- Words that read zero and leave the state alone do so one after the other. -/
theorem readAll_of_zero {rd : State → Nat → Got} {s : State} {l : List Nat} (h : ∀ o ∈ l, rd s o = (s, some 0)) :
    readAll rd s l = (s, List.replicate l.length 0) := by
  induction l with
  | nil => rfl
  | cons o l ih =>
    obtain ⟨ho, hl⟩ := List.forall_mem_cons.mp h
    simp [readAll, ho, ih hl, List.replicate_succ]
/-- An access of words that all read zero gives zero bytes. -/
theorem readBytes_of_zero {rd : State → Nat → Got} {s : State} {off n : Nat} (h : ∀ o ∈ wordsIn off n, rd s o = (s, some 0)) :
    readBytes rd false s off n = (s, zeros n) := by
  have hn : min n ((off % 4 + n + 3) / 4 * 4 - off % 4) = n := by omega
  simp only [readBytes, readAll_of_zero h, flatMap_bytesOf_zero]
  simp [wordsIn, zeros, hn]

theorem wordsIn_four {off : Nat} (h : off % 4 = 0) : wordsIn off 4 = [off] := by
  have hoff : off / 4 * 4 = off := by omega
  simp [wordsIn, h, hoff]
theorem wordsIn_eight {off : Nat} (h : off % 8 = 0) : wordsIn off 8 = [off, off + 4] := by
  have h4 : off % 4 = 0 := by omega
  have hoff : off / 4 * 4 = off := by omega
  simp [wordsIn, h4, hoff, List.range_succ]

/-- A read by PF0 or the service port of locations of PF0's BAR0 that all read zero answers zero bytes and does nothing else. -/
theorem State.hostRead_of_read0_zero {s : State} {src off n : Nat} {sub : BitVec 15} (hv : isVf src = false) (hn : sizeOk off n = true)
    (h : ∀ o ∈ wordsIn off n, s.read0 src o sub = (s, some 0)) : s.hostRead src false off n sub = s.emit (.readData src (zeros n)) := by
  simp [State.hostRead, hv, hn, s.fnOn_of_not_isVf hv, readBytes_of_zero (rd := fun s o => s.read0 src o sub) h]
/-- A read by an enabled VF of locations of its BAR0 outside the image window that all read zero answers zero bytes and does nothing
else. -/
theorem State.hostRead_of_readVf_zero {s : State} {src off n : Nat} {sub : BitVec 15} (hv : isVf src = true) (hf : s.fnOn src = true)
    (hi : inImage off = false) (hn : sizeOk off n = true) (h : ∀ o ∈ wordsIn off n, s.readVf src src o = (s, some 0)) :
    s.hostRead src false off n sub = s.emit (.readData src (zeros n)) := by
  simp [State.hostRead, hv, hf, hi, hn, readBytes_of_zero (rd := fun s o => s.readVf src src o) h]

/-! ### One word of an absent unit -/

/-- A write of PF0 or the service port to a register of an absent unit is ignored (R4). -/
theorem State.write1_absent {s : State} {src off : Nat} (d : W) (hv : isVf src = false) (ho : off < 0x8000000)
    (hp : addrPresent s.fuse off = false) : s.write1 src off d = s := by
  simp [State.write1, State.write0, State.regWrite, s.fnOn_of_not_isVf hv, hv, ho, hp]
/-- A register of an absent unit reads zero (R4). -/
theorem State.read0_absent {s : State} {off : Nat} (src : Nat) (sub : BitVec 15) (ho : off < 0x8000000)
    (hp : addrPresent s.fuse off = false) : s.read0 src off sub = (s, some 0) := by
  simp [State.read0, State.readReg, ho, hp]
/-- A write to the BAR of a VF whose partition is absent is ignored (R4). -/
theorem State.write1_vf_absent {s : State} {vf : Nat} (off : Nat) (d : W) (hv : isVf vf = true) (hf : s.fnOn vf = true)
    (hp : s.fuse.partitions < vf) : s.write1 vf off d = s := by
  have habs : s.fuse.partitions ≤ vf - 1 := Nat.le_sub_one_of_lt hp
  simp [State.write1, State.writeVf, hf, hv, habs]
/-- The BAR of a VF whose partition is absent reads zero (R4). -/
theorem State.readVf_absent {s : State} {vf : Nat} (src off : Nat) (hp : s.fuse.partitions < vf) :
    s.readVf src vf off = (s, some 0) := by
  have habs : s.fuse.partitions ≤ vf - 1 := Nat.le_sub_one_of_lt hp
  simp [State.readVf, habs]

/-! ### The statement -/

/-- Settles O41: the access is checked and served as words, and every word of an absent unit reads zero and takes no write.
`witness_AbsentUnitLocations` meets the premises of both clauses. -/
theorem absentUnitLocations : Obligations.AbsentUnitLocations := by
  unfold Obligations.AbsentUnitLocations
  intro s src off d
  constructor
  · intro hv h4 hlt hp
    have hf := s.fnOn_of_not_isVf hv
    refine ⟨?write4, ?read4, fun h8 hlt' hp' => ⟨?write8, ?read8⟩⟩
    case write4 => rw [exec_registerWrite_four d hf h4, State.write1_absent _ hv hlt hp]
    case read4 =>
      refine (exec_registerRead ..).trans (congrArg _ (State.hostRead_of_read0_zero hv (sizeOk_four h4) ?_))
      simp [wordsIn_four h4, State.read0_absent, hlt, hp]
    case write8 =>
      rw [exec_registerWrite_eight d hf h8, State.write1_absent _ hv hlt hp, State.write1_absent _ hv hlt' hp']
    case read8 =>
      refine (exec_registerRead ..).trans (congrArg _ (State.hostRead_of_read0_zero hv (sizeOk_eight h8) ?_))
      simp [wordsIn_eight h8, State.read0_absent, hlt, hp, hlt', hp']
  · intro hv hp hf hi h4
    refine ⟨?write4, ?read4⟩
    case write4 => rw [exec_registerWrite_four d hf h4, State.write1_vf_absent _ _ hv hf hp]
    case read4 =>
      exact (exec_registerRead ..).trans
        (congrArg _ (State.hostRead_of_readVf_zero hv hf hi (sizeOk_four h4) fun o _ => State.readVf_absent _ o hp))

end Sys2Proof.Machine
end

section
/-!
PROOFS. The step and the queue; which task an engine executes (R19, R134, R149, R150) and what a boundary brings (R104, R146).
-/
namespace Sys2Proof.Machine

/-! ### The step -/

/-- Every arm of `exec` is the call of a meaning, and every meaning answers a next state: a refused access, a trap and a fault report
are effects on the state. -/
theorem exec_completes (c : Instr) (s : State) : ∃ t, exec c s = .next t := by
  cases c with
  | _ => exact ⟨_, rfl⟩

theorem step_cons {s : State} {c : Instr} {rest : List Instr} (h : s.pending = c :: rest) :
    step s = exec c { s with pending := rest } := by
  rw [step, h]
theorem step_nil {s : State} (h : s.pending = []) : step s = .next (s.elapse 1) := by rw [step, h]

/-- Settles O1: the queue decides what a step takes, the arms of `exec` all complete, and with none waiting one clock elapses. -/
theorem stepTakesTheFrontCommand : Obligations.StepTakesTheFrontCommand := by
  unfold Obligations.StepTakesTheFrontCommand
  refine ⟨fun c rest s => step_cons, exec_completes, fun s h => ?idle⟩
  case idle => rw [step_nil h, State.elapse_eq, Nat.one_mul]

/-! ### The task that issues -/

/-- No task issues on an engine that has none, nor while the clocks of the L-die stand (R19). -/
theorem State.issuer_eq_none {s : State} {e : Nat} (h : (s.eng e).run = none ∨ s.clkStop = true) : s.issuer e = none := by
  rcases h with hrun | hstop
  · simp [State.issuer, hrun]
  · simp [State.issuer, hstop]

section
variable {s : State} {e p t : Nat} (ht : t < 16) (hc : s.clkStop = false) (hr : (s.eng e).run = some (p * 16 + t))
include ht hc hr

/-- The task that an engine has issues in a delay slot; outside one, in Run or for a step in Hold, unless a breakpoint stops it
(R134, R149, R150). -/
theorem State.issuer_of_run : s.issuer e =
    if (s.task p t).ctx.slot.isSome then some (p, t)
    else if s.mode p = 2 ∨ (s.mode p = 3 ∧ (s.task p t).stepping) then
      (if (s.part p).brk.any (fun b => b.2 == (s.task p t).ctx.p) && !(s.task p t).passBrk && !(s.task p t).stepping
        && (s.holdRefusal p).isNone then none else some (p, t))
    else none := by
  have hp : (p * 16 + t) / 16 = p := by omega
  have hm : (p * 16 + t) % 16 = t := by omega
  simp only [State.issuer, hc, hr, hp, hm, Bool.false_eq_true, if_false]

/-- In a delay slot the task issues in every mode. -/
theorem State.issuer_of_slot (hs : (s.task p t).ctx.slot.isSome) : s.issuer e = some (p, t) := by
  rw [State.issuer_of_run ht hc hr, if_pos hs]

variable (hs : (s.task p t).ctx.slot = none)
include hs

theorem State.issuer_of_run_mode (hm : s.mode p = 2) : s.issuer e =
    if (s.part p).brk.any (fun b => b.2 == (s.task p t).ctx.p) && !(s.task p t).passBrk && !(s.task p t).stepping
        && (s.holdRefusal p).isNone then none else some (p, t) := by
  simp [State.issuer_of_run ht hc hr, hs, hm]

/-- A task for which no breakpoint stands at P issues in Run. -/
theorem State.issuer_of_no_break (hm : s.mode p = 2) (hb : ∀ b ∈ (s.part p).brk, b.2 ≠ (s.task p t).ctx.p) :
    s.issuer e = some (p, t) := by
  have hany : (s.part p).brk.any (fun b => b.2 == (s.task p t).ctx.p) = false := by simpa using hb
  simp [State.issuer_of_run_mode ht hc hr hs hm, hany]

/-- A task with a breakpoint at P issues in Run when it has just passed it, takes a step, or its partition cannot be held (R149). -/
theorem State.issuer_of_break (hm : s.mode p = 2) (hb : ∃ b ∈ (s.part p).brk, b.2 = (s.task p t).ctx.p) :
    s.issuer e = if (s.task p t).passBrk || (s.task p t).stepping || (s.holdRefusal p).isSome then some (p, t) else none := by
  have hany : (s.part p).brk.any (fun b => b.2 == (s.task p t).ctx.p) = true := by simpa using hb
  rw [State.issuer_of_run_mode ht hc hr hs hm, hany]
  simp only [Bool.true_and, ← Option.not_isSome, ← Bool.not_or, Bool.not_eq_true', ← Bool.not_eq_true, ite_not]

/-- A step in Hold issues, whatever breakpoint stands at P (R150). -/
theorem State.issuer_of_step (hm : s.mode p = 3) (hk : (s.task p t).stepping = true) : s.issuer e = some (p, t) := by
  simp [State.issuer_of_run ht hc hr, hs, hm, hk]

/-- Outside Run and a step in Hold no task issues. -/
theorem State.issuer_of_not_run (hm : s.mode p ≠ 2) (hk : s.mode p = 3 → (s.task p t).stepping = false) : s.issuer e = none := by
  have hstep : ¬(s.mode p = 3 ∧ (s.task p t).stepping = true) := fun h => by simp [hk h.1] at h
  simp [State.issuer_of_run ht hc hr, hs, hm, hstep]

end

/-- An instruction sent for an engine on which no task issues changes nothing. -/
theorem State.issue_of_issuer_none {s : State} {e : Nat} (h : s.issuer e = none) (w clks : Nat)
    (body : Nat → Nat → Ctx → Except Trap Eff) : s.issue e w clks body = s := by
  simp only [State.issue, h]

/-! ### The boundary after an instruction -/

/-- No boundary lies in a delay slot (R104). -/
theorem State.atBoundary_of_slot {s : State} {p t : Nat} (h : (s.task p t).ctx.slot.isSome) : s.atBoundary p t = s := if_pos h

section
variable {s : State} {p t : Nat} (hs : (s.task p t).ctx.slot = none)
include hs

theorem State.atBoundary_of_run (hm : s.mode p = 2) : s.atBoundary p t = s := by simp [State.atBoundary, hs, hm]
theorem State.atBoundary_of_stop (hm : s.mode p = 1) : s.atBoundary p t = s.offTask p t := by simp [State.atBoundary, hs, hm]
theorem State.atBoundary_of_step (hm : s.mode p = 3) (hk : (s.task p t).stepping = true) : s.atBoundary p t = s.endStep p t := by
  simp [State.atBoundary, hs, hm, hk]
theorem State.atBoundary_of_hold (hm : s.mode p = 3) (hk : (s.task p t).stepping = false) (hh : (s.task p t).toHold = true) :
    s.atBoundary p t = (s.freezeTask p t tRunning).freeEngine (s.task p t).eng := by
  simp [State.atBoundary, hs, hm, hk, hh]

end

/-- Settles O9: by the mode of the partition for the task that issues, and for what the boundary brings.
`witness_WhichTaskIssues` meets the premises. -/
theorem whichTaskIssues : Obligations.WhichTaskIssues := by
  unfold Obligations.WhichTaskIssues
  intro s e p t ht
  refine ⟨State.issuer_eq_none, fun hc hr => ⟨?slot, ?run, ?atBreak, ?stopped, ?held, ?step⟩, ?idle, State.atBoundary_of_slot, fun hs =>
    ⟨State.atBoundary_of_run hs, State.atBoundary_of_stop hs, State.atBoundary_of_step hs, State.atBoundary_of_hold hs⟩⟩
  case slot => exact State.issuer_of_slot ht hc hr
  case run => exact State.issuer_of_no_break ht hc hr
  case atBreak => exact State.issuer_of_break ht hc hr
  case stopped =>
    intro hs hm
    exact State.issuer_of_not_run ht hc hr hs (by omega) (fun h3 => by omega)
  case held =>
    intro hs hm hk
    exact State.issuer_of_not_run ht hc hr hs (by omega) (fun _ => hk)
  case step => exact State.issuer_of_step ht hc hr
  case idle => exact fun e' h => congrArg Host.Outcome.next (State.issue_of_issuer_none h 1 1 _)

end Sys2Proof.Machine
end

section
/-!
PROOFS. The safety unit (spec/11): evaluation, faults, dark tests, unit commands and a set that takes effect (R13, R315 to R318, R325,
R329, R330, R334 to R336).
-/
namespace Sys2Proof.Machine

/-! ### Far writes and unit commands -/

/-- PF0 or the service port writes to a far block that is reachable and idle: the write takes effect there and sets BUSY (R48). -/
theorem State.farWrite_idle {s : State} {src bstat : Nat} (a : Nat) (k : State → State) (hv : isVf src = false)
    (hu : s.rb bstat 1 = false) (hb : s.rb bstat 0 = false) : s.farWrite src a bstat k = (k s).setRf bstat 0 0 1 := by
  have hsrc : ¬(1 ≤ src ∧ src ≤ 512) := of_decide_eq_false hv
  simp [State.farWrite, hsrc, hu, hb]

/-- A unit command reaches the safety unit, and its posted write finds it idle. -/
structure State.SfReached (s : State) (src : Nat) : Prop where
  field : s.fuse.field = true
  host : isVf src = false
  up : s.rb aSF_BSTAT 1 = false
  idle : s.rb aSF_BSTAT 0 = false

/-- A unit command that reaches the safety unit passes authorisation, and no command is in progress there. -/
structure State.SfAccepted (s : State) (src : Nat) : Prop extends s.SfReached src where
  right : s.granted src 0 = true
  free : s.rb aSF_CMD_STAT 0 = false

/-- The checks that every unit command meets, in the order of the outcomes (R336). -/
theorem State.sfCommand_reached {s : State} {src : Nat} (h : s.SfReached src) (k : State → State) : s.sfCommand src k =
    (if s.granted src 0 = false then s.setRf aSF_CMD_STAT 15 8 1
     else if s.rb aSF_CMD_STAT 0 then s.setRf aSF_CMD_STAT 15 8 6 else k s).setRf aSF_BSTAT 0 0 1 := by
  rw [State.sfCommand, if_neg (by simp [h.field]), State.farWrite_idle _ _ h.host h.up h.idle]

/-- Without the SAFETY right the command ends with REASON 1. -/
theorem State.sfCommand_denied {s : State} {src : Nat} (h : s.SfReached src) (hg : s.granted src 0 = false) (k : State → State) :
    s.sfCommand src k = (s.setRf aSF_CMD_STAT 15 8 1).setRf aSF_BSTAT 0 0 1 := by
  rw [State.sfCommand_reached h, if_pos hg]

/-- While a unit command is in progress the next ends with REASON 6. -/
theorem State.sfCommand_busy {s : State} {src : Nat} (h : s.SfReached src) (hg : s.granted src 0 = true)
    (hb : s.rb aSF_CMD_STAT 0 = true) (k : State → State) :
    s.sfCommand src k = (s.setRf aSF_CMD_STAT 15 8 6).setRf aSF_BSTAT 0 0 1 := by
  rw [State.sfCommand_reached h, if_neg (by simp [hg]), if_pos hb]

/-- An accepted unit command has its own outcome. -/
theorem State.sfCommand_accepted {s : State} {src : Nat} (h : s.SfAccepted src) (k : State → State) :
    s.sfCommand src k = (k s).setRf aSF_BSTAT 0 0 1 := by
  rw [State.sfCommand_reached h.toSfReached, if_neg (by simp [h.right]), if_neg (by simp [h.free])]

/-- The five unit commands pass the same checks. -/
theorem exec_sfUnitCommand {src : BitVec 10} {c : Instr}
    (hc : c ∈ [Instr.sfStart src, .sfStopCmd src, .sfApply src, .sfReset src, .sfOclr src]) :
    ∃ k : State → State, ∀ s, exec c s = .next (s.sfCommand src.toNat k) := by
  simp only [List.mem_cons, List.not_mem_nil, or_false] at hc
  rcases hc with rfl | rfl | rfl | rfl | rfl
  all_goals exact ⟨_, fun _ => rfl⟩

/-- An accepted unit command `c`, whose own outcome is `r`. -/
theorem exec_sfCommand_accepted {s r : State} {src : Nat} {c : Instr} {k : State → State} (h : s.SfAccepted src)
    (hc : exec c s = .next (s.sfCommand src k)) (hk : k s = r) : exec c s = .next (r.setRf aSF_BSTAT 0 0 1) := by
  rw [hc, State.sfCommand_accepted h, hk]

/-! ### Evaluation -/

theorem exec_safetyEvaluation {s : State} {dt : Nat} (hf : (s.elapse dt).fuse.field = true) (sa sb : List W) (pa pb : List SqPins)
    (pu : List Pulse) : exec (.safetyEvaluation sa sb pa pb pu dt) s = .next ((s.elapse dt).evaluate sa sb pa pb pu) :=
  congrArg _ (if_pos hf)

/-! ### The statement -/

/-- Settles O54: each event meets its guard, and each unit command the checks of `State.sfCommand_reached` before its own.
`witness_SafetyUnitResult` meets the premises. -/
theorem safetyUnitResult : Obligations.SafetyUnitResult := by
  unfold Obligations.SafetyUnitResult
  refine ⟨?agreeing, ?disagreeing, ?sampleInterval, ?channelALost, ?darkTest, ?darkTestEnd, ?overload, ?enableLost, ?denied, ?busy,
    ?start, ?startRefused, ?stop, ?stopRefused, ?apply, ?applyChecks, ?applyRefused, ?reset, ?resetRefused, ?oclr, ?oclrRefused,
    ?takesEffect⟩
  case agreeing =>
    intro s sa sb pa pb pu dt u v hf hd
    exact (exec_safetyEvaluation hf ..).trans (congrArg _ (if_neg (Nat.not_lt.mpr hd)))
  case disagreeing =>
    intro s sa sb pa pb pu dt u v hf hd
    exact (exec_safetyEvaluation hf ..).trans (congrArg _ (if_pos hd))
  case sampleInterval => exact fun s hf ha => congrArg _ (if_pos ⟨hf, ha⟩)
  case channelALost =>
    intro s hf v
    have hexec : exec .channelALost s = .next (if s.rb aSF_UNIT 4 then v else v.sfEvent 16 0) :=
      congrArg _ (if_pos hf)
    exact ⟨fun h => by simp [hexec, h], fun h => by simp [hexec, h]⟩
  case darkTest =>
    intro s n k hn ha
    exact ⟨congrArg _ (if_pos hn), congrArg _ (if_pos ⟨hn, ha⟩)⟩
  case darkTestEnd =>
    intro s n pa pb k hd
    exact ⟨fun hbad => congrArg _ ((if_neg hd).trans (if_pos hbad)),
      fun hgood => congrArg _ ((if_neg hd).trans (if_neg (ne_true_of_eq_false hgood)))⟩
  case overload => exact fun s n thermal hk => congrArg _ (if_pos hk)
  case enableLost => exact fun s n => rfl
  case denied =>
    intro s src hf hv hu hi hg c hc
    obtain ⟨k, hk⟩ := exec_sfUnitCommand hc
    rw [hk, State.sfCommand_denied ⟨hf, hv, hu, hi⟩ hg]
  case busy =>
    intro s src hf hv hu hi hg hb c hc
    obtain ⟨k, hk⟩ := exec_sfUnitCommand hc
    rw [hk, State.sfCommand_busy ⟨hf, hv, hu, hi⟩ hg hb]
  case start =>
    intro s src hf hv hu hi hg hb hs hl
    exact exec_sfCommand_accepted ⟨⟨hf, hv, hu, hi⟩, hg, hb⟩ rfl (if_neg (by simp [hs, hl]))
  case startRefused =>
    intro s src hf hv hu hi hg hb hs
    exact exec_sfCommand_accepted ⟨⟨hf, hv, hu, hi⟩, hg, hb⟩ rfl (if_pos hs)
  case stop =>
    intro s src hf hv hu hi hg hb hs s1
    exact exec_sfCommand_accepted ⟨⟨hf, hv, hu, hi⟩, hg, hb⟩ rfl (if_neg (Classical.not_not.mpr hs))
  case stopRefused =>
    intro s src hf hv hu hi hg hb hs
    exact exec_sfCommand_accepted ⟨⟨hf, hv, hu, hi⟩, hg, hb⟩ rfl (if_pos hs)
  case apply =>
    intro s src hf hv hu hi hg hb hs hcrc hbad hown
    exact exec_sfCommand_accepted ⟨⟨hf, hv, hu, hi⟩, hg, hb⟩ rfl (by simp [Nat.not_lt.mpr hs, hcrc, hbad, hown])
  case applyChecks =>
    intro s src hf hv hu hi hg hb hs
    have hact : ¬1 < s.ustate := Nat.not_lt.mpr hs
    exact ⟨fun hcrc => exec_sfCommand_accepted ⟨⟨hf, hv, hu, hi⟩, hg, hb⟩ rfl (by simp [hact, hcrc]),
      fun e hcrc hbad => exec_sfCommand_accepted ⟨⟨hf, hv, hu, hi⟩, hg, hb⟩ rfl (by simp [hact, hcrc, hbad]),
      fun hcrc hbad hown => exec_sfCommand_accepted ⟨⟨hf, hv, hu, hi⟩, hg, hb⟩ rfl (by simp [hact, hcrc, hbad, hown])⟩
  case applyRefused =>
    intro s src hf hv hu hi hg hb hs
    exact exec_sfCommand_accepted ⟨⟨hf, hv, hu, hi⟩, hg, hb⟩ rfl (if_pos hs)
  case reset =>
    intro s src f hf hv hu hi hg hb hs hr
    exact exec_sfCommand_accepted ⟨⟨hf, hv, hu, hi⟩, hg, hb⟩ rfl ((if_neg (Classical.not_not.mpr hs)).trans (if_neg (ne_false_of_eq_true hr)))
  case resetRefused =>
    intro s src f hf hv hu hi hg hb hs
    exact exec_sfCommand_accepted ⟨⟨hf, hv, hu, hi⟩, hg, hb⟩ rfl (if_pos hs)
  case oclr =>
    intro s src m hf hv hu hi hg hb hm hs
    have hfault : s.sqFaulty (m % 8) = true := (Nat.mod_eq_of_lt (by omega) : m % 8 = m).symm ▸ hs
    exact exec_sfCommand_accepted ⟨⟨hf, hv, hu, hi⟩, hg, hb⟩ rfl
      (if_neg (not_or.mpr ⟨Nat.not_lt.mpr hm, ne_false_of_eq_true hfault⟩))
  case oclrRefused =>
    intro s src m hf hv hu hi hg hb hm
    refine exec_sfCommand_accepted ⟨⟨hf, hv, hu, hi⟩, hg, hb⟩ rfl (if_pos ?_)
    rcases Nat.lt_or_ge 7 m with hlarge | hsmall
    · exact .inl hlarge
    · exact .inr ((Nat.mod_eq_of_lt (by omega) : m % 8 = m) ▸ hm.resolve_left (Nat.not_lt.mpr hsmall))
  case takesEffect =>
    intro s dt u hc bs
    have hbusy := ne_false_of_eq_true hc
    exact ⟨congrArg _ ((if_neg hbusy).trans (if_neg (ne_false_of_eq_true rfl))),
      congrArg _ ((if_neg hbusy).trans (if_pos rfl))⟩

end Sys2Proof.Machine
end

section
/-!
PROOFS. Fault lines, the fatal and alive lines, dumps and the engine self-test (spec/13), and the boot of both dies (spec/14).
-/
namespace Sys2Proof.Machine

/-! ### Fault lines and the fatal reset -/

/-- The line of source `k` rises to class `cls`: the source reports that class, its unit is present, the line stands lower, and a clock
runs where the event is seen (R19, R362, R365). -/
structure State.LineRises (s : State) (k cls : Nat) : Prop where
  raised : cls ≠ 0
  allowed : classAllowed k cls = true
  present : s.sourcePresent k = true
  lower : FMap.get (fun _ => 0) s.lines k < cls
  clocked : s.clkStop = false ∨ 25 ≤ k ∧ k ≤ 29

theorem exec_faultEvent_rises {s : State} {src : BitVec 6} {cls : BitVec 2} (h : s.LineRises src.toNat cls.toNat) (code : BitVec 8)
    (unit : BitVec 16) (item : BitVec 17) (nth : Nat) (same : Bool) : exec (.faultEvent src cls code unit item nth same) s =
      .next (s.assertLine same src.toNat cls.toNat code.toNat unit.toNat item.toNat nth) := by
  have hrun : (!s.clkStop || decide (25 ≤ src.toNat ∧ src.toNat ≤ 29)) = true := by simpa using h.clocked
  exact congrArg _ ((if_neg h.raised).trans (if_pos (by simp only [h.allowed, h.present, h.lower, hrun, decide_true, Bool.and_self])))

/-- A line that stands as high, or whose unit is absent, raises no event. -/
theorem exec_faultEvent_ignored {s : State} {src : BitVec 6} {cls : BitVec 2} (hr : cls.toNat ≠ 0)
    (h : cls.toNat ≤ FMap.get (fun _ => 0) s.lines src.toNat ∨ s.sourcePresent src.toNat = false) (code : BitVec 8)
    (unit : BitVec 16) (item : BitVec 17) (nth : Nat) (same : Bool) : exec (.faultEvent src cls code unit item nth same) s = .next s := by
  refine congrArg _ ((if_neg hr).trans (if_neg ?_))
  rcases h with hlow | habs
  · simp [Nat.not_lt.mpr hlow]
  · simp [habs]

/-- With FRST the fatal event is followed by a warm reset (R370). -/
theorem State.fatalReset_of_frst {s : State} (hf : s.fatal = true) (hr : s.frst = true) : s.fatalReset = s.warm 6 := if_pos ⟨hf, hr⟩

/-! ### The engine self-test -/

/-- What a GO of PF0 or the service port does at a present engine that runs no self-test and has not failed one (R378). -/
theorem exec_engineBist_go {s : State} {src : BitVec 10} {e : BitVec 7} (hv : isVf src.toNat = false) (he : e.toNat < s.fuse.engines)
    (hgo : s.rb (aENG_TEST e.toNat) 1 = false) (hres : s.rf (aENG_TEST e.toNat) 15 8 ≠ 2) : exec (.engineBist src e) s =
      .next (s.setReg (aENG_TEST e.toNat) (if s.engBound e.toNat then 0x300 else 2)) := by
  have hopen : ¬(isVf src.toNat = true ∨ s.fuse.engines ≤ e.toNat ∨ s.rb (aENG_TEST e.toNat) 1 = true) := by simp [hv, he, hgo]
  rw [apply_ite (s.setReg _)]
  exact congrArg _ ((if_neg hopen).trans (if_neg hres))

/-! ### The statement -/

/-- Settles O56: each event and each boot phase meets its guard.
`witness_FaultsAndBootResult` meets the premises. -/
theorem faultsAndBootResult : Obligations.FaultsAndBootResult := by
  unfold Obligations.FaultsAndBootResult
  refine ⟨?lineRises, ?lineStands, ?unguarded, ?fatalLine, ?aliveLine, ?collectorMessage, ?sequencerDone, ?pageWritten, ?dumpComplete,
    ?resetTimeout, ?rcOscillator, ?engineBist, ?bistDone, ?nvPhases, ?optionBytes, ?fdieBoot, ?rootPll, ?resetTimeTests, ?firmware,
    ?coreRestart⟩
  case lineRises =>
    intro s src cls code unit item nth same k hr ha hp hl hc v
    have h : s.LineRises k cls.toNat := ⟨hr, ha, hp, hl, hc⟩
    exact ⟨fun hcls => (exec_faultEvent_rises h ..).trans (congrArg _ (if_pos hcls)),
      fun hcls => (exec_faultEvent_rises h ..).trans (congrArg _ (if_neg hcls))⟩
  case lineStands =>
    intro s src cls code unit item nth same k
    exact ⟨fun h0 => congrArg _ (if_pos h0), fun hr h => exec_faultEvent_ignored hr h ..⟩
  case unguarded => exact fun s => ⟨rfl, rfl, rfl, rfl⟩
  case fatalLine => exact fun s h => congrArg _ (if_pos h)
  case aliveLine => exact fun s => rfl
  case collectorMessage =>
    intro s hb hc hp
    exact congrArg _ (if_neg (by simp [hb, hc, Nat.not_lt.mpr hp]))
  case sequencerDone => exact fun s h => congrArg _ (if_pos h)
  case pageWritten =>
    intro s a page h
    have hexec : exec .dumpPageWritten s = execDumpPageWritten s := rfl
    simp only [hexec, execDumpPageWritten, h]
  case dumpComplete =>
    intro s x hs hd v
    have hexec (last : Bool) : exec (.dumpComplete x last) s = .next (if last then (v.finishDump x).fatalReset else v) :=
      congrArg _ (if_pos ⟨hs, hd⟩)
    exact ⟨(hexec true).trans (congrArg _ (if_pos rfl)), (hexec false).trans (congrArg _ (if_neg Bool.false_ne_true))⟩
  case resetTimeout => exact fun s hf hr => congrArg _ (State.fatalReset_of_frst hf hr)
  case rcOscillator =>
    intro s hf
    have hexec : exec .rcOscillatorFail s = execRcOscillatorFail s := rfl
    simp only [hexec, execRcOscillatorFail, hf, if_true]
  case engineBist =>
    intro s src e hv he hgo hres
    exact ⟨fun hb => by rw [exec_engineBist_go hv he hgo hres, if_pos hb],
      fun hb => by rw [exec_engineBist_go hv he hgo hres, if_neg (ne_true_of_eq_false hb)]⟩
  case bistDone =>
    intro s e k h
    have hruns := ne_false_of_eq_true h
    exact ⟨congrArg _ ((if_neg hruns).trans (if_pos rfl)),
      congrArg _ ((if_neg hruns).trans (if_neg Bool.false_ne_true))⟩
  case nvPhases => exact fun s => ⟨fun h => congrArg _ (if_pos h), fun h => congrArg _ (if_pos h)⟩
  case optionBytes => exact fun s h => congrArg _ (if_pos h)
  case fdieBoot => exact fun s h => congrArg _ (if_pos h)
  case rootPll => exact fun s us hl hf hb hp => congrArg _ (if_pos ⟨hl, hf, hb, hp⟩)
  case resetTimeTests =>
    intro s us h v
    have hphase := Classical.not_not.mpr h
    exact ⟨congrArg _ ((if_neg hphase).trans (if_pos rfl)),
      congrArg _ ((if_neg hphase).trans (if_neg Bool.false_ne_true))⟩
  case firmware =>
    intro s dt a b u hp hf
    exact congrArg _ (if_neg (not_or.mpr ⟨Classical.not_not.mpr hp, ne_true_of_eq_false hf⟩))
  case coreRestart => exact fun s hf hp => congrArg _ (if_pos ⟨hf, hp⟩)

end Sys2Proof.Machine
end

section
/-!
PROOFS. Partition commands: a Stop that meets a failing context save (spec/05 R144, R147; spec/06, table "Faults at each point").
-/
namespace Sys2Proof.Machine

/-- Partition 0 in Run with one program page mapped and no data page, its task 0 Running on engine 0: nothing maps the context area
to which a stop saves the task's registers. -/
def runsUnsavable : State :=
  { (State.reset.setReg (aPD_MODE 0) 2).setReg (aPD_TSTAT 0 0) (BitVec.ofNat 32 tRunning) with
    trA := [(entryKey 0 0 0, 0x80000000)]
    engs := [(0, { Eng.zero with run := some 0 })] }

/-- It meets the premises under which a stop is claimed to leave its STOPCAUSE. -/
theorem runsUnsavable_stoppable :
    Canonical runsUnsavable ∧ runsUnsavable.mode 0 = 2 ∧ runsUnsavable.pairPart 0 = false := by decide +kernel

/-- The save of task 0 fails, and this fault finds the Stop still taking effect: it decides STOPCAUSE, which reads 0x04
(`State.saveOff`, `State.lateFault`). -/
theorem runsUnsavable_stop_cause :
    (runsUnsavable.saveCtx 0 0).2 = false ∧ (runsUnsavable.stopPart 0 1 0).rf (aPD_MODE 0) 15 8 = 4 := by decide +kernel

/-- Refutes O33: its last clause says that a stop leaves the STOPCAUSE it was given. A Stop (cause 0x01) of a partition whose
running task cannot save its context ends with STOPCAUSE 0x04, that of the failed save. -/
theorem not_partitionCommandResult : ¬ Obligations.PartitionCommandResult := by
  unfold Obligations.PartitionCommandResult
  rintro ⟨-, -, -, -, -, -, -, -, -, -, -, -, -, -, -, -, stopLeavesCause⟩
  obtain ⟨hcanonical, hrun, hnoPair⟩ := runsUnsavable_stoppable
  obtain ⟨-, hcause4⟩ := runsUnsavable_stop_cause
  obtain ⟨-, hcause1, -⟩ := stopLeavesCause runsUnsavable 0 1 0 hcanonical (by decide) (by decide) hrun hnoPair
  exact absurd (hcause1.symm.trans hcause4) (by decide)

end Sys2Proof.Machine
end

section
/-!
PROOFS. Cyclic execution (spec/05): switches, releases, the copies of the cycle unit, overruns, and what waits for a tick or for a stop
to complete.
-/
namespace Sys2Proof.Machine

/-! ### The engine: pre-emption, switches and breakpoints (R132, R133, R149) -/

theorem exec_preemption {s : State} {e : BitVec 7} {k : Nat} (hrun : (s.eng e.toNat).run = some k) : exec (.preemption e) s =
    .next (if s.outranked e.toNat k then s.preempt e.toNat k else s) := by
  have hexec : exec (.preemption e) s = execPreemption e s := rfl
  simp only [hexec, execPreemption, hrun]

theorem exec_taskSwitchDone {s : State} {e : BitVec 7} {k : Nat} (hsw : (s.eng e.toNat).sw = some k) :
    exec (.taskSwitchDone e) s = .next (s.switchIn e.toNat k) := by
  have hexec : exec (.taskSwitchDone e) s = execTaskSwitchDone e s := rfl
  simp only [hexec, execTaskSwitchDone, hsw]

section
variable {s : State} {e k : Nat}

theorem State.switchIn_of_ready (h : s.tstate (k / 16) (k % 16) = tReady) : s.switchIn e k = s.takeEngine e k := if_pos h

/-- A pre-empted task restores its context before it goes on; one that cannot stops its partition with STOPCAUSE 0x04 (R190). -/
theorem State.switchIn_of_preempted (h : s.tstate (k / 16) (k % 16) = tPreempted) : s.switchIn e k =
    ((s.restoreCtx (k / 16) (k % 16)).map (State.takeEngine · e k)).getD
      (((((s.setTState (k / 16) (k % 16) tOff).ctxFault (k / 16) (k % 16)).partFault (k / 16) 4 evFault).passFault
        (k / 16) (k % 16) 3 0).freeEngine e) := by
  have hready : s.tstate (k / 16) (k % 16) ≠ tReady := by rw [h]; decide
  rw [State.switchIn, if_neg hready, if_pos h]
  cases s.restoreCtx (k / 16) (k % 16) with
  | none => rfl
  | some r => rfl

/-- A Held task takes the engine for its step (R150). -/
theorem State.switchIn_of_step (h : s.tstate (k / 16) (k % 16) = tHeld) (hstep : (s.task (k / 16) (k % 16)).stepping = true) :
    s.switchIn e k = s.beginStep e k := by
  have hready : s.tstate (k / 16) (k % 16) ≠ tReady := by rw [h]; decide
  have hpre : s.tstate (k / 16) (k % 16) ≠ tPreempted := by rw [h]; decide
  exact (if_neg hready).trans ((if_neg hpre).trans (if_pos ⟨h, hstep⟩))

end

/-- A breakpoint at the next instruction of a task in Run, outside a delay slot and not just passed, holds the partition (R149). -/
theorem exec_breakpointHit_holds {s : State} {e : BitVec 7} {k : Nat} (hrun : (s.eng e.toNat).run = some k) (hmode : s.mode (k / 16) = 2)
    (harmed : (s.part (k / 16)).brk.any (fun b => b.2 == (s.task (k / 16) (k % 16)).ctx.p) = true)
    (hslot : (s.task (k / 16) (k % 16)).ctx.slot = none) (hpassed : (s.task (k / 16) (k % 16)).passBrk = false)
    (hhold : s.holdRefusal (k / 16) = none) : exec (.breakpointHit e) s = .next (s.enterHold (k / 16) 2) := by
  have hexec : exec (.breakpointHit e) s = execBreakpointHit e s := rfl
  simp only [hexec, execBreakpointHit, hrun]
  exact congrArg _ (if_pos ⟨hmode, harmed, Option.isNone_iff_eq_none.mpr hslot, hpassed, hhold⟩)

/-! ### Releases at a grid instant (R124, R127, R152, R160) -/

theorem exec_taskRelease {s : State} {p : BitVec 9} {t : BitVec 3} {dt : Nat} (htick : (s.elapse dt).onTick = true)
    (hgrid : (s.elapse dt).onGrid p.toNat t.toNat (s.elapse dt).grid = true) :
    exec (.taskRelease p t dt) s = .next ((s.elapse dt).gridInstant p.toNat t.toNat (s.elapse dt).grid) :=
  congrArg _ (if_pos ⟨htick, hgrid⟩)

section
variable {s : State} {p t : Nat} {g : W64} (hmode : s.mode p = 2) (hfatal : s.fatal = false)
  (hlater : (s.task p t).notBefore.toNat < g.toNat) (hown : s.standbyCopy p = false)
include hmode hfatal hlater hown

/-- What a later grid instant brings a task of a partition in Run that is no standby copy: by the task's state. -/
theorem State.gridInstant_of_run : s.gridInstant p t g =
    if s.tstate p t = tIdle then
      (if s.inPause p = true ∨ s.ruCap.contains (p * 16 + t) = true then s.setTask p t { s.task p t with deferred := some g }
       else s.releaseAt p t g)
    else if tInput ≤ s.tstate p t ∧ s.tstate p t ≤ tOutput then
      s.setRf (aPD_TSTAT p t) 7 4 (min 15 (s.rf (aPD_TSTAT p t) 7 4 + 1))
    else s := by
  simp only [State.gridInstant, hown, Bool.false_eq_true, if_false, hmode, hfatal, hlater, ne_eq, not_true_eq_false, or_self, false_and]

theorem State.gridInstant_releases (hidle : s.tstate p t = tIdle) (hpause : s.inPause p = false)
    (hcap : s.ruCap.contains (p * 16 + t) = false) : s.gridInstant p t g = s.releaseAt p t g := by
  have hfree : ¬(s.inPause p = true ∨ s.ruCap.contains (p * 16 + t) = true) :=
    not_or.mpr ⟨ne_true_of_eq_false hpause, ne_true_of_eq_false hcap⟩
  rw [State.gridInstant_of_run hmode hfatal hlater hown, if_pos hidle, if_neg hfree]

theorem State.gridInstant_defers (hidle : s.tstate p t = tIdle) (hpause : s.inPause p = true) :
    s.gridInstant p t g = s.setTask p t { s.task p t with deferred := some g } := by
  rw [State.gridInstant_of_run hmode hfatal hlater hown, if_pos hidle, if_pos (.inl hpause)]

theorem State.gridInstant_skips (hfrom : tInput ≤ s.tstate p t) (hto : s.tstate p t ≤ tOutput) :
    s.gridInstant p t g = s.setRf (aPD_TSTAT p t) 7 4 (min 15 (s.rf (aPD_TSTAT p t) 7 4 + 1)) := by
  have hbusy : s.tstate p t ≠ tIdle := fun h => absurd (h ▸ hfrom) (by decide)
  rw [State.gridInstant_of_run hmode hfatal hlater hown, if_neg hbusy, if_pos ⟨hfrom, hto⟩]

end

/-! ### The copies of the cycle unit (R136 to R138; log 21) -/

section
variable {s : State} {j : CuJob} {n : Nat}

/-- The cycle unit takes steps on the copy whose turn has come, in the state that its task waits in. -/
theorem State.cuTake_of_turn {out : Bool} {p t : Nat} (hfirst : s.cuFirst = some j) (hup : s.moverUp = true) (hout : j.out = out)
    (hp : j.p = p) (ht : j.t = t) (hst : s.tstate p t = if out then tOutput else tInput) : s.cuTake out p t n = s.cuCopy j n := by
  simp only [State.cuTake, hfirst]
  exact if_pos ⟨hout, hp, ht, hst, hup⟩

/-- A copy of another task waits for its turn. -/
theorem State.cuTake_of_other {p t : Nat} (out : Bool) (hfirst : s.cuFirst = some j) (hother : j.p ≠ p ∨ j.t ≠ t) :
    s.cuTake out p t n = s := by
  simp only [State.cuTake, hfirst]
  exact if_neg fun ⟨_, hp, ht, _⟩ => hother.elim (· hp) (· ht)

/-- Where nothing of a copy is left, it leaves the queue and ends as its direction says. -/
theorem State.cuCopy_completes {r : State × CuJob} (hr : (s.finishOthers j).cuRun ((s.finishOthers j).cuBegin j) n = r)
    (hcur : r.2.cur = []) (htodo : r.2.todo = []) : s.cuCopy j n =
      if j.out then { r.1 with cu := r.1.cu.filter (fun x => !j.same x) }.outputEnd r.2
      else { r.1 with cu := r.1.cu.filter (fun x => !j.same x) }.inputEnd r.2 := by
  subst hr
  exact if_pos ⟨hcur, htodo⟩

/-- A copy with something left stays in the queue, as far as it has come. -/
theorem State.cuCopy_goes_on {r : State × CuJob} (hr : (s.finishOthers j).cuRun ((s.finishOthers j).cuBegin j) n = r)
    (hleft : r.2.cur ≠ [] ∨ r.2.todo ≠ []) : s.cuCopy j n = { r.1 with cu := r.1.cu.map (fun x => if j.same x then r.2 else x) } := by
  subst hr
  exact if_neg fun ⟨hcur, htodo⟩ => hleft.elim (· hcur) (· htodo)

end

/-! ### The end of a copy (R137, R138, R254) -/

theorem State.standbyCopy_of_not_pairPart {s : State} {p : Nat} (h : s.pairPart p = false) : s.standbyCopy p = false := by
  rw [State.standbyCopy, h, Bool.false_and]
theorem State.shadowPass_of_not_pairPart {s : State} {p : Nat} (t : Nat) (h : s.pairPart p = false) : s.shadowPass p t = false := by
  rw [State.shadowPass, State.standbyCopy_of_not_pairPart h, Bool.false_and, Bool.false_and]

/-- Outside a pair an input copy only gives the task its inputs. -/
theorem State.inputEnd_of_not_pairPart {s : State} {j : CuJob} (h : s.pairPart j.p = false) : s.inputEnd j = s.inputsDone j.p j.t := by
  simp only [State.inputEnd, State.shadowPass_of_not_pairPart j.t h, h, Bool.false_and, Bool.false_eq_true, if_false]

/-- An output copy that no shadow pass made sends its blocks, counts the pass and ends it, on an ACTIVE member with the capture. -/
theorem State.outputEnd_of_not_shadowPass {s s1 : State} {j : CuJob} (hs1 : (s.sendOut j.p j.t j.built).passDone j.p j.t = s1)
    (h : s.shadowPass j.p j.t = false) : s.outputEnd j =
      (if s1.pairPart j.p && s1.ruRole == 3 && j.t != 8 then s1.capture j.p j.t (crc64 (j.built.flatMap (fun b => b.2.data)))
       else s1).finishPass j.p j.t := by
  subst hs1
  exact if_neg (ne_true_of_eq_false h)

/-! ### Overruns (R152) -/

theorem exec_deadlineOverrun (p : BitVec 9) (t : BitVec 4) (dt : Nat) (s : State) :
    exec (.deadlineOverrun p t dt) s = .next ((s.elapse dt).overrun p.toNat t.toNat) := rfl

theorem State.overrun_of_no_limit {s : State} {p t : Nat} (h : (s.task p t).limit = none) : s.overrun p t = s := by
  simp only [State.overrun, h]

/-- The first overrun since the event was cleared names its task and stops the partition with STOPCAUSE 0x03. -/
theorem State.overrun_of_late {s : State} {p t : Nat} {d : W64} (hlimit : (s.task p t).limit = some d) (hmode : s.mode p = 2)
    (hfrom : tInput ≤ s.tstate p t) (hto : s.tstate p t ≤ tOutput) (hlate : d.toNat ≤ (s.ptime p).toNat)
    (hfirst : s.rb (aPD_EVT p) 2 = false) : s.overrun p t =
      ((s.setRf (aPD_EVT p) 15 12 (taskCode t)).partFault p 3 evOverrun).passFault p t 2 0 := by
  simp only [State.overrun, hlimit, hfirst, Bool.false_eq_true, if_false]
  exact if_pos ⟨hmode, hfrom, hto, hlate⟩

/-! ### A Run that applies, and the end of a stop (R145, R147) -/

/-- A waiting Run that nothing delays applies, or meets a header mismatch. -/
theorem State.runApply_of_due {s : State} {p : Nat} (htick : s.onTick = true) (hcmd : (s.part p).cmd = some .run) (hmode : s.mode p = 1)
    (hwaits : s.runWaits p = false) (hfatal : s.fatal = false) :
    s.runApply p = if s.startMismatch p then s.endCmd p 2 else (s.enterRun p).endCmd p 0 :=
  if_pos ⟨htick, hcmd, hmode, hwaits, hfatal⟩

theorem exec_runApply (p : BitVec 9) (dt : Nat) (s : State) : exec (.runApply p dt) s = .next ((s.elapse dt).runApply p.toNat) := rfl

/-- Once every task is Off the channels take their values, the stop is over, and a Stop command that waits for it ends. -/
theorem exec_stopComplete {s u s1 : State} {p : BitVec 9} {dt : Nat} (hu : s.elapse dt = u) (hmode : u.mode p.toNat = 1)
    (hstopping : (u.part p.toNat).stopping = true) (hoff : u.allOff p.toNat = true) (hup : u.moverUp = true)
    (hs1 : (if (u.part p.toNat).sending = .stop then u.stopChannels p.toNat 27 26 else u.stopChannels p.toNat 29 28) = s1) :
    exec (.stopComplete p dt) s = .next
      (if ((s1.setPart p.toNat { s1.part p.toNat with stopping := false }).part p.toNat).cmd = some .stop then
        (s1.setPart p.toNat { s1.part p.toNat with stopping := false }).endCmd p.toNat 0
       else s1.setPart p.toNat { s1.part p.toNat with stopping := false }) := by
  subst hu hs1
  exact congrArg _ (if_pos ⟨hmode, hstopping, hoff, hup⟩)

/-! ### The statement -/

/-- Settles O35: each event meets its guard, and the shared operations give what follows. `witness_PassesAndReleasesResult` meets the
premises. The queue of copies rests on log 21 of NOTES.md, what a never stopped or newly held partition sends on log 198. -/
theorem passesAndReleasesResult : Obligations.PassesAndReleasesResult := by
  unfold Obligations.PassesAndReleasesResult
  refine ⟨?preempted, ?notOutranked, ?switchReady, ?switchRestored, ?switchFailed, ?switchStep, ?breakpoint, ?runApplies, ?runMismatch,
    ?resumeApplies, ?released, ?deferred, ?skipped, ?inputDone, ?inputGoesOn, ?outputDone, ?otherCopy, ?endOutsidePair, ?endCaptured,
    ?overruns, ?noLimit, ?stopCommand, ?faultStop, ?stopSends, ?heldSends⟩
  case preempted =>
    intro s e k hrun hrank
    rw [exec_preemption hrun, if_pos hrank]
  case notOutranked =>
    intro s e k hrun hrank
    rw [exec_preemption hrun, if_neg (ne_true_of_eq_false hrank)]
  case switchReady =>
    intro s e k hsw hst
    rw [exec_taskSwitchDone hsw, State.switchIn_of_ready hst]
  case switchRestored =>
    intro s e k r hsw hst hctx
    rw [exec_taskSwitchDone hsw, State.switchIn_of_preempted hst, hctx, Option.map_some, Option.getD_some]
  case switchFailed =>
    intro s e k hsw hst hctx
    rw [exec_taskSwitchDone hsw, State.switchIn_of_preempted hst, hctx, Option.map_none, Option.getD_none]
  case switchStep =>
    intro s e k hsw hst hstep
    rw [exec_taskSwitchDone hsw, State.switchIn_of_step hst hstep]
  case breakpoint => exact fun s e k => exec_breakpointHit_holds
  case runApplies =>
    intro s p dt u q htick hcmd hmode hwaits hfatal hmatch
    rw [exec_runApply, State.runApply_of_due htick hcmd hmode hwaits hfatal, if_neg (ne_true_of_eq_false hmatch)]
  case runMismatch =>
    intro s p dt u q htick hcmd hmode hwaits hfatal hmis
    rw [exec_runApply, State.runApply_of_due htick hcmd hmode hwaits hfatal, if_pos hmis]
  case resumeApplies =>
    intro s p dt u q htick hcmd hmode hpause hfatal
    exact congrArg _ (if_pos ⟨htick, hcmd, hmode, hpause, hfatal⟩)
  case released =>
    intro s p t dt u q k htick hgrid hmode hfatal hlater hown hidle hpause hcap stamp
    rw [exec_taskRelease htick hgrid, State.gridInstant_releases hmode hfatal hlater hown hidle hpause hcap, State.releaseAt]
  case deferred =>
    intro s p t dt u q k htick hgrid hmode hfatal hlater hown hidle hpause
    rw [exec_taskRelease htick hgrid, State.gridInstant_defers hmode hfatal hlater hown hidle hpause]
  case skipped =>
    intro s p t dt u q k htick hgrid hmode hfatal hlater hown hfrom hto
    rw [exec_taskRelease htick hgrid, State.gridInstant_skips hmode hfatal hlater hown hfrom hto]
  case inputDone =>
    intro s p t steps dt j u q k s0 r hfirst hup hout hp ht hst hcur htodo
    exact congrArg _ ((State.cuTake_of_turn hfirst hup hout hp ht hst).trans
      ((State.cuCopy_completes rfl hcur htodo).trans (if_neg (ne_true_of_eq_false hout))))
  case inputGoesOn =>
    intro s p t steps dt j u q k s0 r hfirst hup hout hp ht hst hleft
    exact congrArg _ ((State.cuTake_of_turn hfirst hup hout hp ht hst).trans (State.cuCopy_goes_on rfl hleft))
  case outputDone =>
    intro s p t steps dt j u q k s0 r hfirst hup hout hp ht hst hcur htodo
    exact congrArg _ ((State.cuTake_of_turn hfirst hup hout hp ht hst).trans
      ((State.cuCopy_completes rfl hcur htodo).trans (if_pos hout)))
  case otherCopy =>
    intro s p t steps dt j u q k hfirst hup hother
    exact ⟨congrArg _ (State.cuTake_of_other false hfirst hother), congrArg _ (State.cuTake_of_other true hfirst hother)⟩
  case endOutsidePair =>
    intro s j hpair
    refine ⟨State.inputEnd_of_not_pairPart hpair, fun hpair1 => ?_⟩
    rw [State.outputEnd_of_not_shadowPass rfl (State.shadowPass_of_not_pairPart j.t hpair), hpair1, Bool.false_and, Bool.false_and,
      if_neg Bool.false_ne_true]
  case endCaptured =>
    intro s j s1 hshadow hpair hrole ht
    have hactive : (s1.pairPart j.p && s1.ruRole == 3 && j.t != 8) = true := by simp [hpair, hrole, ht]
    exact (State.outputEnd_of_not_shadowPass rfl hshadow).trans (congrArg (State.finishPass · j.p j.t) (if_pos hactive))
  case overruns =>
    intro s p t dt d u q k hlimit hmode hfrom hto hlate hfirst
    rw [exec_deadlineOverrun, State.overrun_of_late hlimit hmode hfrom hto hlate hfirst]
  case noLimit =>
    intro s p t dt u q k hlimit
    rw [exec_deadlineOverrun, State.overrun_of_no_limit hlimit]
  case stopCommand =>
    intro s p dt u q s1 s2 hmode hstopping hoff hup hsending hcmd
    exact (exec_stopComplete rfl hmode hstopping hoff hup (if_pos hsending)).trans (congrArg _ (if_pos hcmd))
  case faultStop =>
    intro s p dt u q s1 s2 hmode hstopping hoff hup hsending hcmd
    exact (exec_stopComplete rfl hmode hstopping hoff hup (if_neg hsending)).trans
      (congrArg _ (if_neg fun h => Option.some_ne_none _ (h.symm.trans hcmd)))
  case stopSends =>
    intro s p t dt u q k safe hmode hstopping hsending htick hgrid hup
    exact congrArg _ (if_pos ⟨hmode, hstopping, hsending, htick, hgrid, hup⟩)
  case heldSends =>
    intro s p t dt u q k hmode hsending htick hgrid hup
    exact congrArg _ (if_pos ⟨hmode, hsending, htick, hgrid, hup⟩)

end Sys2Proof.Machine
end

section
/-!
PROOFS. Online edits (spec/05): `PD_COMMIT.GO`, the edit boundary, the end of the boundary pause and the edit timeout.
-/
namespace Sys2Proof.Machine

/-! ### The commit (R55, R56, R156, R472) -/

theorem exec_editCommitGo (src : BitVec 10) (p : BitVec 9) (s : State) :
    exec (.editCommitGo src p) s = .next (s.commitGo src.toNat p.toNat) := rfl

section
variable {s : State} {src p : Nat} (hhost : isVf src = false) (hpart : p < s.fuse.partitions)
include hhost hpart

/-- A write of PF0 or the service port reaches the commit register of every partition of the Legend. -/
theorem State.not_commitIgnored : ¬(isVf src = true ∨ s.fuse.partitions ≤ p) :=
  not_or.mpr ⟨ne_true_of_eq_false hhost, Nat.not_le.mpr hpart⟩

/-- A partition that has not been created refuses the write (R472). -/
theorem State.commitGo_of_absent (hmode : s.mode p = 0) :
    s.commitGo src p = s.refuse src (accSpace src) (accOff src p 0x60) 0x0A := by
  rw [State.commitGo, if_neg (State.not_commitIgnored hhost hpart), if_pos hmode]

variable (hmode : s.mode p ≠ 0)
include hmode

/-- A second GO is ignored (R56). -/
theorem State.commitGo_of_pending (hpending : s.editPending p = true) : s.commitGo src p = s := by
  rw [State.commitGo, if_neg (State.not_commitIgnored hhost hpart), if_neg hmode, if_pos hpending]

section
variable {s1 : State} (hpending : s.editPending p = false) (hs1 : s.setReg (aPD_COMMIT p) 2 = s1)
include hpending hs1

/-- With PENDING set, an edit that passes the checks of R156 waits for its boundary, from the partition time at which it was accepted. -/
theorem State.commitGo_accepted (hpass : s1.editReason p = 0) :
    s.commitGo src p = s1.setPart p { s1.part p with edit := some (s1.ptime p) } := by
  subst hs1
  rw [State.commitGo, if_neg (State.not_commitIgnored hhost hpart), if_neg hmode, if_neg (ne_true_of_eq_false hpending)]
  exact if_pos hpass

/-- A failing check other than 0x03, which also reports what it read, only ends the edit. -/
theorem State.commitGo_refused {r : Nat} (hr : s1.editReason p = r) (hfail : r ≠ 0) (hplain : r ≠ 3) :
    s.commitGo src p = s1.editRefuse p r := by
  subst hs1 hr
  rw [State.commitGo, if_neg (State.not_commitIgnored hhost hpart), if_neg hmode, if_neg (ne_true_of_eq_false hpending)]
  exact (if_neg hfail).trans (congrArg (State.editRefuse · p _) (if_neg hplain))

end
end

/-! ### The boundary (R157, R159, R161; log 85) -/

theorem exec_editBoundary (p : BitVec 9) (dt : Nat) (s : State) : exec (.editBoundary p dt) s =
    .next (if (s.elapse dt).editReady p.toNat then (s.elapse dt).boundary p.toNat else s.elapse dt) := rfl

/-- Once every entry has been moved, the pause lasts the clocks of R159. -/
theorem State.boundary_of_moved {s : State} {p : Nat} {ms : List Move} (h : (s.migrateAll p (s.migCount p) 0).2 = some ms) :
    s.boundary p = (s.migrateAll p (s.migCount p) 0).1.beginPause p (s.pauseLen p ms) false := by
  rw [State.boundary]
  split
  next s1 hmig => simp [hmig] at h
  next s1 ms' hmig =>
    obtain rfl : ms' = ms := by simpa [hmig] using h
    rw [hmig]

/-- After a fault the pause ends early (log 88). -/
theorem State.boundary_of_faulted {s : State} {p : Nat} (h : (s.migrateAll p (s.migCount p) 0).2 = none) :
    s.boundary p = (s.migrateAll p (s.migCount p) 0).1.useFresh.beginPause p
      (Config.earlyPause (s.migrateAll p (s.migCount p) 0).1.fresh).toNat true := by
  rw [State.boundary]
  split
  next s1 hmig => rw [hmig]
  next s1 ms hmig => simp [hmig] at h

/-! ### The end of the pause and the timeout (R119, R156, R159) -/

/-- The pause is over when its clocks have passed, unless the edit waits for a switch of the decode table that is pending. -/
theorem exec_boundaryPauseEnd_over {s u : State} {p : BitVec 9} {dt : Nat} {z : Pause} (hu : s.elapse dt = u)
    (hpause : (u.part p.toNat).pause = some z) (hlen : z.start + z.len ≤ u.fab)
    (hswitch : ¬(u.dtPending = true ∧ u.headerChanges p.toNat = true ∧ z.fault = false)) :
    exec (.boundaryPauseEnd p dt) s = .next (u.endPause p.toNat z.len z.fault) := by
  subst hu
  have hexec : exec (.boundaryPauseEnd p dt) s = execBoundaryPauseEnd p dt s := rfl
  simp only [hexec, execBoundaryPauseEnd, hpause]
  exact congrArg _ (if_pos ⟨hlen, hswitch⟩)

theorem exec_editTimeout_expires {s u : State} {p : BitVec 9} {dt : Nat} {t : W64} (hu : s.elapse dt = u)
    (hedit : (u.part p.toNat).edit = some t) (hmode : u.mode p.toNat = 2) (hpause : u.inPause p.toNat = false)
    (hlate : t.toNat + 1000000000 ≤ (u.ptime p.toNat).toNat) :
    exec (.editTimeout p dt) s = .next (u.editRefuse p.toNat 1) := by
  subst hu
  have hexec : exec (.editTimeout p dt) s = execEditTimeout p dt s := rfl
  simp only [hexec, execEditTimeout, hedit]
  exact congrArg _ (if_pos ⟨hmode, hpause, hlate⟩)

/-! ### The statement -/

/-- Settles O36: a GO meets the checks of `State.commitGo`, and the boundary, the end of the pause and the timeout meet their guards.
`witness_OnlineEditResult` meets the premises. When the edit moves, waits and applies rests on log 85 of NOTES.md, the length of a pause
whose migration faulted on log 88. -/
theorem onlineEditResult : Obligations.OnlineEditResult := by
  unfold Obligations.OnlineEditResult
  refine ⟨?accepted, ?refused, ?again, ?absent, ?moved, ?faulted, ?noBoundary, ?applies, ?givenUp, ?timeout⟩
  case accepted =>
    intro s src p s1 hhost hpart hmode hpending hpass
    rw [exec_editCommitGo, State.commitGo_accepted hhost hpart hmode hpending rfl hpass]
  case refused =>
    intro s src p r s1 hhost hpart hmode hpending hr hfail hplain
    rw [exec_editCommitGo, State.commitGo_refused hhost hpart hmode hpending rfl hr hfail hplain]
  case again =>
    intro s src p hhost hpart hmode hpending
    rw [exec_editCommitGo, State.commitGo_of_pending hhost hpart hmode hpending]
  case absent =>
    intro s src p hhost hpart hmode
    rw [exec_editCommitGo, State.commitGo_of_absent hhost hpart hmode]
  case moved =>
    intro s p dt ms u q r hready hr
    rw [exec_editBoundary, if_pos hready, State.boundary_of_moved hr]
  case faulted =>
    intro s p dt u q r hready hr
    rw [exec_editBoundary, if_pos hready, State.boundary_of_faulted hr]
  case noBoundary =>
    intro s p dt u q hready
    rw [exec_editBoundary, if_neg (ne_true_of_eq_false hready)]
  case applies =>
    intro s p dt z u q hpause hlen hfault hswitch
    have hgo : ¬(u.dtPending = true ∧ u.headerChanges q = true ∧ z.fault = false) := fun ⟨hdt, hhdr, _⟩ =>
      hswitch.elim (ne_false_of_eq_true hdt) (ne_false_of_eq_true hhdr)
    rw [exec_boundaryPauseEnd_over rfl hpause hlen hgo, State.endPause, if_neg (ne_true_of_eq_false hfault)]
  case givenUp =>
    intro s p dt z u q hpause hlen hfault
    have hgo : ¬(u.dtPending = true ∧ u.headerChanges q = true ∧ z.fault = false) := fun ⟨_, _, hno⟩ =>
      Bool.false_ne_true (hno.symm.trans hfault)
    rw [exec_boundaryPauseEnd_over rfl hpause hlen hgo, State.endPause, if_pos hfault]
  case timeout =>
    intro s p dt t u q
    exact exec_editTimeout_expires rfl

end Sys2Proof.Machine
end

section
/-!
PROOFS. Meridian time (spec/09, spec/05 R126): steps, seeds and rate, MERIDIAN frames and roles, link delay, the pulse per second.
-/
namespace Sys2Proof.Machine

/-! ### Commands of `MER_CMD` and the rate (R275 to R277, R469) -/

theorem exec_merStep (src : BitVec 10) (s : State) : exec (.merStep src) s = .next (s.merCmd src.toNat State.hostStep) := rfl
theorem exec_merSeed (src : BitVec 10) (s : State) : exec (.merSeed src) s = .next (s.merCmd src.toNat State.seedWait) := rfl

section
variable {s : State} {src : Nat} (hhost : isVf src = false)
include hhost

/-- A command written while another runs ends with REASON 3. -/
theorem State.merCmd_of_busy (k : State → State) (hbusy : s.rb aMER_STAT 2 = true) : s.merCmd src k = s.setRf aMER_STAT 15 8 3 :=
  (if_neg (ne_true_of_eq_false hhost)).trans (if_pos hbusy)

/-- A command that finds none running has its own outcome. -/
theorem State.merCmd_of_free (k : State → State) (hfree : s.rb aMER_STAT 2 = false) : s.merCmd src k = k s :=
  (if_neg (ne_true_of_eq_false hhost)).trans (if_neg (ne_true_of_eq_false hfree))

end

theorem exec_merFracWrite {s : State} {src : BitVec 10} (d : W) (hhost : isVf src.toNat = false) : exec (.merFracWrite src d) s =
    .next (if s.merRole = 1 ∨ d.toNat < 0x3FD70A3D ∨ 0x4028F5C3 < d.toNat then
        s.refuse src.toNat (accSpace src.toNat) aMER_FRAC 0x0A
      else s.setReg aMER_FRAC d) :=
  congrArg _ (if_neg (ne_true_of_eq_false hhost))

/-- At the RTC second boundary a seed that is due takes the calendar's time while the RTC is valid (R276; log 97). -/
theorem exec_meridianSeed_due {s u : State} {dt : Nat} (hu : s.elapse dt = u) (hdue : u.seedDue = true ∨ u.seedCmd = true)
    (hvalid : u.rb aRTC_STAT 0 = true) :
    exec (.meridianSeed dt) s = .next { u with seedDue := false, seedCmd := false }.seed := by
  subst hu
  exact congrArg _ ((if_pos (Bool.or_eq_true_iff.mpr hdue)).trans (if_pos hvalid))

/-! ### SYNC (R278 to R281) -/

/-- A SYNC that the port takes becomes its candidate, the role follows, and the upstream port of a slave accepts it. -/
theorem exec_sync_taken {s u v : State} {port : BitVec 7} {steps : Byte} (prio : Byte) (master : BitVec 16) (valid ppsl : Bool) (t1 : W64)
    {dt : Nat} {c : Cand} (hu : s.elapse dt = u) (hc : Cand.mk prio.toNat master.toNat steps.toNat valid ppsl u.fab = c)
    (hv : { u with merCand := FMap.set (fun _ => none) u.merCand port.toNat (some c) }.refreshMer = v)
    (hon : u.merOn port.toNat = true) (hsteps : steps.toNat ≤ 32) : exec (.sync port prio master steps valid ppsl t1 dt) s =
      .next (if v.merRole = 1 ∧ v.rf aMER_STAT 23 16 = port.toNat then v.acceptSync port.toNat c t1 else v) := by
  subst hv hc hu
  exact congrArg _ (if_neg (not_or.mpr ⟨ne_false_of_eq_true hon, Nat.not_lt.mpr hsteps⟩))

/-- On a device that is no master, a port without a SYNC to follow has lost it. -/
theorem exec_syncTimeout_lost {s u : State} {dt : Nat} (hu : s.elapse dt = u) (hrole : u.merRole ≠ 2)
    (hnone : u.syncCand (u.rf aMER_STAT 23 16) = none) :
    exec (.syncTimeout dt) s = .next ({ u with merLock := 0 }.setLock false).refreshMer := by
  subst hu
  have hexec : exec (.syncTimeout dt) s = execSyncTimeout dt s := rfl
  simp only [hexec, execSyncTimeout, hrole, false_and, if_false, hnone, if_true]

/-! ### Link delay (R281; log 98) -/

theorem State.merHead_of_slave {s : State} {c : Cand} (hrole : s.merRole = 1) (hcand : s.syncCand (s.rf aMER_STAT 23 16) = some c) :
    s.merHead = BitVec.ofNat 8 c.prio :: beBytes 2 c.master ++ [0, 0] := by
  simp only [State.merHead, if_pos hrole, hcand]
theorem State.merHead_of_not_slave {s : State} (hrole : s.merRole ≠ 1) :
    s.merHead = BitVec.ofNat 8 (s.rf aMER_CFG 23 16) :: beBytes 2 (s.rf aMER_CFG 15 0) ++ [0, 0] := by
  simp only [State.merHead, if_neg hrole]

/-- A DRESP to the DREQ that a port keeps gives one delay: half of what the exchange took beyond the responder's time. -/
theorem exec_dresp_answers {s u : State} {port : BitVec 7} {rseq : BitVec 16} (t1 t2 : W64) {dt : Nat} {t : W64} (hu : s.elapse dt = u)
    (hon : u.merOn port.toNat = true) (hreq : FMap.get (fun _ => none) u.merReq port.toNat = some (rseq.toNat, t)) :
    exec (.dresp port rseq t1 t2 dt) s = .next ({ u with merReq := FMap.set (fun _ => none) u.merReq port.toNat none }.takeDelay
      port.toNat ((((u.now.toNat : Int) - (t.toNat : Int)) - ((t2.toNat : Int) - (t1.toNat : Int))) * 500)) := by
  subst hu
  have hexec : exec (.dresp port rseq t1 t2 dt) s = execDresp port rseq t1 t2 dt s := rfl
  simp only [hexec, execDresp, hon, Bool.true_eq_false, if_false, hreq, if_true]

/-! ### The pulse per second (R283, R284) -/

/-- An edge of PPS_IN with none captured in the 500 ms before is captured, and a master that follows PPS_IN takes its offset. -/
theorem exec_ppsInEdge_captured {s u v w : State} {dt : Nat} (hu : s.elapse dt = u) (hen : u.rb aMER_PPS 30 = true)
    (hlast : ∀ t, u.ppsAt = some t → t + 400000000 ≤ u.fab)
    (hv : ({ u with ppsAt := some u.fab }.setReg64 aMER_PPSIN_LO u.now).merEvent 8 = v)
    (hw : v.lockStep (fromSecond v.now.toNat * 1000) = w) : exec (.ppsInEdge dt) s =
      .next (if v.merRole = 2 ∧ v.rb aMER_CFG2 31 = true then (if w.supRun then w.freeFrac else w) else v) := by
  subst hw hv hu
  refine congrArg _ (if_neg ?_)
  cases hat : (s.elapse dt).ppsAt with
  | none => simp only [hen, Bool.not_true, Bool.or_self, Bool.false_eq_true, not_false_eq_true]
  | some t =>
    have hearlier : decide ((s.elapse dt).fab < t + 400000000) = false := decide_eq_false (Nat.not_lt.mpr (hlast t hat))
    simp only [hen, hearlier, Bool.not_true, Bool.or_self, Bool.false_eq_true, not_false_eq_true]

/-! ### The statement -/

/-- Settles O52: each command meets the checks of `State.merCmd`, each frame and each edge its guard. `witness_MeridianTimeResult` meets the
premises. The wait of a SEED rests on log 97 of NOTES.md, the bodies of the frames on log 98, the moments at which the role is evaluated on
log 99, the servo on logs 100 and 101. -/
theorem meridianTimeResult : Obligations.MeridianTimeResult := by
  unfold Obligations.MeridianTimeResult
  refine ⟨?step, ?busy, ?seedWaits, ?seedRefused, ?seeds, ?fracWrite, ?fracSlave, ?syncDiscarded, ?syncAccepted, ?syncKept, ?syncSent,
    ?syncLost, ?dreq, ?dreqSent, ?dresp, ?drespDiscarded, ?heads, ?ppsRises, ?ppsFalls, ?ppsIn⟩
  case step =>
    intro s src d hhost hfree
    rw [exec_merStep, State.merCmd_of_free hhost _ hfree]
    exact ⟨fun hfits => congrArg _ (if_pos hfits), fun hfits => congrArg _ (if_neg (ne_true_of_eq_false hfits))⟩
  case busy =>
    intro s src hhost hbusy
    simp only [List.forall_mem_cons, exec_merStep, exec_merSeed, State.merCmd_of_busy hhost _ hbusy, List.not_mem_nil, false_imp_iff,
      implies_true, and_self]
  case seedWaits =>
    intro s src hhost hfree hvalid
    rw [exec_merSeed, State.merCmd_of_free hhost _ hfree, State.seedWait, if_pos hvalid]
  case seedRefused =>
    intro s src hhost hfree hvalid
    rw [exec_merSeed, State.merCmd_of_free hhost _ hfree, State.seedWait, if_neg (ne_true_of_eq_false hvalid)]
  case seeds =>
    intro s dt u
    exact exec_meridianSeed_due rfl
  case fracWrite =>
    intro s src d hhost hrole
    refine ⟨fun hlow hhigh => ?inRange, fun hout => ?outOfRange⟩
    case inRange => rw [exec_merFracWrite d hhost, if_neg (by omega)]
    case outOfRange => rw [exec_merFracWrite d hhost, if_pos (.inr hout)]
  case fracSlave =>
    intro s src d hhost hrole
    rw [exec_merFracWrite d hhost, if_pos (.inl hrole)]
  case syncDiscarded =>
    intro s port prio master steps valid ppsl t1 dt u p hdisc
    exact congrArg _ (if_pos hdisc)
  case syncAccepted =>
    intro s port prio master steps valid ppsl t1 dt u p c v hon hsteps hrole hup
    exact (exec_sync_taken prio master valid ppsl t1 rfl rfl rfl hon hsteps).trans (congrArg _ (if_pos ⟨hrole, hup⟩))
  case syncKept =>
    intro s port prio master steps valid ppsl t1 dt u p c v hon hsteps hother
    exact (exec_sync_taken prio master valid ppsl t1 rfl rfl rfl hon hsteps).trans
      (congrArg _ (if_neg fun ⟨hrole, hup⟩ => hother.elim (· hrole) (· hup)))
  case syncSent =>
    intro s dt v hrole hfatal htick hmark hdue
    exact congrArg _ (if_pos ⟨hrole, hfatal, htick, hmark, hdue⟩)
  case syncLost =>
    intro s dt u
    exact exec_syncTimeout_lost rfl
  case dreq =>
    intro s port seq dt u p
    exact ⟨fun hon => congrArg _ (if_neg (ne_false_of_eq_true hon)), fun hoff => congrArg _ (if_pos hoff)⟩
  case dreqSent =>
    intro s port dt u p hon v
    exact congrArg _ (if_pos hon)
  case dresp =>
    intro s port rseq t1 t2 dt t u p
    exact exec_dresp_answers t1 t2 rfl
  case drespDiscarded =>
    intro s port rseq t1 t2 dt u p hoff
    exact congrArg _ (if_pos hoff)
  case heads => exact fun s => ⟨fun c => State.merHead_of_slave, State.merHead_of_not_slave⟩
  case ppsRises =>
    intro s dt u hen hvalid hsecond
    exact congrArg _ (if_pos ⟨hen, hvalid, hsecond⟩)
  case ppsFalls =>
    intro s dt u hfall
    exact congrArg _ (if_pos hfall)
  case ppsIn =>
    intro s dt u hen hlast v w
    exact exec_ppsInEdge_captured rfl hen hlast rfl rfl

end Sys2Proof.Machine
end

section
/-!
PROOFS. Partition and page commands (spec/06 R178): the checks that every command meets, and what each does.
-/
namespace Sys2Proof.Machine

/-! ### A command that is served, and one that is not (R34, R178; log 92) -/

/-- PF0 or the service port writes `TR_CMD` with no command in progress, no management pause and the supervisor running. -/
structure State.TrServed (s : State) (src : Nat) : Prop where
  host : isVf src = false
  free : s.rb aTR_CMD_STAT 0 = false
  unpaused : s.mgmt = false
  running : s.supRun = true

theorem State.trCmd_of_served {s : State} {src : Nat} (h : s.TrServed src) (c : Nat) : s.trCmd src c = s.trDo src c := by
  rw [State.trCmd, if_neg (ne_true_of_eq_false h.host), if_neg (ne_true_of_eq_false h.free), if_neg (ne_true_of_eq_false h.unpaused),
    if_neg (ne_false_of_eq_true h.running)]

section
variable {s : State} {src : BitVec 10} (h : s.TrServed src.toNat)
include h

theorem exec_create_served : exec (.create src) s = .next s.trCreate := congrArg _ (State.trCmd_of_served h 1)
theorem exec_remove_served : exec (.remove src) s = .next s.trRemove := congrArg _ (State.trCmd_of_served h 2)
theorem exec_stage_served : exec (.stage src) s = .next s.trStage := congrArg _ (State.trCmd_of_served h 3)
theorem exec_unstage_served : exec (.unstage src) s = .next s.trUnstage := congrArg _ (State.trCmd_of_served h 4)
theorem exec_retclr_served : exec (.retclr src) s = .next (s.trRetclr src.toNat) := congrArg _ (State.trCmd_of_served h 5)

end

/-- The five commands go through `TR_CMD`. -/
theorem exec_trCommand {src : BitVec 10} {c : Instr}
    (hc : c ∈ [Instr.create src, .remove src, .stage src, .unstage src, .retclr src]) :
    ∃ k, ∀ s, exec c s = .next (s.trCmd src.toNat k) := by
  simp only [List.mem_cons, List.not_mem_nil, or_false] at hc
  rcases hc with rfl | rfl | rfl | rfl | rfl
  all_goals exact ⟨_, fun _ => rfl⟩

/-- A command written while another is in progress only sets REASON 0x08. -/
theorem State.trCmd_of_busy {s : State} {src : Nat} (hhost : isVf src = false) (hbusy : s.rb aTR_CMD_STAT 0 = true) (c : Nat) :
    s.trCmd src c = s.setRf aTR_CMD_STAT 15 8 8 := by
  rw [State.trCmd, if_neg (ne_true_of_eq_false hhost), if_pos hbusy]

/-- Without the supervisor a command ends with REASON 0xFF. -/
theorem State.trCmd_of_no_supervisor {s : State} {src : Nat} (hhost : isVf src = false) (hfree : s.rb aTR_CMD_STAT 0 = false)
    (hpause : s.mgmt = false) (hsup : s.supRun = false) (c : Nat) : s.trCmd src c = s.endTr 0xFF := by
  rw [State.trCmd, if_neg (ne_true_of_eq_false hhost), if_neg (ne_true_of_eq_false hfree), if_neg (ne_true_of_eq_false hpause),
    if_pos hsup]

/-! ### A partition outside the Legend -/

section
variable {s : State} (hpart : s.fuse.partitions ≤ s.trPart)
include hpart

theorem State.trCreate_outside : s.trCreate = s.endTr 2 := if_pos hpart
theorem State.trRemove_outside : s.trRemove = s.endTr 2 := if_pos hpart
theorem State.trStage_outside : s.trStage = s.endTr 2 := if_pos hpart
theorem State.trUnstage_outside : s.trUnstage = s.endTr 2 := if_pos hpart

end

/-! ### Commands on a partition of the Legend (R125, R164 to R166; logs 27, 92, 93) -/

section
variable {s : State} (hpart : s.trPart < s.fuse.partitions)
include hpart

/-- CREATE makes an Absent partition, and only that. -/
theorem State.trCreate_inside : s.trCreate = if s.mode s.trPart ≠ 0 then s.endTr 1 else
    ((((s.clearPart s.trPart).setReg64 (aPD_OFFSET_LO s.trPart) s.now).setRf (aPD_MODE s.trPart) 2 0 1).pdEvent s.trPart evMode).endTr 0 :=
  if_neg (Nat.not_le.mpr hpart)

/-- REMOVE takes a partition that has stopped, unless the pair runs it. -/
theorem State.trRemove_of_stopped (hmode : s.mode s.trPart = 1) (hstopped : (s.part s.trPart).stopping = false) :
    s.trRemove = if s.pairPart s.trPart then s.endTr 7 else (s.removePart s.trPart).endTr 0 := by
  have hstop : ¬(s.mode s.trPart ≠ 1 ∨ (s.part s.trPart).stopping = true) :=
    not_or.mpr ⟨not_not_intro hmode, ne_true_of_eq_false hstopped⟩
  exact (if_neg (Nat.not_le.mpr hpart)).trans (if_neg hstop)

variable (hkind : s.trKind < 3) (hcount : s.trCount ≠ 0)
include hkind hcount

/-- STAGE takes the lowest Free pages when there are as many as asked for. -/
theorem State.trStage_of_created (hmode : s.mode s.trPart ≠ 0) {l : List Nat} (hl : (s.freePages s.trKind).take s.trCount = l) :
    s.trStage = if l.length < s.trCount then s.endTr 3 else
      ((l.foldl (fun s' n => s'.setPage s.trKind n pgStaged s.trPart) s).setReg aTR_RESULT
        (BitVec.ofNat 32 (l.getLastD 0 * 65536 + l.headD 0))).endTr 0 := by
  subst hl
  have hok : ¬(s.trKind = 3 ∨ s.trCount = 0) := not_or.mpr ⟨Nat.ne_of_lt hkind, hcount⟩
  exact (if_neg (Nat.not_le.mpr hpart)).trans ((if_neg hmode).trans (if_neg hok))

/-- UNSTAGE sends the pages to Zeroing when each is Staged by the partition and no pending entry names it. -/
theorem State.trUnstage_of_staged (hrange : s.trFirst + s.trCount ≤ pageCount s.trKind) {l : List Nat}
    (hl : (List.range s.trCount).map (fun i => s.trFirst + i) = l)
    (hpages : ∀ n ∈ l, s.pgState s.trKind n = pgStaged ∧ s.pgPart s.trKind n = s.trPart ∧
      (pagesOf s.trP s.trPart).contains (s.trKind, n) = false) :
    s.trUnstage = (l.foldl (fun s' n => s'.toZeroing s.trKind n) s).endTr 0 := by
  subst hl
  have hok : ¬(s.trKind = 3 ∨ s.trCount = 0 ∨ pageCount s.trKind < s.trFirst + s.trCount) := by omega
  have hall : ((List.range s.trCount).map (fun i => s.trFirst + i)).all (fun n => s.pgState s.trKind n == pgStaged &&
      s.pgPart s.trKind n == s.trPart && !(pagesOf s.trP s.trPart).contains (s.trKind, n)) = true := by
    rw [List.all_eq_true]
    intro n hn
    obtain ⟨hstate, howner, hfree⟩ := hpages n hn
    rw [hstate, howner, hfree, beq_self_eq_true, beq_self_eq_true]
    rfl
  exact (if_neg (Nat.not_le.mpr hpart)).trans ((if_neg hok).trans (if_neg (ne_false_of_eq_true hall)))

end

/-- RETCLR of a Retired page asks for the grant (R195, R237). -/
theorem State.trRetclr_of_retired {s : State} (src : Nat) (hkind : s.trKind < 3) (hpage : s.trFirst < pageCount s.trKind)
    (hret : s.pgState s.trKind s.trFirst = pgRetired) : s.trRetclr src = if s.granted src 4 = false then s.endTr 6 else
      { s.toZeroing s.trKind s.trFirst with retList := FMap.erase s.retList (retKey s.trKind s.trFirst) }.endTr 0 := by
  have hok : ¬(s.trKind = 3 ∨ pageCount s.trKind ≤ s.trFirst) := by omega
  exact (if_neg hok).trans (if_neg (not_not_intro hret))

/-! ### The statement -/

/-- Settles O37: a command that is served meets the checks of its own in their order, and one that is not ends at once.
`witness_PartitionAndPageCommandsResult` meets the premises. The MODE event of CREATE rests on log 27 of NOTES.md, that commands act at
once and how STAGE counts on log 92, the order of the checks on log 93. -/
theorem partitionAndPageCommandsResult : Obligations.PartitionAndPageCommandsResult := by
  unfold Obligations.PartitionAndPageCommandsResult
  refine ⟨?create, ?createRefused, ?outside, ?remove, ?removePair, ?stage, ?stageTooMany, ?unstage, ?retclr, ?retclrDenied, ?busy,
    ?noSupervisor⟩
  case create =>
    intro s src hhost hfree hpause hsup hpart hmode
    rw [exec_create_served ⟨hhost, hfree, hpause, hsup⟩, State.trCreate_inside hpart, if_neg (not_not_intro hmode)]
  case createRefused =>
    intro s src hhost hfree hpause hsup hpart hmode
    rw [exec_create_served ⟨hhost, hfree, hpause, hsup⟩, State.trCreate_inside hpart, if_pos hmode]
  case outside =>
    intro s src hhost hfree hpause hsup hpart
    have h : s.TrServed src.toNat := ⟨hhost, hfree, hpause, hsup⟩
    simp only [List.forall_mem_cons, exec_create_served h, State.trCreate_outside hpart, exec_remove_served h,
      State.trRemove_outside hpart, exec_stage_served h, State.trStage_outside hpart, exec_unstage_served h,
      State.trUnstage_outside hpart, List.not_mem_nil, false_imp_iff, implies_true, and_self]
  case remove =>
    intro s src hhost hfree hpause hsup hpart hmode hstopped hpair
    rw [exec_remove_served ⟨hhost, hfree, hpause, hsup⟩, State.trRemove_of_stopped hpart hmode hstopped,
      if_neg (ne_true_of_eq_false hpair)]
  case removePair =>
    intro s src hhost hfree hpause hsup hpart hmode hstopped hpair
    rw [exec_remove_served ⟨hhost, hfree, hpause, hsup⟩, State.trRemove_of_stopped hpart hmode hstopped, if_pos hpair]
  case stage =>
    intro s src p k l hhost hfree hpause hsup hpart hmode hkind hcount hlen
    rw [exec_stage_served ⟨hhost, hfree, hpause, hsup⟩, State.trStage_of_created hpart hkind hcount hmode rfl,
      if_neg (Nat.not_lt.mpr (Nat.le_of_eq hlen.symm))]
  case stageTooMany =>
    intro s src hhost hfree hpause hsup hpart hmode hkind hcount hfew
    have hshort : ((s.freePages s.trKind).take s.trCount).length < s.trCount := Nat.lt_of_le_of_lt (List.length_take_le' ..) hfew
    rw [exec_stage_served ⟨hhost, hfree, hpause, hsup⟩, State.trStage_of_created hpart hkind hcount hmode rfl, if_pos hshort]
  case unstage =>
    intro s src k l hhost hfree hpause hsup hpart hkind hcount hrange hpages
    rw [exec_unstage_served ⟨hhost, hfree, hpause, hsup⟩, State.trUnstage_of_staged hpart hkind hcount hrange rfl hpages]
  case retclr =>
    intro s src k n hhost hfree hpause hsup hkind hpage hret hgrant
    rw [exec_retclr_served ⟨hhost, hfree, hpause, hsup⟩, State.trRetclr_of_retired _ hkind hpage hret,
      if_neg (ne_false_of_eq_true hgrant)]
  case retclrDenied =>
    intro s src k n hhost hfree hpause hsup hkind hpage hret hgrant
    rw [exec_retclr_served ⟨hhost, hfree, hpause, hsup⟩, State.trRetclr_of_retired _ hkind hpage hret, if_pos hgrant]
  case busy =>
    intro s src hhost hbusy c hc
    obtain ⟨k, hk⟩ := exec_trCommand hc
    rw [hk, State.trCmd_of_busy hhost hbusy]
  case noSupervisor =>
    intro s src hhost hfree hpause hsup c hc
    obtain ⟨k, hk⟩ := exec_trCommand hc
    rw [hk, State.trCmd_of_no_supervisor hhost hfree hpause hsup]

end Sys2Proof.Machine
end

section
/-!
PROOFS. Zeroing, pending entries and ranges, scrubbing and retirement (spec/06 R165, R166, R174, R175, R179, R183, R191 to R193).
-/
namespace Sys2Proof.Machine

/-! ### Zeroing (R165, R166, R183) -/

/-- The bulk unit works: it is out of reset and clocked, and no boundary pause holds it off. -/
structure State.BulkRuns (s : State) : Prop where
  up : s.moverUp = true
  unpaused : s.anyPause = false

theorem State.zeroHead_cons {s : State} {k n : Nat} {r : List (Nat × Nat)} (h : s.zeroQ = (k, n) :: r) :
    s.zeroHead = { (s.clearPage k n).setPage k n pgFree 0 with zeroQ := r } := by
  simp only [State.zeroHead, h]

/-- With no retirement copy in progress the page at the head of the queue becomes Free. -/
theorem exec_pageZeroed_of_runs {s u : State} {dt : Nat} (hu : s.elapse dt = u) (hruns : u.BulkRuns) (hcopy : u.retCopy = none) :
    exec (.pageZeroed dt) s = .next u.zeroHead := by
  subst hu
  have hgo : ((s.elapse dt).moverUp && !(s.elapse dt).anyPause && (s.elapse dt).retCopy.isNone) = true := by
    simp [hruns.up, hruns.unpaused, hcopy]
  exact congrArg _ (if_pos hgo)

/-- A boundary pause comes first. -/
theorem exec_pageZeroed_of_pause {s u : State} {dt : Nat} (hu : s.elapse dt = u) (hpause : u.anyPause = true) :
    exec (.pageZeroed dt) s = .next u := by
  subst hu
  exact congrArg _ (if_neg (by simp [hpause]))

/-! ### Pending entries (R175; logs 91, 93) -/

theorem exec_trEntryWrite (src : BitVec 10) (i : BitVec 12) (d : W) (s : State) :
    exec (.trEntryWrite src i d) s = .next (s.entryWrite src.toNat i.toNat d) := rfl

section
variable {s : State} {src i p : Nat} {d : W} (hsel : fld (s.regFor src aTR_PSEL) 9 0 = p) (hhost : isVf src = false)
  (hpart : p < s.fuse.partitions) (hi : i < entriesPerPart) (hmode : s.mode p ≠ 0)
include hsel hhost hpart hi hmode

/-- A write that reaches an entry of a created partition: no edit may be pending, and what it maps must be the partition's. -/
theorem State.entryWrite_of_created : s.entryWrite src i d =
    if s.editPending p then s.refuse src (accSpace src) (0x410000 + 4 * i) 4
    else if entV d ∧ (pageCount (entryKind i) ≤ entPPN d ∨ ¬((s.pgState (entryKind i) (entPPN d) = pgStaged ∨
        s.pgState (entryKind i) (entPPN d) = pgOwned) ∧ s.pgPart (entryKind i) (entPPN d) = p)) then
      s.refuse src (accSpace src) (0x410000 + 4 * i) 0x0A
    else s.setEntP (p * entriesPerPart + i) (d &&& 0x80003FFF) := by
  subst hsel
  have hreach : ¬(isVf src = true ∨ s.fuse.partitions ≤ fld (s.regFor src aTR_PSEL) 9 0 ∨ entriesPerPart ≤ i) :=
    not_or.mpr ⟨ne_true_of_eq_false hhost, not_or.mpr ⟨Nat.not_le.mpr hpart, Nat.not_le.mpr hi⟩⟩
  exact (if_neg hreach).trans (if_neg hmode)

variable (hpending : s.editPending p = false)
include hpending

/-- An entry that is not valid, or that names a page of the partition, is taken. -/
theorem State.entryWrite_taken (hpage : entV d = true → entPPN d < pageCount (entryKind i) ∧
      (s.pgState (entryKind i) (entPPN d) = pgStaged ∨ s.pgState (entryKind i) (entPPN d) = pgOwned) ∧
      s.pgPart (entryKind i) (entPPN d) = p) :
    s.entryWrite src i d = s.setEntP (p * entriesPerPart + i) (d &&& 0x80003FFF) := by
  rw [State.entryWrite_of_created hsel hhost hpart hi hmode, if_neg (ne_true_of_eq_false hpending), if_neg]
  rintro ⟨hvalid, hbad⟩
  obtain ⟨hexists, howned⟩ := hpage hvalid
  exact hbad.elim (Nat.not_le.mpr hexists) (· howned)

/-- A valid entry that names a page of another partition is refused. -/
theorem State.entryWrite_foreign (hvalid : entV d = true) (hforeign : s.pgPart (entryKind i) (entPPN d) ≠ p) :
    s.entryWrite src i d = s.refuse src (accSpace src) (0x410000 + 4 * i) 0x0A := by
  rw [State.entryWrite_of_created hsel hhost hpart hi hmode, if_neg (ne_true_of_eq_false hpending),
    if_pos ⟨hvalid, .inr fun howned => hforeign howned.2⟩]

end

/-! ### Ranges of descriptors (R179) -/

theorem exec_pdMovRangeWrite (src : BitVec 10) (p : BitVec 9) (d : W) (s : State) :
    exec (.pdMovRangeWrite src p d) s = .next (s.rangeWrite src.toNat p.toNat d) := rfl

section
variable {s : State} {src p f n : Nat} {d : W} (hf : fld d 15 0 = f) (hn : fld d 31 16 = n) (hhost : isVf src = false)
  (hpart : p < s.fuse.partitions) (hmode : s.mode p ≠ 0) (hpending : s.editPending p = false)
include hf hn hhost hpart hmode hpending

/-- A range of a created partition with no edit pending is judged by its bounds and by the ranges it meets. -/
theorem State.rangeWrite_of_created : s.rangeWrite src p d =
    if 61440 < f + n ∨ 4096 < n ∨ s.hitsPart f n (some p) ∨ overlap f n (s.rf aMOV_DEV_RANGE 15 0) (s.rf aMOV_DEV_RANGE 31 16)
        ∨ overlap f n (fld (s.pnd aMOV_DEV_RANGE) 15 0) (fld (s.pnd aMOV_DEV_RANGE) 31 16) then
      s.refuse src (accSpace src) (accOff src p 0x394) 0x0A
    else s.setPnd (aPD_MOV_RANGE p) d := by
  subst hf hn
  have hreach : ¬(isVf src = true ∨ s.fuse.partitions ≤ p) := not_or.mpr ⟨ne_true_of_eq_false hhost, Nat.not_le.mpr hpart⟩
  exact (if_neg hreach).trans ((if_neg hmode).trans (if_neg (ne_true_of_eq_false hpending)))

/-- A range within the bounds, clear of other partitions and of the station range, becomes pending. -/
theorem State.rangeWrite_taken (hend : f + n ≤ 61440) (hlen : n ≤ 4096) (hclear : s.hitsPart f n (some p) = false)
    (hdev : overlap f n (s.rf aMOV_DEV_RANGE 15 0) (s.rf aMOV_DEV_RANGE 31 16) = false)
    (hdevPending : overlap f n (fld (s.pnd aMOV_DEV_RANGE) 15 0) (fld (s.pnd aMOV_DEV_RANGE) 31 16) = false) :
    s.rangeWrite src p d = s.setPnd (aPD_MOV_RANGE p) d := by
  rw [State.rangeWrite_of_created hf hn hhost hpart hmode hpending, if_neg]
  simp only [hclear, hdev, hdevPending, Nat.not_lt.mpr hend, Nat.not_lt.mpr hlen, Bool.false_eq_true, or_self, not_false_eq_true]

/-- A range beyond the descriptors, or too long, is refused. -/
theorem State.rangeWrite_refused (hout : 61440 < f + n ∨ 4096 < n) :
    s.rangeWrite src p d = s.refuse src (accSpace src) (accOff src p 0x394) 0x0A := by
  rw [State.rangeWrite_of_created hf hn hhost hpart hmode hpending, if_pos (hout.imp_right Or.inl)]

end

/-! ### Scrubbing (R174, R191; log 94) -/

theorem exec_scrub_word {s : State} {a : BitVec 28} (ha : a.toNat < 0xD000000) (found : BitVec 2) :
    exec (.scrub a found) s = .next (s.scrubWord (a.toNat / 4 * 4) found.toNat) :=
  congrArg _ (if_pos ha)

theorem exec_scrub_entry {s : State} {a : BitVec 28} (hlow : 0xE000000 ≤ a.toNat) (hhigh : a.toNat < 0xE000000 + 512 * entriesPerPart)
    (found : BitVec 2) : exec (.scrub a found) s = .next (s.scrubEntry (a.toNat - 0xE000000) found.toNat) := by
  have hstore : ¬a.toNat < 0xD000000 := by omega
  exact congrArg _ ((if_neg hstore).trans (if_pos ⟨hlow, hhigh⟩))

section
variable (s : State) (a : Nat)

theorem State.scrubWord_corrected : s.scrubWord a 1 = s.collect (6 + (pageOf a).1) cCorrected 0x02 (pageOf a).2 := by
  simp only [State.scrubWord, if_true]
theorem State.scrubWord_uncorrectable :
    s.scrubWord a 2 = ((s.setBad a true).storeFault a).zeroingBad (pageOf a).1 (pageOf a).2 := by
  have hcorrected : ¬(2 = 1) := by decide
  simp only [State.scrubWord, if_neg hcorrected, true_or, if_true]
theorem State.scrubWord_good (h : s.isBad a = false) : s.scrubWord a 0 = s := by
  have hcorrected : ¬(0 = 1) := by decide
  have hbad : ¬(0 = 2 ∨ s.isBad a = true) := not_or.mpr ⟨by decide, ne_true_of_eq_false h⟩
  simp only [State.scrubWord, if_neg hcorrected, if_neg hbad]

theorem State.scrubEntry_corrected : s.scrubEntry a 1 = s.collect 9 cCorrected 0x02 (a / entriesPerPart) := by
  simp only [State.scrubEntry, if_true]
theorem State.scrubEntry_uncorrectable : s.scrubEntry a 2 = s.entryFault a := by
  have hcorrected : ¬(2 = 1) := by decide
  simp only [State.scrubEntry, if_neg hcorrected, true_or, if_true]

end

/-! ### Retirement (R192, R193; log 95) -/

theorem exec_pageRetirement {s u : State} {k : BitVec 2} {n : BitVec 14} {dt : Nat} (hu : s.elapse dt = u) (hk : k.toNat < 3)
    (hn : n.toNat < pageCount k.toNat) : exec (.pageRetirement k n dt) s = .next (u.retirePage k.toNat n.toNat) := by
  subst hu
  exact congrArg _ (if_pos ⟨hk, hn⟩)

theorem State.retirePage_of_owned {s : State} {k n : Nat} (hretp : s.pgRetp k n = true) (howned : s.pgState k n = pgOwned) :
    s.retirePage k n = s.startRetire k n := by
  rw [State.retirePage, if_pos hretp, if_pos howned]

/-- The copy of a page of a stopped partition takes the lowest Free page when the bulk unit works and copies no other. -/
theorem State.startRetire_of_stopped {s : State} {k n f p : Nat} (hp : s.pgPart k n = p) (hfree : (s.freePages k).head? = some f)
    (hmode : s.mode p = 1) (hstopped : (s.part p).stopping = false) (hcopy : s.retCopy = none) (hruns : s.BulkRuns) :
    s.startRetire k n = { s.setPage k f pgOwned p with retCopy := some (k, n, f, p) } := by
  subst hp
  obtain ⟨r, hr⟩ := List.head?_eq_some_iff.mp hfree
  simp only [State.startRetire, hr]
  exact if_pos ⟨hmode, hstopped, hcopy, hruns.unpaused, hruns.up⟩

theorem exec_retirementCopyDone_of_runs {s u : State} {dt : Nat} (hu : s.elapse dt = u) (hruns : u.BulkRuns) :
    exec (.retirementCopyDone dt) s = .next u.endRetire := by
  subst hu
  have hgo : ((s.elapse dt).moverUp && !(s.elapse dt).anyPause) = true := by simp [hruns.up, hruns.unpaused]
  exact congrArg _ (if_pos hgo)

/-- The entries of a partition that is still stopped name the copy, and the old page is Retired. -/
theorem State.endRetire_of_stopped {s : State} {k n f p : Nat} (hcopy : s.retCopy = some (k, n, f, p)) (hmode : s.mode p = 1) :
    s.endRetire = { ((s.copyPage k n f).switchEntry p k n f).retireNow k n with retCopy := none } := by
  simp only [State.endRetire, hcopy]
  exact if_neg (not_not_intro hmode)

/-! ### The statement -/

/-- Settles O38: each command of the bulk unit and the scrubber meets its guard, and each write the checks of `State.entryWrite_of_created`
and `State.rangeWrite_of_created`. `witness_PagesAndEntriesResult` meets the premises. That PENDING is looked at before the rest rests on
log 93 of NOTES.md, the operands of the scrubber on log 94, that the target of a copy is Owned from its start on log 95. -/
theorem pagesAndEntriesResult : Obligations.PagesAndEntriesResult := by
  unfold Obligations.PagesAndEntriesResult
  refine ⟨?zeroed, ?zeroingWaits, ?entryTaken, ?entryForeign, ?entryPending, ?rangeTaken, ?rangeRefused, ?scrubWord, ?scrubEntry,
    ?copyStarts, ?copyDone⟩
  case zeroed =>
    intro s dt k n r u hup hpause hcopy hq
    rw [exec_pageZeroed_of_runs rfl ⟨hup, hpause⟩ hcopy, State.zeroHead_cons hq]
  case zeroingWaits =>
    intro s dt u
    exact exec_pageZeroed_of_pause rfl
  case entryTaken =>
    intro s src i d p k hhost hpart hi hmode hpending hpage
    rw [exec_trEntryWrite, State.entryWrite_taken rfl hhost hpart hi hmode hpending hpage]
  case entryForeign =>
    intro s src i d p k hhost hpart hi hmode hpending hvalid hforeign
    rw [exec_trEntryWrite, State.entryWrite_foreign rfl hhost hpart hi hmode hpending hvalid hforeign]
  case entryPending =>
    intro s src i d p hhost hpart hi hmode hpending
    rw [exec_trEntryWrite, State.entryWrite_of_created rfl hhost hpart hi hmode, if_pos hpending]
  case rangeTaken =>
    intro s src p d f n hhost hpart hmode hpending hend hlen hclear hdev hdevPending
    rw [exec_pdMovRangeWrite, State.rangeWrite_taken rfl rfl hhost hpart hmode hpending hend hlen hclear hdev hdevPending]
  case rangeRefused =>
    intro s src p d f n hhost hpart hmode hpending hout
    rw [exec_pdMovRangeWrite, State.rangeWrite_refused rfl rfl hhost hpart hmode hpending hout]
  case scrubWord =>
    intro s a w ha
    exact ⟨(exec_scrub_word ha 1).trans (congrArg _ (s.scrubWord_corrected w)),
      (exec_scrub_word ha 2).trans (congrArg _ (s.scrubWord_uncorrectable w)),
      fun hgood => (exec_scrub_word ha 0).trans (congrArg _ (s.scrubWord_good w hgood))⟩
  case scrubEntry =>
    intro s a key hlow hhigh
    exact ⟨(exec_scrub_entry hlow hhigh 1).trans (congrArg _ (s.scrubEntry_corrected key)),
      (exec_scrub_entry hlow hhigh 2).trans (congrArg _ (s.scrubEntry_uncorrectable key))⟩
  case copyStarts =>
    intro s k n dt f u p hk hn hretp howned hfree hmode hstopped hcopy hpause hup
    rw [exec_pageRetirement rfl hk hn, State.retirePage_of_owned hretp howned,
      State.startRetire_of_stopped rfl hfree hmode hstopped hcopy ⟨hup, hpause⟩]
  case copyDone =>
    intro s dt k n f p u hup hpause hcopy hmode
    rw [exec_retirementCopyDone_of_runs rfl ⟨hup, hpause⟩, State.endRetire_of_stopped hcopy hmode]

end Sys2Proof.Machine
end

section
/-!
PROOFS. The state after the first reset (R115, R168, R379; logs 1, 3, 127 and 189 of NOTES.md).
-/
namespace Sys2Proof.Machine

/-! ### The row of a register -/

/-- The blocks of a map that rises without overlap each answer for their own offsets. -/
theorem findReg_of_mem {l : List (Nat × Nat × List RegRow)} {lo hi a : Nat} {rows : List RegRow}
    (hl : l.Pairwise fun b c => b.2.1 ≤ c.1) (hm : (lo, hi, rows) ∈ l) (hlo : lo ≤ a) (hhi : a < hi) :
    findReg l a = findRow rows a := by
  induction l with
  | nil => cases hm
  | cons b l ih =>
    obtain ⟨lo', hi', rows'⟩ := b
    obtain ⟨hfirst, hl⟩ := List.pairwise_cons.mp hl
    rcases List.mem_cons.mp hm with heq | hm
    · cases heq
      exact if_pos ⟨hlo, hhi⟩
    · have hafter : hi' ≤ lo := hfirst _ hm
      have hbelow : ¬(lo' ≤ a ∧ a < hi') := by omega
      exact (if_neg hbelow).trans (ih hl hm)

theorem regBlocks_rising : regBlocks.Pairwise fun b c => b.2.1 ≤ c.1 := by decide

/-- A row found is one of the list. -/
theorem mem_of_findRow {rows : List RegRow} {a : Nat} {r : RegRow} (h : findRow rows a = some r) : r ∈ rows := by
  induction rows with
  | nil => cases h
  | cons x rows ih =>
    rw [findRow] at h
    split at h
    next => exact Option.some.inj h ▸ List.mem_cons_self
    next => exact List.mem_cons_of_mem _ (ih h)

/-! ### Reset values -/

/-- The offsets whose reset value is a formula or a fused value, whatever their row says (R63, R64, R168, R178, R209). -/
def resetByFormula (a : Nat) : Prop :=
  a < 0x8030 ∨ (0x300000 ≤ a ∧ a < 0x400000 ∧ a % 0x800 = 0x380) ∨ (aTR_OWN_DATA 14336 ≤ a ∧ a < aTR_OWN_IMG 0) ∨
    (0xF00000 ≤ a ∧ a < 0xF80000 ∧ a % 16 = 0) ∨
    a ∈ [aQM_POOL, aSP_MAC_LO, aSP_MAC_HI, aTR_FREE_PROG, aTR_FREE_DATA, aTR_FREE_IMG]

/-- Every other register of a unit that is present resets to what its row says. -/
theorem regReset_of_row {fu : Fuse} {a : Nat} (hp : addrPresent fu a = true) (hf : ¬resetByFormula a) :
    regReset fu a = ((regRow a).map fun r => BitVec.ofNat 32 r.reset).getD 0 := by
  simp only [resetByFormula, List.mem_cons, List.not_mem_nil, or_false, not_or] at hf
  obtain ⟨hlow, hslot, hdevice, hqueue, hpool, hmacLo, hmacHi, hprog, hdata, himg⟩ := hf
  have hlegend : ¬a < 0x100 := by omega
  have hgazetteer : ¬(0x8000 ≤ a ∧ a < 0x8030) := by omega
  rw [regReset, if_neg hlegend, if_neg hgazetteer, if_neg (ne_false_of_eq_true hp), if_neg hslot, if_neg hdevice, if_neg hqueue,
    if_neg hpool, if_neg hmacLo, if_neg hmacHi, if_neg hprog, if_neg hdata, if_neg himg]
  cases regRow a with
  | none => rfl
  | some r => rfl

/-- In a block whose rows all reset to zero every such register does. -/
theorem regReset_eq_zero {fu : Fuse} {lo hi a : Nat} {rows : List RegRow} (hm : (lo, hi, rows) ∈ regBlocks)
    (hz : ∀ r ∈ rows, r.reset = 0) (hlo : lo ≤ a) (hhi : a < hi) (hp : addrPresent fu a = true) (hf : ¬resetByFormula a) :
    regReset fu a = 0 := by
  rw [regReset_of_row hp hf, regRow, findReg_of_mem regBlocks_rising hm hlo hhi]
  cases hr : findRow rows a with
  | none => rfl
  | some r => rw [Option.map_some, hz r (mem_of_findRow hr)]; rfl

/-- A choice between two answers that are both true. -/
theorem ite_eq_true_of {c : Prop} [Decidable c] {x y : Bool} (hx : c → x = true) (hy : y = true) : (if c then x else y) = true := by
  split
  next hc => exact hx hc
  next => exact hy

/-- Of the largest variant every unit between the engines and the lanes is present. -/
theorem addrPresent_of_full {fu : Fuse} {a : Nat} (hlanes : fu.lanes = 128) (hengines : fu.engines = 128) (hparts : fu.partitions = 512)
    (hlo : 0x200000 ≤ a) (hhi : a < 0xF00000) : addrPresent fu a = true := by
  have hnear : ¬a < 0xB0000 := by omega
  have hfield : ¬a < 0xD0000 := by omega
  rw [addrPresent, if_neg hnear, if_neg hfield]
  repeat refine ite_eq_true_of (fun _ => decide_eq_true (by omega)) ?_
  rfl

/-- Where between the partitions and the lanes no reset is by formula: away from one slot of each partition, from `TR_FREE_*` and from the
Device pages of the data store. -/
def resetByRow (a : Nat) : Prop :=
  (0x300000 ≤ a ∧ a < 0x400000 ∧ a % 0x800 ≠ 0x380) ∨ (0x400020 < a ∧ a < 0x436000) ∨ (0x438000 ≤ a ∧ a < 0xE00000)

theorem not_resetByFormula {a : Nat} (h : resetByRow a) : ¬resetByFormula a := by
  simp only [resetByRow] at h
  simp only [resetByFormula, List.mem_cons, List.not_mem_nil, or_false, aTR_OWN_DATA, aTR_OWN_IMG, aQM_POOL, aSP_MAC_LO, aSP_MAC_HI,
    aTR_FREE_PROG, aTR_FREE_DATA, aTR_FREE_IMG]
  omega

/-! ### The registers at reset: none has been written -/

/-- A register of a block whose rows all reset to zero. -/
theorem State.reg_reset_eq_zero {lo hi a : Nat} {rows : List RegRow} (hm : (lo, hi, rows) ∈ regBlocks) (hz : ∀ r ∈ rows, r.reset = 0)
    (hlo : lo ≤ a) (hhi : a < hi) (h : resetByRow a) : State.reset.reg a = 0 := by
  have hpresent : addrPresent State.reset.fuse a = true := by
    simp only [resetByRow] at h
    exact addrPresent_of_full rfl rfl rfl (by omega) (by omega)
  exact regReset_eq_zero hm hz hlo hhi hpresent (not_resetByFormula h)

/-- A field of a register that reads zero. -/
theorem State.rf_of_reg_zero {s : State} {a : Nat} (h : s.reg a = 0) (hi lo : Nat) : s.rf a hi lo = 0 := by
  simp [State.rf, h, fld]

/-- A descriptor, task table or header of a partition, its slot of translation entries apart. -/
theorem State.reg_reset_descriptor {a : Nat} (hlo : 0x300000 ≤ a) (hhi : a < 0x400000) (hslot : a % 0x800 ≠ 0x380) :
    State.reset.reg a = 0 :=
  State.reg_reset_eq_zero (lo := 0x300000) (hi := 0x400000) (rows := rowsPd) (by simp [regBlocks]) (by decide) hlo hhi
    (.inl ⟨hlo, hhi, hslot⟩)

/-- An ownership word below the Device pages. -/
theorem State.reg_reset_ownership {a : Nat} (hlo : 0x420000 ≤ a) (hhi : a < 0x436000) : State.reset.reg a = 0 :=
  State.reg_reset_eq_zero (lo := 0x400000) (hi := 0x500000) (rows := rowsTr) (by simp [regBlocks]) (by decide) (by omega) (by omega)
    (.inr (.inl ⟨by omega, hhi⟩))

/-- The decode table: its status and both banks. -/
theorem State.reg_reset_decodeTable {a : Nat} (hlo : 0x600000 ≤ a) (hhi : a < 0x640000) : State.reset.reg a = 0 :=
  State.reg_reset_eq_zero (lo := 0x600000) (hi := 0x640000) (rows := rowsDt) (by simp [regBlocks]) (by decide) hlo hhi
    (.inr (.inr ⟨by omega, by omega⟩))

/-- A register of a lane. -/
theorem State.reg_reset_lane {a : Nat} (hlo : 0xC00000 ≤ a) (hhi : a < 0xE00000) : State.reset.reg a = 0 :=
  State.reg_reset_eq_zero (lo := 0xC00000) (hi := 0xE00000) (rows := rowsLn) (by simp [regBlocks]) (by decide) hlo hhi
    (.inr (.inr ⟨by omega, hhi⟩))

/-- An ownership word of the Device pages of the data store (R168). -/
theorem State.reg_reset_device {a : Nat} (hlo : 0x436000 ≤ a) (hhi : a < 0x438000) : State.reset.reg a = 0x80000000 := by
  have hlegend : ¬a < 0x100 := by omega
  have hgazetteer : ¬(0x8000 ≤ a ∧ a < 0x8030) := by omega
  have hpresent : addrPresent State.reset.fuse a = true := addrPresent_of_full rfl rfl rfl (by omega) (by omega)
  have hslot : ¬(0x300000 ≤ a ∧ a < 0x400000 ∧ a % 0x800 = 0x380) := by omega
  exact (if_neg hlegend).trans ((if_neg hgazetteer).trans ((if_neg (ne_false_of_eq_true hpresent)).trans
    ((if_neg hslot).trans (if_pos ⟨hlo, hhi⟩))))

/-! ### The statements -/

/-- Settles O3: at reset the stores, the registers and the pending values list nothing. -/
theorem resetIsCanonical : Obligations.ResetIsCanonical := by
  unfold Obligations.ResetIsCanonical
  exact ⟨rfl, rfl, rfl⟩

/-- Settles O4: nothing has been written at reset, so that each register reads its reset value. `witness_ResetLeavesDocumentedValues`
meets the premises. The variant rests on log 1 of NOTES.md, a zero where the tables give no value on log 3, the zeroed stores on logs 127
and 189. -/
theorem resetLeavesDocumentedValues : Obligations.ResetLeavesDocumentedValues := by
  unfold Obligations.ResetLeavesDocumentedValues
  refine ⟨?stores, ?partitions, ?freePages, ?devicePages, ?freeProgram, ?freeData, ?freeImage, ?banks, ?activeBank, ?activeId, ?lanes,
    ?calendar, ?grant, ?queue⟩
  case stores => exact fun a => rfl
  case partitions =>
    intro p hp
    have haddr : aPD_MODE p = 0x300000 + 2048 * p := rfl
    exact State.rf_of_reg_zero (State.reg_reset_descriptor (by omega) (by omega) (by omega)) 2 0
  case freePages =>
    intro n hn
    have haddr : ownAddr 1 n = 0x428000 + 4 * n := rfl
    exact State.rf_of_reg_zero (State.reg_reset_ownership (by omega) (by omega)) 31 29
  case devicePages =>
    intro n hlo hhi
    have haddr : ownAddr 1 n = 0x428000 + 4 * n := rfl
    have hstate : fld 0x80000000 31 29 = pgDevice := by decide
    rw [State.pgState, State.rf, State.reg_reset_device (by omega) (by omega), hstate]
  case freeProgram => rfl
  case freeData => rfl
  case freeImage => rfl
  case banks =>
    intro b hb e he
    refine List.eq_replicate_iff.mpr ⟨by simp [State.dtEntry], fun w hw => ?_⟩
    obtain ⟨i, hi, rfl⟩ := List.mem_map.mp hw
    have hword : i < 64 := List.mem_range.mp hi
    have haddr : aENT_HDR b e = 0x610000 + 65536 * b + 256 * e := rfl
    exact State.reg_reset_decodeTable (by omega) (by omega)
  case activeBank => exact State.rf_of_reg_zero (State.reg_reset_decodeTable (by decide) (by decide)) 0 0
  case activeId => exact State.reg_reset_decodeTable (by decide) (by decide)
  case lanes =>
    intro n hn
    have haddr : aLN_MODE n = 0xC00010 + 16384 * n := rfl
    exact State.rf_of_reg_zero (State.reg_reset_lane (by omega) (by omega)) 3 0
  case calendar => rfl
  case grant => rfl
  case queue => rfl

end Sys2Proof.Machine
end

section
/-!
PROOFS. Lanes and ports (spec/07 R196 to R200, R203), frames received, delivered and sent (R202 to R205, R220), held slot writes (R227) and
window timeouts (R224).
-/
namespace Sys2Proof.Machine

/-! ### Lanes (R20, R196, R199) -/

theorem exec_lnModeWrite {s : State} {src : BitVec 10} {lane : BitVec 7} (d : W) (hhost : isVf src.toNat = false)
    (hpresent : lane.toNat < s.fuse.lanes) : exec (.lnModeWrite src lane d) s =
      .next (if 4 ≤ fld d 15 12 then s.refuse src.toNat (if src = 0x3FE then 3 else 0) (aLN_MODE lane.toNat) 0x0A
        else if s.rb (aLN_BSTAT lane.toNat) 1 then s.refuse src.toNat (if src = 0x3FE then 3 else 0) (aLN_MODE lane.toNat) 3
        else if s.rb (aLN_BSTAT lane.toNat) 0 then s.refuse src.toNat (if src = 0x3FE then 3 else 0) (aLN_MODE lane.toNat) 2
        else (s.applyLnMode lane.toNat d).setRf (aLN_BSTAT lane.toNat) 0 0 1) :=
  congrArg _ (if_neg (not_or.mpr ⟨of_decide_eq_false hhost, Nat.not_le.mpr hpresent⟩))

/-- Lane `n` is present and reachable, its mode gives it a rate, and no test runs on it. -/
structure State.LaneRuns (s : State) (n : Nat) : Prop where
  present : n < s.fuse.lanes
  on : 1 ≤ s.laneMode n
  rated : s.laneMode n ≤ 9
  untested : s.rf (aLN_MODE n) 15 12 = 0
  reachable : s.rb (aLN_BSTAT n) 1 = false

theorem State.LaneRuns.not_stands {s : State} {n : Nat} (h : s.LaneRuns n) :
    ¬(s.laneMode n = 0 ∨ 10 ≤ s.laneMode n ∨ s.rf (aLN_MODE n) 15 12 ≠ 0 ∨ s.rb (aLN_BSTAT n) 1 = true) := by
  rintro (hoff | hnone | htest | hunreach)
  · exact absurd hoff (Nat.ne_of_gt h.on)
  · exact absurd hnone (Nat.not_le.mpr (Nat.lt_succ_of_le h.rated))
  · exact htest h.untested
  · exact absurd hunreach (ne_true_of_eq_false h.reachable)

/-- A lane that completes training holds PLL, CDR and ALIGN, and its port, where it belongs to one, is looked at. -/
theorem exec_laneLinkUp_of_runs {s s1 : State} {lane : BitVec 7} (hs1 : s.setLane lane.toNat 7 0 false = s1)
    (hruns : s.LaneRuns lane.toNat) : exec (.laneLinkUp lane) s = .next ((s1.portOf lane.toNat).elim s1 s1.portLook) := by
  subst hs1
  refine congrArg _ ((if_neg (not_or.mpr ⟨Nat.not_le.mpr hruns.present, hruns.not_stands⟩)).trans ?_)
  dsimp only
  cases (s.setLane lane.toNat 7 0 false).portOf lane.toNat with
  | none => rfl
  | some p => rfl

theorem exec_laneSignalLoss_of_runs {s : State} {lane : BitVec 7} {c : BitVec 8} (hlow : 3 ≤ c.toNat) (hhigh : c.toNat ≤ 5)
    (hruns : s.LaneRuns lane.toNat) : exec (.laneSignalLoss lane c) s =
      .next ((s.setLane lane.toNat (if c = 3 then 1 else 3) c.toNat false).laneFails lane.toNat 0x0B) :=
  congrArg _ (if_neg (not_or.mpr ⟨Nat.not_le.mpr hruns.present, not_or.mpr ⟨not_not_intro ⟨hlow, hhigh⟩, hruns.not_stands⟩⟩))

section
variable {s s1 : State} {lane : BitVec 7} (hs1 : s.setLane lane.toNat 0 2 false = s1) (hpresent : lane.toNat < s.fuse.lanes)
  (hlocked : s.rf (aLN_STAT lane.toNat) 0 0 ≠ 0)
include hs1 hpresent hlocked

/-- A lane whose PLL loses lock fails the port that is up on it. -/
theorem exec_lanePllLoss_of_port {p : Nat} (hport : s1.portOf lane.toNat = some p) (hup : s1.portUp p = true) :
    exec (.lanePllLoss lane) s = .next (s1.laneFails lane.toNat 0x06) := by
  subst hs1
  refine congrArg _ ((if_neg (not_or.mpr ⟨Nat.not_le.mpr hpresent, hlocked⟩)).trans ?_)
  simp only [hport, if_pos hup]

/-- A lane of no port only reports the contained fault. -/
theorem exec_lanePllLoss_of_no_port (hport : s1.portOf lane.toNat = none) :
    exec (.lanePllLoss lane) s = .next (s1.collect (48 + lane.toNat / 8) cContained 0x06 lane.toNat) := by
  subst hs1
  refine congrArg _ ((if_neg (not_or.mpr ⟨Nat.not_le.mpr hpresent, hlocked⟩)).trans ?_)
  simp only [hport]

end

/-! ### Ports (R200, R203) -/

section
variable {s : State} {port : BitVec 7} (hreform : (s.port port.toNat).reform = true)
include hreform

theorem exec_portReform_of_set {c n : Nat} (hset : s.healthySet port.toNat = some (c, n)) : exec (.portReform port) s =
    .next (((s.setPort port.toNat Port.zero).carryOn port.toNat n (widthOf c)).setReg (aSW_PORT_STAT port.toNat)
      (BitVec.ofNat 32 (c * 4 + 1))) := by
  refine congrArg _ ((if_pos hreform).trans ?_)
  simp only [hset]

theorem exec_portReform_of_no_set (hset : s.healthySet port.toNat = none) :
    exec (.portReform port) s = .next (s.portDown port.toNat port.toNat 0x0B) := by
  refine congrArg _ ((if_pos hreform).trans ?_)
  simp only [hset]

end

theorem exec_preemptVerified_runs {s : State} {port : BitVec 7} (hup : s.portUp port.toNat = true)
    (hconf : s.configured port.toNat = true) (hpreempt : s.rb (aSW_PORT_CFG port.toNat) 28 = true) :
    exec (.preemptVerified port) s = .next (s.setRf (aSW_PORT_STAT port.toNat) 1 1 1) :=
  congrArg _ (if_pos (by simp only [hup, hconf, hpreempt, Bool.and_self]))

/-! ### The header of a received frame (R197, R220, R221) -/

/-- Port `p` is configured and carries frames, and the switch is not off. -/
structure State.Receives (s : State) (p : Nat) : Prop where
  configured : s.configured p = true
  carries : s.carries p = true
  on : s.switchOff = false

theorem exec_frameHeaderReceived_of_receives {s u : State} {port : BitVec 7} {dt : Nat} (head : List Byte) (hu : s.elapse dt = u)
    (hrecv : u.Receives port.toNat) : exec (.frameHeaderReceived port head dt) s = .next (u.headerIn port.toNat head) := by
  subst hu
  exact congrArg _ (if_pos (by simp only [hrecv.configured, hrecv.carries, hrecv.on, Bool.not_false, Bool.and_self]))

theorem State.headerIn_macControl {s : State} {p : Nat} {head : List Byte} (hmac : etherType head = 0x8808) :
    s.headerIn p head = (s.count aSW_CNT_BADHDR).setRx p (some (Rx.plain head true)) :=
  if_pos hmac

section
variable {s : State} {p : Nat} {head : List Byte} (hmac : etherType head ≠ 0x8808)
  (hsync : (s.member && s.syncPorts.contains p) = false)
include hmac hsync

/-- Away from the sync ports of a pair the EtherType of the switch marks the span frames. -/
theorem State.headerIn_span (hspan : etherType head = s.rf aSW_ETYPE 15 0) : s.headerIn p head = s.spanHeaderIn p head :=
  (if_neg hmac).trans ((if_neg (ne_true_of_eq_false hsync)).trans (if_pos hspan))

/-- Every other frame follows its VLAN entry. -/
theorem State.headerIn_vlan (hspan : etherType head ≠ s.rf aSW_ETYPE 15 0) :
    s.headerIn p head = (s.forwardVlan p head).1.setRx p (some (Rx.plain head (s.forwardVlan p head).2)) :=
  (if_neg hmac).trans ((if_neg (ne_true_of_eq_false hsync)).trans (if_neg hspan))

end

/-- A header of the known version whose type belongs to a stream: any but MERIDIAN. -/
structure SpanHdr.Streamed (h : SpanHdr) : Prop where
  version : h.ver = 1
  low : 1 ≤ h.ty
  high : h.ty ≤ 4
  stream : h.ty ≠ 3

theorem SpanHdr.Streamed.not_bad {h : SpanHdr} (hs : h.Streamed) : ¬(h.ver ≠ 1 ∨ ¬(1 ≤ h.ty ∧ h.ty ≤ 4)) :=
  not_or.mpr ⟨not_not_intro hs.version, not_not_intro ⟨hs.low, hs.high⟩⟩

section
variable {s : State} {p : Nat} {head : List Byte} {h : SpanHdr} (hh : SpanHdr.of (head.drop (headerAt head)) = h) (hs : h.Streamed)
include hh hs

/-- A frame of no entry of the stream table is counted and dropped. -/
theorem State.spanHeaderIn_of_no_stream (hfind : s.findStream h.stream = none) : s.spanHeaderIn p head =
    (s.count aSW_CNT_NOSTREAM).setRx p (some { Rx.plain head true with span := true, ty := h.ty }) := by
  subst hh
  refine (if_neg hs.not_bad).trans ((if_neg hs.stream).trans ?_)
  simp only [hfind]
  rfl

/-- A frame within its stream's policer is forwarded, and the port keeps it with its stream entry and fence as they stand. -/
theorem State.spanHeaderIn_of_conforms {i : Nat} (hfind : s.findStream h.stream = some i) (hconf : s.conforms i = true) :
    s.spanHeaderIn p head = (s.forwardSpan p i h (head.drop (headerAt head + 16))).setRx p
      (some { Rx.plain head false with
        span := true, ty := h.ty, stream := i, w0 := s.reg (aSW_ST0 i), w5 := s.reg (aSW_ST5 i), w6 := s.reg (aSW_ST6 i),
        f0 := s.reg (aSW_FENCE0 (s.rf (aSW_ST0 i) 5 0)), f1 := s.reg (aSW_FENCE1 (s.rf (aSW_ST0 i) 5 0)) }) := by
  subst hh
  refine (if_neg hs.not_bad).trans ((if_neg hs.stream).trans ?_)
  simp only [hfind]
  exact if_neg (ne_false_of_eq_true hconf)

end

/-! ### The end of a received frame (R219, R220, R228, R230) -/

theorem exec_frameEndReceived_of_rx {s u : State} {port : BitVec 7} {dt : Nat} {r : Rx} (tail : List Byte) (ahead : Nat)
    (hu : s.elapse dt = u) (hrx : u.rxOf port.toNat = some r) (hclk : u.clkStop = false) :
    exec (.frameEndReceived port tail ahead dt) s = .next (u.endIn port.toNat r tail ahead) := by
  subst hu
  have hexec : exec (.frameEndReceived port tail ahead dt) s = execFrameEndReceived port tail ahead dt s := rfl
  simp only [hexec, execFrameEndReceived, hrx, if_neg (ne_true_of_eq_false hclk)]

theorem State.endIn_of_drop {s : State} {p ahead : Nat} {r : Rx} {tail : List Byte} (hdrop : r.drop = true) :
    s.endIn p r tail ahead = s.setRx p none :=
  if_pos hdrop

/-- The end of a kept frame of a stream: its copies are finished, a frame whose entry is still the same is debited, and the check sequence
decides between the local steps and STOMP. -/
theorem State.endIn_of_stream {s e k : State} {p ahead : Nat} {r : Rx} {tail whole body : List Byte} (hwhole : r.head ++ tail = whole)
    (hbody : whole.take (whole.length - 4) = body)
    (he : (s.setRx p none).finishCopies p (tail.take (tail.length - 4)) (decide (fcsOf body false = whole.drop (whole.length - 4))) = e)
    (hk : (if r.late then e else e.debit r.stream whole.length) = k) (hdrop : r.drop = false) (hspan : r.span = true) (hty : r.ty ≠ 3) :
    s.endIn p r tail ahead = if fcsOf body false = whole.drop (whole.length - 4) then
        k.localSteps r (SpanHdr.of (r.head.drop r.hdrAt)) (body.drop (r.hdrAt + 16)) ahead
      else k.count aSW_CNT_STOMP := by
  have hdebit : (if r.span = true ∧ r.ty ≠ 3 ∧ r.late = false then e.debit r.stream whole.length else e) = k := by
    rw [← hk]
    cases hlate : r.late with
    | true => rw [if_neg fun ⟨_, _, hsame⟩ => Bool.noConfusion hsame, if_pos rfl]
    | false => rw [if_pos ⟨hspan, hty, rfl⟩, if_neg Bool.false_ne_true]
  subst hwhole hbody
  simp only [State.endIn, if_neg (ne_true_of_eq_false hdrop), he, hdebit, decide_eq_false_iff_not, if_pos (And.intro hspan hty), ite_not]

/-! ### Transmission (R202 to R205) -/

/-- Port `p` carries frames and has none on the wire or waiting to resume. -/
structure State.PortFree (s : State) (p : Nat) : Prop where
  carries : s.carries p = true
  noExpress : (s.port p).expEnd ≤ s.fab
  noCut : (s.port p).cut = none
  on : s.switchOff = false
  noSuspended : (s.port p).susp = none
  noBulk : (s.port p).blkEnd ≤ s.fab

theorem exec_portTransmit (port : BitVec 7) (dt : Nat) (s : State) :
    exec (.portTransmit port dt) s = .next ((s.elapse dt).transmit port.toNat) := rfl

/-- A free port starts the first frame of the next queue, where there is one. -/
theorem State.transmit_of_free {s : State} {p : Nat} (h : s.PortFree p) : s.transmit p = (s.nextQueue p).elim s (s.startFrame p) := by
  have hgo : ¬(s.carries p = false ∨ s.fab < (s.port p).expEnd ∨ (s.port p).cut.isSome = true ∨ s.switchOff = true) := by
    simp only [h.carries, h.noCut, h.on, Nat.not_lt.mpr h.noExpress, Option.isSome_none, Bool.true_eq_false, Bool.false_eq_true, or_self,
      not_false_eq_true]
  have hidle : ¬(s.fab < (s.port p).blkEnd ∨ (s.port p).susp.isSome = true) := by
    simp only [h.noSuspended, Nat.not_lt.mpr h.noBulk, Option.isSome_none, Bool.false_eq_true, or_self, not_false_eq_true]
  refine (if_neg hgo).trans ?_
  cases s.nextQueue p with
  | none => rfl
  | some q => exact if_neg hidle

section
variable {s u : State} {port : BitVec 7} {dt : Nat} (hu : s.elapse dt = u) (hactive : u.rb (aSW_PORT_STAT port.toNat) 1 = true)
include hu hactive

/-- With active preemption, a bulk frame that waits resumes when its gate opens. -/
theorem exec_gateEntryChange_resumes {r : Nat} (hsusp : (u.port port.toNat).susp = some r)
    (hopen : u.gateOpen port.toNat (u.port port.toNat).blkCls = true) : exec (.gateEntryChange port dt) s =
      .next (u.setPort port.toNat
        { u.port port.toNat with susp := none, blkEnd := max u.fab (u.port port.toNat).expEnd + r }) := by
  subst hu
  refine congrArg _ ((if_neg (ne_false_of_eq_true hactive)).trans ?_)
  simp only [hsusp]
  exact if_pos hopen

/-- With active preemption, a bulk frame on the wire waits when its gate closes. -/
theorem exec_gateEntryChange_suspends (hsusp : (u.port port.toNat).susp = none) (hwire : u.fab < (u.port port.toNat).blkEnd)
    (hclosed : u.gateOpen port.toNat (u.port port.toNat).blkCls = false) : exec (.gateEntryChange port dt) s =
      .next (u.setPort port.toNat { u.port port.toNat with susp := some ((u.port port.toNat).blkEnd - u.fab), blkEnd := u.fab }) := by
  subst hu
  refine congrArg _ ((if_neg (ne_false_of_eq_true hactive)).trans ?_)
  simp only [hsusp]
  exact if_pos ⟨hwire, hclosed⟩

end

/-! ### Held slot writes and window timeouts (R224, R227) -/

/-- A block that waits is written once no reader holds the other buffer of its slot. -/
theorem exec_heldSlotWrite_of_free {s u : State} {n : BitVec 14} {dt : Nat} {b : Block} (hu : s.elapse dt = u)
    (hwait : FMap.get (fun _ => none) u.slotWait n.toNat = some b)
    (hfree : u.slotHeld n.toNat (1 - u.slotCur n.toNat) = false) : exec (.heldSlotWrite n dt) s = .next (u.switchSlot n.toNat b) := by
  subst hu
  have hexec : exec (.heldSlotWrite n dt) s = execHeldSlotWrite n dt s := rfl
  simp only [hexec, execHeldSlotWrite, hwait, if_neg (ne_true_of_eq_false hfree)]

/-! ### The statement -/

/-- Settles O47: each event of a lane or a port meets its guard, and a frame takes the branches of `State.headerIn`, `State.endIn` and
`State.transmit`. `witness_PortsAndFramesResult` meets the premises. That `LN_MODE` acts at once and a TEST from 4 on is
refused rests on log 158 of NOTES.md, how a port goes down on log 31, the causes a lane shows on log 32, that every frame of EtherType
0x8808 is dropped on log 192, the header of a forwarded copy on log 35, how copies end on log 37, that the bodies of LEASE and MIRROR frames
are commands of their own on log 40, the entries as they stood and the blocks that reach their slots at once on log 193, when a frame leaves
its queue on log 29. -/
theorem portsAndFramesResult : Obligations.PortsAndFramesResult := by
  unfold Obligations.PortsAndFramesResult
  refine ⟨?modeTaken, ?testRefused, ?linkUp, ?signalLoss, ?pllLoss, ?reforms, ?verified, ?macControl, ?spanKept, ?spanUnknown, ?vlan,
    ?endDropped, ?endStream, ?transmits, ?gateChanges, ?slotWritten, ?windowTimeout⟩
  case modeTaken =>
    intro s lane src d n hhost hpresent htest hreach hidle
    rw [exec_lnModeWrite d hhost hpresent, if_neg (Nat.not_le.mpr htest), if_neg (ne_true_of_eq_false hreach),
      if_neg (ne_true_of_eq_false hidle)]
  case testRefused =>
    intro s lane src d n hhost hpresent htest
    rw [exec_lnModeWrite d hhost hpresent, if_pos htest]
  case linkUp =>
    intro s lane n s1 hpresent hon hrated htest hreach
    rw [exec_laneLinkUp_of_runs rfl ⟨hpresent, hon, hrated, htest, hreach⟩]
    exact ⟨fun p hport => by rw [hport, Option.elim_some], fun hport => by rw [hport, Option.elim_none]⟩
  case signalLoss =>
    intro s lane c n hpresent hlow hhigh hon hrated htest hreach
    exact exec_laneSignalLoss_of_runs hlow hhigh ⟨hpresent, hon, hrated, htest, hreach⟩
  case pllLoss =>
    intro s lane n s1 hpresent hlocked
    exact ⟨fun p => exec_lanePllLoss_of_port rfl hpresent hlocked, exec_lanePllLoss_of_no_port rfl hpresent hlocked⟩
  case reforms =>
    intro s port p hreform
    exact ⟨fun c n => exec_portReform_of_set hreform, exec_portReform_of_no_set hreform⟩
  case verified => exact fun s port => exec_preemptVerified_runs
  case macControl =>
    intro s port dt head u p hconf hcarries hon hmac
    rw [exec_frameHeaderReceived_of_receives head rfl ⟨hconf, hcarries, hon⟩, State.headerIn_macControl hmac]
  case spanKept =>
    intro s port dt head i u p h hconf hcarries hon hmac hsync hspan hver hlow hhigh hstreamed hfind hpolicer
    rw [exec_frameHeaderReceived_of_receives head rfl ⟨hconf, hcarries, hon⟩, State.headerIn_span hmac hsync hspan,
      State.spanHeaderIn_of_conforms rfl ⟨hver, hlow, hhigh, hstreamed⟩ hfind hpolicer]
  case spanUnknown =>
    intro s port dt head u p h hconf hcarries hon hmac hsync hspan hver hty hfind
    have hstreamed : h.Streamed := ⟨hver, by omega, by omega, by omega⟩
    rw [exec_frameHeaderReceived_of_receives head rfl ⟨hconf, hcarries, hon⟩, State.headerIn_span hmac hsync hspan,
      State.spanHeaderIn_of_no_stream rfl hstreamed hfind]
  case vlan =>
    intro s port dt head u p hconf hcarries hon hmac hsync hspan
    rw [exec_frameHeaderReceived_of_receives head rfl ⟨hconf, hcarries, hon⟩, State.headerIn_vlan hmac hsync hspan]
  case endDropped =>
    intro s port tail ahead dt r u p hrx hclk hdrop
    rw [exec_frameEndReceived_of_rx tail ahead rfl hrx hclk, State.endIn_of_drop hdrop]
  case endStream =>
    intro s port tail ahead dt r u p whole body e k hrx hclk hdrop hspan hty
    rw [exec_frameEndReceived_of_rx tail ahead rfl hrx hclk, State.endIn_of_stream rfl rfl rfl rfl hdrop hspan hty]
    exact ⟨fun hgood => congrArg _ (if_pos hgood), fun hbad => congrArg _ (if_neg hbad)⟩
  case transmits =>
    intro s port dt u p hcarries hexpress hcut hon hsusp hbulk
    rw [exec_portTransmit, State.transmit_of_free ⟨hcarries, hexpress, hcut, hon, hsusp, hbulk⟩]
    exact ⟨fun hnone => by rw [hnone, Option.elim_none], fun q hq => by rw [hq, Option.elim_some]⟩
  case gateChanges =>
    intro s port dt u p t hactive
    exact ⟨fun r => exec_gateEntryChange_resumes rfl hactive, exec_gateEntryChange_suspends rfl hactive⟩
  case slotWritten =>
    intro s dt n b u
    exact exec_heldSlotWrite_of_free rfl
  case windowTimeout =>
    intro s dt i u htimed hopen hsilent
    exact congrArg _ (if_pos ⟨htimed, hopen, hsilent⟩)

end Sys2Proof.Machine
end

section
/-!
PROOFS. Leases and witnesses (spec/08 R241 to R252): what a witness answers, and how a member renews, claims, backs off and lapses.
-/
namespace Sys2Proof.Machine

/-! ### A frame at a witness (R246, R247) -/

/-- The clocks run, and entry `k` is the one that serves `pair` (R19, R246). -/
structure State.WitRuns (s : State) (pair k : Nat) : Prop where
  clocks : s.clkStop = false
  entry : s.witEntry pair = some k

/-- Entry `k` serves `pair`, it is not quiet, and `len` is a lease length that it grants (R247). -/
structure State.WitServes (s : State) (pair len k : Nat) : Prop extends s.WitRuns pair k where
  awake : s.rb (aWT_2 k) 29 = false
  shortest : 200 ≤ len
  longest : len ≤ 2000

section
variable {s : State} {pair len k : Nat} (m : Bool) (rnum : Nat) (op : State → Nat → State)

/-- An entry that serves the pair looks at its quiet time and at LEN before the operation. -/
theorem State.witness_of_runs (h : s.WitRuns pair k) : s.witness m pair rnum len op =
    if s.rb (aWT_2 k) 29 then s.witSend k 4 m 3 rnum len
    else if ¬(200 ≤ len ∧ len ≤ 2000) then s.witSend k 4 m 4 rnum len
    else op s k := by
  simp only [State.witness, if_neg (ne_true_of_eq_false h.clocks), h.entry]

theorem State.witness_of_quiet (h : s.WitRuns pair k) (hquiet : s.rb (aWT_2 k) 29 = true) :
    s.witness m pair rnum len op = s.witSend k 4 m 3 rnum len :=
  (State.witness_of_runs m rnum op h).trans (if_pos hquiet)

theorem State.witness_of_serves (h : s.WitServes pair len k) : s.witness m pair rnum len op = op s k :=
  (State.witness_of_runs m rnum op h.toWitRuns).trans
    ((if_neg (ne_true_of_eq_false h.awake)).trans (if_neg (not_not_intro ⟨h.shortest, h.longest⟩)))

end

section
variable {s u : State} {pair len : BitVec 16} {dt k : Nat} (m : Bool) (epoch rnum : BitVec 16) (hu : s.elapse dt = u)
include hu

/-- A quiet entry answers every operation alike. -/
theorem exec_witness_of_quiet {c : Instr} (h : u.WitRuns pair.toNat k) (hquiet : u.rb (aWT_2 k) 29 = true)
    (hc : c ∈ [Instr.witnessRequest m pair epoch rnum len dt, .witnessClaim m pair epoch rnum len dt,
      .witnessRelease m pair epoch rnum len dt]) : exec c s = .next (u.witSend k 4 m 3 rnum.toNat len.toNat) := by
  subst hu
  have hop : ∃ op, exec c s = .next ((s.elapse dt).witness m pair.toNat rnum.toNat len.toNat op) := by
    simp only [List.mem_cons, List.not_mem_nil, or_false] at hc
    rcases hc with rfl | rfl | rfl
    all_goals exact ⟨_, rfl⟩
  obtain ⟨op, hop⟩ := hop
  rw [hop, State.witness_of_quiet m rnum.toNat op h hquiet]

variable (h : u.WitServes pair.toNat len.toNat k)
include h

theorem exec_witnessRequest_of_serves : exec (.witnessRequest m pair epoch rnum len dt) s = .next
    (if u.witHolder k = some m ∧ u.rf (aWT_2 k) 15 0 = epoch.toNat then
      (u.witSet k m epoch.toNat len.toNat).witSend k 3 m 0 rnum.toNat len.toNat
     else u.witSend k 4 m 1 rnum.toNat len.toNat) := by
  subst hu
  exact congrArg _ (State.witness_of_serves m rnum.toNat _ h)

theorem exec_witnessClaim_of_serves : exec (.witnessClaim m pair epoch rnum len dt) s = .next
    (if newer epoch.toNat (u.witHigh k) = false then u.witSend k 4 m 2 rnum.toNat len.toNat
     else if u.witHolder k = none ∨ u.witHolder k = some m ∨ u.witExpiry k + 40000 ≤ u.fab then
      ((u.setWitHigh k epoch.toNat).witSet k m epoch.toNat len.toNat).witSend k 3 m 0 rnum.toNat len.toNat
     else u.witSend k 4 m 1 rnum.toNat len.toNat) := by
  subst hu
  exact congrArg _ (State.witness_of_serves m rnum.toNat _ h)

theorem exec_witnessRelease_of_serves : exec (.witnessRelease m pair epoch rnum len dt) s = .next
    (if u.witHolder k = some m ∧ u.rf (aWT_2 k) 15 0 = epoch.toNat then u.setRf (aWT_2 k) 31 31 0 else u) := by
  subst hu
  exact congrArg _ (State.witness_of_serves m rnum.toNat _ h)

theorem exec_witnessHandover_of_serves (succ : Bool) {e : Nat} (he : (epoch.toNat + 1) % 65536 = e) :
    exec (.witnessHandover m succ pair epoch rnum len dt) s = .next
      (if u.witHolder k = some m ∧ u.rf (aWT_2 k) 15 0 = epoch.toNat ∧ newer e (u.witHigh k) then
        ((u.setWitHigh k e).witSet k succ e len.toNat).witSend k 3 succ 0 0 len.toNat
       else u) := by
  subst hu he
  exact congrArg _ (State.witness_of_serves m rnum.toNat _ h)

end

/-- Within 50 µs of its expiry the grant of the other member still stands in the way of a CLAIM (R246). -/
theorem State.not_claimable_of_held {s : State} {m : Bool} {k : Nat} (hheld : s.witHolder k = some (!m))
    (hexpiry : s.fab < s.witExpiry k + 40000) :
    ¬(s.witHolder k = none ∨ s.witHolder k = some m ∨ s.witExpiry k + 40000 ≤ s.fab) := by
  have hother : (!m) ≠ m := fun hsame => (Bool.eq_not_self m).mp hsame.symm
  rw [hheld]
  exact not_or.mpr ⟨Option.some_ne_none _, not_or.mpr ⟨fun hsame => hother (Option.some.inj hsame), Nat.not_le.mpr hexpiry⟩⟩

/-! ### Claims of a member (R249) -/

section
variable {s u : State} {dt : Nat} (hu : s.elapse dt = u)
include hu

/-- A member in WAIT that may claim begins a round. -/
theorem exec_claim_begins (hruns : u.ruRuns = true) (hrole : u.ruRole = 1) (hmay : u.mayClaim = true) :
    exec (.claim dt) s = .next ((u.setRole 2).startClaim) := by
  subst hu
  exact congrArg _ ((if_neg (ne_false_of_eq_true hruns)).trans (if_pos ⟨hrole, hmay⟩))

/-- While DENY 0x1 comes in, the claim of the round is repeated. -/
theorem exec_claimRetry_repeats {e : Nat} (hrole : u.ruRole = 2) (hretry : u.ru.retry = true) (hclaim : u.ru.claim = some e) :
    exec (.claimRetry dt) s = .next (u.sendLease 2 e false 0) := by
  subst hu
  refine congrArg _ ((if_pos ⟨hrole, hretry⟩).trans ?_)
  simp only [hclaim]

/-- A round that 50 µs after its first GRANT has no majority is given up. -/
theorem exec_claimRoundTimeout_gives_up {f e : Nat} {s1 : State} (hfirst : u.ru.firstG = some f) (hclaim : u.ru.claim = some e)
    (hrole : u.ruRole = 2) (hlate : f + 40000 ≤ u.fab) (hs1 : u.sendLease 5 e false 0 = s1) :
    exec (.claimRoundTimeout dt) s = .next
      (({ s1 with ru := { s1.ru with claim := none, retry := false, firstG := none, ownG := []
                                     backoff := s1.fab + (if s1.isMember1 then 48000 else 16000) } }.count aRU_CNT_CLAIM).ruEvent 2) := by
  subst hu hs1
  have hexec : exec (.claimRoundTimeout dt) s = execClaimRoundTimeout dt s := rfl
  simp only [hexec, execClaimRoundTimeout, hfirst, hclaim]
  exact congrArg _ (if_pos ⟨hrole, hlate⟩)

/-! ### GRANT and DENY (R244, R245, R248, R249; log 66) -/

variable {w : BitVec 3} {pair : BitVec 16} (hwit : u.fromWitness w.toNat pair.toNat = true)
include hwit

theorem exec_grant_of_witness (m : Bool) (epoch rnum high : BitVec 16) : exec (.grant w m pair epoch rnum high dt) s = .next
    (if m = u.isMember1 then ((u.ownGrant w.toNat epoch.toNat rnum.toNat).noteEpoch epoch.toNat).noteEpoch high.toNat
     else ((u.noteEpoch epoch.toNat).noteEpoch high.toNat).peerGrant w.toNat) := by
  subst hu
  exact congrArg _ (if_pos hwit)

/-- A DENY for this member while a claim of its own is open acts by its reason. -/
theorem exec_deny_of_claim {m : Bool} (reason : BitVec 4) {epoch high : BitVec 16} {k : State}
    (hk : (u.noteEpoch epoch.toNat).noteEpoch high.toNat = k) (hown : m = k.isMember1) (hrole : k.ruRole = 2)
    (hopen : k.ru.claim.isSome = true) : exec (.deny w m reason pair epoch high dt) s = .next
      (if reason = 1 then { k with ru := { k.ru with retry := true } }
       else if reason = 2 then
        { k with ru := { k.ru with claim := some ((high.toNat + 1) % 65536), retry := false, firstG := none, ownG := [] } }.sendLease 2
          ((high.toNat + 1) % 65536) false 0
       else k) := by
  subst hu hk
  exact congrArg _ ((if_pos hwit).trans (if_pos ⟨hown, hrole, hopen⟩))

end

/-! ### The statement -/

/-- Settles O49: a frame at a witness passes `State.witness_of_runs` before its operation, and each event of a member meets its guard.
`witness_LeasesAndWitnessesResult` meets the premises. That nothing acts with the clocks stopped rests on log 132 of NOTES.md, the quiet
time and LEN before RELEASE and HANDOVER too on log 71, HIGH after a RELEASE on log 72, unsolicited grants on log 66, the epochs taken from
GRANT and DENY on log 64. -/
theorem leasesAndWitnessesResult : Obligations.LeasesAndWitnessesResult := by
  unfold Obligations.LeasesAndWitnessesResult
  refine ⟨?renewed, ?notHolder, ?claimed, ?oldEpoch, ?held, ?released, ?handedOver, ?quiet, ?quietEnds, ?renewal, ?expiry, ?peerLapse,
    ?claims, ?retries, ?givesUp, ?grant, ?deny⟩
  case renewed =>
    intro s m pair epoch rnum len dt k u hclk hentry hawake hmin hmax hholder hepoch
    rw [exec_witnessRequest_of_serves m epoch rnum rfl ⟨⟨hclk, hentry⟩, hawake, hmin, hmax⟩, if_pos ⟨hholder, hepoch⟩]
  case notHolder =>
    intro s m pair epoch rnum len dt k u hclk hentry hawake hmin hmax hholder
    rw [exec_witnessRequest_of_serves m epoch rnum rfl ⟨⟨hclk, hentry⟩, hawake, hmin, hmax⟩, if_neg fun ⟨h, _⟩ => hholder h]
  case claimed =>
    intro s m pair epoch rnum len dt k u hclk hentry hawake hmin hmax hnewer hfree
    rw [exec_witnessClaim_of_serves m epoch rnum rfl ⟨⟨hclk, hentry⟩, hawake, hmin, hmax⟩, if_neg (ne_false_of_eq_true hnewer),
      if_pos hfree]
  case oldEpoch =>
    intro s m pair epoch rnum len dt k u hclk hentry hawake hmin hmax hold
    rw [exec_witnessClaim_of_serves m epoch rnum rfl ⟨⟨hclk, hentry⟩, hawake, hmin, hmax⟩, if_pos hold]
  case held =>
    intro s m pair epoch rnum len dt k u hclk hentry hawake hmin hmax hnewer hheld hexpiry
    rw [exec_witnessClaim_of_serves m epoch rnum rfl ⟨⟨hclk, hentry⟩, hawake, hmin, hmax⟩, if_neg (ne_false_of_eq_true hnewer),
      if_neg (State.not_claimable_of_held hheld hexpiry)]
  case released =>
    intro s m pair epoch rnum len dt k u hclk hentry hawake hmin hmax hholder hepoch
    rw [exec_witnessRelease_of_serves m epoch rnum rfl ⟨⟨hclk, hentry⟩, hawake, hmin, hmax⟩, if_pos ⟨hholder, hepoch⟩]
  case handedOver =>
    intro s m pair epoch rnum len dt k succ u e hclk hentry hawake hmin hmax hholder hepoch hnewer
    rw [exec_witnessHandover_of_serves m epoch rnum rfl ⟨⟨hclk, hentry⟩, hawake, hmin, hmax⟩ succ rfl,
      if_pos ⟨hholder, hepoch, hnewer⟩]
  case quiet =>
    intro s m pair epoch rnum len dt k u hclk hentry hquiet c hc
    exact exec_witness_of_quiet m epoch rnum rfl ⟨hclk, hentry⟩ hquiet hc
  case quietEnds =>
    intro s dt k u hquiet hover
    exact congrArg _ (if_pos ⟨hquiet, hover⟩)
  case renewal =>
    intro s dt u hruns hrole
    have hactive : (u.ruRuns && u.ruRole == 3) = true := by simp only [hruns, hrole, beq_self_eq_true, Bool.and_self]
    exact congrArg _ (if_pos hactive)
  case expiry =>
    intro s dt u hrole hlapsed hclk
    exact congrArg _ (if_pos ⟨hrole, hlapsed, hclk⟩)
  case peerLapse =>
    intro s dt u hrole hlapsed hswap hclk
    exact congrArg _ (if_pos ⟨hrole, hlapsed, hswap, hclk⟩)
  case claims =>
    intro s dt u
    exact exec_claim_begins rfl
  case retries =>
    intro s dt e u
    exact exec_claimRetry_repeats rfl
  case givesUp =>
    intro s dt f e u hfirst hclaim hrole hlate s1
    exact exec_claimRoundTimeout_gives_up rfl hfirst hclaim hrole hlate rfl
  case grant =>
    intro s dt w m pair epoch rnum high u hwit
    rw [exec_grant_of_witness rfl hwit]
    exact ⟨fun hown => congrArg _ (if_pos hown), fun hpeer => congrArg _ (if_neg hpeer)⟩
  case deny =>
    intro s dt w m reason pair epoch high u k hwit hown hrole hopen
    rw [exec_deny_of_claim rfl hwit reason rfl hown hrole hopen]
    exact ⟨fun hheld => congrArg _ (if_pos hheld),
      fun hold => congrArg _ ((if_neg (by rw [hold]; decide)).trans (if_pos hold)),
      fun hheld hold => congrArg _ ((if_neg hheld).trans (if_neg hold))⟩

end Sys2Proof.Machine
end

section
/-!
PROOFS. The MIRROR frames of the partner (spec/08 R254 to R266) and what a member sends or gives up by itself.
-/
namespace Sys2Proof.Machine

/-! ### What an event of the redundancy group leaves unchanged (R39, R45) -/

/-- A vector only leaves a message or its pending bit. -/
theorem State.sendVec_eq (s : State) (f v : Nat) : ∃ pend box, s.sendVec f v = { s with vecPend := pend, outbox := box } := by
  rw [State.sendVec]
  split
  · exact ⟨_, _, rfl⟩
  · split
    · exact ⟨_, _, rfl⟩
    · exact ⟨_, _, rfl⟩

theorem State.sendIf_eq (s : State) (c : Bool) (f v : Nat) :
    ∃ pend box, s.sendIf c f v = { s with vecPend := pend, outbox := box } := by
  rw [State.sendIf]
  split
  · exact s.sendVec_eq f v
  · exact ⟨_, _, rfl⟩

@[simp] theorem State.sendIf_ru (s : State) (c : Bool) (f v : Nat) : (s.sendIf c f v).ru = s.ru := by
  obtain ⟨pend, box, h⟩ := s.sendIf_eq c f v
  rw [h]
@[simp] theorem State.sendIf_shad (s : State) (c : Bool) (f v p t : Nat) : (s.sendIf c f v).shad p t = s.shad p t := by
  obtain ⟨pend, box, h⟩ := s.sendIf_eq c f v
  rw [h]
  rfl

@[simp] theorem State.ruEvent_ru (s : State) (bits : W) : (s.ruEvent bits).ru = s.ru := by
  rw [State.ruEvent, State.groupEvent, State.sendIf_ru]
  rfl
@[simp] theorem State.ruEvent_shad (s : State) (bits : W) (p t : Nat) : (s.ruEvent bits).shad p t = s.shad p t := by
  rw [State.ruEvent, State.groupEvent, State.sendIf_shad]
  rfl

/-- Where no event came, none is counted. -/
theorem State.oneEvent_of_same {s t : State} {seq : Nat} (h : t.reg seq = s.reg seq) : s.oneEvent seq t = t := if_pos h

/-! ### Frames for a standby copy (R256, R257, R266; logs 76, 194) -/

section
variable {s u : State} {p : BitVec 9} {dt : Nat} (hu : s.elapse dt = u)
include hu

/-- An INVEC whose stamp names no instant that has passed is in time: it waits for its pass. -/
theorem exec_invec_of_ahead {t : BitVec 3} {stamp : W} (es : List W) (htask : u.shadowTask p.toNat t.toNat = true)
    (hahead : u.fullStamp p.toNat stamp = none) : exec (.invec p t stamp es dt) s =
      .next ((u.setShad p.toNat t.toNat
        { u.shad p.toNat t.toNat with
          vecs := (u.shad p.toNat t.toNat).vecs ++ [(stamp, es.map (fun e => if bitAt e 31 then none else some (fld e 15 0)))]
          due := none }).shadowStart p.toNat t.toNat) := by
  subst hu
  have hexec : exec (.invec p t stamp es dt) s = execInvec p t stamp es dt s := rfl
  simp only [hexec, execInvec, hahead]
  exact congrArg _ (if_pos ⟨htask, trivial⟩)

variable (hcopy : u.standbyCopy p.toNat = true)
include hcopy

theorem exec_editFrame_of_copy (stamp version : W) : exec (.editFrame p stamp version dt) s = .next
    (if u.editPending p.toNat ∧ u.pnd (aHDR_VERSION p.toNat) = version then
      { u with ruEdit := FMap.set (fun _ => none) u.ruEdit p.toNat (some stamp) }
     else u.goLeft 3) := by
  subst hu
  exact congrArg _ (if_pos hcopy)

/-- PTIME in Run: a copy in Run takes the offset, a held one resumes, a stopped one starts unless its start has to wait. -/
theorem exec_ptimeFrame_of_run {ptime mer : W64} {s1 : State}
    (hs1 : u.setReg64 (aPD_PTIME_LO p.toNat) (ptime + (u.now - mer)) = s1) : exec (.ptimeFrame p ptime mer 2 dt) s = .next
      (if u.mode p.toNat = 2 then u.setReg64 (aPD_OFFSET_LO p.toNat) (mer - ptime)
       else if u.mode p.toNat = 3 then s1.enterResume p.toNat
       else if u.mode p.toNat = 1 then
        (if s1.runHeld p.toNat then { s1 with modeWait := FMap.set (fun _ => none) s1.modeWait p.toNat (some (2, 1, mer)) }
         else s1.enterRun p.toNat)
       else u) := by
  subst hu hs1
  exact congrArg _ ((if_pos hcopy).trans (if_pos rfl))

/-- PTIME in another mode: the copy follows the mode and takes the partition time as it is. -/
theorem exec_ptimeFrame_of_not_run {mode : Byte} (ptime mer : W64) (hmode : mode ≠ 2) : exec (.ptimeFrame p ptime mer mode dt) s =
    .next ((u.followMode p.toNat mode.toNat 1).setReg64 (aPD_PTIME_LO p.toNat) ptime) := by
  subst hu
  exact congrArg _ ((if_pos hcopy).trans (if_neg hmode))

end

/-! ### A waiting input copy (R258) -/

/-- Block wait of an input copy: the block it waits for, after 50 µs the current one with the pass divergent, or it waits on. -/
theorem exec_standbyBlockWaitEnd_of_waits {s u s1 : State} {p : BitVec 9} {t : BitVec 3} {dt t0 : Nat} {j : CuJob} (hu : s.elapse dt = u)
    (hwaits : (u.shad p.toNat t.toNat).waits = some t0)
    (hjob : u.cu.find? (fun j => !j.out && j.p == p.toNat && j.t == t.toNat) = some j)
    (hs1 : u.setShad p.toNat t.toNat { u.shad p.toNat t.toNat with waits := none } = s1) :
    exec (.standbyBlockWaitEnd p t dt) s = .next
      (if (j.todo.head?.map (fun i => (u.pickBlock j i).isSome)).getD true then s1.cuCopy j 1
       else if t0 + 40000 ≤ u.fab then s1.cuCopy { j with want := j.want.map (fun l => none :: l.tail) } 1
       else u) := by
  subst hu hs1
  have hexec : exec (.standbyBlockWaitEnd p t dt) s = execStandbyBlockWaitEnd p t dt s := rfl
  simp only [hexec, execStandbyBlockWaitEnd, hwaits, hjob]

/-! ### VERDICT (R262, R265; log 83) -/

section
variable {s u : State} {p : BitVec 9} {t : BitVec 3} {stamp : W} {dt : Nat} (hu : s.elapse dt = u)
include hu

/-- A VERDICT that no pass waits for does nothing. -/
theorem exec_verdict_of_closed (result outcome cause flags : Byte)
    (hfind : u.ru.open_.find? (fun e => e.1 == p.toNat * 16 + t.toNat && e.2.1 == stamp) = none) :
    exec (.verdict p t stamp result outcome cause flags dt) s = .next u := by
  subst hu
  have hexec : exec (.verdict p t stamp result outcome cause flags dt) s = execVerdict p t stamp result outcome cause flags dt s := rfl
  simp only [hexec, execVerdict, hfind]

variable (outcome cause flags : Byte) {e : Nat × W × Bool} {s1 : State}
  (hfind : u.ru.open_.find? (fun e => e.1 == p.toNat * 16 + t.toNat && e.2.1 == stamp) = some e) (hrole : u.ruRole = 3)
  (hpair : u.pairPart p.toNat = true)
  (hs1 : { u with ru := { u.ru with open_ := verdictLeft (p.toNat * 16 + t.toNat) stamp u.ru.open_ } } = s1)
include hfind hrole hpair hs1

/-- A VERDICT of a pass that waits for one takes the pass off the list (`s1`), reports a mismatch (`s2`), ends the wait of a faulted pass
(`s3`) and acts by its result and flags. -/
theorem exec_verdict_of_open (result : Byte) {s2 s3 : State} (hs2 : (if result = 1 then s1.ruEvent 4 else s1) = s2)
    (hs3 : (if s2.ru.verdict.map Prod.fst = some (p.toNat * 16 + t.toNat) ∧ (u.shad p.toNat t.toNat).stamp = stamp then
      { s2 with ru := { s2.ru with verdict := none } } else s2) = s3) :
    exec (.verdict p t stamp result outcome cause flags dt) s = .next (u.oneEvent aRU_EVT_SEQ
      (if result = 1 ∧ ((s3.ru.verdict.isNone && s2.ru.verdict.isSome) ∨ e.2.2) ∧ outcome = 0 ∧ flags.getLsbD 0 = false then
        s3.yieldRole p.toNat
       else if result = 1 ∧ (s3.ru.verdict.isNone && s2.ru.verdict.isSome) = false ∧ e.2.2 = false ∧ flags.getLsbD 0 = false then
        s3.collect 23 cContained 0x0A p.toNat
       else s3)) := by
  subst hu
  obtain ⟨j, w, own⟩ := e
  have hexec : exec (.verdict p t stamp result outcome cause flags dt) s = execVerdict p t stamp result outcome cause flags dt s := rfl
  simp only [hexec, execVerdict, hfind, if_pos (And.intro hrole hpair), hs1, hs2, hs3]

/-- A VERDICT without a mismatch, while no faulted pass waits, only ends the wait of its pass. -/
theorem exec_verdict_of_agreement {result : Byte} (hagrees : result ≠ 1) (hnone : u.ru.verdict = none) :
    exec (.verdict p t stamp result outcome cause flags dt) s = .next s1 := by
  have hkept : ¬(s1.ru.verdict.map Prod.fst = some (p.toNat * 16 + t.toNat) ∧ (u.shad p.toNat t.toNat).stamp = stamp) := by
    rw [← hs1, hnone]
    exact fun ⟨hsome, _⟩ => Option.some_ne_none _ hsome.symm
  have hquiet : s1.reg aRU_EVT_SEQ = u.reg aRU_EVT_SEQ := by rw [← hs1]; rfl
  rw [exec_verdict_of_open hu outcome cause flags hfind hrole hpair hs1 result (if_neg hagrees) (if_neg hkept),
    if_neg fun ⟨hmismatch, _⟩ => hagrees hmismatch, if_neg fun ⟨hmismatch, _⟩ => hagrees hmismatch, State.oneEvent_of_same hquiet]

/-- A mismatch without a local fault on either side, in the pass that faulted here, leaves the role to the partner (R265). -/
theorem exec_verdict_of_fault {s2 : State} (hs2 : s1.ruEvent 4 = s2)
    (hwaits : u.ru.verdict.map Prod.fst = some (p.toNat * 16 + t.toNat)) (hstamp : (s2.shad p.toNat t.toNat).stamp = stamp)
    (hlocal : flags.getLsbD 0 = false) : exec (.verdict p t stamp 1 0 cause flags dt) s =
      .next (u.oneEvent aRU_EVT_SEQ ({ s2 with ru := { s2.ru with verdict := none } }.yieldRole p.toNat)) := by
  have hverdict : s2.ru.verdict = u.ru.verdict := by rw [← hs2, State.ruEvent_ru, ← hs1]
  have hshad : s2.shad p.toNat t.toNat = u.shad p.toNat t.toNat := by rw [← hs2, State.ruEvent_shad, ← hs1]; rfl
  have hsome : s2.ru.verdict.isSome = true := by rw [hverdict, ← Option.isSome_map (f := Prod.fst), hwaits, Option.isSome_some]
  rw [exec_verdict_of_open hu 0 cause flags hfind hrole hpair hs1 1 ((if_pos rfl).trans hs2)
      (if_pos ⟨hverdict ▸ hwaits, hshad ▸ hstamp⟩), if_pos ⟨rfl, .inl hsome, rfl, hlocal⟩]

end

/-- The role is kept when the VERDICT of the faulted pass does not come within the period of its task. -/
theorem exec_verdictTimeout_of_late {s u : State} {dt k t0 : Nat} (hu : s.elapse dt = u) (hwaits : u.ru.verdict = some (k, t0))
    (hlate : t0 + u.rf (aTT_PERIOD (k / 16) (k % 16)) 23 0 * 800 ≤ u.fab) :
    exec (.verdictTimeout dt) s = .next { u with ru := { u.ru with verdict := none } } := by
  subst hu
  have hexec : exec (.verdictTimeout dt) s = execVerdictTimeout dt s := rfl
  simp only [hexec, execVerdictTimeout, hwaits]
  exact congrArg _ (if_pos hlate)

/-! ### The statement -/

/-- Settles O50: each frame and each wait meets its guard, and a VERDICT takes the steps of `exec_verdict_of_open`.
`witness_MirrorFramesResult` meets the premises. How a shadow pass takes its inputs rests on log 76 of NOTES.md, the boundary of a SWAP in
clocks and the stamps of passes without a VERDICT on log 83, the STAMP of an EDIT on log 84, a start that waits on log 194, the roles on
logs 65 and 67, the counters on log 68. -/
theorem mirrorFramesResult : Obligations.MirrorFramesResult := by
  unfold Obligations.MirrorFramesResult
  refine ⟨?invec, ?data, ?result, ?mode, ?edit, ?swap, ?resync, ?agrees, ?mismatch, ?noPass, ?state, ?stateSent, ?ptime, ?incomplete,
    ?noVerdict, ?captureEnd, ?blockThere, ?waitOver, ?waitsOn⟩
  case invec =>
    intro s p t stamp dt es u q k h htask hahead
    exact exec_invec_of_ahead rfl es htask hahead
  case data =>
    intro s p t stamp dt ls u q k h htask
    exact congrArg _ (if_pos htask)
  case result =>
    intro s p t stamp dt crc lines outcome cause flags u q k h htask r
    exact congrArg _ (if_pos htask)
  case mode =>
    intro s p mode cause tick dt u q hcopy
    exact congrArg _ (if_pos hcopy)
  case edit =>
    intro s p stamp version dt u q hcopy
    rw [exec_editFrame_of_copy rfl hcopy]
    refine ⟨fun hpending hversion => congrArg _ (if_pos ⟨hpending, hversion⟩), fun hother => congrArg _ (if_neg ?_)⟩
    exact fun ⟨hpending, hversion⟩ => hother.elim (ne_false_of_eq_true hpending) (absurd hversion)
  case swap =>
    intro s b epoch dt u hrole
    exact congrArg _ (if_pos hrole)
  case resync =>
    intro s part dt u hrole ps
    exact congrArg _ (if_pos hrole)
  case agrees =>
    intro s p t stamp outcome cause flags dt e u q k h hrole hpair hfind hnone
    exact exec_verdict_of_agreement rfl outcome cause flags hfind hrole hpair rfl (by decide) hnone
  case mismatch =>
    intro s p t stamp cause flags dt e u q k h s1 s2 hrole hpair hfind hwaits hstamp hlocal
    exact exec_verdict_of_fault rfl cause flags hfind hrole hpair rfl rfl hwaits hstamp hlocal
  case noPass =>
    intro s p t stamp result outcome cause flags dt u q k h hfind
    exact exec_verdict_of_closed rfl result outcome cause flags hfind
  case state =>
    intro s role epoch digest dt u hruns
    exact congrArg _ (if_pos hruns)
  case stateSent =>
    intro s dt u hruns
    exact congrArg _ (if_pos hruns)
  case ptime =>
    intro s p ptime mer dt u q s1 hcopy
    rw [exec_ptimeFrame_of_run rfl hcopy rfl]
    refine ⟨fun hrun => congrArg _ (if_pos hrun), fun hstop hstart => ?_, fun hstop hheld => ?_, fun hhold => ?_,
      exec_ptimeFrame_of_not_run rfl hcopy ptime mer (by decide)⟩
    · have hrun : u.mode q ≠ 2 := by omega
      have hhold : u.mode q ≠ 3 := by omega
      rw [if_neg hrun, if_neg hhold, if_pos hstop, if_neg (ne_true_of_eq_false hstart)]
    · have hrun : u.mode q ≠ 2 := by omega
      have hhold : u.mode q ≠ 3 := by omega
      rw [if_neg hrun, if_neg hhold, if_pos hstop, if_pos hheld]
    · have hrun : u.mode q ≠ 2 := by omega
      rw [if_neg hrun, if_pos hhold]
  case incomplete =>
    intro s p t dt u q k h htask hidle hdue hvecs
    exact congrArg _ ((if_neg (ne_false_of_eq_true htask)).trans (if_pos ⟨hidle, hdue, hvecs⟩))
  case noVerdict =>
    intro s dt k t0 u
    exact exec_verdictTimeout_of_late rfl
  case captureEnd =>
    intro s p t dt u k hcapture hpause
    exact congrArg _ ((if_pos hcapture).trans (if_neg (ne_true_of_eq_false hpause)))
  case blockThere =>
    intro s p t dt t0 j u q k h s1 hwaits hjob hthere
    rw [exec_standbyBlockWaitEnd_of_waits rfl hwaits hjob rfl, if_pos hthere]
  case waitOver =>
    intro s p t dt t0 j u q k h s1 hwaits hjob hmissing hover
    rw [exec_standbyBlockWaitEnd_of_waits rfl hwaits hjob rfl, if_neg (ne_true_of_eq_false hmissing), if_pos hover]
  case waitsOn =>
    intro s p t dt t0 j u q k h s1 hwaits hjob hmissing hearly
    rw [exec_standbyBlockWaitEnd_of_waits rfl hwaits hjob rfl, if_neg (ne_true_of_eq_false hmissing), if_neg (Nat.not_le.mpr hearly)]

end Sys2Proof.Machine
end

section
/-!
PROOFS. The real-time clock (spec/09 R285 to R295): the calendar at a second boundary, measurements, slew steps, the crystal.
-/
namespace Sys2Proof.Machine

/-! ### The calendar (R285, R291) -/

theorem State.foldDone_of_no_fold {s : State} (hfold : s.rtcFold = none) : s.foldDone = s := by
  simp only [State.foldDone, hfold]

/-- A forward step within the calendar, with no fold running, changes the calendar value alone. -/
theorem State.calStep_forward {s : State} {n : Nat} (hfits : s.rtcTicks + n < calTicks) (hfold : s.rtcFold = none) :
    s.calStep n = s.setTicks (s.rtcTicks + n) := by
  have hnew : (((s.rtcTicks : Int) + n) % (calTicks : Int)).toNat = s.rtcTicks + n := by
    rw [Int.emod_eq_of_lt (by omega) (by omega)]
    rfl
  have hwrap : ¬ (calTicks : Int) ≤ s.rtcTicks + n := by omega
  have hback : ¬ (n : Int) < 0 := by omega
  simp only [State.calStep, hnew, if_neg hwrap, if_neg hback]
  exact State.foldDone_of_no_fold hfold

/-- A step by one second from a whole second within the calendar, with no fold running, shows the next second. -/
theorem State.calStep_second {s : State} (hsub : s.rtcSub = 0) (hfits : s.rtcSec + 1 < calSeconds) (hfold : s.rtcFold = none) :
    s.calStep 32768 = { s with rtcSec := s.rtcSec + 1, rtcSub := 0 } := by
  have hticks : s.rtcTicks + 32768 = (s.rtcSec + 1) * 32768 := by
    simp only [State.rtcTicks, hsub, Nat.add_zero, Nat.succ_mul]
  have hpos : 0 < 32768 := by decide
  have hroom : s.rtcTicks + 32768 < calTicks := hticks ▸ Nat.mul_lt_mul_of_pos_right hfits hpos
  refine (State.calStep_forward (n := 32768) hroom hfold).trans ?_
  simp only [State.setTicks, hticks, Nat.mul_div_cancel, Nat.mul_mod_left, Nat.mod_eq_of_lt hfits, hpos]

/-- At a second boundary with no DST command waiting the calendar steps, and a fold it has reached the end of is over. The definition
unfolds as a function: applied to `s`, the kernel would evaluate the wrap of the calendar to unfold it. -/
theorem State.nextSecond_of_no_dst {s s0 : State} (hs0 : ({ s with rtcSub := 0 }.calStep 32768).foldDone = s0)
    (hdst : s0.rtcDst = none) : s.nextSecond = s0 := by
  conv => lhs; fun; delta State.nextSecond
  simp only [hs0, hdst]

/-- A second boundary within the calendar, with no fold running and no DST command waiting, shows the next second and changes nothing
else. -/
theorem State.nextSecond_of_plain {s : State} (hfits : s.rtcSec + 1 < calSeconds) (hdst : s.rtcDst = none) (hfold : s.rtcFold = none) :
    s.nextSecond = { s with rtcSec := s.rtcSec + 1, rtcSub := 0 } := by
  have hstep := State.calStep_second (s := { s with rtcSub := 0 }) rfl hfits hfold
  exact State.nextSecond_of_no_dst ((congrArg State.foldDone hstep).trans (State.foldDone_of_no_fold hfold)) hdst

/-! ### Measurements (R293) -/

section
variable {s u : State} {dt : Nat} {m : Meas} (hu : s.elapse dt = u) (hmeas : u.meas = some m)
include hu hmeas

/-- A mains crossing in a window that runs is the start of its count, or one more period and its duration. -/
theorem exec_mainsCrossing_of_running (e : Nat) (hmains : m.mains = true) (hruns : m.ended = false) :
    exec (.mainsCrossing e dt) s = .next (if m.start.isNone then { u with meas := some { m with start := some u.now } }
      else { u.measShow ((m.e + e) / 16000000) 1 with
        meas := some { m with n := m.n + 1, e := m.e + e, secs := (m.e + e) / 16000000 } }) := by
  subst hu
  have hexec : exec (.mainsCrossing e dt) s = execMainsCrossing e dt s := rfl
  simp only [hexec, execMainsCrossing, hmeas, hmains, hruns, Bool.true_eq_false, Bool.false_eq_true, or_self, if_false]

theorem exec_mainsTimeout_of_mains (hmains : m.mains = true) : exec (.mainsTimeout dt) s = .next (u.measAbort 6) := by
  subst hu
  have hexec : exec (.mainsTimeout dt) s = execMainsTimeout dt s := rfl
  simp only [hexec, execMainsTimeout, hmeas, if_pos hmains]

theorem exec_measComplete_of_ended (hended : m.ended = true) : exec (.measComplete dt) s = .next (u.measDone m) := by
  subst hu
  have hexec : exec (.measComplete dt) s = execMeasComplete dt s := rfl
  simp only [hexec, execMeasComplete, hmeas, if_pos hended]

end

/-- ERR is stored when the reference interval is not empty and the deviation fits the register. -/
theorem State.measDone_of_fits (s : State) {m : Meas} {v : Int} (hv : nearest (m.ratio.1 * 1000000000) m.ratio.2 = v)
    (hfits : m.ratio.2 ≠ 0 ∧ -(2 ^ 31) ≤ v ∧ v < 2 ^ 31) : s.measDone m =
      ({ (s.setReg aRTC_MEAS_ERR (BitVec.ofInt 32 v)).measShow m.secs 2 with meas := none } : State).rtcEvent 8 := by
  subst hv
  simp only [State.measDone, decide_eq_true hfits, if_true]

/-! ### Slew steps (R289) -/

/-- A slew step of a running crystal moves the remainder one tick toward zero, and the calendar by one tick with it. -/
theorem exec_slewStep_of_run {s k : State} {sub : BitVec 15} {r : Int} (hk : s.atTick sub = k) (hr : (s.reg aRTC_SLEWREM).toInt = r)
    (hrun : s.rtcRun = true) (hrem : r ≠ 0) : exec (.slewStep sub) s =
      .next (if 0 < r then ({ k with rtcSub := min 32767 (k.rtcSub + 1) } : State).foldDone.setSlew (r - 1)
        else { k with rtcSub := k.rtcSub - 1 }.setSlew (r + 1)) := by
  subst hk hr
  exact congrArg _ (if_neg (not_or.mpr ⟨ne_false_of_eq_true hrun, hrem⟩))

/-! ### The statement -/

/-- Settles O46: a boundary that is a plain second only counts on (`State.nextSecond_of_plain`), a measurement runs as the lemmas about
`exec` say, and a slew step moves toward zero. `witness_RtcTimeResult` meets the premises. The tick as an operand, the end of a fold at it
and the SET that waits rest on log 102 of NOTES.md, the dates that alarms compare on log 103, the end of a window and the range of ERR on
log 105. -/
theorem rtcTimeResult : Obligations.RtcTimeResult := by
  unfold Obligations.RtcTimeResult
  refine ⟨?boundary, ?stands, ?plainSecond, ?period, ?firstCrossing, ?mainsLost, ?windowEnds, ?slew, ?crystalStops, ?crystalResumes⟩
  case boundary =>
    intro s dt u hrun
    exact congrArg _ (if_pos hrun)
  case stands =>
    intro s dt u hstop
    exact congrArg _ (if_neg (ne_true_of_eq_false hstop))
  case plainSecond =>
    intro s hfits hdst hfold
    rw [State.nextSecond_of_plain hfits hdst hfold]
    exact ⟨rfl, rfl, rfl⟩
  case period =>
    intro s dt e m t u hmeas hmains hruns hstart
    rw [exec_mainsCrossing_of_running rfl hmeas e hmains hruns, hstart]
    rfl
  case firstCrossing =>
    intro s dt e m u hmeas hmains hruns hstart
    rw [exec_mainsCrossing_of_running rfl hmeas e hmains hruns, hstart]
    rfl
  case mainsLost =>
    intro s dt m u
    exact exec_mainsTimeout_of_mains rfl
  case windowEnds =>
    intro s dt m u v hmeas hended hreference hlow hhigh
    rw [exec_measComplete_of_ended rfl hmeas hended, State.measDone_of_fits _ rfl ⟨hreference, hlow, hhigh⟩]
  case slew =>
    intro s sub r k hrun
    refine ⟨fun hinsert => ?_, fun hdrop => ?_, fun hover => congrArg _ (if_pos (.inr hover))⟩
    · rw [exec_slewStep_of_run rfl rfl hrun (Int.ne_of_gt hinsert), if_pos hinsert]
    · rw [exec_slewStep_of_run rfl rfl hrun (Int.ne_of_lt hdrop), if_neg (Int.lt_asymm hdrop)]
  case crystalStops => exact fun _ => rfl
  case crystalResumes =>
    intro s hstop k
    exact congrArg _ (if_neg (ne_true_of_eq_false hstop))

end Sys2Proof.Machine
end

section
/-!
PROOFS. The 24 V field channels (spec/10): inputs, commands, protection, groups, test pulses and forcing (R298, R301, R303 to R310).
-/
namespace Sys2Proof.Machine

/-! ### Inputs (R301 to R303; log 43) -/

section
variable {s s1 : State} {n k used : Nat} {level : Bool}
  (hused : ((List.range k).filter (fun i => !s.sampleIgnored n (s.fab - 8000 * i))).length = used)
  (hshown : (if k = 0 then s else s.setRf (aFIO_DIAG n) 0 0 level.toNat) = s1)
include hused hshown

/-- Samples that all fall into or just after a low pulse of the output that feeds the channel leave its filter as it is. -/
theorem State.fioSamples_of_all_ignored (hnone : used = 0) : s.fioSamples n level k = s1 := by
  subst hused hshown
  exact if_pos hnone

/-- A sample at the settled level restarts the count. -/
theorem State.fioSamples_of_same_level (hsome : used ≠ 0) (hsame : level = (s1.chan n).level) :
    s.fioSamples n level k = s1.setChan n { s1.chan n with cnt := 0 } := by
  subst hused hshown
  exact (if_neg hsome).trans (if_pos hsame)

/-- Samples at the other level settle once there are as many in a row as FILT asks for, and count until then. -/
theorem State.fioSamples_of_other_level (hsome : used ≠ 0) (hother : level ≠ (s1.chan n).level) : s.fioSamples n level k =
    if 10 * s1.rf (aFIO_CFG n) 7 0 ≤ (s1.chan n).cnt + used then (s1.setChan n { s1.chan n with level := level, cnt := 0 }).reportIn n
    else s1.setChan n { s1.chan n with cnt := (s1.chan n).cnt + used } := by
  subst hused hshown
  exact (if_neg hsome).trans (if_neg hother)

end

theorem exec_fioInputSettled {s : State} {dt : Nat} (hfield : (s.elapse dt).fuse.field = true) (ch : BitVec 5) (level : Bool)
    (samples : Nat) : exec (.fioInputSettled ch level samples dt) s = .next ((s.elapse dt).fioSamples ch.toNat level samples) :=
  congrArg _ (if_pos hfield)

/-! ### Commands (R10, R49, R298; log 158) -/

/-- While the far block is unreachable a posted write of PF0 or the service port is refused with CAUSE 0x03 (R49). -/
theorem State.farWrite_unreachable {s : State} {src bstat : Nat} (a : Nat) (k : State → State) (hhost : isVf src = false)
    (hdown : s.rb bstat 1 = true) : s.farWrite src a bstat k = s.refuse src (farSpace src) a 3 := by
  have hsrc : ¬(1 ≤ src ∧ src ≤ 512) := of_decide_eq_false hhost
  exact (if_neg hsrc).trans (if_pos hdown)

/-- With field channels present, a write of `FIO_HOSTCMD` and the commands of `FIO_CMD` are posted writes to the field unit. -/
theorem exec_fioCommands {s : State} (hfield : s.fuse.field = true) (src : BitVec 10) (d : W) :
    exec (.fioHostcmdWrite src d) s = .next (s.farWrite src.toNat aFIO_HOSTCMD aFIO_BSTAT (·.hostCmd d)) ∧
      exec (.fioRecover src) s = .next (s.farWrite src.toNat aFIO_CMD aFIO_BSTAT State.recover) ∧
      exec (.dclr src) s = .next (s.farWrite src.toNat aFIO_CMD aFIO_BSTAT State.dclrAll) :=
  ⟨congrArg _ (if_pos hfield), congrArg _ (if_pos hfield), congrArg _ (if_pos hfield)⟩

/-- The front command of a die link that is up and not paused reaches its channel. -/
theorem exec_fioOutputCommand_of_waiting {s u : State} {dt n : Nat} {on : Bool} {l : List (Nat × Bool)} (hu : s.elapse dt = u)
    (hruns : u.fPause = false) (hup : u.rb aFIO_BSTAT 1 = false) (hlink : u.fioLink = (n, on) :: l) :
    exec (.fioOutputCommand dt) s = .next ({ u with fioLink := l }.command n on) := by
  subst hu
  have hpasses : ¬((s.elapse dt).fPause = true ∨ (s.elapse dt).rb aFIO_BSTAT 1 = true) :=
    not_or.mpr ⟨ne_true_of_eq_false hruns, ne_true_of_eq_false hup⟩
  have hexec : exec (.fioOutputCommand dt) s = execFioOutputCommand dt s := rfl
  simp only [hexec, execFioOutputCommand, if_neg hpasses, hlink]

/-! ### Protection (R304) -/

theorem exec_thermalShutdown (ch : BitVec 5) (s : State) : exec (.thermalShutdown ch) s =
    .next (if s.rb aFIO_OUTST ch.toNat then s.protect ch.toNat 6 else s) := rfl

/-! ### Groups (R306; log 157) -/

theorem State.measured_of_field {s : State} (hfield : s.fuse.field = true) (g : Nat) (meas : W) :
    s.measured g meas = s.setReg (aFIO_GMEAS g) meas := if_pos hfield

/-! ### Heartbeats (R308, R310) -/

/-- A heartbeat that arrives leaves force on the terms of R310, and otherwise only ends its cause and counts. -/
theorem exec_heartbeatReceived_of_arriving {s u v : State} {dt : Nat} (hu : s.elapse dt = u)
    (hv : { u.causeEnds 0 with hbLink := u.hbLink - 1, hbRun := u.hbRun + 1, lastHb := u.fab } = v)
    (hfield : u.fuse.field = true) (hup : u.rb aFIO_BSTAT 1 = false) (hsent : u.hbLink ≠ 0) : exec (.heartbeatReceived dt) s = .next
      (if v.forced = true ∧ v.rb aFIO_HB 31 = true ∧ v.rf aFIO_FORCE 3 0 = 0 ∧ v.forceHist = 1 ∧ 10 ≤ v.hbRun then v.unforce else v) := by
  subst hu hv
  exact congrArg _ (if_neg (not_or.mpr ⟨ne_false_of_eq_true hfield, not_or.mpr ⟨ne_true_of_eq_false hup, hsent⟩⟩))

/-! ### The statement -/

/-- Settles O53: each event meets its guard, samples the filter of `State.fioSamples`, a command of the host the posted write of
`State.farWrite`, and a heartbeat the terms of R310. `witness_FieldChannelsResult` meets the premises. The samples as an operand and the
place of the first pulse rest on log 43 of NOTES.md, what clears SHORT and what a cross short counts on log 42, GMEAS on log 157,
posted writes that act at once on log 158. -/
theorem fieldChannelsResult : Obligations.FieldChannelsResult := by
  unfold Obligations.FieldChannelsResult
  refine ⟨?sameLevel, ?settles, ?counts, ?allIgnored, ?outputCommand, ?hostCommands, ?unreachable, ?currentLimit, ?limitLeft, ?turnsOff,
    ?restart, ?openLoad, ?shortToSupply, ?undervoltage, ?overvoltage, ?overcurrent, ?conditionEnd, ?pulseStart, ?noPulse, ?pulseEnd,
    ?crossShort, ?pulseOverload, ?pulseRetry, ?heartbeat, ?heartbeatLost⟩
  case sameLevel =>
    intro s ch level samples dt u n used s1 c hfield hsome hsame
    rw [exec_fioInputSettled hfield, State.fioSamples_of_same_level rfl rfl hsome hsame]
  case settles =>
    intro s ch level samples dt u n used s1 c hfield hsome hother hmany
    rw [exec_fioInputSettled hfield, State.fioSamples_of_other_level rfl rfl hsome hother, if_pos hmany]
  case counts =>
    intro s ch level samples dt u n used s1 c hfield hsome hother hfew
    rw [exec_fioInputSettled hfield, State.fioSamples_of_other_level rfl rfl hsome hother, if_neg (Nat.not_le.mpr hfew)]
  case allIgnored =>
    intro s ch level samples dt u n used s1 c hfield hnone
    rw [exec_fioInputSettled hfield, State.fioSamples_of_all_ignored rfl rfl hnone]
  case outputCommand =>
    intro s dt n on l u
    exact exec_fioOutputCommand_of_waiting rfl
  case hostCommands =>
    intro s src d hfield hhost hup hidle
    simp only [exec_fioCommands hfield src d, State.farWrite_idle _ _ hhost hup hidle, and_self]
  case unreachable =>
    intro s src d hfield hhost hdown
    simp only [exec_fioCommands hfield src d, State.farWrite_unreachable _ _ hhost hdown, and_self]
  case currentLimit =>
    intro s ch n hconducts hclear
    exact congrArg _ ((if_pos rfl).trans (if_pos ⟨hconducts, hclear⟩))
  case limitLeft =>
    intro s ch n
    rfl
  case turnsOff =>
    intro s ch n hconducts
    refine ⟨fun hlimited => congrArg _ (if_pos ⟨hconducts, hlimited⟩), ?_⟩
    rw [exec_thermalShutdown, if_pos hconducts]
  case restart =>
    intro s ch n hprot
    refine ⟨fun hmay => congrArg _ ((if_pos hprot).trans (if_pos hmay)), fun hlatched hunnamed => ?_⟩
    have hstays : ¬(s.rb (aFIO_CFG n) 25 = false ∨ (s.chan n).dclr = true) :=
      not_or.mpr ⟨ne_false_of_eq_true hlatched, ne_true_of_eq_false hunnamed⟩
    exact congrArg _ ((if_pos hprot).trans (if_neg hstays))
  case openLoad =>
    intro s ch n hout hdrive holen hshown
    exact congrArg _ (if_pos (by simp [n, hout, hdrive, holen, hshown]))
  case shortToSupply =>
    intro s ch n hout hoff hshown
    exact congrArg _ (if_pos (by simp [n, hout, hoff, hshown]))
  case undervoltage =>
    intro s g meas v hfield hpresent hclear
    have hexec : exec (.groupUndervoltage g meas) s = execGroupUndervoltage g meas s := rfl
    rw [hexec, execGroupUndervoltage, State.measured_of_field hfield, if_pos ⟨hpresent, hclear⟩]
  case overvoltage =>
    intro s g meas v hfield hpresent hclear
    have hexec : exec (.groupOvervoltage g meas) s = execGroupOvervoltage g meas s := rfl
    rw [hexec, execGroupOvervoltage, State.measured_of_field hfield, if_pos ⟨hpresent, hclear⟩]
  case overcurrent =>
    intro s g meas v hfield hpresent hclear
    have hexec : exec (.groupOvercurrent g meas) s = execGroupOvercurrent g meas s := rfl
    rw [hexec, execGroupOvercurrent, State.measured_of_field hfield, if_pos ⟨hpresent, hclear⟩]
  case conditionEnd =>
    intro s g meas b v hfield hbit hset
    have hexec : exec (.groupConditionEnd g b meas) s = execGroupConditionEnd g b meas s := rfl
    rw [hexec, execGroupConditionEnd, State.measured_of_field hfield, if_pos ⟨hbit, hset⟩]
  case pulseStart =>
    intro s n dt u t hdrives hfree hturn
    exact congrArg _ (if_pos ⟨hdrives, hfree, hturn⟩)
  case noPulse =>
    intro s n dt u t hnot
    refine congrArg _ (if_neg ?_)
    rintro ⟨hdrives, hfree, hturn⟩
    rcases hnot with hoff | hother | hearly
    · exact ne_true_of_eq_false hoff hdrives
    · exact hother hfree
    · exact ne_true_of_eq_false hearly hturn
  case pulseEnd =>
    intro s n dt u t hlow hwidth v
    exact ⟨congrArg _ (if_pos ⟨hlow, hwidth⟩), congrArg _ (if_pos ⟨hlow, hwidth⟩)⟩
  case crossShort =>
    intro s n pins dt u t hlow hnear
    exact congrArg _ (if_pos ⟨hlow, hnear⟩)
  case pulseOverload =>
    intro s n t hdrives
    exact congrArg _ (if_pos hdrives)
  case pulseRetry =>
    intro s n t henabled hoff
    exact congrArg _ (if_pos ⟨henabled, hoff⟩)
  case heartbeat =>
    intro s dt u hfield hup hsent v
    rw [exec_heartbeatReceived_of_arriving rfl rfl hfield hup hsent]
    exact ⟨fun hleaves => congrArg _ (if_pos hleaves),
      fun hfree => congrArg _ (if_neg fun ⟨hforced, _⟩ => ne_true_of_eq_false hfree hforced)⟩
  case heartbeatLost =>
    intro s dt u hlate
    exact congrArg _ (if_pos hlate)

end Sys2Proof.Machine
end

section
/-!
PROOFS. Registers and fields of registers: what is written reads back, and what it does not overlap reads as before (spec/02).
-/
namespace Sys2Proof.Machine

/-! ### Bits of a field -/

theorem testBit_fld (w : W) (hi lo i : Nat) : (fld w hi lo).testBit i = (decide (i < hi + 1 - lo) && bitAt w (lo + i)) := by
  rw [fld, Nat.testBit_mod_two_pow, Nat.testBit_div_two_pow, Nat.add_comm i lo, bitAt, BitVec.testBit_toNat]

/-- The mask of a field has a 1 in each bit of the field. -/
theorem bitAt_fieldMask {hi lo i : Nat} (h : i < 32) : bitAt (fieldMask hi lo) i = decide (lo ≤ i ∧ i ≤ hi) := by
  rw [bitAt, fieldMask, BitVec.getLsbD_ofNat, Nat.testBit_mul_two_pow, Nat.testBit_two_pow_sub_one]
  simp only [h, decide_true, Bool.true_and, ← Bool.decide_and, decide_eq_decide]
  omega

/-- A field written takes the low bits of the number, and every other bit of the word stays. -/
theorem bitAt_putFld (w : W) {hi lo i : Nat} (n : Nat) (h : i < 32) :
    bitAt (putFld w hi lo n) i = if lo ≤ i ∧ i ≤ hi then n.testBit (i - lo) else bitAt w i := by
  have hmask := bitAt_fieldMask (hi := hi) (lo := lo) h
  rw [bitAt] at hmask ⊢
  rw [putFld, BitVec.getLsbD_or, BitVec.getLsbD_and, BitVec.getLsbD_not, hmask, BitVec.getLsbD_ofNat, Nat.testBit_mul_two_pow,
    Nat.testBit_mod_two_pow]
  by_cases hin : lo ≤ i ∧ i ≤ hi
  · have hwidth : i - lo < hi + 1 - lo := by omega
    simp [hin, h, hwidth]
  · have hout : lo ≤ i → ¬ i - lo < hi + 1 - lo := by omega
    by_cases hlo : lo ≤ i
    · simp [hin, h, hout hlo, bitAt]
    · simp [h, hlo, bitAt]

/-- A field written reads the number modulo the width of the field. -/
theorem fld_putFld_same (w : W) {hi lo : Nat} (n : Nat) (h : hi < 32) : fld (putFld w hi lo n) hi lo = n % 2 ^ (hi + 1 - lo) := by
  refine Nat.eq_of_testBit_eq fun i => ?_
  rw [testBit_fld, Nat.testBit_mod_two_pow]
  by_cases hi' : i < hi + 1 - lo
  · rw [bitAt_putFld w n (by omega), if_pos (by omega), Nat.add_sub_cancel_left]
  · simp [hi']

/-- A field that lies below or above the written one reads as before. -/
theorem fld_putFld_disjoint (w : W) {hi lo hi' lo' : Nat} (n : Nat) (h : hi' < 32) (hd : hi < lo' ∨ hi' < lo) :
    fld (putFld w hi lo n) hi' lo' = fld w hi' lo' := by
  refine Nat.eq_of_testBit_eq fun i => ?_
  rw [testBit_fld, testBit_fld]
  by_cases hin : i < hi' + 1 - lo'
  · rw [bitAt_putFld w n (by omega), if_neg (by omega)]
  · simp [hin]

/-! ### Fields of registers -/

section
variable {s : State} (hwf : FMap.wf (regReset s.fuse) s.regs = true) (a n : Nat) {hi lo : Nat}
include hwf

theorem State.rf_setRf_same (h : hi < 32) : (s.setRf a hi lo n).rf a hi lo = n % 2 ^ (hi + 1 - lo) := by
  rw [State.rf, s.reg_setRf a a hi lo n hwf, if_pos rfl, fld_putFld_same _ _ h]

theorem State.rf_setRf_disjoint {hi' lo' : Nat} (h : hi' < 32) (hd : hi < lo' ∨ hi' < lo) :
    (s.setRf a hi lo n).rf a hi' lo' = s.rf a hi' lo' := by
  rw [State.rf, s.reg_setRf a a hi lo n hwf, if_pos rfl, fld_putFld_disjoint _ _ h hd, State.rf]

end

/-! ### The statement -/

/-- Settles O5: registers and pending values are sparse tables, and a field is the bits that `bitAt_putFld` gives. -/
theorem registerWriteThenRead : Obligations.RegisterWriteThenRead := by
  unfold Obligations.RegisterWriteThenRead
  intro s a b v
  refine ⟨?register, ⟨_, rfl⟩, ?pending, ⟨_, rfl⟩, ?field⟩
  case register => exact fun hwf => ⟨s.reg_setReg a b v hwf, s.regs_wf_setReg a v hwf⟩
  case pending => exact fun hwf => ⟨s.pnd_setPnd a b v hwf, s.pend_wf_setPnd a v hwf⟩
  case field =>
    intro hi lo hi' lo' n hwf _ hbits _ hbits'
    exact ⟨State.rf_setRf_same hwf a n hbits, State.rf_setRf_disjoint hwf a n hbits'⟩

end Sys2Proof.Machine
end

section
/-!
PROOFS. The CAN FD controllers: the error state that an error frame shows (spec/12 R354, R357).
-/
namespace Sys2Proof.Machine

/-- Controller 0 in NORMAL mode on a table of registers that is not canonical: it lists `CAN_STAT` twice, first error active with
LASTERR 1, then error passive. Once LASTERR becomes 0 the first entry equals the reset value and leaves the table, and the second shows. -/
def listsStatTwice : State :=
  { State.reset with regs := [(aCAN_CTL 0, 1), (aCAN_STAT 0, 1), (aCAN_STAT 0, 0x10000000)] }

/-- The error frame shows the error state before the error: active. -/
theorem listsStatTwice_frame_before : (listsStatTwice.canError 0 0 0 0).outbox = [.canErrorFrame 0 false] := by decide +kernel

/-- Refutes O55: `State.canError` puts the error state before the error into the error frame, the clause on it the one read after LASTERR
is written. The clause asks for no canonical form of the registers, and without it that write can change another field. -/
theorem not_canControllersResult : ¬ Obligations.CanControllersResult := by
  unfold Obligations.CanControllersResult
  rintro ⟨-, -, -, -, -, -, -, -, -, -, -, -, errorFrame, -⟩
  have hframe := congrArg State.outbox (errorFrame listsStatTwice 0 0 0 0)
  rw [listsStatTwice_frame_before] at hframe
  exact absurd hframe (by decide +kernel)

end Sys2Proof.Machine
end

section
/-!
PROOFS. Resets (spec/14 R379 to R387) and the watchdog (spec/14 R394 to R398).
-/
namespace Sys2Proof.Machine

/-! ### Commands of `RST_CMD` (R387; log 123) -/

/-- A reset command of PF0 or the service port has its own outcome. -/
theorem State.rstCmd_of_host {s : State} {src : Nat} (hhost : isVf src = false) (k : State → State) : s.rstCmd src k = k s :=
  if_neg (ne_true_of_eq_false hhost)

section
variable {s : State} {src : BitVec 10} (hhost : isVf src.toNat = false)
include hhost

theorem exec_cold_of_host : exec (.cold src) s = .next (if s.granted src.toNat 1 then s.cold 3 else s.rstDone 2) :=
  congrArg _ (State.rstCmd_of_host hhost _)

theorem exec_warm_of_host : exec (.warm src) s = .next (if s.granted src.toNat 1 then s.warm 9 else s.rstDone 2) :=
  congrArg _ (State.rstCmd_of_host hhost _)

variable (arg : BitVec 10)

theorem exec_engineCmd_of_host : exec (.engineCmd src arg) s =
    .next (if s.fuse.engines ≤ arg.toNat then s.rstDone 1 else (s.resetEngine arg.toNat).rstDone 0) :=
  congrArg _ (State.rstCmd_of_host hhost _)

theorem exec_blockCmd_of_host : exec (.blockCmd src arg) s =
    .next (if s.blockPresent arg.toNat then (s.resetBlock arg.toNat).rstDone 0 else s.rstDone 1) :=
  congrArg _ (State.rstCmd_of_host hhost _)

theorem exec_blockhold_of_host : exec (.blockhold src arg) s =
    .next (if s.blockPresent arg.toNat then ((s.resetBlock arg.toNat).markBlock aRST_HELD_LO aRST_HELD_HI arg.toNat true).rstDone 0
      else s.rstDone 1) :=
  congrArg _ (State.rstCmd_of_host hhost _)

theorem exec_blockrel_of_host : exec (.blockrel src arg) s =
    .next (if s.blockPresent arg.toNat = false then s.rstDone 1
      else if s.blockHeld arg.toNat = false then s.rstDone 3
      else (s.markBlock aRST_HELD_LO aRST_HELD_HI arg.toNat false).rstDone 0) :=
  congrArg _ (State.rstCmd_of_host hhost _)

theorem exec_partitionCmd_of_host : exec (.partitionCmd src arg) s =
    .next (if s.fuse.partitions ≤ arg.toNat then s.rstDone 1
      else if s.pairPart arg.toNat ∧ (s.ruRole = 4 ∨ s.ruRole = 5) then s.rstDone 3
      else (((s.noteReset 12).setReg aRST_LASTPART (BitVec.ofNat 32 arg.toNat)).resetPart arg.toNat).rstDone 0) :=
  congrArg _ (State.rstCmd_of_host hhost _)

end

/-! ### The watchdog (R394 to R398; log 155) -/

section
variable {s : State} {ch : Nat} (hruns : s.wdgRuns ch = true)
include hruns

/-- A service of a running channel in the open window of its period begins the next. -/
theorem State.wdgService_of_window (p : W) (hage : s.wdgAge ch < s.wdgLen ch) (hopen : s.wdgOpen ch = true) : s.wdgService ch p =
    if wdgS ch then { s.wdgBegin ch with wdgSvc := FMap.set (fun _ => 0) (s.wdgBegin ch).wdgSvc ch (s.wdgBegin ch).now }
    else s.wdgBegin ch := by
  have hwindow : ¬(s.wdgLen ch ≤ s.wdgAge ch ∨ s.wdgOpen ch = false) :=
    not_or.mpr ⟨Nat.not_le.mpr hage, ne_false_of_eq_true hopen⟩
  exact (if_neg (ne_false_of_eq_true hruns)).trans (if_neg hwindow)

/-- A service of a running channel outside the open window is an expiry. -/
theorem State.wdgService_of_other_time (p : W) (hout : s.wdgLen ch ≤ s.wdgAge ch ∨ s.wdgOpen ch = false) :
    s.wdgService ch p = s.wdgExpire ch p :=
  (if_neg (ne_false_of_eq_true hruns)).trans (if_pos hout)

end

/-- The channel of an engine is an E channel. -/
theorem wdgS_engine (e : BitVec 7) : wdgS e.toNat = false := decide_eq_false (by omega)

theorem exec_engineWatchdogAnswer_of_request {s : State} {e : BitVec 7} {dt : Nat}
    (hreq : FMap.get (fun _ => false) (s.elapse dt).wdgReq e.toNat = true) :
    exec (.engineWatchdogAnswer e dt) s = .next ((s.elapse dt).wdgService e.toNat 0) :=
  congrArg _ (if_pos hreq)

/-- While the supervisor runs, the right key is a service of the channel, any other an expiry of one that runs. -/
theorem exec_wdgSsvc_of_running {s : State} {dt : Nat} (hsup : (s.elapse dt).supRun = true) (n : BitVec 1) (key : BitVec 16) (p : W) :
    exec (.wdgSsvc n key p dt) s = .next (if key = 0xA5C3 then (s.elapse dt).wdgService (0xF0 + n.toNat) p
      else if (s.elapse dt).wdgRuns (0xF0 + n.toNat) then (s.elapse dt).wdgExpire (0xF0 + n.toNat) p else s.elapse dt) :=
  congrArg _ (if_neg (ne_false_of_eq_true hsup))

/-- The other S channel than `k`. -/
def otherS (k : Nat) : Nat := if k = 0xF0 then 0xF1 else 0xF0

/-- 1 ms after an expiry the hard timer resets: the device for an S channel, with the bits of both where both expired at once, else the
engine. -/
theorem exec_hardTimerExpiry_of_due {s u : State} {ch : BitVec 8} {dt t k : Nat} (hu : s.elapse dt = u) (hk : ch.toNat = k)
    (ht : FMap.get (fun _ => 0) u.wdgExp k = t) (hexp : t ≠ 0) (hdue : t + 800000 ≤ u.fab + 1) :
    exec (.hardTimerExpiry ch dt) s = .next
      (if wdgS k then
        if FMap.get (fun _ => 0) u.wdgExp (otherS k) = t then (u.warm (7 + (k - 0xF0))).noteReset (7 + (otherS k - 0xF0))
        else u.warm (7 + (k - 0xF0))
      else u.resetEngine k) := by
  subst hk ht hu
  exact congrArg _ (if_neg (not_or.mpr ⟨hexp, Nat.not_lt.mpr hdue⟩))

/-! ### The statement -/

/-- Settles O57: each source meets its guard, and each command the outcome of `State.rstCmd_of_host`. `witness_ResetsAndWatchdogResult`
meets the premises. Commands that act at once rest on log 123 of NOTES.md, what a warm reset keeps on log 122, what ENGINE and BLOCK stop
on log 125, WAIT after a reset on log 197, the longer S period on log 155. -/
theorem resetsAndWatchdogResult : Obligations.ResetsAndWatchdogResult := by
  unfold Obligations.ResetsAndWatchdogResult
  refine ⟨?supplies, ?resetPin, ?powerGood, ?coldWarm, ?engine, ?block, ?blockAbsent, ?partition, ?engineRelease, ?blockRelease,
    ?windowOpens, ?answer, ?firmware, ?periodPasses, ?hardTimer⟩
  case supplies => exact fun s => ⟨rfl, rfl, rfl, rfl⟩
  case resetPin =>
    intro s ns
    exact ⟨fun hlong => congrArg _ (if_pos hlong), fun hshort => congrArg _ ((if_neg (by omega)).trans (if_pos hshort))⟩
  case powerGood => exact fun s dt => rfl
  case coldWarm =>
    intro s src hhost
    rw [exec_cold_of_host hhost, exec_warm_of_host hhost]
    exact ⟨fun hright => ⟨congrArg _ (if_pos hright), congrArg _ (if_pos hright)⟩,
      fun hdenied => ⟨congrArg _ (if_neg (ne_true_of_eq_false hdenied)), congrArg _ (if_neg (ne_true_of_eq_false hdenied))⟩⟩
  case engine =>
    intro s src arg hhost
    rw [exec_engineCmd_of_host hhost]
    exact ⟨fun hpresent => congrArg _ (if_neg (Nat.not_le.mpr hpresent)), fun habsent => congrArg _ (if_pos habsent)⟩
  case block =>
    intro s src arg hhost hpresent
    rw [exec_blockCmd_of_host hhost, exec_blockhold_of_host hhost, exec_blockrel_of_host hhost, if_pos hpresent, if_pos hpresent,
      if_neg (ne_false_of_eq_true hpresent)]
    exact ⟨rfl, rfl, fun hheld => congrArg _ (if_neg (ne_false_of_eq_true hheld)), fun hfree => congrArg _ (if_pos hfree)⟩
  case blockAbsent =>
    intro s src arg hhost habsent
    simp only [List.forall_mem_cons, exec_blockCmd_of_host hhost, exec_blockhold_of_host hhost, exec_blockrel_of_host hhost, habsent,
      Bool.false_eq_true, if_true, if_false, List.not_mem_nil, false_imp_iff, implies_true, and_self]
  case partition =>
    intro s src arg p hhost hpart
    rw [exec_partitionCmd_of_host hhost, if_neg (Nat.not_le.mpr hpart)]
    refine ⟨fun hfree => congrArg _ (if_neg ?_), fun hpair hrole => congrArg _ (if_pos ⟨hpair, hrole⟩)⟩
    rintro ⟨hpair, hrole⟩
    rcases hfree with hnone | ⟨hsync, hstandby⟩
    · exact ne_true_of_eq_false hnone hpair
    · exact hrole.elim hsync hstandby
  case engineRelease =>
    intro s e dt u hreset hnone
    exact congrArg _ (if_pos ⟨hreset, hnone⟩)
  case blockRelease =>
    intro s code dt u hreset hfree
    exact congrArg _ (if_pos ⟨hreset, hfree⟩)
  case windowOpens =>
    intro s ch dt u k hruns hengine hopen
    exact congrArg _ (if_pos (Bool.and_eq_true_iff.mpr ⟨Bool.and_eq_true_iff.mpr ⟨hruns, congrArg not hengine⟩, hopen⟩))
  case answer =>
    intro s e dt u hreq hruns
    rw [exec_engineWatchdogAnswer_of_request hreq]
    refine ⟨fun hage hopen => ?accepted, fun hout => congrArg _ (State.wdgService_of_other_time hruns 0 hout)⟩
    case accepted =>
      rw [State.wdgService_of_window hruns 0 hage hopen, if_neg (ne_true_of_eq_false (wdgS_engine e))]
  case firmware =>
    intro s dt n p u k hsup hruns
    simp only [exec_wdgSsvc_of_running hsup, if_true]
    refine ⟨fun hage hopen hsafety => ?accepted, fun hout => congrArg _ (State.wdgService_of_other_time hruns p hout),
      fun key hkey => congrArg _ ((if_neg hkey).trans (if_pos hruns))⟩
    case accepted => exact congrArg _ ((State.wdgService_of_window hruns p hage hopen).trans (if_pos hsafety))
  case periodPasses =>
    intro s ch dt p u k hruns hlate
    exact congrArg _ (if_pos ⟨hruns, hlate⟩)
  case hardTimer =>
    intro s ch dt u k t hexp hdue
    rw [exec_hardTimerExpiry_of_due rfl rfl rfl hexp hdue]
    refine ⟨fun hengine => congrArg _ (if_neg (ne_true_of_eq_false hengine)), fun hsafety hone => ?one, fun hsafety hboth => ?both⟩
    case one => exact congrArg _ ((if_pos hsafety).trans (if_neg hone))
    case both => exact congrArg _ ((if_pos hsafety).trans (if_pos hboth))

end Sys2Proof.Machine
end

section
/-!
PROOFS. The NV array, the caddy and power failure (spec/15 R401 to R413), and the event recorder (spec/15 R414 to R421).
-/
namespace Sys2Proof.Machine

/-! ### NV commands (R401 to R405) -/

/-- An NV command of PF0 or the service port to the reachable, idle array: the checks that every command meets (R401, R402, R413). -/
theorem State.nvCommand_reached {s : State} {src : Nat} (hhost : isVf src = false) (hup : s.rb aNV_BSTAT 1 = false)
    (hidle : s.rb aNV_BSTAT 0 = false) (k : State → State) : s.nvCommand src k =
      (if s.nvBlock then s.setRf aNV_STAT 23 16 1
       else if s.pfHold then s.setRf aNV_STAT 23 16 7
       else if s.rb aNV_STAT 0 then s.setRf aNV_STAT 23 16 3 else k s).setRf aNV_BSTAT 0 0 1 :=
  State.farWrite_idle _ _ hhost hup hidle

/-- The array is reachable and idle for a command of `src`, and serves: no recall, no power failure, no command in progress. -/
structure State.NvServes (s : State) (src : Nat) : Prop where
  host : isVf src = false
  up : s.rb aNV_BSTAT 1 = false
  idle : s.rb aNV_BSTAT 0 = false
  recalled : s.nvBlock = false
  powered : s.pfHold = false
  free : s.rb aNV_STAT 0 = false

/-- A command that the array serves has its own outcome. -/
theorem State.nvCommand_served {s : State} {src : Nat} (h : s.NvServes src) (k : State → State) :
    s.nvCommand src k = (k s).setRf aNV_BSTAT 0 0 1 := by
  rw [State.nvCommand_reached h.host h.up h.idle, if_neg (ne_true_of_eq_false h.recalled), if_neg (ne_true_of_eq_false h.powered),
    if_neg (ne_true_of_eq_false h.free)]

/-- The three commands of `NV_CMD` meet the same checks. -/
theorem exec_nvCommand {src : BitVec 10} {found : BitVec 2} {c : Instr} (hc : c ∈ [Instr.nvRead src found, .nvWrite src, .cadsave src]) :
    ∃ k : State → State, ∀ s, exec c s = .next (s.nvCommand src.toNat k) := by
  simp only [List.mem_cons, List.not_mem_nil, or_false] at hc
  rcases hc with rfl | rfl | rfl
  all_goals exact ⟨_, fun _ => rfl⟩

/-- A served command `c`, whose own outcome is `r`. -/
theorem exec_nvCommand_served {s r : State} {src : Nat} {c : Instr} {k : State → State} (h : s.NvServes src)
    (hc : exec c s = .next (s.nvCommand src k)) (hk : k s = r) : exec c s = .next (r.setRf aNV_BSTAT 0 0 1) := by
  rw [hc, State.nvCommand_served h, hk]

/-! ### Page writes and saves that end (R373, R403, R408) -/

/-- The page write at the head of the queue ends (log 117). -/
theorem exec_nvPageWriteDone_of_head {s v : State} {n kind : Nat} {bs : List Byte} {l : List (Nat × List Byte × Nat)}
    (hq : s.nvQ = (n, bs, kind) :: l) (hv : { s with nvQ := l }.showArray = v) (ok : Bool) : exec (.nvPageWriteDone ok) s =
      .next (let w := if kind = 3 then (if ok then { v with evUnw := v.evUnw - n } else (v.losePage n).collect 26 cContained 0x01 0)
          else if ok then v.putNv n bs else (v.eraseNv n).collect 26 cContained 0x01 n
        if kind = 0 then w.nvDone (if ok then 0 else 6) else if kind = 3 then w.freezeDone else w) := by
  subst hv
  have hexec : exec (.nvPageWriteDone ok) s = execNvPageWriteDone ok s := rfl
  simp only [hexec, execNvPageWriteDone, hq]

/-- A caddy save of kind `kind` ends: its generation stands. -/
theorem exec_caddySaveDone_of_save {s u v : State} {dt kind : Nat} {ws : FMap W} {g : W} (hu : s.elapse dt = u)
    (hsave : u.cadSaving = some (kind, ws)) (hg : u.reg aNV_CADGEN + 1 = g)
    (hv : ((({ u with cadSaving := none, cadSaved := some (g.toNat, ws, u.evLost), cadLast := some u.fab }.setReg aNV_CADGEN
      g).saveCounters).setRf aNV_STAT 4 4 0).showArray = v) : exec (.caddySaveDone dt) s =
      .next (if kind = 0 then v.nvDone 0 else if kind = 2 then (v.setRf aNV_STAT 3 3 0).pfResume else v) := by
  subst hv hg hu
  have hexec : exec (.caddySaveDone dt) s = execCaddySaveDone dt s := rfl
  simp only [hexec, execCaddySaveDone, hsave]

/-- A power failure that no earlier one holds, with the array at rest and no host command in progress (R412; log 121). -/
theorem exec_powerFail_of_rest {s v w : State} {n : Nat} (hfirst : s.pfHold = false) (hrest : s.nvQ = [])
    (hfree : s.rb aNV_STAT 0 = false) (hv : { s with nvQ := [], pfLow := true, pfHold := true }.setRf aNV_STAT 2 2 0 = v)
    (hn : v.evStage.length + v.evUnw = n)
    (hw : ((v.setStage []).setStore (v.evStore.take (v.evStore.length - v.evUnw))).unfreezeNow = w) : exec .powerFail s =
      .next (({ w with evBuf := 0, evUnw := 0, evLost := w.evLost + n }.setReg aEVR_CNT_LOST
        (satAdd (w.reg aEVR_CNT_LOST) n)).beginSave 2 |>.setRf aNV_STAT 3 3 1) := by
  subst hw hn hv
  have hexec : exec .powerFail s = execPowerFail s := rfl
  simp only [hexec, execPowerFail, hfirst, hrest, hfree, Bool.false_eq_true, if_false]

/-! ### `CAD_ALLOC` (R410) -/

/-- A write of `CAD_ALLOC[p]` of PF0 or the service port, `p` a partition of the Legend. -/
theorem exec_cadAllocWrite_reached {s : State} {src : BitVec 10} {p : BitVec 9} (hhost : isVf src.toNat = false)
    (hup : s.rb aNV_BSTAT 1 = false) (hidle : s.rb aNV_BSTAT 0 = false) (hp : p.toNat < s.fuse.partitions) (d : W) :
    exec (.cadAllocWrite src p d) s = .next ((s.cadAlloc src.toNat p.toNat d).setRf aNV_BSTAT 0 0 1) := by
  have hexec : exec (.cadAllocWrite src p d) s = execCadAllocWrite src p d s := rfl
  rw [hexec, execCadAllocWrite, State.farWrite_idle _ _ hhost hup hidle, if_pos hp]

section
variable {s : State} {src p : Nat} {d w : W} (hw : d &&& 0x0FFF07FF = w)
include hw

/-- A range beyond the caddy, and any range of a partition in Run or Hold, is refused. -/
theorem State.cadAlloc_of_refused (hbad : s.mode p = 2 ∨ s.mode p = 3 ∨ 2048 < fld w 10 0 + fld w 27 16) :
    s.cadAlloc src p d = s.refuse src (farSpace src) (aCAD_ALLOC p) 0x0A := by
  subst hw
  exact if_pos (hbad.imp_right (.imp_right .inl))

/-- A range within the caddy, of no other partition, is taken by one that does not run: the words that change hands read zero. -/
theorem State.cadAlloc_of_free {old : List Nat} (hold : cadRange (s.reg (aCAD_ALLOC p)) = old) (hrun : s.mode p ≠ 2) (hhold : s.mode p ≠ 3)
    (hrange : fld w 10 0 + fld w 27 16 ≤ 2048)
    (hfree : ((List.range s.fuse.partitions).any (fun q =>
      q != p && (cadRange (s.reg (aCAD_ALLOC q))).any (cadRange w).contains)) = false) : s.cadAlloc src p d =
      ((old.filter (fun x => !(cadRange w).contains x) ++ (cadRange w).filter (fun x => !old.contains x)).foldl
        (fun s x => s.setReg (aCAD_WIN x) 0) s).setReg (aCAD_ALLOC p) w := by
  subst hw hold
  exact if_neg fun hbad => hbad.elim hrun (·.elim hhold (·.elim (Nat.not_lt.mpr hrange) (ne_true_of_eq_false hfree)))

end

/-! ### The recorder (R416 to R421; log 119) -/

theorem exec_eventAdmission_of_passed {s : State} {r : EvRec} {l : List EvRec} (hserves : s.evrShut = false) (hpass : s.evPass = r :: l) :
    exec .eventAdmission s = .next ({ s with evPass := l }.admission r.code.toNat r.sev.toNat 0 0 r.body).1 := by
  have hexec : exec .eventAdmission s = execEventAdmission s := rfl
  simp only [hexec, execEventAdmission, hserves, Bool.false_eq_true, if_false, hpass]

/-- The writer and the page buffer work while the store is neither frozen nor about to be, and the recorder serves. -/
theorem exec_eventWriter_of_works {s : State} (hfrozen : s.frozen = false) (hpend : s.fpend = false) (hserves : s.evrShut = false) :
    exec .eventPageWrite s = .next (s.drain 64) ∧ exec .eventBufferTimeout s = .next s.flushBuf := by
  have hworks : ¬(s.frozen || s.fpend || s.evrShut) = true := by simp [hfrozen, hpend, hserves]
  exact ⟨congrArg _ (if_neg hworks), congrArg _ (if_neg hworks)⟩

section
variable {s : State} {src : Nat}

theorem State.evFreeze_of_free (hserves : s.evrShut = false) (hfrozen : s.frozen = false) (hpend : s.fpend = false) :
    s.evFreeze src = (s.freezeBy src, 0) := by
  simp only [State.evFreeze, hserves, hfrozen, hpend, Bool.or_self, Bool.false_eq_true, if_false]
theorem State.evFreeze_of_shut (hshut : s.evrShut = true) : s.evFreeze src = (s, 1) := if_pos hshut
theorem State.evFreeze_of_taken (hserves : s.evrShut = false) (htaken : (s.frozen || s.fpend) = true) :
    s.evFreeze src = (s, if s.isHolder src then 1 else 3) :=
  (if_neg (ne_true_of_eq_false hserves)).trans (if_pos htaken)

theorem State.evUnfreeze_of_holder (hholder : s.isHolder src = true) : s.evUnfreeze src = (s.unfreezeNow, 0) := if_pos hholder
theorem State.evUnfreeze_of_other (hother : s.isHolder src = false) :
    s.evUnfreeze src = (s, if s.frozen || s.fpend then 3 else 1) := if_neg (ne_true_of_eq_false hother)

theorem State.evClear_of_other (hother : s.holds src = false) : s.evClear src = (s, 1) := if_pos hother
theorem State.evClear_of_denied (hholds : s.holds src = true) (hdenied : s.granted src 3 = false) : s.evClear src = (s, 2) :=
  (if_neg (ne_false_of_eq_true hholds)).trans (if_pos hdenied)

/-- What CLEAR of the holder with the right leaves: one record, which tells of it. -/
theorem State.evClear_of_right {r : EvStored} (hholds : s.holds src = true) (hright : s.granted src 3 = true)
    (hr : { hdr := s.evHeader 0x1402 7 2 0 0 0,
            body := [BitVec.ofNat 32 (FMap.get (fun _ => 15) s.auSlot (if src = 0x3FE then 1 else 0)),
              BitVec.ofNat 32 s.evStore.length] } = r) : s.evClear src =
      (((({ s with evBuf := 0, evUnw := 0,
                   nvQ := s.nvQ.map (fun (e : Nat × List Byte × Nat) => if e.2.2 = 3 then (0, [], 3) else e) }.setStore
        []).place r).evrEvent 8).unfreezeNow, 0) := by
  subst hr
  exact (if_neg (ne_false_of_eq_true hholds)).trans (if_neg (ne_false_of_eq_true hright))

end

section
variable {s : State} {src : BitVec 10} (hhost : isVf src.toNat = false) (hup : s.rb aEVR_BSTAT 1 = false)
  (hidle : s.rb aEVR_BSTAT 0 = false)
include hhost hup hidle

theorem exec_evrFreeze_reached : exec (.evrFreeze src) s =
    .next (((s.evFreeze src.toNat).1.evrDone (s.evFreeze src.toNat).2).setRf aEVR_BSTAT 0 0 1) :=
  congrArg _ (State.farWrite_idle _ _ hhost hup hidle)
theorem exec_evrUnfreeze_reached : exec (.evrUnfreeze src) s =
    .next (((s.evUnfreeze src.toNat).1.evrDone (s.evUnfreeze src.toNat).2).setRf aEVR_BSTAT 0 0 1) :=
  congrArg _ (State.farWrite_idle _ _ hhost hup hidle)
theorem exec_evrClear_reached : exec (.evrClear src) s =
    .next (((s.evClear src.toNat).1.evrDone (s.evClear src.toNat).2).setRf aEVR_BSTAT 0 0 1) :=
  congrArg _ (State.farWrite_idle _ _ hhost hup hidle)

/-- An index of a record in the store loads the read window for the holder, and is refused for any other. -/
theorem exec_evrRdIdxWrite_of_record {d : W} {r : EvStored} (hrec : s.evStore[fld d 13 0]? = some r) :
    exec (.evrRdIdxWrite src d) s = .next ((if s.holds src.toNat then s.loadWindow src.toNat (fld d 13 0) r
      else s.refuse src.toNat (farSpace src.toNat) aEVR_RD_IDX 0x0A).setRf aEVR_BSTAT 0 0 1) := by
  have hexec : exec (.evrRdIdxWrite src d) s = execEvrRdIdxWrite src d s := rfl
  simp only [hexec, execEvrRdIdxWrite, State.farWrite_idle _ _ hhost hup hidle, hrec]

/-- An index beyond the store is refused. -/
theorem exec_evrRdIdxWrite_of_none {d : W} (hnone : s.evStore[fld d 13 0]? = none) :
    exec (.evrRdIdxWrite src d) s = .next ((s.refuse src.toNat (farSpace src.toNat) aEVR_RD_IDX 0x0A).setRf aEVR_BSTAT 0 0 1) := by
  have hexec : exec (.evrRdIdxWrite src d) s = execEvrRdIdxWrite src d s := rfl
  simp only [hexec, execEvrRdIdxWrite, State.farWrite_idle _ _ hhost hup hidle, hnone]

end

/-! ### The statement -/

/-- Settles O58: an NV command meets the checks of `State.nvCommand_reached`, a recorder command its REASON, and each event its guard.
`witness_NvAndEventRecorderResult` meets the premises. Completion marks and READ at once rest on log 117 of NOTES.md, page writes of the
store on log 119, the REASONs of FREEZE, UNFREEZE and CLEAR on log 120, the hold after a power failure on log 121. -/
theorem nvAndEventRecorderResult : Obligations.NvAndEventRecorderResult := by
  unfold Obligations.NvAndEventRecorderResult
  refine ⟨?read, ?write, ?cadsave, ?refused, ?pageWritten, ?hour, ?autosave, ?saved, ?powerFail, ?powerBack, ?alloc, ?allocRefused,
    ?admission, ?refill, ?writer, ?recorderCommands, ?clear, ?freezes, ?freezeTimeout, ?readIndex⟩
  case read =>
    intro s src found hhost hup hidle hrec hpow hfree
    exact exec_nvCommand_served ⟨hhost, hup, hidle, hrec, hpow, hfree⟩ rfl rfl
  case write =>
    intro s src hhost hup hidle hrec hpow hfree
    have h : s.NvServes src.toNat := ⟨hhost, hup, hidle, hrec, hpow, hfree⟩
    exact ⟨fun hpage => exec_nvCommand_served h rfl (if_neg (ne_false_of_eq_true hpage)),
      fun hpage => exec_nvCommand_served h rfl (if_pos hpage)⟩
  case cadsave =>
    intro s src hhost hup hidle hrec hpow hfree
    have h : s.NvServes src.toNat := ⟨hhost, hup, hidle, hrec, hpow, hfree⟩
    exact ⟨fun t hlast hrecent => exec_nvCommand_served h rfl (by simp [hlast, hrecent]),
      fun hnever hnone => exec_nvCommand_served h rfl (by simp [hnever, hnone])⟩
  case refused =>
    intro s src found hhost hup hidle c hc
    obtain ⟨k, hk⟩ := exec_nvCommand hc
    rw [hk, State.nvCommand_reached hhost hup hidle]
    refine ⟨fun hrecall => by rw [if_pos hrecall], fun hrec hhold => ?held, fun hrec hpow hbusy => ?busy⟩
    case held => rw [if_neg (ne_true_of_eq_false hrec), if_pos hhold]
    case busy => rw [if_neg (ne_true_of_eq_false hrec), if_neg (ne_true_of_eq_false hpow), if_pos hbusy]
  case pageWritten =>
    intro s n kind bs l hq v
    rw [exec_nvPageWriteDone_of_head hq rfl, exec_nvPageWriteDone_of_head hq rfl]
    refine ⟨?host, fun hother hstore => ?other, ?store⟩
    case host =>
      rintro rfl
      exact ⟨rfl, rfl⟩
    case other => simp only [hother, hstore, if_false, if_true, Bool.false_eq_true, v, and_self]
    case store =>
      rintro rfl
      exact ⟨rfl, rfl⟩
  case hour => exact fun s dt => rfl
  case autosave =>
    intro s dt u hset hnone hpow hrec
    exact congrArg _ (if_neg (by simp [u, hset, hnone, hpow, hrec]))
  case saved =>
    intro s dt kind ws u hsave g v
    exact exec_caddySaveDone_of_save rfl hsave rfl rfl
  case powerFail =>
    intro s hfirst hrest hfree v n w
    exact exec_powerFail_of_rest hfirst hrest hfree rfl rfl rfl
  case powerBack => exact fun s => ⟨fun hhold => congrArg _ (if_pos hhold), rfl⟩
  case alloc =>
    intro s src p d k w hhost hup hidle hpart hrun hhold hrange hfree old
    rw [exec_cadAllocWrite_reached hhost hup hidle hpart, State.cadAlloc_of_free rfl rfl hrun hhold hrange hfree]
  case allocRefused =>
    intro s src p d hhost hup hidle hpart hbad
    rw [exec_cadAllocWrite_reached hhost hup hidle hpart, State.cadAlloc_of_refused rfl hbad]
  case admission => exact fun s r l => exec_eventAdmission_of_passed
  case refill => exact fun s c hbelow => congrArg _ (if_pos hbelow)
  case writer =>
    intro s hfrozen hpend hserves
    obtain ⟨hwriter, hbuffer⟩ := exec_eventWriter_of_works hfrozen hpend hserves
    rw [hbuffer]
    exact ⟨hwriter, fun hempty => congrArg _ (if_pos hempty), fun hsome => congrArg _ (if_neg hsome)⟩
  case recorderCommands =>
    intro s src hhost hup hidle
    rw [exec_evrFreeze_reached hhost hup hidle, exec_evrUnfreeze_reached hhost hup hidle, exec_evrClear_reached hhost hup hidle]
    refine ⟨fun hserves hfrozen hpend => ?freeze, fun hshut => ?freezeShut, fun hserves htaken => ?freezeTaken, fun hholder => ?unfreeze,
      fun hother => ?unfreezeOther, fun hother => ?clearOther, fun hholds hdenied => ?clearDenied⟩
    case freeze => rw [State.evFreeze_of_free hserves hfrozen hpend]
    case freezeShut => rw [State.evFreeze_of_shut hshut]
    case freezeTaken => rw [State.evFreeze_of_taken hserves htaken]
    case unfreeze => rw [State.evUnfreeze_of_holder hholder]
    case unfreezeOther => rw [State.evUnfreeze_of_other hother]
    case clearOther => rw [State.evClear_of_other hother]
    case clearDenied => rw [State.evClear_of_denied hholds hdenied]
  case clear =>
    intro s src hhost hup hidle hholds hright r
    rw [exec_evrClear_reached hhost hup hidle, State.evClear_of_right hholds hright rfl]
  case freezes =>
    intro s src v
    exact ⟨fun hdone hpend => if_pos (Bool.and_eq_true_iff.mpr ⟨hpend, hdone⟩),
      fun hwaits => if_neg fun hend => ne_true_of_eq_false hwaits (Bool.and_eq_true_iff.mp hend).2⟩
  case freezeTimeout =>
    intro s dt u hlate
    exact congrArg _ (if_pos hlate)
  case readIndex =>
    intro s src d hhost hup hidle
    refine ⟨fun r hrec hholds => ?loads, fun r hrec hother => ?other, exec_evrRdIdxWrite_of_none hhost hup hidle⟩
    case loads => rw [exec_evrRdIdxWrite_of_record hhost hup hidle hrec, if_pos hholds]
    case other => rw [exec_evrRdIdxWrite_of_record hhost hup hidle hrec, if_neg (ne_true_of_eq_false hother)]

end Sys2Proof.Machine
end

section
/-!
PROOFS. The service port (spec/16 R422 to R429): sessions, rights, READ and WRITE, events, dumps and debug requests.
-/
namespace Sys2Proof.Machine

/-! ### Requests of a session (R425, R426, R428; log 144) -/

/-- The service port takes the next request of its open session: the port is up, no management pause runs, the supervisor runs, and the
request names the session and the next number. -/
structure State.SpNext (s : State) (sess seq : BitVec 16) : Prop where
  up : s.spUp = true
  unpaused : s.mgmt = false
  running : s.supRun = true
  opened : s.spSession ≠ 0
  mine : s.spSession = sess.toNat
  fresh : seq.toNat ≠ s.spLast
  next : seq.toNat = (s.spLast + 1) % 65536

section
variable {s : State} {sess seq : BitVec 16} {c : Instr} {op r : Nat} {k : State → Answer} {a : Answer} (h : s.SpNext sess seq)
include h

/-- The next request executes, with the outcome `a` that it has on the state it meets. -/
theorem exec_serve_next (hc : exec c s = .next (s.serve sess seq op k)) (ha : k s.spTaken = a) :
    exec c s = .next (s.spTaken.execute seq.toNat op (fun _ => a)) := by
  subst ha
  rw [hc, State.serve_next k h.up h.unpaused h.running h.opened h.mine h.fresh h.next]

/-- The same of a request whose right the grant has. -/
theorem exec_serveR_next (hright : s.spTaken.granted 0x3FE r = true) (hc : exec c s = .next (s.serveR r sess seq op k))
    (ha : k s.spTaken = a) : exec c s = .next (s.spTaken.execute seq.toNat op (fun _ => a)) := by
  subst ha
  rw [hc, State.serveR_next k h.up h.unpaused h.running h.opened h.mine h.fresh h.next hright]

/-- A request whose right the grant lacks is answered with STATUS 03. -/
theorem exec_serveR_denied (hdenied : s.spTaken.granted 0x3FE r = false) (hc : exec c s = .next (s.serveR r sess seq op k)) :
    exec c s = .next (s.spTaken.execute seq.toNat op (fun _ => (s.spTaken, 3, []))) := by
  rw [hc, State.serveR_denied k h.up h.unpaused h.running h.opened h.mine h.fresh h.next hdenied]

/-- A debug request on a partition of the Legend executes with the right DEBUG. -/
theorem exec_debug_next {part : BitVec 16} {k : State → Nat → Answer} (hright : s.spTaken.granted 0x3FE 6 = true)
    (hpart : part.toNat < s.spTaken.fuse.partitions) (hc : exec c s = .next (s.debug sess seq op part k))
    (ha : k s.spTaken part.toNat = a) : exec c s = .next (s.spTaken.execute seq.toNat op (fun _ => a)) :=
  exec_serveR_next h hright hc ((if_neg (Nat.not_le.mpr hpart)).trans ha)

/-- A debug request on an absent partition is refused as unit absent (R5). -/
theorem exec_debug_absent {part : BitVec 16} {k : State → Nat → Answer} (hright : s.spTaken.granted 0x3FE 6 = true)
    (hpart : s.spTaken.fuse.partitions ≤ part.toNat) (hc : exec c s = .next (s.debug sess seq op part k)) :
    exec c s = .next (s.spTaken.execute seq.toNat op (fun _ => (s.spTaken, 4, [1]))) :=
  exec_serveR_next h hright hc (if_pos hpart)

end

/-! ### The requests by their rights (table "Service commands") -/

/-- The debug requests, each with its OP. -/
noncomputable def debugRequests (sess seq part : BitVec 16) (b : Byte) (addr : BitVec 24) : List (Nat × Instr) :=
  [(0x28, .spHold sess seq part), (0x29, .spResume sess seq part), (0x2A, .spStep sess seq part b), (0x2B, .brkset sess seq part b addr),
   (0x2C, .brkclr sess seq part b)]

/-- The update requests. -/
noncomputable def updateRequests (sess seq : BitVec 16) (b : Byte) (off : W) (data : List Byte) : List (Nat × Instr) :=
  [(0x18, .xbegin sess seq b data), (0x19, .xdata sess seq off data), (0x1A, .xend sess seq), (0x1C, .activate sess seq b),
   (0x1D, .confirm sess seq b), (0x1E, .fallback sess seq b), (0x1F, .optwr sess seq off off off)]

/-- The requests on the session, the grant, the registers, the recorder and the dumps. -/
noncomputable def accessRequests (sess seq : BitVec 16) (space : Byte) (fn : BitVec 16) (off : W) (count : BitVec 16) (data : List Byte) (slot : Byte)
    (rights : BitVec 16) (mac : BitVec 128) (k : BitVec 16) (b : Byte) : List (Nat × Instr) :=
  [(0x03, .closeSession sess seq), (0x08, .spChallenge sess seq slot rights), (0x09, .spResponse sess seq mac),
   (0x0A, .spRelinquish sess seq), (0x10, .spRead sess seq space fn off count), (0x11, .spWrite sess seq space fn off data),
   (0x20, .evfreeze sess seq), (0x21, .evread sess seq k), (0x22, .evunfreeze sess seq), (0x23, .evclear sess seq),
   (0x24, .dumpread sess seq b off count)]

section
variable {sess seq : BitVec 16} {space : Byte} {fn : BitVec 16} {off : W} {count : BitVec 16} {data : List Byte} {slot : Byte}
  {rights : BitVec 16} {mac : BitVec 128} {k part : BitVec 16} {b : Byte} {addr : BitVec 24} {e : Nat × Instr}

/-- Debug requests go through `State.debug`. -/
theorem exec_debugRequest (he : e ∈ debugRequests sess seq part b addr) : ∃ k, ∀ s, exec e.2 s = .next (s.debug sess seq e.1 part k) := by
  simp only [debugRequests, List.mem_cons, List.not_mem_nil, or_false] at he
  rcases he with rfl | rfl | rfl | rfl | rfl
  all_goals exact ⟨_, fun _ => rfl⟩

/-- Update requests need the right UPDATE. -/
theorem exec_updateRequest (he : e ∈ updateRequests sess seq b off data) : ∃ k, ∀ s, exec e.2 s = .next (s.serveR 2 sess seq e.1 k) := by
  simp only [updateRequests, List.mem_cons, List.not_mem_nil, or_false] at he
  rcases he with rfl | rfl | rfl | rfl | rfl | rfl | rfl
  all_goals exact ⟨_, fun _ => rfl⟩

theorem exec_accessRequest (he : e ∈ accessRequests sess seq space fn off count data slot rights mac k b) :
    ∃ k, ∀ s, exec e.2 s = .next (s.serve sess seq e.1 k) := by
  simp only [accessRequests, List.mem_cons, List.not_mem_nil, or_false] at he
  rcases he with rfl | rfl | rfl | rfl | rfl | rfl | rfl | rfl | rfl | rfl | rfl
  all_goals exact ⟨_, fun _ => rfl⟩

/-- Every request of a session meets the checks of `State.serve`. -/
theorem exec_sessionRequest (he : e ∈ accessRequests sess seq space fn off count data slot rights mac k b ++
    debugRequests sess seq part b addr ++ updateRequests sess seq b off data) : ∃ k, ∀ s, exec e.2 s = .next (s.serve sess seq e.1 k) := by
  rw [List.mem_append, List.mem_append] at he
  rcases he with (haccess | hdebug) | hupdate
  · exact exec_accessRequest haccess
  · obtain ⟨k, hk⟩ := exec_debugRequest hdebug
    exact ⟨_, hk⟩
  · obtain ⟨k, hk⟩ := exec_updateRequest hupdate
    exact ⟨_, hk⟩

end

/-! ### Requests outside the session (R424, R426; log 147) -/

/-- A request that needs no session is answered while the supervisor serves. -/
theorem State.serveAny_of_serving {s : State} {op : Nat} (hup : s.spUp = true) (hpause : s.mgmt = false) (hsup : s.supRun = true)
    (k : State → State) : s.serveAny op k = k s.spHeard := by
  rw [State.serveAny, if_neg (ne_false_of_eq_true hup), if_neg (ne_true_of_eq_false hpause), if_neg (ne_false_of_eq_true hsup)]

/-- The session that OPEN draws; 0 is none, and not taken. -/
def State.drawnSession (s : State) : Nat := if (Config.session s.fresh).toNat = 0 then 1 else (Config.session s.fresh).toNat

/-- The state in which OPEN of `peer` has opened session `n` in place of any session before it. -/
def State.opened (s : State) (peer : BitVec 48) (n : Nat) : State :=
  ({ s.endSession.useFresh with
      spPeer := peer.toNat, spLast := 0, spAt := s.endSession.fab
      spReply := some { op := 2, status := 0, body := beBytes 2 n } } : State).setReg aSP_STAT (BitVec.ofNat 32 (n * 65536 + 3))

/-- OPEN while another peer's session is open is answered with STATUS 01, and opens one otherwise. -/
theorem exec_openSession_of_serving {s v : State} (hup : s.spUp = true) (hpause : s.mgmt = false) (hsup : s.supRun = true)
    (hv : s.spHeard = v) (peer : BitVec 48) : exec (.openSession peer) s =
      .next (if v.spSession ≠ 0 ∧ v.spPeer ≠ peer.toNat then v.reply 2 1 []
        else (v.opened peer v.endSession.drawnSession).reply 2 0 (beBytes 2 v.endSession.drawnSession)) := by
  subst hv
  exact congrArg _ (State.serveAny_of_serving hup hpause hsup _)

/-! ### READ and WRITE (R427; log 174) -/

section
variable {s : State} {sess seq : BitVec 16} {space : Byte} {fn : BitVec 16} {off : W} {sp o n : Nat}
  (hsp : space.toNat = sp) (ho : off.toNat = o) (h : s.SpNext sess seq) (hargs : spArgs sp fn.toNat n = true)
  (halign : spRegs sp o = true → o % 4 = 0 ∧ n % 4 = 0)
include halign

/-- An access to register space whose offset and length are multiples of 4 is no misaligned one. -/
theorem spRegs_aligned : (spRegs sp o && decide (o % 4 ≠ 0 ∨ n % 4 ≠ 0)) = false := by
  by_cases hregs : spRegs sp o = true
  · obtain ⟨hoff, hlen⟩ := halign hregs
    simp [hoff, hlen]
  · simp [hregs]

include hsp ho h hargs

/-- A READ of valid arguments answers the bytes, or the first refusal. -/
theorem exec_spRead_valid {count : BitVec 16} {t : State × List W × Option (Nat × Nat)} {a : Answer} (hn : count.toNat = n)
    (ht : spGets sp fn.toNat s.spTaken (if n = 0 then [] else wordsIn o n) = t)
    (ha : (∃ x c, t.2.2 = some (x, c) ∧ refusedReply t.1 c (x - o) = a) ∨
      t.2.2 = none ∧ (t.1, 0, ((t.2.1.flatMap bytesOf).drop (o % 4)).take n) = a) :
    exec (.spRead sess seq space fn off count) s = .next (s.spTaken.execute seq.toNat 0x10 (fun _ => a)) := by
  subst hsp ho hn ht
  have haligned := spRegs_aligned halign
  refine exec_serve_next h rfl ?_
  rcases ha with ⟨x, c, hbad, rfl⟩ | ⟨hgood, rfl⟩
  · simp only [hargs, haligned, hbad, Bool.not_true, Bool.false_eq_true, if_false]
  · simp only [hargs, haligned, hgood, Bool.not_true, Bool.false_eq_true, if_false]

/-- A WRITE of valid arguments with the right answers the bytes written, or the first refusal. -/
theorem exec_spWrite_valid {data : List Byte} {t : State × Option (Nat × Nat)} {a : Answer} (hright : s.spTaken.granted 0x3FE 5 = true)
    (hn : data.length = n) (ht : spPuts sp fn.toNat o data s.spTaken true (if n = 0 then [] else wordsIn o n) = t)
    (ha : (∃ x c, t.2 = some (x, c) ∧ refusedReply t.1 c (x - o) = a) ∨ t.2 = none ∧ (t.1, 0, beBytes 2 n) = a) :
    exec (.spWrite sess seq space fn off data) s = .next (s.spTaken.execute seq.toNat 0x11 (fun _ => a)) := by
  subst hsp ho hn ht
  have haligned := spRegs_aligned halign
  refine exec_serveR_next h hright rfl ?_
  rcases ha with ⟨x, c, hbad, rfl⟩ | ⟨hgood, rfl⟩
  · simp only [hargs, haligned, hbad, Bool.not_true, Bool.false_eq_true, if_false]
  · simp only [hargs, haligned, hgood, Bool.not_true, Bool.false_eq_true, if_false]

end

/-! ### Events and dumps (R419 to R421, R429; log 175) -/

section
variable {s : State} {sess seq : BitVec 16} (h : s.SpNext sess seq)
include h

/-- EVREAD of a record of the store by the holder. -/
theorem exec_evread_of_holder {k : BitVec 16} {r : EvStored} (hholds : s.spTaken.holds 0x3FE = true)
    (hrec : s.spTaken.evStore[k.toNat]? = some r) : exec (.evread sess seq k) s = .next (s.spTaken.execute seq.toNat 0x21
      (fun _ => ({ s.spTaken with evAccess := s.spTaken.fab }, 0, (r.hdr ++ r.body).flatMap bytesOf))) := by
  refine exec_serve_next h rfl ((if_neg (ne_false_of_eq_true hholds)).trans ?_)
  simp only [hrec]

section
variable {off : W} {count : BitVec 16} {o n : Nat} (ho : off.toNat = o) (hn : count.toNat = n) (hlen : n ≤ 1024)
include ho hn hlen

/-- DUMPREAD of the dump area answers its bytes; its uncorrectable words are faults of the store. -/
theorem exec_dumpread_area (hrange : o + n ≤ 0x800000) {l : List Nat} {v : State}
    (hl : (List.range (n / 4 + 2)).map (fun i => (dumpBase + o) / 4 * 4 + 4 * i) = l)
    (hv : l.foldl (fun s a => if a < dumpBase + o + n ∧ s.isBad a then s.storeFault a else s) s.spTaken = v) :
    exec (.dumpread sess seq 0 off count) s =
      .next (s.spTaken.execute seq.toNat 0x24 (fun _ => (v, 0, s.spTaken.rdBytes (dumpBase + o) n))) := by
  subst ho hn hl hv
  exact exec_serve_next h rfl ((if_neg (by simp; omega)).trans (if_pos rfl))

/-- DUMPREAD of the dump page in NV answers its bytes, or REASON 5 where there is none. -/
theorem exec_dumpread_page (hrange : o + n ≤ 4096) {a : Answer}
    (ha : (∃ p, s.spTaken.dumpNew = some p ∧ (s.spTaken, 0, ((s.spTaken.nvDump p).drop o).take n) = a) ∨
      s.spTaken.dumpNew = none ∧ (s.spTaken, 4, [5]) = a) :
    exec (.dumpread sess seq 1 off count) s = .next (s.spTaken.execute seq.toNat 0x24 (fun _ => a)) := by
  subst ho hn
  refine exec_serve_next h rfl ((if_neg (by simp; omega)).trans ((if_neg (by decide)).trans ?_))
  rcases ha with ⟨p, hpage, rfl⟩ | ⟨hnone, rfl⟩
  · simp only [hpage]
  · simp only [hnone]

end

end

/-! ### The statement -/

/-- Settles O59: a request of the open session meets the checks of `State.serve`, and one that is served has its own outcome
(`exec_serve_next`, `exec_serveR_next`, `exec_debug_next`). `witness_ServicePortResult` meets the premises. The reply and the order of
OPEN rest on log 144 of NOTES.md, LINK on log 143, the body of IDENTIFY on log 146, session 0 on log 147, refusal bodies on log 174,
DUMPREAD and EVREAD on log 175, the replies of debug requests on log 176. -/
theorem servicePortResult : Obligations.ServicePortResult := by
  unfold Obligations.ServicePortResult
  refine ⟨?otherSession, ?wrongNumber, ?writeDenied, ?clearDenied, ?debugDenied, ?updateDenied, ?identify, ?opens, ?otherPeer, ?closes,
    ?silence, ?exchanges, ?read, ?readInvalid, ?write, ?freezes, ?eventRead, ?eventReadRefused, ?eventClear, ?dumpRead, ?debug,
    ?debugAbsent, ?breakpoints, ?configuration, ?discards⟩
  case otherSession =>
    intro s sess seq space fn off count data slot rights mac k part b addr hup hpause hsup hother e he
    obtain ⟨k, hk⟩ := exec_sessionRequest he
    rw [hk, State.serve_other k hup hpause hsup hother]
  case wrongNumber =>
    intro s sess seq space fn off count data slot rights mac k part b addr w hup hpause hsup hopen hmine hfresh hwrong e he
    obtain ⟨k, hk⟩ := exec_sessionRequest he
    rw [hk, State.serve_order k hup hpause hsup hopen hmine hfresh hwrong]
  case writeDenied =>
    intro s sess seq space fn off count data slot rights mac k part b addr w hup hpause hsup hopen hmine hfresh hnext hdenied e he
    obtain rfl := List.mem_singleton.mp he
    exact exec_serveR_denied ⟨hup, hpause, hsup, hopen, hmine, hfresh, hnext⟩ hdenied rfl
  case clearDenied =>
    intro s sess seq space fn off count data slot rights mac k part b addr w hup hpause hsup hopen hmine hfresh hnext hdenied e he
    obtain rfl := List.mem_singleton.mp he
    exact exec_serveR_denied ⟨hup, hpause, hsup, hopen, hmine, hfresh, hnext⟩ hdenied rfl
  case debugDenied =>
    intro s sess seq space fn off count data slot rights mac k part b addr w hup hpause hsup hopen hmine hfresh hnext hdenied e he
    obtain ⟨k, hk⟩ := exec_debugRequest he
    exact exec_serveR_denied ⟨hup, hpause, hsup, hopen, hmine, hfresh, hnext⟩ hdenied (hk s)
  case updateDenied =>
    intro s sess seq space fn off count data slot rights mac k part b addr w hup hpause hsup hopen hmine hfresh hnext hdenied e he
    obtain ⟨k, hk⟩ := exec_updateRequest he
    exact exec_serveR_denied ⟨hup, hpause, hsup, hopen, hmine, hfresh, hnext⟩ hdenied (hk s)
  case identify => exact fun s hup hpause hsup => congrArg _ (State.serveAny_of_serving hup hpause hsup _)
  case opens =>
    intro s peer v hup hpause hsup hfree n y
    have hmay : ¬(v.spSession ≠ 0 ∧ v.spPeer ≠ peer.toNat) := fun ⟨hopen, hpeer⟩ => hfree.elim hopen hpeer
    exact (exec_openSession_of_serving hup hpause hsup rfl peer).trans (congrArg _ (if_neg hmay))
  case otherPeer =>
    intro s peer v hup hpause hsup hopen hpeer
    rw [exec_openSession_of_serving hup hpause hsup rfl, if_pos ⟨hopen, hpeer⟩]
  case closes =>
    intro s sess seq w hup hpause hsup hopen hmine hfresh hnext
    have h : s.SpNext sess seq := ⟨hup, hpause, hsup, hopen, hmine, hfresh, hnext⟩
    exact ⟨exec_serve_next h rfl rfl, exec_serve_next h rfl rfl⟩
  case silence =>
    intro s dt u hopen hlate
    exact congrArg _ (if_pos ⟨hopen, hlate⟩)
  case exchanges =>
    intro s sess seq slot rights mac w hup hpause hsup hopen hmine hfresh hnext r
    have h : s.SpNext sess seq := ⟨hup, hpause, hsup, hopen, hmine, hfresh, hnext⟩
    exact ⟨exec_serve_next h rfl rfl, exec_serve_next h rfl rfl⟩
  case read =>
    intro s sess seq space fn off count w sp o n hup hpause hsup hopen hmine hfresh hnext hargs halign r
    have h : s.SpNext sess seq := ⟨hup, hpause, hsup, hopen, hmine, hfresh, hnext⟩
    exact ⟨fun a c hbad => exec_spRead_valid rfl rfl h hargs halign rfl rfl (.inl ⟨a, c, hbad, rfl⟩),
      fun hgood => exec_spRead_valid rfl rfl h hargs halign rfl rfl (.inr ⟨hgood, rfl⟩)⟩
  case readInvalid =>
    intro s sess seq space fn off count w sp n hup hpause hsup hopen hmine hfresh hnext hargs
    exact exec_serve_next ⟨hup, hpause, hsup, hopen, hmine, hfresh, hnext⟩ rfl (if_pos (congrArg not hargs))
  case write =>
    intro s sess seq space fn off data w sp o n hup hpause hsup hopen hmine hfresh hnext hright hargs halign r
    have h : s.SpNext sess seq := ⟨hup, hpause, hsup, hopen, hmine, hfresh, hnext⟩
    exact ⟨fun a c hbad => exec_spWrite_valid rfl rfl h hargs halign hright rfl rfl (.inl ⟨a, c, hbad, rfl⟩),
      fun hgood => exec_spWrite_valid rfl rfl h hargs halign hright rfl rfl (.inr ⟨hgood, rfl⟩)⟩
  case freezes =>
    intro s sess seq w hup hpause hsup hopen hmine hfresh hnext
    have h : s.SpNext sess seq := ⟨hup, hpause, hsup, hopen, hmine, hfresh, hnext⟩
    exact ⟨exec_serve_next h rfl rfl, exec_serve_next h rfl rfl⟩
  case eventRead =>
    intro s sess seq k r w hup hpause hsup hopen hmine hfresh hnext
    exact exec_evread_of_holder ⟨hup, hpause, hsup, hopen, hmine, hfresh, hnext⟩
  case eventReadRefused =>
    intro s sess seq k w hup hpause hsup hopen hmine hfresh hnext hother
    exact exec_serve_next ⟨hup, hpause, hsup, hopen, hmine, hfresh, hnext⟩ rfl (if_pos hother)
  case eventClear =>
    intro s sess seq w hup hpause hsup hopen hmine hfresh hnext hright
    exact exec_serveR_next ⟨hup, hpause, hsup, hopen, hmine, hfresh, hnext⟩ hright rfl rfl
  case dumpRead =>
    intro s sess seq off count w o n hup hpause hsup hopen hmine hfresh hnext hlen as v
    have h : s.SpNext sess seq := ⟨hup, hpause, hsup, hopen, hmine, hfresh, hnext⟩
    exact ⟨fun hrange => exec_dumpread_area h rfl rfl hlen hrange rfl rfl,
      fun p hrange hpage => exec_dumpread_page h rfl rfl hlen hrange (.inl ⟨p, hpage, rfl⟩),
      fun hrange hnone => exec_dumpread_page h rfl rfl hlen hrange (.inr ⟨hnone, rfl⟩)⟩
  case debug =>
    intro s sess seq part b w p hup hpause hsup hopen hmine hfresh hnext hright hpart x y z pc
    have h : s.SpNext sess seq := ⟨hup, hpause, hsup, hopen, hmine, hfresh, hnext⟩
    exact ⟨exec_debug_next h hright hpart rfl rfl, exec_debug_next h hright hpart rfl rfl, exec_debug_next h hright hpart rfl rfl⟩
  case debugAbsent =>
    intro s sess seq part b addr w hup hpause hsup hopen hmine hfresh hnext hright hpart e he
    obtain ⟨k, hk⟩ := exec_debugRequest he
    exact exec_debug_absent ⟨hup, hpause, hsup, hopen, hmine, hfresh, hnext⟩ hright hpart (hk s)
  case breakpoints =>
    intro s sess seq part b addr w p hup hpause hsup hopen hmine hfresh hnext hright hpart hindex haddr
    have h : s.SpNext sess seq := ⟨hup, hpause, hsup, hopen, hmine, hfresh, hnext⟩
    have hvalid : ¬(8 ≤ b.toNat ∨ 2 ^ 20 ≤ addr.toNat) := not_or.mpr ⟨Nat.not_le.mpr hindex, Nat.not_le.mpr haddr⟩
    refine ⟨fun hmay => ?armed, fun r href => ?refused, ?removed⟩
    case armed =>
      exact exec_debug_next h hright hpart rfl ((if_neg hvalid).trans (if_neg fun hsome => Option.isSome_iff_ne_none.mp hsome hmay))
    case refused =>
      exact exec_debug_next h hright hpart rfl ((if_neg hvalid).trans (if_pos (Option.isSome_iff_exists.mpr ⟨r, href⟩)))
    case removed => exact exec_debug_next h hright hpart rfl (if_neg (Nat.not_le.mpr hindex))
  case configuration =>
    intro s src d b hhost
    have hsrc : ¬(1 ≤ src.toNat ∧ src.toNat ≤ 512) := of_decide_eq_false hhost
    exact ⟨congrArg _ (if_neg hsrc), congrArg _ (if_neg hsrc)⟩
  case discards => exact fun s hup => congrArg _ (if_pos hup)

end Sys2Proof.Machine
end

section
/-!
PROOFS. Updates through the service port (spec/16 R435 to R443), and the authorisation unit with its key store (spec/16 R430 to R434).
-/
namespace Sys2Proof.Machine

/-! ### Transfer (R437; logs 150, 151) -/

section
variable {s : State} {kind : Nat}

/-- XBEGIN of a KIND with a Cartouche of its length is refused while an image of the KIND steeps and for a body that is too long. -/
theorem State.xbegin_valid {cart : List Byte} (hkind : kind = 1 ∨ kind = 2) (hlen : cart.length = 256) : s.xbegin kind cart =
    if s.steeping kind then s.updNo 4 3
    else if maxBody kind < (wordAt cart 12).toNat then s.updNo 4 6
    else { (s.setImg (s.inactive kind) none) with xfer := some (kind, cart, []) }.updOk [BitVec.ofNat 8 (s.inactive kind % 2)] :=
  if_neg (not_or.mpr ⟨not_not_intro hkind, not_not_intro hlen⟩)

section
variable {cart body : List Byte} (hxfer : s.xfer = some (kind, cart, body))
include hxfer

/-- XDATA of a valid length goes on where the transfer stands, up to the length of the KIND. -/
theorem State.xdata_of_transfer {off : Nat} {data : List Byte} (hsome : data.length ≠ 0) (hlen : data.length ≤ 1024) : s.xdata off data =
    if off ≠ body.length then s.updNo 4 7
    else if maxBody kind < off + data.length then s.updNo 4 6
    else { s with xfer := some (kind, cart, body ++ data) }.updOk [] := by
  refine (if_neg (not_or.mpr ⟨hsome, Nat.not_lt.mpr hlen⟩)).trans ?_
  simp only [hxfer]

/-- XEND ends the transfer with the verdict on its image. -/
theorem State.xend_of_transfer {v : State} {m : Img} (hv : { s with xfer := none } = v)
    (hm : Img.mk cart (body.take (wordAt cart 12).toNat) = m) : s.xend =
    if v.imageOk kind m then (v.setImg (v.inactive kind) (some m)).updOk [0] else v.updNo 8 2 := by
  subst hv hm
  simp only [State.xend, hxfer]

end

theorem State.xend_of_none (hnone : s.xfer = none) : s.xend = s.updNo 4 7 := by simp only [State.xend, hnone]

/-! ### Activation and the end of steeping (R438 to R440, R443; logs 148, 149) -/

section
variable (hkind : kind = 1 ∨ kind = 2)
include hkind

/-- An empty inactive slot cannot be activated. -/
theorem State.activate_of_empty (hempty : s.img (s.inactive kind) = none) : s.activate kind = s.updNo 4 1 := by
  refine (if_neg (not_not_intro hkind)).trans ?_
  simp only [hempty]

/-- A KIND that does not steep can neither be confirmed nor fall back. -/
theorem State.confirm_of_not_steeping (hnot : s.steeping kind = false) : s.confirm kind = s.updNo 4 3 :=
  (if_neg (not_not_intro hkind)).trans (if_pos hnot)
theorem State.fallback_of_not_steeping (hnot : s.steeping kind = false) : s.fallback kind = s.updNo 4 3 :=
  (if_neg (not_not_intro hkind)).trans (if_pos hnot)

end

section
variable {m : Img} (hfree1 : s.steeping 1 = false) (hfree2 : s.steeping 2 = false)
include hfree1 hfree2

/-- With nothing steeping, a supervisor image whose settings the device can convert is switched to, steeps and begins its pause. -/
theorem State.activate_supervisor {v : State} {r : Answer} (himg : s.img (s.inactive 1) = some m)
    (hgen : fld (wordAt m.cart 0x14) 31 16 ≤ s.slotGen s.bootRec.act) (hv : s.passEvent 0x0201 4 [] = v)
    (hr : { v with bootRec := { v.bootRec with act := 1 - v.bootRec.act, prev := v.bootRec.act, steep := true, tries := 0 } }.updOk [] = r) :
    s.activate 1 = (r.1.beginMgmt, r.2) := by
  subst hr hv
  simp only [State.activate, himg, hfree1, hfree2, Nat.not_lt.mpr hgen, Bool.false_eq_true, and_false, or_self, not_true_eq_false,
    true_or, if_false, if_true]

/-- The same of an image of the F-die, which names no settings. -/
theorem State.activate_fdie {v : State} {r : Answer} (himg : s.img (s.inactive 2) = some m) (hv : s.passEvent 0x0201 4 [] = v)
    (hr : { v with fRec := { slot := 1 - v.fRec.slot, steep := true } }.updOk [] = r) : s.activate 2 = (r.1.beginFPause, r.2) := by
  subst hr hv
  have htwo : ¬2 = 1 := by decide
  simp only [State.activate, himg, hfree1, hfree2, htwo, Bool.false_eq_true, false_and, or_self, or_true, not_true_eq_false, if_false]

end

section
variable (hsteep : s.steeping 1 = true) (hdone : s.rb aUPD_STAT 6 = false)
include hsteep hdone

/-- CONFIRM of the supervisor's image, once its settings are converted: the bank of another generation before it is emptied. -/
theorem State.confirm_supervisor {v : State} {b : BootRec} (hv : s.passEvent 0x0202 4 [] = v)
    (hb : { v.bootRec with steep := false, tries := 0 } = b) : s.confirm 1 =
    { v with bootRec := if v.slotGen b.prev = v.slotGen b.act then b else b.drop (v.slotGen b.prev) }.updOk [] := by
  subst hb hv
  have hconv : ¬(1 = 1 ∧ s.rb aUPD_STAT 6 = true) := fun ⟨_, hbusy⟩ => ne_true_of_eq_false hdone hbusy
  exact (if_neg (by decide)).trans ((if_neg (ne_false_of_eq_true hsteep)).trans ((if_neg hconv).trans (if_pos rfl)))

/-- FALLBACK of the supervisor goes back to the image before and begins the pause. -/
theorem State.fallback_supervisor {r : Answer} (hr : { s.noteFallback with bootRec := s.noteFallback.fellBack }.updOk [] = r) :
    s.fallback 1 = (r.1.beginMgmt, r.2) := by
  subst hr
  have hconv : ¬(1 = 1 ∧ s.rb aUPD_STAT 6 = true) := fun ⟨_, hbusy⟩ => ne_true_of_eq_false hdone hbusy
  exact (if_neg (by decide)).trans ((if_neg (ne_false_of_eq_true hsteep)).trans ((if_neg hconv).trans (if_pos rfl)))

end

section
variable (hsteep : s.steeping 2 = true)
include hsteep

theorem State.confirm_fdie {v : State} (hv : s.passEvent 0x0202 4 [] = v) :
    s.confirm 2 = { v with fRec := { v.fRec with steep := false } }.updOk [] := by
  subst hv
  exact (if_neg (by decide)).trans ((if_neg (ne_false_of_eq_true hsteep)).trans
    ((if_neg fun ⟨htwo, _⟩ => absurd htwo (by decide)).trans (if_neg (by decide))))

theorem State.fallback_fdie {r : Answer} (hr : s.noteFallback.dropTrial.updOk [] = r) : s.fallback 2 = (r.1.beginFPause, r.2) := by
  subst hr
  exact (if_neg (by decide)).trans ((if_neg (ne_false_of_eq_true hsteep)).trans
    ((if_neg fun ⟨htwo, _⟩ => absurd htwo (by decide)).trans (if_neg (by decide))))

end

/-! ### Option bytes (R391; log 156) -/

/-- OPTWR of bytes that make a valid copy, while the array serves: both copies are queued, the one not used at the last boot first. -/
theorem State.optwr_of_valid {w8 wc w10 gen : W} {page : List Byte} (hgen : BitVec.ofNat 32 s.opt.gen + 1 = gen)
    (hpage : optCopy gen w8 wc w10 = page) (hvalid : (optOf false (some page)).isSome = true) (hrec : s.nvBlock = false)
    (hpow : s.pfHold = false) : s.optwr w8 wc w10 =
    ((s.nvQueue ((if s.opt.copyB then 0 else 1), page, 1)).nvQueue (1 - (if s.opt.copyB then 0 else 1), page, 2), 0, be32 gen) := by
  subst hpage hgen
  exact (if_neg fun hnone => Option.isSome_iff_ne_none.mp hvalid (Option.isNone_iff_eq_none.mp hnone)).trans
    ((if_neg (ne_true_of_eq_false hrec)).trans (if_neg (ne_true_of_eq_false hpow)))

end

/-! ### Exchanges (R430, R432, R433) -/

section
variable {s : State} {src slot rights : Nat}

theorem State.auChallenge_of_exchange (hexch : s.auExch.isSome = true) : s.auChallenge src slot rights = (s, 1) := if_pos hexch

section
variable (hnone : s.auExch = none)
include hnone

/-- With no exchange open, what CHALLENGE is refused for, and what it opens. -/
theorem State.auChallenge_of_no_exchange : s.auChallenge src slot rights =
    if s.auLock.isSome then (s, 4)
    else if (s.auKey slot).isNone ∨ rights = 0 then (s, 3)
    else
      let n := (List.range 16).map (Config.nonce s.fresh)
      let v := (List.range 4).foldl (fun (s : State) i => s.setRegFor src (aAU_NONCE i) (wordAt n (4 * i))) s.useFresh
      ({ v with auExch := some { req := src, slot := slot, rights := rights, nonce := n, at_ := v.fab } }, 0) :=
  if_neg (by simp [hnone])

theorem State.auResponse_of_no_exchange (mac : List Byte) : s.auResponse src mac = (s, 6) := by simp only [State.auResponse, hnone]

end

section
variable {x : Exch} (hexch : s.auExch = some x) (mac : List Byte)
include hexch

/-- The exchange of another requester takes no RESPONSE. -/
theorem State.auResponse_of_other (hother : x.req ≠ src) : s.auResponse src mac = (s, 5) := by
  simp only [State.auResponse, hexch, if_pos hother]

/-- A RESPONSE to the requester's own exchange gives the grant where the MAC is right, and fails otherwise. -/
theorem State.auResponse_of_own {key : List Byte} {r : Nat} (hown : x.req = src) (hkey : s.auKey x.slot = some (key, r)) :
    s.auResponse src mac = if mac = s.auMac x key then
      ({ s with auExch := none, auFails := 0, auLevel := 0 }.giveGrant src x.slot
        ((BitVec.ofNat 16 x.rights &&& BitVec.ofNat 16 r).toNat), 0)
    else (s.auFail, 2) := by
  simp only [State.auResponse, hexch, if_neg (not_not_intro hown), hkey]

end

end

/-! ### Commands of `AU_CMD` (R431, R434; logs 139, 141) -/

/-- A command of PF0 or the service port to the reachable, idle unit. -/
theorem State.auCmd_reached {s : State} {src : Nat} (hhost : isVf src = false) (hup : s.rb aAU_BSTAT 1 = false)
    (hidle : s.rb aAU_BSTAT 0 = false) (k : State → State × Nat) : s.auCmd src k = (State.auDone src (k s)).setRf aAU_BSTAT 0 0 1 :=
  State.farWrite_idle _ _ hhost hup hidle

section
variable {s : State} (hup : s.rb aAU_BSTAT 1 = false) (hidle : s.rb aAU_BSTAT 0 = false)
include hup hidle

theorem exec_auChallenge_reached : exec .auChallenge s =
    .next ((State.auDone 0 (s.auChallenge 0 (s.auArgSlot 0) (s.auArgRights 0))).setRf aAU_BSTAT 0 0 1) :=
  congrArg _ (State.auCmd_reached rfl hup hidle _)
theorem exec_auResponse_reached : exec .auResponse s =
    .next ((State.auDone 0 (s.auResponse 0 s.auMacRegs)).setRf aAU_BSTAT 0 0 1) :=
  congrArg _ (State.auCmd_reached rfl hup hidle _)
theorem exec_auRelinquish_reached : exec .auRelinquish s = .next ((State.auDone 0 (s.endGrant 0, 0)).setRf aAU_BSTAT 0 0 1) :=
  congrArg _ (State.auCmd_reached rfl hup hidle _)

variable {src : BitVec 10} (hhost : isVf src.toNat = false)
include hhost

theorem exec_keyset_reached : exec (.keyset src) s = .next ((State.auDone src.toNat (s.keyset src.toNat)).setRf aAU_BSTAT 0 0 1) :=
  congrArg _ (State.auCmd_reached hhost hup hidle _)
theorem exec_keyclr_reached : exec (.keyclr src) s = .next ((State.auDone src.toNat (s.keyclr src.toNat)).setRf aAU_BSTAT 0 0 1) :=
  congrArg _ (State.auCmd_reached hhost hup hidle _)

end

section
variable {s : State} {src n : Nat}

theorem State.keyset_denied (hdenied : s.granted src 7 = false) : s.keyset src = (s, 8) := if_pos hdenied
theorem State.keyclr_denied (hdenied : s.granted src 7 = false) : s.keyclr src = (s, 8) := if_pos hdenied

variable (hn : s.auArgSlot src = n) (hright : s.granted src 7 = true) (hslot : n < 8)
include hn hright hslot

/-- KEYSET of an operator slot stores the key and its rights, 1,000 times in all. -/
theorem State.keyset_of_slot {k : Nat} {v : State} (hk : FMap.get (fun _ => 0) s.auWrites n = k)
    (hv : { s with auKeys := FMap.set (fun _ => none) s.auKeys n (some (s.keyBuf, s.auArgRights src % 256))
                   auWrites := FMap.set (fun _ => 0) s.auWrites n (k + 1) } = v) : s.keyset src =
    if 1000 ≤ k then (s, 7)
    else (((v.zeroRegs ((List.range 8).map aAU_KEYBUF)).setReg (aAU_RIGHTS n)
      (BitVec.ofNat 32 (2 ^ 31 + s.auArgRights src % 256))).slotChanged n, 0) := by
  subst hv hk hn
  exact (if_neg (ne_false_of_eq_true hright)).trans (if_neg (Nat.not_le.mpr hslot))

/-- KEYCLR of an operator slot empties it. -/
theorem State.keyclr_of_slot : s.keyclr src =
    (({ s with auKeys := FMap.set (fun _ => none) s.auKeys n none }.setReg (aAU_RIGHTS n) 0).slotChanged n, 0) := by
  subst hn
  exact (if_neg (ne_false_of_eq_true hright)).trans (if_neg (Nat.not_le.mpr hslot))

end

/-! ### Times that run out (R432, R433) -/

section
variable {s u : State} {dt : Nat} (hu : s.elapse dt = u)
include hu

theorem exec_exchangeTimeout_of_due {x : Exch} (hexch : u.auExch = some x) (hdue : u.fdieDue (x.at_ + fabSeconds 10) 10 = true) :
    exec (.exchangeTimeout dt) s = .next { u with auExch := none } := by
  subst hu
  have hexec : exec (.exchangeTimeout dt) s = execExchangeTimeout dt s := rfl
  simp only [hexec, execExchangeTimeout, hexch, hdue, if_true]

theorem exec_lockoutEnd_of_due {t n : Nat} (hlock : u.auLock = some (t, n)) (hdue : u.fdieDue t n = true) :
    exec (.lockoutEnd dt) s = .next { u with auLock := none } := by
  subst hu
  have hexec : exec (.lockoutEnd dt) s = execLockoutEnd dt s := rfl
  simp only [hexec, execLockoutEnd, hlock, hdue, if_true]

end

/-! ### The statement -/

/-- Settles O60: an update request that the port serves has the outcome of its command, a command of the authorisation unit that of
`State.auCmd_reached`, and each event meets its guard. `witness_UpdatesAndAuthorisationResult` meets the premises. The rights of keys and
the order of REASONs rest on log 139 of NOTES.md, RELINQUISH on log 141, CONFIRM and FALLBACK in a conversion on log 148, KIND 2 on
log 149, malformed transfers on log 151, the conversion on log 154, OPTWR on log 156. -/
theorem updatesAndAuthorisationResult : Obligations.UpdatesAndAuthorisationResult := by
  unfold Obligations.UpdatesAndAuthorisationResult
  refine ⟨?xbegin, ?xdata, ?xend, ?xendNone, ?activateSupervisor, ?activateFdie, ?refused, ?supervisorEnds, ?fdieEnds, ?optionBytes,
    ?challenge, ?response, ?keys, ?keysDenied, ?exchangeLapses, ?grantLapses, ?portGrantLapses, ?lockoutEnds, ?pauseEnds,
    ?conversionEnds, ?fdiePauseEnds⟩
  case xbegin =>
    intro s sess seq b data w hup hpause hsup hopen hmine hfresh hnext hright hkind hlen
    have h : s.SpNext sess seq := ⟨hup, hpause, hsup, hopen, hmine, hfresh, hnext⟩
    refine ⟨fun hfree hfits => exec_serveR_next h hright rfl ((State.xbegin_valid hkind hlen).trans ?begins),
      fun hsteep => exec_serveR_next h hright rfl ((State.xbegin_valid hkind hlen).trans (if_pos hsteep))⟩
    case begins => exact (if_neg (ne_true_of_eq_false hfree)).trans (if_neg (Nat.not_lt.mpr hfits))
  case xdata =>
    intro s sess seq off data kind cart body w hup hpause hsup hopen hmine hfresh hnext hright hsome hlen hxfer
    have h : s.SpNext sess seq := ⟨hup, hpause, hsup, hopen, hmine, hfresh, hnext⟩
    refine ⟨fun hoff hfits => exec_serveR_next h hright rfl ((State.xdata_of_transfer hxfer hsome hlen).trans ?added),
      fun hoff => exec_serveR_next h hright rfl ((State.xdata_of_transfer hxfer hsome hlen).trans (if_pos hoff))⟩
    case added => exact (if_neg (not_not_intro hoff)).trans (if_neg (Nat.not_lt.mpr hfits))
  case xend =>
    intro s sess seq kind cart body w hup hpause hsup hopen hmine hfresh hnext hright hxfer v m
    have h : s.SpNext sess seq := ⟨hup, hpause, hsup, hopen, hmine, hfresh, hnext⟩
    exact ⟨fun hgood => exec_serveR_next h hright rfl ((State.xend_of_transfer hxfer rfl rfl).trans (if_pos hgood)),
      fun hbad => exec_serveR_next h hright rfl ((State.xend_of_transfer hxfer rfl rfl).trans (if_neg (ne_true_of_eq_false hbad)))⟩
  case xendNone =>
    intro s sess seq w hup hpause hsup hopen hmine hfresh hnext hright hnone
    exact exec_serveR_next ⟨hup, hpause, hsup, hopen, hmine, hfresh, hnext⟩ hright rfl (State.xend_of_none hnone)
  case activateSupervisor =>
    intro s sess seq m w hup hpause hsup hopen hmine hfresh hnext hright himg hfree1 hfree2 hgen v r
    exact exec_serveR_next ⟨hup, hpause, hsup, hopen, hmine, hfresh, hnext⟩ hright rfl
      (State.activate_supervisor hfree1 hfree2 himg hgen rfl rfl)
  case activateFdie =>
    intro s sess seq m w hup hpause hsup hopen hmine hfresh hnext hright himg hfree1 hfree2 v r
    exact exec_serveR_next ⟨hup, hpause, hsup, hopen, hmine, hfresh, hnext⟩ hright rfl (State.activate_fdie hfree1 hfree2 himg rfl rfl)
  case refused =>
    intro s sess seq b w hup hpause hsup hopen hmine hfresh hnext hright hkind
    have h : s.SpNext sess seq := ⟨hup, hpause, hsup, hopen, hmine, hfresh, hnext⟩
    exact ⟨fun hempty => exec_serveR_next h hright rfl (State.activate_of_empty hkind hempty),
      fun hnot => ⟨exec_serveR_next h hright rfl (State.confirm_of_not_steeping hkind hnot),
        exec_serveR_next h hright rfl (State.fallback_of_not_steeping hkind hnot)⟩⟩
  case supervisorEnds =>
    intro s sess seq w hup hpause hsup hopen hmine hfresh hnext hright hsteep hdone v b r
    have h : s.SpNext sess seq := ⟨hup, hpause, hsup, hopen, hmine, hfresh, hnext⟩
    exact ⟨exec_serveR_next h hright rfl (State.confirm_supervisor hsteep hdone rfl rfl),
      exec_serveR_next h hright rfl (State.fallback_supervisor hsteep hdone rfl)⟩
  case fdieEnds =>
    intro s sess seq w hup hpause hsup hopen hmine hfresh hnext hright hsteep v r
    have h : s.SpNext sess seq := ⟨hup, hpause, hsup, hopen, hmine, hfresh, hnext⟩
    exact ⟨exec_serveR_next h hright rfl (State.confirm_fdie hsteep rfl), exec_serveR_next h hright rfl (State.fallback_fdie hsteep rfl)⟩
  case optionBytes =>
    intro s sess seq a b c w gen page hup hpause hsup hopen hmine hfresh hnext hright hvalid hrec hpow
    exact exec_serveR_next ⟨hup, hpause, hsup, hopen, hmine, hfresh, hnext⟩ hright rfl (State.optwr_of_valid rfl rfl hvalid hrec hpow)
  case challenge =>
    intro s hup hidle n v key
    rw [exec_auChallenge_reached hup hidle]
    refine ⟨fun hnone hfree hkey hrights => ?opens, fun hexch => ?exchange, fun hnone hlock => ?locked, fun hnone hfree hbad => ?noKey,
      exec_auRelinquish_reached hup hidle⟩
    case opens =>
      have hok : ¬((s.auKey (s.auArgSlot 0)).isNone = true ∨ s.auArgRights 0 = 0) :=
        not_or.mpr ⟨fun hno => Option.isSome_iff_ne_none.mp hkey (Option.isNone_iff_eq_none.mp hno), hrights⟩
      rw [State.auChallenge_of_no_exchange hnone, hfree, if_neg (by decide), if_neg hok]
    case exchange => rw [State.auChallenge_of_exchange hexch]
    case locked => rw [State.auChallenge_of_no_exchange hnone, if_pos hlock]
    case noKey =>
      rw [State.auChallenge_of_no_exchange hnone, hfree, if_neg (by decide), if_pos (hbad.imp_left Option.isNone_iff_eq_none.mpr)]
  case response =>
    intro s hup hidle
    rw [exec_auResponse_reached hup hidle]
    refine ⟨fun hnone => ?closed, fun x hexch hother => ?other, fun x k r hexch hown hkey hwrong => ?fails,
      fun x k r hexch hown hkey hmac => ?grants⟩
    case closed => rw [State.auResponse_of_no_exchange hnone]
    case other => rw [State.auResponse_of_other hexch _ hother]
    case fails => rw [State.auResponse_of_own hexch _ hown hkey, if_neg hwrong]
    case grants => rw [State.auResponse_of_own hexch _ hown hkey, if_pos hmac]
  case keys =>
    intro s src n hhost hup hidle hright hslot k v
    rw [exec_keyset_reached hup hidle hhost, exec_keyclr_reached hup hidle hhost, State.keyset_of_slot rfl hright hslot rfl rfl,
      State.keyclr_of_slot rfl hright hslot]
    exact ⟨fun hfew => by rw [if_neg (Nat.not_le.mpr hfew)], fun hmany => by rw [if_pos hmany], rfl⟩
  case keysDenied =>
    intro s src hhost hup hidle hdenied
    rw [exec_keyset_reached hup hidle hhost, exec_keyclr_reached hup hidle hhost, State.keyset_denied hdenied, State.keyclr_denied hdenied]
    exact ⟨rfl, rfl⟩
  case exchangeLapses =>
    intro s dt x u
    exact exec_exchangeTimeout_of_due rfl
  case grantLapses =>
    intro s dt u hgrant hdue
    exact congrArg _ (if_pos ⟨hgrant, hdue⟩)
  case portGrantLapses =>
    intro s dt u hgrant hdue
    exact congrArg _ (if_pos ⟨hgrant, hdue⟩)
  case lockoutEnds =>
    intro s dt t n u
    exact exec_lockoutEnd_of_due rfl
  case pauseEnds =>
    intro s dt u hpause
    exact congrArg _ (if_pos hpause)
  case conversionEnds =>
    intro s dt u hconv
    exact congrArg Host.Outcome.next (if_pos hconv)
  case fdiePauseEnds =>
    intro s dt u hpause
    exact congrArg _ (if_pos hpause)

end Sys2Proof.Machine
end

section
/-!
PROOFS. The words of the engine instructions (spec/03, "Encoding and addressing", R72, R73): the fields of word 0, and that decoding the
words of an instruction gives it back.
-/
namespace Sys2Proof.Machine

/-! ### The fields of word 0 -/

theorem toNat_word0 {op : Nat} (h : op < 0x40) (m : BitVec 2) (x : BitVec 6) : (word0 op m x).toNat = op * 256 + m.toNat * 64 + x.toNat := by
  have hm := m.isLt
  have hx := x.isLt
  exact Nat.mod_eq_of_lt (by omega)
theorem opOf_word0 {op : Nat} (h : op < 0x40) (m : BitVec 2) (x : BitVec 6) : opOf (word0 op m x) = op := by
  have hm := m.isLt
  have hx := x.isLt
  rw [opOf, toNat_word0 h]
  omega
theorem modeOf_word0 {op : Nat} (h : op < 0x40) (m : BitVec 2) (x : BitVec 6) : modeOf (word0 op m x) = m := by
  have hm := m.isLt
  have hx := x.isLt
  apply BitVec.eq_of_toNat_eq
  rw [modeOf, toNat_word0 h, BitVec.toNat_ofNat]
  omega
theorem sOf_word0 {op : Nat} (h : op < 0x40) (m : BitVec 2) (x : BitVec 6) : sOf (word0 op m x) = x := by
  have hm := m.isLt
  have hx := x.isLt
  apply BitVec.eq_of_toNat_eq
  rw [sOf, toNat_word0 h, BitVec.toNat_ofNat]
  omega

/-! ### Each page decodes its own words -/

/-- `o` is word 1 as the encoder gives it, and the engine fetches `x` after word 0: `i` comes back, and so does its count of words. -/
def RoundTrips (i : Instr) (w0 : BitVec 14) (o : Option (BitVec 14)) : Prop :=
  (∀ x : BitVec 14, engDecode (engOf i) w0 (o.getD x) = i) ∧ instrWords w0 = (if o.isSome then 2 else 1)

/-- Word 1 as the engine takes it: what the encoder gives in MODE 0b11, and 0 in the others, which have none. -/
theorem getD_word1 {m : BitVec 2} {w1 : BitVec 14} (hw : wordOk m w1 = true) (x : BitVec 14) :
    (if m = 3 then (if m = 3 then some w1 else none).getD x else 0) = w1 := by
  have hw1 : m = 3 ∨ w1 = 0 := of_decide_eq_true hw
  split
  · rfl
  · rename_i h3; exact (hw1.resolve_left h3).symm
theorem isSome_word1 (m : BitVec 2) (w1 : BitVec 14) : (if m = 3 then some w1 else none).isSome = decide (m = 3) := by
  by_cases h3 : m = 3#2 <;> simp [h3]

/-- A primary opcode: MODE 0b11 has word 1, and no other mode has. -/
theorem roundTrips_primary {i : Instr} {op : Nat} {m : BitVec 2} {s : BitVec 6} {w1 : BitVec 14} (hw : wordOk m w1 = true)
    (hi : decodePrimary (engOf i) op m s w1 = some i) (hop : op < 0x38 ∧ op ≠ 0x0E ∧ op ≠ 0x0F := by decide) :
    RoundTrips i (word0 op m s) (if m = 3 then some w1 else none) := by
  obtain ⟨hlt, h0E, h0F⟩ := hop
  have h40 : op < 0x40 := by omega
  constructor
  · intro x
    simp only [engDecode, opOf_word0 h40, modeOf_word0 h40, sOf_word0 h40, hlt, if_true, getD_word1 hw, hi, Option.getD_some]
  · rw [isSome_word1]
    simp [instrWords, opOf_word0 h40, modeOf_word0 h40, hlt, h0E, h0F]

/-- An entry of page 0x3F, in every mode. -/
theorem roundTrips_customer (e : BitVec 7) {m : BitVec 2} (s : BitVec 6) {w1 : BitVec 14} (hw : wordOk m w1 = true) :
    RoundTrips (.opCustomer e m s w1) (word0 0x3F m s) (if m = 3 then some w1 else none) := by
  have h40 : 0x3F < 0x40 := by decide
  constructor
  · intro x
    simp only [engDecode, opOf_word0 h40, modeOf_word0 h40, sOf_word0 h40, getD_word1 hw]
    rfl
  · rw [isSome_word1]
    simp [instrWords, opOf_word0 h40, modeOf_word0 h40]

/-- Page 0x38: one word. -/
theorem roundTrips_page38 {i : Instr} {s : BitVec 6} (hi : decodePage38 (engOf i) s = some i) : RoundTrips i (word0 0x38 0 s) none := by
  have h40 : 0x38 < 0x40 := by decide
  constructor
  · intro x
    simp [engDecode, opOf_word0 h40, modeOf_word0 h40, sOf_word0 h40, hi]
  · simp [instrWords, modeOf_word0 h40]

/-- Page 0x39: two words. -/
theorem roundTrips_page39 {i : Instr} {s : BitVec 6} {imm : BitVec 14} (hi : decodePage39 (engOf i) s imm = some i)
    (hs : s.toNat ≤ 0x11 := by decide) : RoundTrips i (word0 0x39 3 s) (some imm) := by
  have h40 : 0x39 < 0x40 := by decide
  constructor
  · intro x
    simp [engDecode, opOf_word0 h40, modeOf_word0 h40, sOf_word0 h40, hi]
  · simp [instrWords, opOf_word0 h40, modeOf_word0 h40, sOf_word0 h40, hs]

/-- Page 0x3A: one word. -/
theorem roundTrips_page3A {i : Instr} {s : BitVec 6} (hi : decodePage3A (engOf i) s = some i) : RoundTrips i (word0 0x3A 0 s) none := by
  have h40 : 0x3A < 0x40 := by decide
  constructor
  · intro x
    simp [engDecode, opOf_word0 h40, modeOf_word0 h40, sOf_word0 h40, hi]
  · simp [instrWords, modeOf_word0 h40]

/-- The sixteen conditions of CND lie at S 0x10 to 0x1F of page 0x38. -/
theorem decodePage38_cnd (e : BitVec 7) (cc : BitVec 4) : decodePage38 e (BitVec.ofNat 6 (0x10 + cc.toNat)) = some (.opCnd e cc) := by
  have hcc := cc.isLt
  have hs : (BitVec.ofNat 6 (0x10 + cc.toNat)).toNat = 0x10 + cc.toNat := Nat.mod_eq_of_lt (by omega)
  have hback : BitVec.ofNat 4 (0x10 + cc.toNat) = cc := by
    apply BitVec.eq_of_toNat_eq
    rw [BitVec.toNat_ofNat]
    omega
  rw [decodePage38, hs, if_pos (by omega), hback]

/-! ### Illegal words -/

/-- Every primary opcode below 0x38 but 0x0E and 0x0F is assigned. -/
theorem decodePrimary_assigned {op : Nat} (hop : op < 0x38 ∧ op ≠ 0x0E ∧ op ≠ 0x0F) (e : BitVec 7) (m : BitVec 2) (s : BitVec 6)
    (w1 : BitVec 14) : ∃ i, decodePrimary e op m s w1 = some i ∧ ∀ w, i ≠ .opIllegal e w := by
  unfold decodePrimary
  split
  case h_55 => simp only [imp_false] at *; omega
  all_goals exact ⟨_, rfl, nofun⟩
/-- S 0x00 to 0x11 of page 0x39 are assigned, the others are not. -/
theorem decodePage39_assigned {s : BitVec 6} (hs : s.toNat ≤ 0x11) (e : BitVec 7) (imm : BitVec 14) :
    ∃ i, decodePage39 e s imm = some i ∧ ∀ w, i ≠ .opIllegal e w := by
  unfold decodePage39
  split
  case h_19 => simp only [imp_false] at *; omega
  all_goals exact ⟨_, rfl, nofun⟩
theorem decodePage39_unassigned {s : BitVec 6} (hs : 0x11 < s.toNat) (e : BitVec 7) (imm : BitVec 14) : decodePage39 e s imm = none := by
  unfold decodePage39
  split
  case h_19 => rfl
  all_goals omega

/-- A word 0 that R73 calls illegal has one word, whatever follows it. -/
theorem roundTrips_illegal {e : BitVec 7} {w0 : BitVec 14} (h : engDecode e w0 0 = .opIllegal e w0) : RoundTrips (.opIllegal e w0) w0 none := by
  suffices hs : ∀ x, engDecode e w0 x = .opIllegal e w0 ∧ instrWords w0 = 1 from ⟨fun x => (hs x).1, (hs 0).2⟩
  intro x
  by_cases hlt : opOf w0 < 0x38
  · by_cases hop : opOf w0 = 0x0E ∨ opOf w0 = 0x0F
    · rcases hop with ho | ho <;> simp [engDecode, instrWords, decodePrimary, ho]
    · obtain ⟨i, hi, hne⟩ := decodePrimary_assigned (op := opOf w0) (by omega) e (modeOf w0) (sOf w0) 0
      simp only [engDecode, hlt, if_true, ite_self, hi, Option.getD_some] at h
      exact absurd h (hne w0)
  by_cases h39 : opOf w0 = 0x39
  · by_cases h3 : modeOf w0 = 3#2
    · by_cases hs : (sOf w0).toNat ≤ 0x11
      · obtain ⟨i, hi, hne⟩ := decodePage39_assigned hs e 0#14
        simp [engDecode, h39, h3, hi] at h
        exact absurd h (hne w0)
      · simp [engDecode, instrWords, h39, h3, hs, decodePage39_unassigned (Nat.lt_of_not_le hs)]
    · simp [engDecode, instrWords, h39, h3]
  by_cases h3F : opOf w0 = 0x3F
  · simp [engDecode, h3F] at h
  · simp only [engDecode, hlt, h39, h3F, if_false] at h ⊢
    exact ⟨h, by simp [instrWords, hlt, h39, h3F]⟩

/-! ### The statements -/

/-- The words the encoder gives spell the instruction, page by page; a command that is no engine instruction has none. -/
theorem roundTrips_of_engEncode {i : Instr} {w0 : BitVec 14} {o : Option (BitVec 14)} (hw : i.wf = true)
    (he : engEncode i = some (w0, o)) : RoundTrips i w0 o := by
  cases i with
  | opLd e m s w1 | opLdn e m s w1 | opAnd e m s w1 | opAndn e m s w1 | opOr e m s w1 | opOrn e m s w1 | opXor e m s w1 | opXorn e m s w1
  | opSt e m s w1 | opStn e m s w1 | opSet e m s w1 | opRst e m s w1 | opEdp e m s w1 | opEdn e m s w1 | opTon e m s w1 | opTof e m s w1
  | opTp e m s w1 | opTrs e m s w1 | opCtu e m s w1 | opCtd e m s w1 | opCrs e m s w1 | opCld e m s w1 | opLda e m s w1 | opSta e m s w1
  | opAdd e m s w1 | opSub e m s w1 | opMul e m s w1 | opDiv e m s w1 | opMod e m s w1 | opCmp e m s w1 | opAndw e m s w1
  | opOrw e m s w1 | opXorw e m s w1 | opShl e m s w1 | opShr e m s w1 | opSar e m s w1 | opRol e m s w1 | opRor e m s w1
  | opFadd e m s w1 | opFsub e m s w1 | opFmul e m s w1 | opFdiv e m s w1 | opFcmp e m s w1 | opAdc e m s w1 | opSbc e m s w1
  | opLdi e m s w1 | opSti e m s w1 | opLdx e m s w1 | opStx e m s w1 | opLdy e m s w1 | opSty e m s w1 | opJmp e m s w1 | opJc e m s w1
  | opCall e m s w1 =>
    cases he; exact roundTrips_primary hw rfl
  | opNop e | opEnd e | opRet e | opJmpx e | opCallx e | opNot e | opSetl e | opClrl e | opBpsh e | opBrd e | opBrda e | opBrdo e
  | opBpop e | opBppa e | opBppo e | opBdrp e | opTos e | opTdz e | opTnv e | opTnx e | opClrs e | opTax e | opTxa e | opTay e | opTya e
  | opTxy e | opTyx e | opInx e | opDex e | opIny e | opDey e | opNeg e | opCpl e | opLra e | opAlr e | opItof e | opFtoi e | opFneg e
  | opFabs e =>
    cases he; exact roundTrips_page38 rfl
  | opCnd e cc => cases he; exact roundTrips_page38 (decodePage38_cnd e cc)
  | opLdk e imm | opLdks e imm | opAddk e imm | opCmpk e imm | opAndk e imm | opOrk e imm | opXork e imm | opShlk e imm | opShrk e imm
  | opSark e imm | opRolk e imm | opRork e imm | opLxk e imm | opLxks e imm | opAxk e imm | opLyk e imm | opLyks e imm | opAyk e imm =>
    cases he; exact roundTrips_page39 rfl
  | opTrel e | opTmerl e | opTmerh e | opTcyc e | opCanrd e | opCantx e | opCanst e | opCadrd e | opCadwr e | opEvrec e | opImgrq e
  | opImgwr e | opIrq e | opSfrd e | opSfrst e | opBrk e =>
    cases he; exact roundTrips_page3A rfl
  | opCustomer e m s w1 => cases he; exact roundTrips_customer e s hw
  | opIllegal e w => cases he; exact roundTrips_illegal (of_decide_eq_true hw)
  | _ => cases he

/-- Settles O7: the fields of word 0 read back, and every page decodes the S it encodes. -/
theorem engineWordsRoundTrip : Obligations.EngineWordsRoundTrip := by
  unfold Obligations.EngineWordsRoundTrip
  exact fun i w0 o hw he => roundTrips_of_engEncode hw he

/-- Settles O8: each word's fields select the page and the entry of the table, whatever the engine and the word that follows. -/
theorem engineWordsFromTheEncoding : Obligations.EngineWordsFromTheEncoding := by
  unfold Obligations.EngineWordsFromTheEncoding
  intro e x
  exact ⟨rfl, rfl, rfl, rfl, rfl, rfl, rfl, rfl, rfl, rfl, rfl⟩

end Sys2Proof.Machine
end

section
/-!
PROOFS. The bit, arithmetic, shift, binary32, compare, load and index instructions (spec/03): what each answers when its task issues.
Each is one of the shared operations of Laws/Engine.lean.
-/
namespace Sys2Proof.Machine

/-! ### Bit logic (R68, R70, R76, R80) -/

/-- Settles O11: each is `State.bitOp` with its own function of LR and the operand bit.
`witness_BitLogicResult` meets the premises. -/
theorem bitLogicResult : Obligations.BitLogicResult := by
  unfold Obligations.BitLogicResult
  intro s e m x w p t o c h
  constructor
  case left =>
    intro b hb
    refine ⟨?_, ?_, ?_, ?_, ?_, ?_, ?_, ?_⟩
    all_goals exact congrArg Host.Outcome.next (State.bitOp_ok _ h hb)
  case right =>
    intro tr htr
    refine ⟨?_, ?_, ?_, ?_, ?_, ?_, ?_, ?_⟩
    all_goals exact congrArg Host.Outcome.next (State.bitOp_error _ h htr)

/-- Settles O12: ST and STN always store a bit, SET and RST with LR = 1 alone; an unmapped word traps either way.
`witness_BitStoreResult` meets the premises. -/
theorem bitStoreResult : Obligations.BitStoreResult := by
  unfold Obligations.BitStoreResult
  intro s e m x w p t a o c img v k h
  refine ⟨fun ha hb => ⟨?st, ?stn, fun hl => ?set, fun hl => ?rst⟩, fun ha hl => ⟨?set0, ?rst0⟩, fun tr ha => ?trap⟩
  case st => exact congrArg Host.Outcome.next (State.bitStore_ok _ h rfl ha hb)
  case stn => exact congrArg Host.Outcome.next (State.bitStore_ok _ h rfl ha hb)
  case set => exact congrArg Host.Outcome.next (State.bitStore_ok _ h (if_pos hl) ha hb)
  case rst => exact congrArg Host.Outcome.next (State.bitStore_ok _ h (if_pos hl) ha hb)
  case set0 => exact congrArg Host.Outcome.next (State.bitStore_none _ h (if_neg (ne_true_of_eq_false hl)) ha)
  case rst0 => exact congrArg Host.Outcome.next (State.bitStore_none _ h (if_neg (ne_true_of_eq_false hl)) ha)
  case trap =>
    refine ⟨?_, ?_, ?_, ?_⟩
    all_goals exact congrArg Host.Outcome.next (State.bitStore_error _ h ha)

/-- BPSH below depth 16. -/
theorem State.stackPush_ok {s : State} {e p t : Nat} (h : Issues s e p t 1) (hd : (s.task p t).ctx.bsd < 16) :
    s.stackPush e = afterPass s p t 1 1 none (s.task p t).ctx.push := by
  rw [State.stackPush, State.issue_ok h (if_neg (Nat.not_le.mpr hd))]
  exact State.retire_reg ..
theorem State.stackPush_full {s : State} {e p t : Nat} (h : Issues s e p t 1) (hd : 16 ≤ (s.task p t).ctx.bsd) :
    s.stackPush e = s.trap e p t (Trap.plain 6) := by
  rw [State.stackPush, State.issue_error h (if_pos hd)]
/-- A read or pop of the branch stack above depth 0. -/
theorem State.stackOp_ok {s : State} {e p t : Nat} (pop : Nat) (f : Bool → Bool → Bool) (h : Issues s e p t 1)
    (hd : 0 < (s.task p t).ctx.bsd) : s.stackOp e pop f = afterPass s p t 1 1 none
      { (s.task p t).ctx with lr := f (s.task p t).ctx.lr (s.task p t).ctx.top, bsd := (s.task p t).ctx.bsd - pop } := by
  rw [State.stackOp, State.issue_ok h (if_neg (Nat.ne_of_gt hd))]
  exact State.retire_reg ..
theorem State.stackOp_empty {s : State} {e p t : Nat} (pop : Nat) (f : Bool → Bool → Bool) (h : Issues s e p t 1)
    (hd : (s.task p t).ctx.bsd = 0) : s.stackOp e pop f = s.trap e p t (Trap.plain 7) := by
  rw [State.stackOp, State.issue_error h (if_pos hd)]

/-- LR zero-extended to a word. -/
theorem ofNat_toNat_bool (b : Bool) : BitVec.ofNat 32 b.toNat = if b then 1 else 0 := by cases b <;> rfl
theorem decide_ne_zero (a : W) : decide (a ≠ 0) = !(a == 0) := by
  rw [decide_not, beq_eq_decide]

/-- Settles O13: NOT, SETL, CLRL, LRA and ALR change the context alone; the branch stack traps at its two ends.
`witness_LrAndBranchStackResult` meets the premises. -/
theorem lrAndBranchStackResult : Obligations.LrAndBranchStackResult := by
  unfold Obligations.LrAndBranchStackResult
  intro s e p t c h
  refine ⟨?not, ?setl, ?clrl, ?lra, ?alr, fun hd => ?push, fun hd => ?full, fun hd => ?brd, fun hd => ?brda, fun hd => ?brdo, fun hd => ?bpop,
    fun hd => ?bppa, fun hd => ?bppo, fun hd => ?bdrp, fun hd => ?empty⟩
  case lra => rw [← ofNat_toNat_bool]; exact congrArg Host.Outcome.next (State.regOp_ok _ h)
  case alr => rw [← decide_ne_zero]; exact congrArg Host.Outcome.next (State.regOp_ok _ h)
  case push => exact congrArg Host.Outcome.next (State.stackPush_ok h hd)
  case full => exact congrArg Host.Outcome.next (State.stackPush_full h hd)
  case not | setl | clrl => exact congrArg Host.Outcome.next (State.regOp_ok _ h)
  case brd | brda | brdo | bpop | bppa | bppo | bdrp => exact congrArg Host.Outcome.next (State.stackOp_ok _ _ h hd)
  case empty =>
    refine ⟨?_, ?_, ?_, ?_, ?_, ?_, ?_⟩
    all_goals exact congrArg Host.Outcome.next (State.stackOp_empty _ _ h hd)

/-- Settles O14: the read and the store of an edge reach the same word.
`witness_EdgeResult` meets the premises. -/
theorem edgeResult : Obligations.EdgeResult := by
  unfold Obligations.EdgeResult
  intro s e m x w p t a o c img v k h ha hb hr
  exact ⟨congrArg Host.Outcome.next (State.edge_ok _ h ha hb hr), congrArg Host.Outcome.next (State.edge_ok _ h ha hb hr)⟩

/-! ### Integer arithmetic, logic, shifts and compares (R81 to R83, R86) -/

theorem State.divOp_ok {s : State} {e p t : Nat} {o : Opnd} {v : W} (f : W → W → Res) (h : Issues s e p t o.words)
    (hv : s.readWord (s.task p t).ctx p (o.ea (s.task p t).ctx .word) = .ok v) (hz : v ≠ 0 ∨ s.rb (aPD_OPT p) 1 = false) :
    s.divOp e o f = afterPass s p t o.words o.words none ((s.task p t).ctx.putRes (f (s.task p t).ctx.a v) fZNV 34) := by
  have hn : ¬(v = 0 ∧ s.rb (aPD_OPT p) 1 = true) := by
    rintro ⟨h0, h1⟩
    rcases hz with hz | hz
    · exact hz h0
    · simp [hz] at h1
  rw [State.divOp, State.issue_ok h (by simp only [hv, Except.bind, if_neg hn]; rfl)]
  exact State.retire_reg ..
/-- TRAPDZ: a zero divisor traps (R82). -/
theorem State.divOp_zero {s : State} {e p t : Nat} {o : Opnd} {v : W} (f : W → W → Res) (h : Issues s e p t o.words)
    (hv : s.readWord (s.task p t).ctx p (o.ea (s.task p t).ctx .word) = .ok v) (hz : v = 0) (ht : s.rb (aPD_OPT p) 1 = true) :
    s.divOp e o f = s.trap e p t (Trap.plain 0x0A) := by
  rw [State.divOp, State.issue_error h (by simp only [hv, Except.bind, hz, ht, and_self, if_true]; rfl)]

/-- Settles O18: each is `State.wordOp` with its result function; DIV and MOD look at the divisor first.
`witness_ArithmeticResult` meets the premises. -/
theorem arithmeticResult : Obligations.ArithmeticResult := by
  unfold Obligations.ArithmeticResult
  intro s e m x w p t v imm o c
  refine ⟨fun h hv => ⟨?add, ?sub, ?adc, ?sbc, ?mul, fun hz => ⟨?div, ?mod⟩, fun hz ht => ⟨?div0, ?mod0⟩⟩, fun h => ?neg, fun h => ?addk⟩
  case add | sub | adc | sbc | mul => exact congrArg Host.Outcome.next (State.wordOp_ok _ h hv)
  case div | mod => exact congrArg Host.Outcome.next (State.divOp_ok _ h hv hz)
  case div0 | mod0 => exact congrArg Host.Outcome.next (State.divOp_zero _ h hv hz ht)
  case neg => exact congrArg Host.Outcome.next (State.regOp_ok _ h)
  case addk => exact congrArg Host.Outcome.next (State.immOp_ok _ h)

theorem fld_7_0 (v : W) : fld v 7 0 = v.toNat % 256 := by simp [fld]
/-- A shift by the low 8 bits of its operand. -/
theorem State.shiftOp_ok {s : State} {e p t : Nat} {o : Opnd} {v : W} (f : W → Nat → Bool → Res) (h : Issues s e p t o.words)
    (hv : s.readWord (s.task p t).ctx p (o.ea (s.task p t).ctx .word) = .ok v) :
    s.shiftOp e o f = afterPass s p t o.words o.words none
      ((s.task p t).ctx.putRes (f (s.task p t).ctx.a (v.toNat % 256) ((s.task p t).ctx.f.getLsbD 2)) fZNC 2) := by
  rw [State.shiftOp, State.wordOp_ok _ h hv, fld_7_0]
  rfl

/-- Settles O20: the logic instructions are `State.wordOp`, the shifts take the low 8 bits of their operand.
`witness_LogicAndShiftResult` meets the premises. -/
theorem logicAndShiftResult : Obligations.LogicAndShiftResult := by
  unfold Obligations.LogicAndShiftResult
  intro s e m x w p t v imm o c
  refine ⟨fun h hv => ⟨?andw, ?orw, ?xorw, ?shl, ?shr, ?sar, ?rol, ?ror⟩, fun h => ⟨?cpl, ?clrs⟩, fun h => ?imm⟩
  case andw | orw | xorw => exact congrArg Host.Outcome.next (State.wordOp_ok _ h hv)
  case shl | shr | sar | rol | ror => exact congrArg Host.Outcome.next (State.shiftOp_ok _ h hv)
  case cpl | clrs => exact congrArg Host.Outcome.next (State.regOp_ok _ h)
  case imm =>
    refine ⟨?_, ?_, ?_, ?_, ?_, ?_, ?_, ?_⟩
    all_goals exact congrArg Host.Outcome.next (State.immOp_ok _ h)

/-- Settles O22: the results come from the binary32 functions of the model, with their listed flags and distances.
`witness_Binary32Result` meets the premises. -/
theorem binary32Result : Obligations.Binary32Result := by
  unfold Obligations.Binary32Result
  intro s e m x w p t v o c
  refine ⟨fun h hv => ⟨?fadd, ?fsub, ?fmul, ?fdiv, ?fcmp⟩, fun h => ⟨?itof, ?ftoi, ?fneg, ?fabs⟩⟩
  case fadd | fsub | fmul | fdiv => exact congrArg Host.Outcome.next (State.wordOp_ok _ h hv)
  case fcmp => exact congrArg Host.Outcome.next (State.cmpOp_ok _ h hv)
  case itof | ftoi | fneg | fabs => exact congrArg Host.Outcome.next (State.regOp_ok _ h)

/-! ### Loads, stores, index and immediate instructions (R69, R70, R72, R90) -/

/-- Settles O25: each is a load or a store of word or image space.
`witness_LoadAndStoreResult` meets the premises. -/
theorem loadAndStoreResult : Obligations.LoadAndStoreResult := by
  unfold Obligations.LoadAndStoreResult
  intro s e m x w p t a v o c h
  refine ⟨fun hv => ?lda, fun tr hv => ?ldaTrap, fun hv => ?ldi, fun tr hv => ?ldiTrap, fun hv => ?ldx, fun tr hv => ?ldxTrap, fun hv => ?ldy,
    fun tr hv => ?ldyTrap, fun ha => ?sta, fun tr ha => ?staTrap, fun ha => ?sti, fun tr ha => ?stiTrap, fun ha => ?stx, fun tr ha => ?stxTrap,
    fun ha => ?sty, fun tr ha => ?styTrap⟩
  case lda | ldi | ldx | ldy => exact congrArg Host.Outcome.next (State.loadOp_ok _ h hv)
  case ldaTrap | ldiTrap | ldxTrap | ldyTrap => exact congrArg Host.Outcome.next (State.loadOp_error _ h hv)
  case sta | sti | stx | sty => exact congrArg Host.Outcome.next (State.storeOp_ok _ h ha)
  case staTrap | stiTrap | stxTrap | styTrap => exact congrArg Host.Outcome.next (State.storeOp_error _ h ha)

theorem mul_16384 {n : Nat} (v : BitVec n) : v * (16384 : BitVec n) = v <<< 14 := by
  have h : (16384 : BitVec n) = BitVec.twoPow n 14 := BitVec.eq_of_toNat_eq (by simp [BitVec.toNat_twoPow])
  rw [h, BitVec.shiftLeft_eq_mul_twoPow]

/-- Settles O26: each puts its value in flight and changes nothing else; a shift left by 14 multiplies by 2^14.
`witness_IndexAndImmediateResult` meets the premises. -/
theorem indexAndImmediateResult : Obligations.IndexAndImmediateResult := by
  unfold Obligations.IndexAndImmediateResult
  intro s e p t imm c
  constructor
  case left =>
    intro h
    refine ⟨?_, ?_, ?_, ?_, ?_, ?_, ?_, ?_, ?_, ?_⟩
    all_goals exact congrArg Host.Outcome.next (State.regOp_ok _ h)
  case right =>
    intro h
    rw [mul_16384, mul_16384, mul_16384]
    refine ⟨?_, ?_, ?_, ?_, ?_, ?_, ?_, ?_⟩
    all_goals exact congrArg Host.Outcome.next (State.immOp_ok _ h)

end Sys2Proof.Machine
end

section
/-!
PROOFS. Timers and counters (spec/03 R77 to R80): the instructions on a block, and what each rule does to a timer block.
-/
namespace Sys2Proof.Machine

/-! ### The instructions -/

/-- A block instruction that stores at least one word: its words lie in word space. -/
theorem State.blockOp_stored {s : State} {e p t n x : Nat} {o : Opnd} {ws : List W} {wr : List MemWr}
    (f : Nat → Nat → Bool → List W → List W × Bool) (h : Issues s e p t o.words)
    (hr : s.readBlock (s.task p t).ctx p (o.ea (s.task p t).ctx .word) n = .ok ws)
    (hw : s.storeBlock p (o.ea (s.task p t).ctx .word) (f p t (s.task p t).ctx.lr ws).1 = .ok wr) (hn : wr ≠ []) :
    s.blockOp e n x o f = afterPass (wr.foldl (fun s k => s.wrMem k.a k.new) s) p t o.words (o.words + x)
      (some { image := false, words := wr.map (fun k => (k.w, k.old)), next := decide (o.words + x = 1) })
      { (s.task p t).ctx with lr := (f p t (s.task p t).ctx.lr ws).2 } := by
  rw [State.blockOp_ok f h hr hw, State.storeBlock_record hw hn]
  rfl

/-- Settles O15: TON, TOF and TP take the time step and their own rule, TRS its reset; each stores the block it leaves.
`witness_TimerBlockResult` meets the premises. -/
theorem timerBlockResult : Obligations.TimerBlockResult := by
  unfold Obligations.TimerBlockResult
  intro s e m x w p t ws wr o c h hr st
  refine ⟨fun hw hn => ?ton, fun hw hn => ?tof, fun hw hn => ?tp, fun hw hn => ?trs⟩
  case ton | tof | tp | trs => exact congrArg Host.Outcome.next (State.blockOp_stored _ h hr hw hn)

/-- Settles O17: the count saturates at either end, and QU and QD compare it with the preset and 0.
`witness_CounterBlockResult` meets the premises. -/
theorem counterBlockResult : Obligations.CounterBlockResult := by
  unfold Obligations.CounterBlockResult
  intro s e m x w p t ws wr o c b h hr
  refine ⟨fun hw hn => ?ctu, fun hw hn => ?ctd, fun hw hn => ?crs, fun hw hn => ?cld⟩
  case ctu | ctd | crs | cld => exact congrArg Host.Outcome.next (State.blockOp_stored _ h hr hw hn)

/-! ### What a rule does to a timer block -/

/-- ET + d without wrap, and at most the preset (R79). -/
theorem Tmr.toNat_run' (b : Tmr) (d : W) : (b.run' d).toNat = min b.pt.toNat (b.et.toNat + d.toNat) := by
  have hpt := b.pt.isLt
  rw [Tmr.run', BitVec.toNat_ofNat, Nat.mod_eq_of_lt (by omega)]

theorem Tmr.ton_pt (b : Tmr) (d : W) (i : Bool) : (b.ton d i).pt = b.pt := rfl
theorem Tmr.tof_pt (b : Tmr) (d : W) (i : Bool) : (b.tof d i).pt = b.pt := by
  simp only [Tmr.tof, apply_ite Tmr.pt, ite_self]
theorem Tmr.tp_pt (b : Tmr) (d : W) (i : Bool) : (b.tp d i).pt = b.pt := by
  simp only [Tmr.tp, apply_ite Tmr.pt, ite_self]

/-- Bit 31 of a word says whether it lies in the upper half (R78). -/
theorem bitAt_31 (v : W) : bitAt v 31 = decide (2 ^ 31 ≤ v.toNat) := by
  have h : v.msb = bitAt v 31 := by simp [bitAt, BitVec.msb_eq_getLsbD_last]
  rw [← h, BitVec.msb_eq_decide]

/-- TP before the pulse ends: RUN and Q stay, ET grows by the step. -/
theorem Tmr.tp_running {b : Tmr} {d : W} (i : Bool) (hr : b.run = true) (h : b.et.toNat + d.toNat < b.pt.toNat) :
    b.tp d i = { b with et := b.run' d, inp := i } := by
  have hrun : ¬ b.pt.toNat ≤ (b.run' d).toNat := by rw [Tmr.toNat_run']; omega
  simp only [Tmr.tp, hr, if_true, if_neg hrun]
/-- TP when ET reaches PT: the pulse ends. -/
theorem Tmr.tp_ended {b : Tmr} {d : W} (i : Bool) (hr : b.run = true) (h : b.pt.toNat ≤ b.et.toNat + d.toNat) :
    b.tp d i = { b with et := b.pt, run := false, q := false, inp := i } := by
  have het : b.run' d = b.pt := BitVec.eq_of_toNat_eq (by rw [Tmr.toNat_run']; omega)
  simp only [Tmr.tp, hr, if_true, het, le_refl]

theorem Tmr.step_first {b : Tmr} (t : W) (hi : b.init = false) : b.step t = ({ b with stamp := t, init := true }, 0) := if_pos hi
/-- A stamp 2^31 µs or more back gives no step (R78). -/
theorem Tmr.step_old {b : Tmr} {t : W} (hi : b.init = true) (h : 2 ^ 31 ≤ (t - b.stamp).toNat) : b.step t = (b, 0) := by
  simp only [Tmr.step, hi, Bool.true_eq_false, if_false, bitAt_31, decide_eq_true h, if_true]
theorem Tmr.step_next {b : Tmr} {t : W} (hi : b.init = true) (h : (t - b.stamp).toNat < 2 ^ 31) :
    b.step t = ({ b with stamp := t }, t - b.stamp) := by
  simp only [Tmr.step, hi, Bool.true_eq_false, if_false, bitAt_31, decide_eq_false (Nat.not_le.mpr h),
    Bool.false_eq_true]

/-- Settles O16: rule by rule, from `Tmr.toNat_run'` and the three outcomes of the time step. -/
theorem timerLaws : Obligations.TimerLaws := by
  unfold Obligations.TimerLaws
  intro b d t i
  refine ⟨b.ton_pt d i, b.tof_pt d i, b.tp_pt d i, rfl, rfl, fun hin => ⟨?tonEt, ?tonQ⟩, rfl, rfl, fun hr h => ?running, fun hr h => ?ended,
    ⟨rfl, rfl, rfl, rfl, rfl⟩, Tmr.step_first t, Tmr.step_old, Tmr.step_next⟩
  case tonEt => simp only [Tmr.ton, hin, Bool.and_self, if_true, Tmr.toNat_run']
  case tonQ => simp only [Tmr.ton, Bool.true_and, decide_eq_true_iff]
  case running =>
    rw [Tmr.tp_running i hr h]
    exact ⟨hr, rfl, by rw [Tmr.toNat_run']; omega⟩
  case ended =>
    rw [Tmr.tp_ended i hr h]
    exact ⟨rfl, rfl, rfl⟩

end Sys2Proof.Machine
end

section
/-!
PROOFS. Integer results and flags are those of exact arithmetic (spec/03 R81 to R83, R86): sums, differences, products, quotients, shifts,
and the conditions after a compare.
-/
namespace Sys2Proof.Machine

/-! ### The bits of a flag word -/

theorem getLsbD_flag (k : Fin 8) (i : Nat) : (BitVec.twoPow 8 k).getLsbD i = decide (i = k) := by
  rw [BitVec.getLsbD_twoPow, decide_eq_true k.isLt, Bool.true_and]
  exact decide_eq_decide.mpr eq_comm
theorem getLsbD_fZ (i : Nat) : fZ.getLsbD i = decide (i = 0) := getLsbD_flag 0 i
theorem getLsbD_fN (i : Nat) : fN.getLsbD i = decide (i = 1) := getLsbD_flag 1 i
theorem getLsbD_fC (i : Nat) : fC.getLsbD i = decide (i = 2) := getLsbD_flag 2 i
theorem getLsbD_fOV (i : Nat) : fOV.getLsbD i = decide (i = 3) := getLsbD_flag 3 i
theorem getLsbD_fOS (i : Nat) : fOS.getLsbD i = decide (i = 4) := getLsbD_flag 4 i
theorem getLsbD_fDZ (i : Nat) : fDZ.getLsbD i = decide (i = 5) := getLsbD_flag 5 i
theorem getLsbD_flagIf (b : Bool) (m : BitVec 8) (i : Nat) : (flagIf b m).getLsbD i = (b && m.getLsbD i) := by
  cases b
  · exact BitVec.getLsbD_zero
  · rfl
/-- Z says that the value is 0, N is its bit 31. -/
theorem getLsbD_znOf (v : W) (i : Nat) : (znOf v).getLsbD i = ((decide (v = 0) && decide (i = 0)) || (v.getLsbD 31 && decide (i = 1))) := by
  rw [znOf, BitVec.getLsbD_or, getLsbD_flagIf, getLsbD_flagIf, getLsbD_fZ, getLsbD_fN]
  rfl

/-! ### The flags of each result -/

theorem addRes_fl (a m : W) (k : Bool) : (addRes a m k).fl = znOf (addRes a m k).val
    ||| flagIf (decide (2 ^ 32 ≤ a.toNat + m.toNat + k.toNat)) fC
    ||| flagIf (decide (a.toInt + m.toInt + k.toNat ≠ (addRes a m k).val.toInt)) fOV
    ||| flagIf (decide (a.toInt + m.toInt + k.toNat ≠ (addRes a m k).val.toInt)) fOS := rfl
theorem subRes_fl (a m : W) (k : Bool) : (subRes a m k).fl = znOf (subRes a m k).val
    ||| flagIf (decide (a.toNat < m.toNat + k.toNat)) fC
    ||| flagIf (decide (a.toInt - m.toInt - k.toNat ≠ (subRes a m k).val.toInt)) fOV
    ||| flagIf (decide (a.toInt - m.toInt - k.toNat ≠ (subRes a m k).val.toInt)) fOS := rfl
theorem mulRes_fl (a m : W) : (mulRes a m).fl = znOf (mulRes a m).val
    ||| flagIf (decide (a.toInt * m.toInt ≠ (mulRes a m).val.toInt)) fOV
    ||| flagIf (decide (a.toInt * m.toInt ≠ (mulRes a m).val.toInt)) fOS := rfl

theorem getLsbD_addRes (a m : W) (k : Bool) (i : Nat) : (addRes a m k).fl.getLsbD i =
    ((znOf (addRes a m k).val).getLsbD i || (decide (2 ^ 32 ≤ a.toNat + m.toNat + k.toNat) && decide (i = 2))
      || (decide (a.toInt + m.toInt + k.toNat ≠ (addRes a m k).val.toInt) && (decide (i = 3) || decide (i = 4)))) := by
  rw [addRes_fl]
  simp only [BitVec.getLsbD_or, getLsbD_flagIf, getLsbD_fC, getLsbD_fOV, getLsbD_fOS, Bool.and_or_distrib_left, Bool.or_assoc]
theorem getLsbD_subRes (a m : W) (k : Bool) (i : Nat) : (subRes a m k).fl.getLsbD i =
    ((znOf (subRes a m k).val).getLsbD i || (decide (a.toNat < m.toNat + k.toNat) && decide (i = 2))
      || (decide (a.toInt - m.toInt - k.toNat ≠ (subRes a m k).val.toInt) && (decide (i = 3) || decide (i = 4)))) := by
  rw [subRes_fl]
  simp only [BitVec.getLsbD_or, getLsbD_flagIf, getLsbD_fC, getLsbD_fOV, getLsbD_fOS, Bool.and_or_distrib_left, Bool.or_assoc]
theorem getLsbD_mulRes (a m : W) (i : Nat) : (mulRes a m).fl.getLsbD i =
    ((znOf (mulRes a m).val).getLsbD i
      || (decide (a.toInt * m.toInt ≠ (mulRes a m).val.toInt) && (decide (i = 3) || decide (i = 4)))) := by
  rw [mulRes_fl]
  simp only [BitVec.getLsbD_or, getLsbD_flagIf, getLsbD_fOV, getLsbD_fOS, Bool.and_or_distrib_left, Bool.or_assoc]
theorem divRes_zero_fl (a : W) : (divRes a 0).fl = znOf (divRes a 0).val ||| fDZ := rfl
theorem divRes_fl {a m : W} (hm : m ≠ 0) : (divRes a m).fl = znOf (divRes a m).val
    ||| flagIf (decide (a = 0x80000000 ∧ m = 0xFFFFFFFF)) fOV ||| flagIf (decide (a = 0x80000000 ∧ m = 0xFFFFFFFF)) fOS := by
  rw [divRes, if_neg hm]
  rfl
/-- DIV: DZ for a zero divisor; OV and OS for 0x8000_0000 ÷ −1 alone. -/
theorem getLsbD_divRes (a m : W) (i : Nat) : (divRes a m).fl.getLsbD i =
    ((znOf (divRes a m).val).getLsbD i || (decide (m = 0) && decide (i = 5))
      || (decide (a = 0x80000000 ∧ m = 0xFFFFFFFF) && (decide (i = 3) || decide (i = 4)))) := by
  by_cases hm : m = 0
  · have hne : ¬(a = 0x80000000 ∧ (0 : W) = 0xFFFFFFFF) := fun h => absurd h.2 (by decide)
    rw [hm, divRes_zero_fl, BitVec.getLsbD_or, getLsbD_fDZ, decide_eq_false hne, decide_eq_true rfl, Bool.true_and, Bool.false_and, Bool.or_false]
  · rw [divRes_fl hm]
    simp only [BitVec.getLsbD_or, getLsbD_flagIf, getLsbD_fOV, getLsbD_fOS, decide_eq_false hm, Bool.false_and, Bool.or_false,
      Bool.and_or_distrib_left, Bool.or_assoc]
theorem getLsbD_modRes (a m : W) (i : Nat) : (modRes a m).fl.getLsbD i =
    ((znOf (modRes a m).val).getLsbD i || (decide (m = 0) && decide (i = 5))) := by
  by_cases hm : m = 0
  · simp only [modRes, hm, if_true, BitVec.getLsbD_or, getLsbD_fDZ, decide_true, Bool.true_and]
  · rw [modRes, if_neg hm, decide_eq_false hm, Bool.false_and, Bool.or_false]

/-! ### The values -/

/-- A number equals its residue that a signed word holds exactly when a signed word can hold it. -/
theorem ne_bmod_iff (x : Int) : x ≠ x.bmod (2 ^ 32) ↔ ¬(-(2 : Int) ^ 31 ≤ x ∧ x < (2 : Int) ^ 31) := by
  rw [Int.bmod_def]
  split <;> omega
theorem toInt_carry (k : Bool) : (BitVec.ofNat 32 k.toNat).toInt = k.toNat := by cases k <;> rfl
theorem toInt_addRes (a m : W) (k : Bool) : (addRes a m k).val.toInt = (a.toInt + m.toInt + k.toNat).bmod (2 ^ 32) := by
  simp only [addRes, BitVec.toInt_add, toInt_carry, Int.bmod_add_bmod]
theorem toInt_subRes (a m : W) (k : Bool) : (subRes a m k).val.toInt = (a.toInt - m.toInt - k.toNat).bmod (2 ^ 32) := by
  simp only [subRes, BitVec.toInt_sub, toInt_carry, Int.bmod_sub_bmod]
theorem toInt_mulRes (a m : W) : (mulRes a m).val.toInt = (a.toInt * m.toInt).bmod (2 ^ 32) := BitVec.toInt_mul a m
theorem toNat_addRes (a m : W) (k : Bool) : (addRes a m k).val.toNat = (a.toNat + m.toNat + k.toNat) % 2 ^ 32 := by
  simp only [addRes, BitVec.toNat_add, BitVec.toNat_ofNat]
  omega
theorem toNat_subRes (a m : W) (k : Bool) : ((subRes a m k).val.toNat : Int) = ((a.toNat : Int) - m.toNat - k.toNat) % 2 ^ 32 := by
  have ha := a.isLt
  have hm := m.isLt
  have hk := k.toNat_le
  simp only [subRes, BitVec.toNat_sub, BitVec.toNat_ofNat]
  omega
/-- The quotient truncated towards zero is the signed division of words. -/
theorem divRes_val {a m : W} (hm : m ≠ 0) : (divRes a m).val = a.sdiv m := by
  rw [divRes, if_neg hm]
  exact BitVec.eq_of_toInt_eq (by rw [BitVec.toInt_ofInt, BitVec.toInt_sdiv])
theorem modRes_val {a m : W} (hm : m ≠ 0) : (modRes a m).val = a.srem m := by
  rw [modRes, if_neg hm]
  exact BitVec.eq_of_toInt_eq (by rw [← BitVec.toInt_srem, BitVec.ofInt_toInt])

/-- Settles O19: OV compares the exact value with the one the word holds, which is its residue modulo 2^32. -/
theorem arithmeticFlagsAreExact : Obligations.ArithmeticFlagsAreExact := by
  unfold Obligations.ArithmeticFlagsAreExact
  intro a m k g
  refine ⟨?zn, toNat_addRes a m k, ?addC, ?addOv, toNat_subRes a m k, ?subC, ?subOv, BitVec.toNat_mul a m, ?mulOv, ?sticky,
    fun hm hmin => ⟨?quot, ?rem, ?divOv, ?divDz⟩, by decide, by decide, by decide, by decide, rfl, rfl, ?dz, ?mz⟩
  case zn =>
    simp only [List.forall_mem_cons, g, getLsbD_addRes, getLsbD_subRes, getLsbD_mulRes, getLsbD_divRes, getLsbD_modRes, getLsbD_znOf]
    simp
  case addC =>
    simp only [g, getLsbD_addRes, getLsbD_znOf]
    simp
  case addOv =>
    simp only [g, getLsbD_addRes, getLsbD_znOf, toInt_addRes, ← ne_bmod_iff]
    simp
  case subC =>
    simp only [g, getLsbD_subRes, getLsbD_znOf]
    simp
  case subOv =>
    simp only [g, getLsbD_subRes, getLsbD_znOf, toInt_subRes, ← ne_bmod_iff]
    simp
  case mulOv =>
    simp only [g, getLsbD_mulRes, getLsbD_znOf, toInt_mulRes, ← ne_bmod_iff]
    simp
  case sticky =>
    simp only [List.forall_mem_cons, g, getLsbD_addRes, getLsbD_subRes, getLsbD_mulRes, getLsbD_znOf]
    simp
  case quot =>
    rw [divRes_val hm]
    exact BitVec.toInt_sdiv_of_ne_or_ne a m (not_and_or.mp hmin)
  case rem => rw [modRes_val hm, BitVec.toInt_srem]
  case divOv =>
    simp only [g, getLsbD_divRes, getLsbD_znOf, decide_eq_false hm, decide_eq_false hmin]
    simp
  case divDz =>
    simp only [g, getLsbD_divRes, getLsbD_znOf, decide_eq_false hm, decide_eq_false hmin]
    simp
  case dz =>
    simp only [g, getLsbD_divRes]
    simp
  case mz =>
    simp only [g, getLsbD_modRes]
    simp

/-! ### Shifts and rotates (R83) -/

theorem getLsbD_shiftOut (v : W) (c : Bool) (i : Nat) : (shiftOut v c).fl.getLsbD i = ((znOf v).getLsbD i || (c && decide (i = 2))) := by
  rw [shiftOut, BitVec.getLsbD_or, getLsbD_flagIf, getLsbD_fC]
theorem shiftOut_c (v : W) (c : Bool) : (shiftOut v c).fl.getLsbD 2 = c := by
  simp only [getLsbD_shiftOut, getLsbD_znOf]
  simp
/-- A shift gives Z, N and C, and sets no other flag. -/
theorem shiftOut_flags (v : W) (c : Bool) : ((shiftOut v c).fl.getLsbD 0 = true ↔ (shiftOut v c).val = 0) ∧
    (shiftOut v c).fl.getLsbD 1 = (shiftOut v c).val.getLsbD 31 ∧ (shiftOut v c).fl &&& 0xF8 = 0 := by
  refine ⟨?z, ?n, ?rest⟩
  case z =>
    simp only [getLsbD_shiftOut, getLsbD_znOf]
    simp [shiftOut]
  case n =>
    simp only [getLsbD_shiftOut, getLsbD_znOf]
    simp [shiftOut]
  case rest =>
    have h : ∀ z n k : Bool, (flagIf z fZ ||| flagIf n fN ||| flagIf k fC) &&& 0xF8 = 0 := by decide
    exact h _ _ _

theorem shlRes_small {n : Nat} (h1 : 1 ≤ n) (h2 : n ≤ 31) (a : W) (c : Bool) : shlRes a n c = shiftOut (a <<< n) (bitAt a (32 - n)) := by
  rw [shlRes, if_neg (by omega), if_pos h2]
theorem shrRes_small {n : Nat} (h1 : 1 ≤ n) (h2 : n ≤ 31) (a : W) (c : Bool) : shrRes a n c = shiftOut (a >>> n) (bitAt a (n - 1)) := by
  rw [shrRes, if_neg (by omega), if_pos h2]
theorem sarRes_small {n : Nat} (h1 : 1 ≤ n) (h2 : n ≤ 31) (a : W) (c : Bool) :
    sarRes a n c = shiftOut (a.sshiftRight n) (bitAt a (n - 1)) := by
  rw [sarRes, if_neg (by omega), if_pos h2]
theorem shlRes_large {n : Nat} (h : 32 ≤ n) (a : W) (c : Bool) : shlRes a n c = shiftOut 0 (decide (n = 32) && bitAt a 0) := by
  rw [shlRes, if_neg (by omega), if_neg (by omega)]
theorem shrRes_large {n : Nat} (h : 32 ≤ n) (a : W) (c : Bool) : shrRes a n c = shiftOut 0 (decide (n = 32) && bitAt a 31) := by
  rw [shrRes, if_neg (by omega), if_neg (by omega)]
theorem sarRes_large {n : Nat} (h : 32 ≤ n) (a : W) (c : Bool) :
    sarRes a n c = shiftOut (if bitAt a 31 then BitVec.allOnes 32 else 0) (bitAt a 31) := by
  rw [sarRes, if_neg (by omega), if_neg (by omega)]
theorem rolRes_turned {n : Nat} (h : n % 32 ≠ 0) (a : W) (c : Bool) :
    rolRes a n c = shiftOut (a.rotateLeft n) (bitAt (a.rotateLeft n) 0) := by
  rw [rolRes, if_neg h, BitVec.rotateLeft_mod_eq_rotateLeft]
theorem rorRes_turned {n : Nat} (h : n % 32 ≠ 0) (a : W) (c : Bool) :
    rorRes a n c = shiftOut (a.rotateRight n) (bitAt (a.rotateRight n) 31) := by
  rw [rorRes, if_neg h, BitVec.rotateRight_mod_eq_rotateRight]
theorem rolRes_whole {n : Nat} (h : n % 32 = 0) (a : W) (c : Bool) : rolRes a n c = shiftOut a c := if_pos h
theorem rorRes_whole {n : Nat} (h : n % 32 = 0) (a : W) (c : Bool) : rorRes a n c = shiftOut a c := if_pos h

/-- Every shift gives its flags as `shiftOut` does. -/
theorem exists_shiftOut (a : W) (n : Nat) (c : Bool) : ∀ r ∈ [shlRes a n c, shrRes a n c, sarRes a n c, rolRes a n c, rorRes a n c],
    ∃ v k, r = shiftOut v k := by
  have hcases : n = 0 ∨ (1 ≤ n ∧ n ≤ 31) ∨ 32 ≤ n := by omega
  simp only [List.forall_mem_cons, List.not_mem_nil, false_implies, implies_true, and_true]
  refine ⟨?shl, ?shr, ?sar, ?rol, ?ror⟩
  case shl =>
    rcases hcases with rfl | ⟨h1, h2⟩ | h
    · exact ⟨_, _, rfl⟩
    · exact ⟨_, _, shlRes_small h1 h2 a c⟩
    · exact ⟨_, _, shlRes_large h a c⟩
  case shr =>
    rcases hcases with rfl | ⟨h1, h2⟩ | h
    · exact ⟨_, _, rfl⟩
    · exact ⟨_, _, shrRes_small h1 h2 a c⟩
    · exact ⟨_, _, shrRes_large h a c⟩
  case sar =>
    rcases hcases with rfl | ⟨h1, h2⟩ | h
    · exact ⟨_, _, rfl⟩
    · exact ⟨_, _, sarRes_small h1 h2 a c⟩
    · exact ⟨_, _, sarRes_large h a c⟩
  case rol =>
    by_cases h : n % 32 = 0
    · exact ⟨_, _, rolRes_whole h a c⟩
    · exact ⟨_, _, rolRes_turned h a c⟩
  case ror =>
    by_cases h : n % 32 = 0
    · exact ⟨_, _, rorRes_whole h a c⟩
    · exact ⟨_, _, rorRes_turned h a c⟩

theorem toNat_shiftLeft_word (a : W) (n : Nat) : (a <<< n).toNat = a.toNat * 2 ^ n % 2 ^ 32 := by
  rw [BitVec.toNat_shiftLeft, Nat.shiftLeft_eq]
theorem toNat_shiftRight_word (a : W) (n : Nat) : (a >>> n).toNat = a.toNat / 2 ^ n := by
  rw [BitVec.toNat_ushiftRight, Nat.shiftRight_eq_div_pow]
theorem toInt_sshiftRight_word (a : W) (n : Nat) : (a.sshiftRight n).toInt = a.toInt / 2 ^ n := by
  rw [BitVec.toInt_sshiftRight, Int.shiftRight_eq_div_pow]
  norm_cast

/-- Settles O21: by the amount, 0, 1 to 31, or more; a rotate looks at it modulo 32. -/
theorem shiftsAreExact : Obligations.ShiftsAreExact := by
  unfold Obligations.ShiftsAreExact
  intro a n c
  refine ⟨?flags, ?zero, fun h1 h2 => ?small, fun h => ?large, fun h => ?turned, fun h => ?whole⟩
  case flags =>
    intro r hr
    obtain ⟨v, k, rfl⟩ := exists_shiftOut a n c r hr
    exact shiftOut_flags v k
  case zero =>
    have h0 : ∀ f ∈ [shlRes, shrRes, sarRes, rolRes, rorRes], f a 0 c = shiftOut a c := by
      simp only [List.forall_mem_cons, List.not_mem_nil, false_implies, implies_true, and_true]
      exact ⟨rfl, rfl, rfl, rfl, rfl⟩
    intro f hf
    rw [h0 f hf]
    exact ⟨rfl, shiftOut_c a c⟩
  case small =>
    rw [shlRes_small h1 h2, shrRes_small h1 h2, sarRes_small h1 h2]
    exact ⟨toNat_shiftLeft_word a n, shiftOut_c .., toNat_shiftRight_word a n, shiftOut_c .., toInt_sshiftRight_word a n, shiftOut_c ..⟩
  case large =>
    rw [shlRes_large h, shrRes_large h, sarRes_large h]
    exact ⟨rfl, rfl, shiftOut_c .., shiftOut_c .., rfl, shiftOut_c ..⟩
  case turned =>
    rw [rolRes_turned h, rorRes_turned h]
    exact ⟨rfl, shiftOut_c .., rfl, shiftOut_c ..⟩
  case whole =>
    rw [rolRes_whole h, rorRes_whole h]
    exact ⟨rfl, rfl⟩

/-! ### Compares and conditions (R86) -/

/-- A compare puts the four condition flags in flight and no sticky flag. -/
theorem Ctx.putFlags_compare (c : Ctx) (fl : BitVec 8) (d : Nat) :
    c.putFlags (fl &&& fZNCV) fZNCV d = { c with inF := some ((fl &&& 0x0F).truncate 4, d) } := by
  have hst : fl &&& fZNCV &&& fSticky = 0 := by
    rw [BitVec.and_assoc, show fZNCV &&& fSticky = 0#8 from rfl]
    exact BitVec.and_zero
  have hkeep : ((c.f &&& ~~~fZNCV) ||| (fl &&& fZNCV &&& fZNCV)).truncate 4 = (fl &&& 0x0F).truncate 4 := by
    have hlow : (~~~fZNCV).setWidth 4 = 0#4 := rfl
    rw [BitVec.and_assoc, BitVec.and_self, BitVec.truncate_eq_setWidth, BitVec.setWidth_or, BitVec.setWidth_and, hlow, BitVec.and_zero,
      BitVec.zero_or]
    rfl
  rw [Ctx.putFlags, Ctx.stick, if_pos hst, Ctx.putF, hkeep]

theorem State.cmpOp_error {s : State} {e p t d : Nat} {o : Opnd} {tr : Trap} {l : BitVec 8} (f : Ctx → W → BitVec 8)
    (h : Issues s e p t o.words) (hv : s.readWord (s.task p t).ctx p (o.ea (s.task p t).ctx .word) = .error tr) :
    s.cmpOp e o d l f = s.trap e p t tr := by
  rw [State.cmpOp, State.issue_error h (by simp only [hv, Except.bind]; rfl)]

section
variable {s : State} {e : BitVec 7} {m : BitVec 2} {x : BitVec 6} {w : BitVec 14} {p t : Nat}

theorem exec_opCmp {v : W} (h : Issues s e.toNat p t (Opnd.words ⟨m, x, w⟩))
    (hv : s.readWord (s.task p t).ctx p (Opnd.ea ⟨m, x, w⟩ (s.task p t).ctx .word) = .ok v) :
    exec (.opCmp e m x w) s = .next (afterPass s p t (Opnd.words ⟨m, x, w⟩) (Opnd.words ⟨m, x, w⟩) none
      { (s.task p t).ctx with inF := some (((subRes (s.task p t).ctx.a v false).fl &&& 0x0F).truncate 4, 2) }) := by
  rw [← Ctx.putFlags_compare]
  exact congrArg Host.Outcome.next (State.cmpOp_ok _ h hv)
theorem exec_opCmpk {imm : BitVec 14} (h : Issues s e.toNat p t 2) :
    exec (.opCmpk e imm) s = .next (afterPass s p t 2 2 none
      { (s.task p t).ctx with inF := some (((subRes (s.task p t).ctx.a (imm.signExtend 32) false).fl &&& 0x0F).truncate 4, 2) }) := by
  rw [← Ctx.putFlags_compare]
  exact congrArg Host.Outcome.next (State.immOp_ok _ h)

end

/-- The flags of a compare: Z, N, C and OV of the difference. -/
theorem compare_z (a m : W) : (subRes a m false).fl.getLsbD 0 = decide (a = m) := by
  have hval : (subRes a m false).val = a - m := BitVec.sub_zero _
  simp only [getLsbD_subRes, getLsbD_znOf, hval, BitVec.sub_eq_iff_eq_add]
  simp
theorem compare_n (a m : W) : (subRes a m false).fl.getLsbD 1 = decide ((a.toInt - m.toInt).bmod (2 ^ 32) < 0) := by
  have hmsb : (subRes a m false).val.getLsbD 31 = decide ((subRes a m false).val.toInt < 0) := by
    rw [← BitVec.msb_eq_toInt, BitVec.msb_eq_getLsbD_last]
  simp only [getLsbD_subRes, getLsbD_znOf, hmsb, toInt_subRes]
  simp
theorem compare_c (a m : W) : (subRes a m false).fl.getLsbD 2 = decide (a.toNat < m.toNat) := by
  simp only [getLsbD_subRes, getLsbD_znOf]
  simp
theorem compare_v (a m : W) : (subRes a m false).fl.getLsbD 3 = decide (a.toInt - m.toInt ≠ (a.toInt - m.toInt).bmod (2 ^ 32)) := by
  simp only [getLsbD_subRes, getLsbD_znOf, toInt_subRes]
  simp
/-- N and OV differ exactly when the signed difference is negative. -/
theorem compare_lt (a m : W) : ((subRes a m false).fl.getLsbD 1 != (subRes a m false).fl.getLsbD 3) = decide (a.toInt < m.toInt) := by
  have ha := BitVec.toInt_lt (x := a)
  have ha' := BitVec.le_toInt (x := a)
  have hm := BitVec.toInt_lt (x := m)
  have hm' := BitVec.le_toInt (x := m)
  rw [compare_n, compare_v, Int.bmod_def, Bool.eq_iff_iff, bne_iff_ne, ne_eq, decide_eq_decide, decide_eq_true_iff]
  split <;> omega

/-- Settles O23: every condition is a combination of `compare_z`, `compare_lt` and `compare_c`.
`witness_CompareAndConditionResult` meets the premises. -/
theorem compareAndConditionResult : Obligations.CompareAndConditionResult := by
  unfold Obligations.CompareAndConditionResult
  intro s e m x w p t v imm cc o c
  refine ⟨exec_opCmp, exec_opCmpk, fun h => ⟨?_, ?_, ?_, ?_, ?_⟩, fun a m => ?conditions⟩
  case conditions =>
    intro f
    have hz : f.getLsbD 0 = decide (a = m) := compare_z a m
    have hlt : (f.getLsbD 1 != f.getLsbD 3) = decide (a.toInt < m.toInt) := compare_lt a m
    have hge : (f.getLsbD 1 == f.getLsbD 3) = !decide (a.toInt < m.toInt) := by rw [← hlt, bne, Bool.not_not]
    have hc : f.getLsbD 2 = decide (a.toNat < m.toNat) := compare_c a m
    have heqI : a = m ↔ a.toInt = m.toInt := BitVec.toInt_inj.symm
    have heqN : a = m ↔ a.toNat = m.toNat := BitVec.toNat_inj.symm
    refine ⟨?eq, ?ne, ?lt, ?ge, ?gt, ?le, ?ltu, ?geu, ?gtu, ?leu⟩
    case eq =>
      show f.getLsbD 0 = true ↔ _
      rw [hz, decide_eq_true_iff]
    case ne =>
      show (!f.getLsbD 0) = true ↔ _
      rw [hz, ← decide_not, decide_eq_true_iff]
    case lt =>
      show (f.getLsbD 1 != f.getLsbD 3) = true ↔ _
      rw [hlt, decide_eq_true_iff]
    case ge =>
      show (f.getLsbD 1 == f.getLsbD 3) = true ↔ _
      rw [hge, ← decide_not, decide_eq_true_iff, not_lt]
    case gt =>
      show (!f.getLsbD 0 && (f.getLsbD 1 == f.getLsbD 3)) = true ↔ _
      rw [hz, hge, ← Bool.not_or, ← Bool.decide_or, ← decide_not, decide_eq_true_iff, heqI]
      omega
    case le =>
      show (f.getLsbD 0 || (f.getLsbD 1 != f.getLsbD 3)) = true ↔ _
      rw [hz, hlt, ← Bool.decide_or, decide_eq_true_iff, heqI]
      omega
    case ltu =>
      show f.getLsbD 2 = true ↔ _
      rw [hc, decide_eq_true_iff]
    case geu =>
      show (!f.getLsbD 2) = true ↔ _
      rw [hc, ← decide_not, decide_eq_true_iff, not_lt]
    case gtu =>
      show (!f.getLsbD 2 && !f.getLsbD 0) = true ↔ _
      rw [hz, hc, ← Bool.not_or, ← Bool.decide_or, ← decide_not, decide_eq_true_iff, heqN]
      omega
    case leu =>
      show (f.getLsbD 2 || f.getLsbD 0) = true ↔ _
      rw [hz, hc, ← Bool.decide_or, decide_eq_true_iff, heqN]
      omega
  all_goals exact congrArg Host.Outcome.next (State.regOp_ok _ h)

/-! ### Condition flags in flight leave OS alone -/

/-- Two contexts whose sticky flags stand and move alike. -/
def Ctx.SameSticky (c k : Ctx) : Prop := c.stk = k.stk ∧ ∀ j, 4 ≤ j → c.f.getLsbD j = k.f.getLsbD j

/-- Each sticky flag that lands is written by itself. -/
theorem getLsbD_landSticky {f g : BitVec 8} {j : Nat} (h : f.getLsbD j = g.getLsbD j) (l : List Sticky) :
    (landSticky f l).getLsbD j = (landSticky g l).getLsbD j := by
  have hclear : ∀ (k : Sticky) {f g : BitVec 8}, f.getLsbD j = g.getLsbD j → (f &&& ~~~k.mask).getLsbD j = (g &&& ~~~k.mask).getLsbD j :=
    fun k f g h => by rw [BitVec.getLsbD_and, BitVec.getLsbD_and, h]
  have hset : ∀ (k : Sticky) {f g : BitVec 8}, f.getLsbD j = g.getLsbD j → (f ||| k.mask).getLsbD j = (g ||| k.mask).getLsbD j :=
    fun k f g h => by rw [BitVec.getLsbD_or, BitVec.getLsbD_or, h]
  exact List.foldl_rel (r := fun f g : BitVec 8 => f.getLsbD j = g.getLsbD j)
    (List.foldl_rel (r := fun f g : BitVec 8 => f.getLsbD j = g.getLsbD j) h fun k _ _ _ => hclear k) fun k _ _ _ => hset k

/-- What a clock does to the sticky flags does not depend on the condition flags nor on those in flight. -/
theorem Ctx.clock_sameSticky {c k : Ctx} (h : c.SameSticky k) : c.clock.SameSticky k.clock := by
  obtain ⟨hstk, hf⟩ := h
  refine ⟨by simp only [Ctx.clock, hstk], fun j hj => ?_⟩
  simp only [Ctx.clock, hstk]
  refine getLsbD_landSticky ?_ _
  have hlow : ∀ v : BitVec 4, (v.setWidth 8).getLsbD j = false := fun v => by
    rw [BitVec.getLsbD_setWidth, BitVec.getLsbD_of_ge v j hj, Bool.and_false]
  rw [BitVec.getLsbD_or, BitVec.getLsbD_or, BitVec.getLsbD_and, BitVec.getLsbD_and, hlow, hlow, hf j hj]
theorem Ctx.clocks_sameSticky (i : Nat) {c k : Ctx} (h : c.SameSticky k) : (Ctx.clocks i c).SameSticky (Ctx.clocks i k) := by
  induction i generalizing c k with
  | zero => exact h
  | succ i ih => exact ih (Ctx.clock_sameSticky h)

/-- Settles O39: a compare puts four condition flags in flight, and bit 4 of F lies above them.
`witness_CompareNeverSetsOs` meets the premises. -/
theorem compareNeverSetsOs : Obligations.CompareNeverSetsOs := by
  unfold Obligations.CompareNeverSetsOs
  intro s e m x w p t imm o c
  refine ⟨fun h => ?cmp, fun h => ⟨_, exec_opCmpk h⟩, fun k g n i => ?os⟩
  case cmp =>
    cases hv : s.readWord c p (o.ea c .word) with
    | ok v => exact .inl ⟨_, exec_opCmp h hv⟩
    | error tr => exact .inr ⟨tr, rfl, congrArg Host.Outcome.next (State.cmpOp_error _ h hv)⟩
  case os =>
    have hsame : Ctx.SameSticky { k with inF := some (g, n) } { k with inF := none } := ⟨rfl, fun _ _ => rfl⟩
    exact (Ctx.clocks_sameSticky i hsame).2 4 (Nat.le_refl 4)

end Sys2Proof.Machine
end

section
/-!
PROOFS. The SYS services (spec/03 R91), customer instructions (spec/04 R108 to R112), and where a statement about END, SFRST or
IMGRQ leaves out what the model does.
-/
namespace Sys2Proof.Machine

/-! ### What a service leaves -/

section
variable {s : State} {e : BitVec 7} {p t : Nat} {i : Instr} {k : State → Nat → Nat → Ctx → State × (Ctx → Ctx)}

/-- A SYS service that issues outside a delay slot, by what its effect answers. -/
theorem exec_sys (hx : exec i s = .next (s.sys e.toNat k)) (h : Issues s e.toNat p t 1) (hs : (s.task p t).ctx.slot = none)
    {r : State} {f : Ctx → Ctx} (hk : k s p t (s.task p t).ctx = (r, f)) : exec i s = .next (afterService s r p t f) := by
  rw [hx, State.sys_ok k h hs, hk]

end

theorem fld_1_0 (v : W) : fld v 1 0 = v.toNat % 4 := by simp [fld]

/-- Settles O28: each service by its effect and its results; BRK holds where R149 permits.
`witness_TimeAndInterruptServices` meets the premises. -/
theorem timeAndInterruptServices : Obligations.TimeAndInterruptServices := by
  unfold Obligations.TimeAndInterruptServices
  intro s e p t c h hs
  refine ⟨exec_sys rfl h hs rfl, exec_sys rfl h hs rfl, exec_sys rfl h hs rfl, exec_sys rfl h hs rfl, ?irq, fun hm hr => ?brk, fun hn => ?brkNone,
    fun e' p' t' h' hs' => congrArg Host.Outcome.next (State.sys_slot _ h' hs')⟩
  case irq => rw [← fld_1_0]; exact exec_sys rfl h hs rfl
  case brk => exact exec_sys rfl h hs (congrArg (·, id) (if_pos ⟨hm, hr⟩))
  case brkNone => exact exec_sys rfl h hs (congrArg (·, id) (if_neg fun ⟨hm, hr⟩ => hn.elim (· hm) (· hr)))

/-! ### CAN (R350, R352, R355, R360) -/

/-- An object or a mailbox that the partition owns is not another owner's. -/
theorem notOther {dev : Bool} {owner p : Nat} (hd : dev = false) (ho : owner = p) : ¬(dev = true ∨ owner ≠ p) := by
  simp [hd, ho]

/-- Settles O29: the checks of each service in their order.
`witness_CanServices` meets the premises. -/
theorem canServices : Obligations.CanServices := by
  unfold Obligations.CanServices
  intro s e p t as c n k n' m h hs
  refine ⟨fun hn => ?rdAbsent, fun hn hr => ?rdReset, fun hn hr ho => ?rdOwner, fun hn hr hd ho hl => ?rd, fun hn => ?txAbsent, fun hn hr => ?txReset,
    fun hn hr ho => ?txOwner, fun hn hr hd ho hp => ?txPending, fun hn hr hd ho hp hl => ?txUnmapped, fun hn hr hd ho hp hsil hl hb => ?tx,
    fun hn => ?stAbsent, fun hn hr => ?stReset, fun hn hr => ?st⟩
  case rdAbsent => exact exec_sys rfl h hs (if_pos hn)
  case rdReset => exact exec_sys rfl h hs ((if_neg (Nat.not_le.mpr hn)).trans (if_pos hr))
  case rdOwner =>
    exact exec_sys rfl h hs ((if_neg (Nat.not_le.mpr hn)).trans ((if_neg (ne_true_of_eq_false hr)).trans (if_pos ho)))
  case rd =>
    refine exec_sys rfl h hs ((if_neg (Nat.not_le.mpr hn)).trans ((if_neg (ne_true_of_eq_false hr)).trans ((if_neg (notOther hd ho)).trans ?_)))
    rw [hl]
  case txAbsent => exact exec_sys rfl h hs (if_pos hn)
  case txReset => exact exec_sys rfl h hs ((if_neg (Nat.not_le.mpr hn)).trans (if_pos hr))
  case txOwner =>
    exact exec_sys rfl h hs ((if_neg (Nat.not_le.mpr hn)).trans ((if_neg (ne_true_of_eq_false hr)).trans (if_pos ho)))
  case txPending =>
    exact exec_sys rfl h hs ((if_neg (Nat.not_le.mpr hn)).trans ((if_neg (ne_true_of_eq_false hr)).trans
      ((if_neg (notOther hd ho)).trans (if_pos hp))))
  case txUnmapped =>
    refine exec_sys rfl h hs ((if_neg (Nat.not_le.mpr hn)).trans ((if_neg (ne_true_of_eq_false hr)).trans
      ((if_neg (notOther hd ho)).trans ((if_neg (ne_true_of_eq_false hp)).trans ?_))))
    rw [hl]
    rfl
  case tx =>
    refine exec_sys rfl h hs ((if_neg (Nat.not_le.mpr hn)).trans ((if_neg (ne_true_of_eq_false hr)).trans
      ((if_neg (notOther hd ho)).trans ((if_neg (ne_true_of_eq_false hp)).trans ?_))))
    rw [hl]
    simp only [hb, hsil, Bool.false_eq_true, if_false]
    rfl
  case stAbsent => exact exec_sys rfl h hs (if_pos hn)
  case stReset => exact exec_sys rfl h hs ((if_neg (Nat.not_le.mpr hn)).trans (if_pos hr))
  case st => exact exec_sys rfl h hs ((if_neg (Nat.not_le.mpr hn)).trans (if_neg (ne_true_of_eq_false hr)))

/-! ### Customer instructions and illegal words (R73, R92, R108 to R112) -/

section
variable {s : State} {e p t : Nat}

/-- A customer instruction that the partition may not use, or not in this mode. -/
theorem State.customer_unusable {m : BitVec 2} {i : Nat} (w1 : BitVec 14) (h : Issues s e p t 1) (hu : s.customUsable p m i = false) :
    s.customer e m i w1 = s.trap e p t (Trap.plain 5) := by
  simp only [State.customer, h.1, hu, if_true]
  exact State.issue_error h rfl
/-- One whose entry is defined and free of errors runs its micro-operations. -/
theorem State.customer_usable {m : BitVec 2} {i : Nat} (w1 : BitVec 14) (h : s.issuer e = some (p, t)) (hu : s.customUsable p m i = true)
    (hb : FMap.get (fun _ => false) s.dtBad (s.dtActive * 64 + i) = false) : s.customer e m i w1 =
      s.issue e (if m = 3 then 2 else 1) ((if m = 3 then 2 else 1) - 1 + fld ((s.dtEntry s.dtActive i).getD 0 0) 15 8) (fun p _ c =>
        (Mic.run s c p (customOpnd c (fld ((s.dtEntry s.dtActive i).getD 0 0) 30 28) m w1)
          (((s.dtEntry s.dtActive i).drop 32).take (fld ((s.dtEntry s.dtActive i).getD 0 0) 20 16 + 1)) Mic.init).map
          (fun k => { ctx := c, wr := k.wr, jump := none, late := some k.late })) := by
  simp only [State.customer, h, hu, hb, Bool.true_eq_false, Bool.false_eq_true, if_false]

/-- An instruction whose writes take effect in its last clock. -/
theorem State.retire_late (s : State) (p t w clks : Nat) (c : Ctx) (wr : List MemWr) (l : Late) :
    s.retire p t w clks { ctx := c, wr := wr, jump := none, late := some l } =
      ((s.landWrites wr).setTask p t { s.task p t with
        ctx := { ((Ctx.clocks clks { c.cancelFor l with srec := none }).applyLate l) with p := nextP (s.task p t).ctx w, slot := none }
        passBrk := false }).atBoundary p t := by
  simp only [State.retire, Ctx.retire, Ctx.spend, nextP]

end

/-- Settles O32: what is not usable and what is illegal traps with one word fetched; the rest runs, and traps as its run does.
`witness_CustomerAndIllegalResult` meets the premises. -/
theorem customerAndIllegalResult : Obligations.CustomerAndIllegalResult := by
  unfold Obligations.CustomerAndIllegalResult
  intro s e m x w w0 p t c l hd n run
  refine ⟨fun h => ?illegal, fun h hu => ?unusable, fun h hu hb => ⟨fun k hk => ?runs, fun tr htr => ?traps⟩⟩
  case illegal => exact congrArg Host.Outcome.next (State.issue_error h rfl)
  case unusable => exact congrArg Host.Outcome.next (State.customer_unusable w h hu)
  case runs =>
    have hbody : run.map (fun k : Mic => (⟨c, k.wr, none, some k.late⟩ : Eff)) = .ok ⟨c, k.wr, none, some k.late⟩ := by rw [hk]; rfl
    refine congrArg Host.Outcome.next ((State.customer_usable w h.1 hu hb).trans ((State.issue_ok h hbody).trans ?_))
    exact State.retire_late ..
  case traps =>
    have hbody : run.map (fun k : Mic => (⟨c, k.wr, none, some k.late⟩ : Eff)) = .error tr := by rw [htr]; rfl
    exact congrArg Host.Outcome.next ((State.customer_usable w h.1 hu hb).trans (State.issue_error h hbody))

/-! ### Where a statement leaves out an effect of the model -/

/-- Partition 0 of `runsUnsavable` with SF0 assigned to it and not READY. -/
def assignedNotReady : State := { runsUnsavable with sfSet := [(0xC, 0x400)] }

/-- The task of the two states issues, with its word fetched. -/
theorem runsUnsavable_issues : Issues runsUnsavable 0 0 0 1 := ⟨by decide +kernel, by decide +kernel⟩
theorem assignedNotReady_issues : Issues assignedNotReady 0 0 0 1 := ⟨by decide +kernel, by decide +kernel⟩

/-- END leaves the task's output copy in the queue of the cycle unit; the frame of the statement leaves the queue as it was. -/
theorem runsUnsavable_end_queues : (runsUnsavable.issueEnd 0).cu.length = 1 := by decide +kernel

/-- Refutes O24: its clause on END names the state without the output copy that END triggers (`State.addJob`). -/
theorem not_jumpResult : ¬ Obligations.JumpResult := by
  unfold Obligations.JumpResult
  intro h
  obtain ⟨outsideSlot, -⟩ := h runsUnsavable 0 0 0 0 0 0 0 0 0
  obtain ⟨-, -, -, -, -, -, -, -, -, -, atEnd⟩ := outsideSlot (by decide)
  obtain ⟨goesToOutput, -⟩ := atEnd runsUnsavable_issues
  have hcu := congrArg (fun s => s.cu.length) (Host.Outcome.next.inj (goesToOutput (by decide +kernel)))
  exact absurd (runsUnsavable_end_queues.symm.trans hcu) (by decide +kernel)

/-- Refutes O30: its clause on SFRST of an assigned function that is not READY keeps the state, and the model records the event
(`State.sfEvent`). -/
theorem not_caddyEventAndSafetyServices : ¬ Obligations.CaddyEventAndSafetyServices := by
  unfold Obligations.CaddyEventAndSafetyServices
  intro h
  obtain ⟨-, -, -, -, -, -, -, -, -, -, -, -, notReady, -⟩ := h assignedNotReady 0 0 0 0 [] assignedNotReady_issues (by decide +kernel)
  have hexec := notReady (by decide +kernel) (by decide +kernel) (by decide +kernel) (by decide +kernel) (by decide +kernel)
  have hseq := congrArg (fun s => s.reg aSF_EVT_SEQ) (Host.Outcome.next.inj hexec)
  exact absurd hseq (by decide +kernel)

/-- Partition 0 as in `runsUnsavable`, with an image page, IN descriptor 0 for slot 5 and X naming that slot; an output copy of its task 1,
without descriptors, waits in the queue of the cycle unit. -/
def imageWaits : State :=
  { ((((runsUnsavable.setReg (aPD_MOV_RANGE 0) 0x00020000).setReg (aMD_0 0) 0x10000005).setReg (aMD_1 0) 4).setReg (aMD_2 0) 0x80000008).setReg
      (aSW_SLOT0 5) 0x80040010 with
    trA := [(entryKey 0 0 0, 0x80000000), (entryKey 0 2 0, 0x80000000)]
    tasks := [(0, { Task.zero with ctx := { Ctx.zero with x := 5 } })]
    cu := [{ out := true, p := 0, t := 1, edge := 0, begun := false, todo := [], cur := [], want := none, vec := [], div := false, built := [],
             hold := none, undo := [] }] }

theorem imageWaits_issues : Issues imageWaits 0 0 0 1 := ⟨by decide +kernel, by decide +kernel⟩
/-- The image words that the descriptor's data and status go to, once the waiting copy is done. -/
def imageWaitsData : List Nat :=
  (imageWaits.cuAhead.locs 0 2 (imageWaits.cuAhead.rf (aMD_1 0) 15 0) (packWords (imageWaits.cuAhead.newest 5).1).length).toOption.getD []
def imageWaitsStatus : List Nat :=
  (imageWaits.cuAhead.locs 0 2 (imageWaits.cuAhead.rf (aMD_2 0) 15 0) (if imageWaits.cuAhead.rb (aMD_2 0) 31 then 1 else 0)).toOption.getD []

theorem eq_ok_of_isOk {ε α : Type} {r : Except ε α} (h : r.isOk = true) (v : α) : r = .ok (r.toOption.getD v) := by
  cases r with
  | ok v => rfl
  | error e => cases h

/-- Refutes O31: its clause on IMGRQ stores the words in the state before the copies that go first, and so keeps the queue; the model stores
them in the state after. -/
theorem not_imageServices : ¬ Obligations.ImageServices := by
  unfold Obligations.ImageServices
  intro h
  obtain ⟨-, -, -, copied, -⟩ := h imageWaits 0 0 0 0 0 imageWaitsData imageWaitsStatus [] imageWaits_issues (by decide +kernel)
  have hexec := copied (by decide +kernel) (by decide +kernel) (by decide +kernel) (by decide +kernel) (by decide +kernel) (by decide +kernel)
    (eq_ok_of_isOk (by decide +kernel) []) (eq_ok_of_isOk (by decide +kernel) [])
  have hcu := congrArg (fun s => s.cu.length) (Host.Outcome.next.inj hexec)
  exact absurd hcu (by decide +kernel)

end Sys2Proof.Machine
end

section
/-!
PROOFS. Store words, the capture of a trap, and the frame of the engine instructions (spec/03 R65 to R75, R104).
-/
namespace Sys2Proof.Machine

/-! ### Store words (R36, R466) -/

theorem toNat_append_eq_add {n m : Nat} (x : BitVec n) (y : BitVec m) : (x ++ y).toNat = x.toNat * 2 ^ m + y.toNat := by
  rw [BitVec.toNat_append, ← Nat.shiftLeft_add_eq_or_of_lt y.isLt, Nat.shiftLeft_eq]
/-- A word is its four bytes, the lowest first. -/
theorem wordOfBytes_bytesOf (w : W) : wordOfBytes (byteOf w 0) (byteOf w 1) (byteOf w 2) (byteOf w 3) = w := by
  have hw := w.isLt
  apply BitVec.eq_of_toNat_eq
  simp only [wordOfBytes, toNat_append_eq_add, byteOf, BitVec.toNat_ofNat]
  omega

theorem State.rdByte_wrMem_eq (s : State) (a b : Nat) (w : W) : (s.wrMem a w).rdByte b = (s.wrBytes a (bytesOf w)).rdByte b := by
  simp only [State.wrMem, State.rdByte, State.markLine_mem]
  rfl
/-- The bytes of a word written are its own. -/
theorem State.rdByte_wrMem_own (s : State) (a : Nat) (w : W) (h : Memory.wf s.mem = true) {i : Nat} (hi : i < 4) :
    (s.wrMem a w).rdByte (a + i) = byteOf w i := by
  rw [s.rdByte_wrMem_eq, State.rdByte_wrBytes _ _ _ _ h, if_pos ⟨by omega, by simp only [bytesOf, List.length_cons, List.length_nil]; omega⟩,
    Nat.add_sub_cancel_left]
  interval_cases i <;> rfl
theorem State.rdMem_wrMem (s : State) (a : Nat) (w : W) (h : Memory.wf s.mem = true) : (s.wrMem a w).rdMem a = w := by
  have h0 := s.rdByte_wrMem_own a w h (show 0 < 4 by decide)
  rw [Nat.add_zero] at h0
  rw [State.rdMem, h0, s.rdByte_wrMem_own a w h (by decide), s.rdByte_wrMem_own a w h (by decide), s.rdByte_wrMem_own a w h (by decide),
    wordOfBytes_bytesOf]
/-- Another word reads as before. -/
theorem State.rdMem_wrMem_other (s : State) {a b : Nat} (w : W) (h : Memory.wf s.mem = true) (ha : a % 4 = 0) (hb : b % 4 = 0) (hn : b ≠ a) :
    (s.wrMem a w).rdMem b = s.rdMem b := by
  have hout : ∀ i < 4, (s.wrMem a w).rdByte (b + i) = s.rdByte (b + i) := fun i hi => s.rdByte_wrMem a (b + i) w h (by omega)
  have h0 := hout 0 (by decide)
  rw [Nat.add_zero] at h0
  rw [State.rdMem, State.rdMem, h0, hout 1 (by decide), hout 2 (by decide), hout 3 (by decide)]

@[simp] theorem State.markLine_bad (s : State) (a : Nat) : (s.markLine a).bad = s.bad := by
  simp only [State.markLine]; split <;> rfl
@[simp] theorem State.wrBytes_bad (s : State) (a : Nat) (l : List Byte) : (s.wrBytes a l).bad = s.bad := by
  obtain ⟨m, hm⟩ := State.wrBytes_eq l s a
  rw [hm]
/-- A word written holds no error, and the marks of the others stay. -/
theorem State.isBad_wrMem (s : State) (a c : Nat) (w : W) (h : FMap.wf (fun _ => false) s.bad = true) :
    (s.wrMem a w).isBad c = if c = a then false else s.isBad c := by
  have hb : FMap.wf (fun _ => false) (s.wrBytes a (bytesOf w)).bad = true := by rwa [State.wrBytes_bad]
  rw [State.isBad, State.wrMem, State.markLine_bad]
  exact (FMap.get_set hb a c false).trans (by rw [State.wrBytes_bad]; rfl)

/-- Settles O6: a word is written as its four bytes, and its error mark is cleared.
`witness_StoreWordWriteThenRead` meets the premises. -/
theorem storeWordWriteThenRead : Obligations.StoreWordWriteThenRead := by
  unfold Obligations.StoreWordWriteThenRead
  intro s a b v hm hbad ha hb
  refine ⟨s.rdMem_wrMem a v hm, s.rdMem_wrMem_other v hm ha hb, fun c hc => s.rdByte_wrMem a c v hm hc, s.wrMem_wf a v hm, ?own, fun c hc => ?other⟩
  case own => rw [s.isBad_wrMem a a v hbad, if_pos rfl]
  case other => rw [s.isBad_wrMem a c v hbad, if_neg hc]

/-! ### The capture of a trap (R74, R75) -/

/-- The four registers of an `ENG_TRAP` group are apart. -/
theorem trapGroup_apart (e : Nat) : aENG_TRAP e ≠ aENG_TRAP_SEQ e ∧ aENG_TRAP_P e ≠ aENG_TRAP e ∧ aENG_TRAP_ADDR e ≠ aENG_TRAP e ∧
    aENG_TRAP_ADDR e ≠ aENG_TRAP_P e ∧ aENG_TRAP_SEQ e ≠ aENG_TRAP_P e ∧ aENG_TRAP_SEQ e ≠ aENG_TRAP_ADDR e := by
  simp only [aENG_TRAP, aENG_TRAP_SEQ, aENG_TRAP_P, aENG_TRAP_ADDR]
  omega

section
variable {s : State} {e : Nat} (hw : FMap.wf (regReset s.fuse) s.regs = true)
include hw

theorem State.rb_advance_other {a b : Nat} (i : Nat) (h : b ≠ a) : (s.advance a).rb b i = s.rb b i := by
  rw [State.rb, State.rb, State.advance, s.reg_setReg a b _ hw, if_neg h]

/-- A group that holds no trap takes this one. -/
theorem State.captureTrap_first (p t pc : Nat) (d : Bool) (tr : Trap) (hv : s.rb (aENG_TRAP e) 8 = false) :
    s.captureTrap e p t d pc tr = (((s.advance (aENG_TRAP_SEQ e)).setReg (aENG_TRAP e)
      (BitVec.ofNat 32 (p * 65536 + taskCode t * 4096 + 256 + tr.cause))).setReg (aENG_TRAP_P e)
      (BitVec.ofNat 32 (d.toNat * 2 ^ 20 + pc))).setReg (aENG_TRAP_ADDR e) (BitVec.ofNat 32 (tr.space * 2 ^ 30 + tr.ea)) := by
  obtain ⟨hseq, -⟩ := trapGroup_apart e
  rw [State.captureTrap]
  simp only [State.rb_advance_other hw 8 hseq, hv, Bool.false_eq_true, if_false]
/-- A group that holds one advances its SEQ alone. -/
theorem State.captureTrap_later (p t pc : Nat) (d : Bool) (tr : Trap) (hv : s.rb (aENG_TRAP e) 8 = true) :
    s.captureTrap e p t d pc tr = s.advance (aENG_TRAP_SEQ e) := by
  obtain ⟨hseq, -⟩ := trapGroup_apart e
  rw [State.captureTrap]
  simp only [State.rb_advance_other hw 8 hseq, hv, if_true]

end

/-- What three register writes leave, the latest first. -/
theorem State.reg_setReg_three {s : State} (hw : FMap.wf (regReset s.fuse) s.regs = true) (a b c d : Nat) (u v w : W) :
    (((s.setReg a u).setReg b v).setReg c w).reg d = if d = c then w else if d = b then v else if d = a then u else s.reg d := by
  have hw1 := s.regs_wf_setReg a u hw
  have hw2 := (s.setReg a u).regs_wf_setReg b v hw1
  rw [State.reg_setReg _ c d w hw2, State.reg_setReg _ b d v hw1, s.reg_setReg a d u hw]

theorem State.setReg_three_mem (s : State) (a b c : Nat) (u v w : W) : (((s.setReg a u).setReg b v).setReg c w).mem = s.mem := rfl
theorem State.setReg_three_tasks (s : State) (a b c : Nat) (u v w : W) : (((s.setReg a u).setReg b v).setReg c w).tasks = s.tasks := rfl

/-- Settles O10: by whether the group holds a trap; its registers are apart and read what was written.
`witness_TrapCapturesTheFirst` meets the premises. -/
theorem trapCapturesTheFirst : Obligations.TrapCapturesTheFirst := by
  unfold Obligations.TrapCapturesTheFirst
  intro s e p t pc d tr hw _
  obtain ⟨hTS, hPT, hAT, hAP, hSP, hSA⟩ := trapGroup_apart e
  have hw1 : FMap.wf (regReset (s.advance (aENG_TRAP_SEQ e)).fuse) (s.advance (aENG_TRAP_SEQ e)).regs = true := s.regs_wf_setReg _ _ hw
  have hseq : (s.advance (aENG_TRAP_SEQ e)).reg (aENG_TRAP_SEQ e) = s.reg (aENG_TRAP_SEQ e) + 1 := by
    rw [State.advance, s.reg_setReg _ _ _ hw, if_pos rfl]
  cases hv : s.rb (aENG_TRAP e) 8 with
  | false =>
    rw [State.captureTrap_first hw p t pc d tr hv]
    refine ⟨?mem, ?tasks, ?seq, fun _ => ⟨?trap, ?pc, ?addr⟩, nofun⟩
    case mem => rw [State.setReg_three_mem, State.advance_mem]
    case tasks => rw [State.setReg_three_tasks, State.advance_tasks]
    case seq => rw [State.reg_setReg_three hw1, if_neg hSA, if_neg hSP, if_neg hTS.symm, hseq]
    case trap => rw [State.reg_setReg_three hw1, if_neg hAT.symm, if_neg hPT.symm, if_pos rfl]
    case pc => rw [State.reg_setReg_three hw1, if_neg hAP.symm, if_pos rfl]
    case addr => rw [State.reg_setReg_three hw1, if_pos rfl]
  | true =>
    rw [State.captureTrap_later hw p t pc d tr hv]
    refine ⟨State.advance_mem .., State.advance_tasks .., hseq, nofun, fun _ a ha => ?_⟩
    rw [State.advance, s.reg_setReg _ _ _ hw, if_neg ha]

/-! ### The frame of the engine instructions (R65, R66, R68, R70, R72, R104) -/

/-- No other task differs from `s`. -/
def State.SameOtherTasks (s : State) (p t : Nat) (r : State) : Prop := ∀ p' t', t' < 16 → (p', t') ≠ (p, t) → r.task p' t' = s.task p' t'

/-- An instruction that changes the task table alone, and there one task. -/
def ChangesTask (i : Instr) (s : State) (p t : Nat) : Prop :=
  ∃ r, exec i s = .next r ∧ r = { s with tasks := r.tasks } ∧ s.SameOtherTasks p t r
/-- An instruction that changes beside its task the bytes of the word at `a`, that word's error mark and the dirty lines. -/
def ChangesTaskAndWord (i : Instr) (s : State) (p t a : Nat) : Prop :=
  ∃ r, exec i s = .next r ∧ r = { s with tasks := r.tasks, mem := r.mem, bad := r.bad, dirty := r.dirty } ∧ s.SameOtherTasks p t r ∧
    ∀ b, (b < a ∨ a + 4 ≤ b) → r.rdByte b = s.rdByte b

/-- The task that an engine executes has a number below 16. -/
theorem State.issuer_lt {s : State} {e p t : Nat} (h : s.issuer e = some (p, t)) : t < 16 := by
  rw [State.issuer] at h
  split at h
  · cases h
  · rename_i k _
    have hk : k % 16 < 16 := Nat.mod_lt k (by decide)
    dsimp only at h
    split at h
    · cases h; exact hk
    · split at h
      · split at h
        · cases h
        · cases h; exact hk
      · cases h

/-- In a partition in Run the boundary brings nothing. -/
theorem State.atBoundary_run {s : State} {p : Nat} (t : Nat) (hm : s.mode p = 2) : s.atBoundary p t = s := by
  by_cases hs : (s.task p t).ctx.slot = none
  · exact State.atBoundary_of_run hs hm
  · exact State.atBoundary_of_slot (Option.isSome_iff_ne_none.mpr hs)

theorem State.setTask_sameOtherTasks {s : State} {p t : Nat} (ht : FMap.wf (fun _ => Task.zero) s.tasks = true) (hlt : t < 16) (k : Task) :
    s.SameOtherTasks p t (s.setTask p t k) := by
  intro p' t' hlt' hne
  have hkey : ¬ p' * 16 + t' = p * 16 + t := fun h => hne (by simp only [Prod.mk.injEq]; omega)
  rw [State.task_setTask s p t p' t' k ht, if_neg hkey]

section
variable {s : State} {p t : Nat} (hm : s.mode p = 2)
include hm

/-- In Run a pass changes the task of the instruction alone. -/
theorem afterPass_run (w clks : Nat) (r : Option StoreRec) (c : Ctx) : ∃ k, afterPass s p t w clks r c = s.setTask p t k :=
  ⟨_, State.atBoundary_run t hm⟩

variable (ht : FMap.wf (fun _ => Task.zero) s.tasks = true) (hlt : t < 16)
include ht hlt

theorem changesTask_of_afterPass {i : Instr} {w clks : Nat} {r : Option StoreRec} {c : Ctx}
    (hx : exec i s = .next (afterPass s p t w clks r c)) : ChangesTask i s p t := by
  obtain ⟨k, hk⟩ := afterPass_run hm w clks r c
  exact ⟨_, hx.trans (congrArg _ hk), rfl, State.setTask_sameOtherTasks ht hlt k⟩

theorem changesTaskAndWord_of_afterPass {i : Instr} {a w clks : Nat} {v : W} {r : Option StoreRec} {c : Ctx} (hmem : Memory.wf s.mem = true)
    (hx : exec i s = .next (afterPass (s.wrMem a v) p t w clks r c)) : ChangesTaskAndWord i s p t a := by
  obtain ⟨m, b, d, hw⟩ := s.wrMem_eq a v
  have hm' : (s.wrMem a v).mode p = 2 := (s.wrMem_mode a p v).trans hm
  have ht' : FMap.wf (fun _ => Task.zero) (s.wrMem a v).tasks = true := by rw [hw]; exact ht
  obtain ⟨k, hk⟩ := afterPass_run (t := t) hm' w clks r c
  refine ⟨_, hx.trans (congrArg _ hk), by rw [hw]; rfl, fun p' t' h1 h2 => ?_, fun j hj => s.rdByte_wrMem a j v hmem hj⟩
  rw [State.setTask_sameOtherTasks ht' hlt k p' t' h1 h2, State.wrMem_task]

end

/-- An instruction that stores nothing changes no word. -/
theorem ChangesTask.andWord {i : Instr} {s : State} {p t : Nat} (h : ChangesTask i s p t) (a : Nat) : ChangesTaskAndWord i s p t a := by
  obtain ⟨r, hx, hr, ho⟩ := h
  exact ⟨r, hx, by rw [hr], ho, fun b _ => by rw [hr]; rfl⟩

/-- Settles O27: every instruction of the lists is one of the shared operations, whose answer in Run changes one task, and a word where it
stores one.
`witness_EngineInstructionFrame` meets the premises. -/
theorem engineInstructionFrame : Obligations.EngineInstructionFrame := by
  unfold Obligations.EngineInstructionFrame
  intro s e m x w p t a v imm cc o c others img k hm ht hmem
  have reg {i : Instr} {w clks : Nat} {r : Option StoreRec} {c : Ctx} (hi : s.issuer e.toNat = some (p, t))
      (hx : exec i s = .next (afterPass s p t w clks r c)) : ChangesTask i s p t := changesTask_of_afterPass hm ht (State.issuer_lt hi) hx
  have mem {i : Instr} {a w clks : Nat} {v : W} {r : Option StoreRec} {c : Ctx} (hi : s.issuer e.toNat = some (p, t))
      (hx : exec i s = .next (afterPass (s.wrMem a v) p t w clks r c)) : ChangesTaskAndWord i s p t a :=
    changesTaskAndWord_of_afterPass hm ht (State.issuer_lt hi) hmem hx
  refine ⟨fun h => ?regs, fun h => ?imms, fun h hb => ?bits, fun h hv => ?words, fun h hv => ?images, fun h ha hbad hrec => ?bitStores,
    fun h ha => ?wordStores, fun h ha => ?imageStores⟩
  all_goals simp only [List.forall_mem_cons, List.not_mem_nil, false_implies, implies_true, and_true]
  case regs =>
    refine ⟨?_, ?_, ?_, ?_, ?_, ?_, ?_, ?_, ?_, ?_, ?_, ?_, ?_, ?_, ?_, ?_, ?_, ?_, ?_, ?_, ?_, ?_, ?_, ?_, ?_, ?_, ?_, ?_⟩
    all_goals exact reg h.1 (congrArg Host.Outcome.next (State.regOp_ok _ h))
  case imms =>
    refine ⟨?_, ?_, ?_, ?_, ?_, ?_, ?_, ?_, ?_, ?_, ?_, ?_, ?_, ?_, ?_, ?_, ?_, ?_⟩
    all_goals exact reg h.1 (congrArg Host.Outcome.next (State.immOp_ok _ h))
  case bits =>
    obtain ⟨b, hb⟩ := hb
    refine ⟨?_, ?_, ?_, ?_, ?_, ?_, ?_, ?_⟩
    all_goals exact reg h.1 (congrArg Host.Outcome.next (State.bitOp_ok _ h hb))
  case words =>
    refine ⟨?add, ?sub, ?adc, ?sbc, ?mul, ?andw, ?orw, ?xorw, ?shl, ?shr, ?sar, ?rol, ?ror, ?fadd, ?fsub, ?fmul, ?fdiv, ?fcmp, ?cmp, ?lda, ?ldx,
      ?ldy⟩
    case fcmp | cmp => exact reg h.1 (congrArg Host.Outcome.next (State.cmpOp_ok _ h hv))
    case lda | ldx | ldy => exact reg h.1 (congrArg Host.Outcome.next (State.loadOp_ok _ h hv))
    all_goals exact reg h.1 (congrArg Host.Outcome.next (State.wordOp_ok _ h hv))
  case images => exact reg h.1 (congrArg Host.Outcome.next (State.loadOp_ok _ h hv))
  case bitStores =>
    have stores {i : Instr} {f : Bool → Option Bool} {v : Bool} (hf : f c.lr = some v) (hx : exec i s = .next (s.bitStore e.toNat o f)) :
        ChangesTaskAndWord i s p t a := mem h.1 (hx.trans (congrArg _ (State.bitStore_ok f h hf ha hbad)))
    have keeps {i : Instr} {f : Bool → Option Bool} (hf : f c.lr = none) (hx : exec i s = .next (s.bitStore e.toNat o f)) :
        ChangesTaskAndWord i s p t a := (reg h.1 (hx.trans (congrArg _ (State.bitStore_none f h hf ha)))).andWord a
    refine ⟨stores (f := fun l => some l) rfl rfl, stores (f := fun l => some !l) rfl rfl, ?set, ?rst, mem h.1 (congrArg Host.Outcome.next (State.edge_ok _ h ha hbad hrec)),
      mem h.1 (congrArg Host.Outcome.next (State.edge_ok _ h ha hbad hrec))⟩
    case set | rst =>
      cases hl : c.lr with
      | true => exact stores (if_pos hl) rfl
      | false => exact keeps (if_neg (ne_true_of_eq_false hl)) rfl
  case wordStores =>
    refine ⟨?_, ?_, ?_⟩
    all_goals exact mem h.1 (congrArg Host.Outcome.next (State.storeOp_ok _ h ha))
  case imageStores => exact mem h.1 (congrArg Host.Outcome.next (State.storeOp_ok _ h ha))

end Sys2Proof.Machine
end

section
/-!
PROOFS. The commit of the dispatcher tables and the switch of the decode table (R117, R118, R129).
-/
namespace Sys2Proof.Machine

section
variable {s : State}

theorem State.dispatcherApply_refused {p t r : Nat} (ht : s.onTick = true) (hp : s.rb aDSP_COMMIT 1 = true)
    (hc : s.checkTables s.created = some (p, t, r)) : s.dispatcherApply =
      (s.setReg aDSP_COMMIT 0).setReg aDSP_STAT (BitVec.ofNat 32 (p * 65536 + taskCode t * 4096 + r)) := by
  rw [State.dispatcherApply, if_pos ⟨hp, ht⟩, hc]
theorem State.dispatcherApply_applied (ht : s.onTick = true) (hp : s.rb aDSP_COMMIT 1 = true)
    (hc : s.checkTables s.created = none) : s.dispatcherApply =
      ((s.setReg aDSP_COMMIT 0).setReg aDSP_STAT 0).created.foldl (fun s p => (List.range 9).foldl (fun s t => s.applyEntry p t) s)
        ((s.setReg aDSP_COMMIT 0).setReg aDSP_STAT 0) := by
  rw [State.dispatcherApply, if_pos ⟨hp, ht⟩, hc]

theorem State.dtSwitch_pending (h : s.dtPending = true) : s.dtSwitch = s.setRf aDT_STAT 15 8 4 := by rw [State.dtSwitch, if_pos h]
theorem State.dtSwitch_noId (h : s.dtPending = false) (hid : s.reg (aDtId (1 - s.dtActive)) = 0) : s.dtSwitch = s.dtRefuse 5 := by
  rw [State.dtSwitch, if_neg (ne_true_of_eq_false h), if_pos hid]
/-- A switch that no check refuses waits for its tick. -/
theorem State.dtSwitch_accepted (h : s.dtPending = false) (hid : s.reg (aDtId (1 - s.dtActive)) ≠ 0)
    (hcrc : s.dtCrcOf (1 - s.dtActive) = s.reg (aDtCrc (1 - s.dtActive)))
    (hbad : ∀ e < 64, FMap.get (fun _ => false) s.dtBad ((1 - s.dtActive) * 64 + e) = false) (hform : s.dtMalformed (1 - s.dtActive) = none)
    (hsame : s.reg (aDtId (1 - s.dtActive)) ≠ s.reg aDT_ACTIVE_ID ∨ ∀ e < 64, s.dtChanges e = false) (hblk : s.dtBlocked = []) :
    s.dtSwitch = (s.setRf aDT_STAT 15 8 0).setRf aDT_STAT 1 1 1 := by
  have hany : (List.range 64).any (fun e => FMap.get (fun _ => false) s.dtBad ((1 - s.dtActive) * 64 + e)) = false := by
    simpa only [List.any_eq_false, List.mem_range, Bool.not_eq_true] using hbad
  have hchg : ¬ (s.reg (aDtId (1 - s.dtActive)) = s.reg aDT_ACTIVE_ID ∧ (List.range 64).any s.dtChanges = true) := by
    rintro ⟨heq, hc⟩
    obtain ⟨e, he, hce⟩ := List.any_eq_true.mp hc
    exact hsame.elim (absurd heq) (fun h => absurd hce (ne_true_of_eq_false (h e (List.mem_range.mp he))))
  rw [State.dtSwitch, if_neg (ne_true_of_eq_false h), if_neg hid, if_neg (by simp [hcrc, hany])]
  simp only [hform, if_neg hchg, hblk, ne_eq, not_true_eq_false, if_false]

theorem State.dtApply_switched (h : s.dtPending = true) (hb : s.dtBlocked = []) :
    s.dtApply = (((s.setRf aDT_STAT 1 1 0).setRf aDT_STAT 0 0 (1 - s.dtActive)).setReg aDT_ACTIVE_ID (s.reg (aDtId (1 - s.dtActive)))).setRf
      aDT_STAT 31 16 (s.rf aDT_STAT 31 16 + 1) := by
  rw [State.dtApply, if_pos h, if_neg (not_not.mpr hb)]
theorem State.dtApply_blocked (h : s.dtPending = true) (hb : s.dtBlocked ≠ []) : s.dtApply = ((s.setRf aDT_STAT 1 1 0).dtRefuse 3).dtConflict := by
  rw [State.dtApply, if_pos h, if_pos hb]

theorem exec_dtSwitch {src : BitVec 10} (h : isVf src.toNat = false) : exec (.dtSwitch src) s = .next s.dtSwitch :=
  congrArg Host.Outcome.next (if_neg (ne_true_of_eq_false h))
theorem exec_dtSwitchApply {dt : Nat} (h : (s.elapse dt).onTick = true) : exec (.dtSwitchApply dt) s = .next (s.elapse dt).dtApply :=
  congrArg Host.Outcome.next (if_pos h)

end

/-- Settles O34: `dispatcherApply`, `dtSwitch` and `dtApply` by their branches.
`witness_TableCommitsResult` meets the premises. -/
theorem tableCommitsResult : Obligations.TableCommitsResult := by
  unfold Obligations.TableCommitsResult
  refine ⟨fun s src h => congrArg _ (if_neg (ne_true_of_eq_false h)), fun s dt p t r ht hp hc => ?_, fun s dt ht hp hc => ?_,
    fun s src h hp => ?_, fun s src h hp hid => ?_, fun s src h hp hid hcrc hbad hform hsame hblk => ?_, fun s dt ht hp hb => ?_,
    fun s dt ht hp hb => ?_⟩
  · exact congrArg Host.Outcome.next (State.dispatcherApply_refused ht hp hc)
  · exact congrArg Host.Outcome.next (State.dispatcherApply_applied ht hp hc)
  · rw [exec_dtSwitch h, State.dtSwitch_pending hp]
  · rw [exec_dtSwitch h, State.dtSwitch_noId hp hid]
  · rw [exec_dtSwitch h, State.dtSwitch_accepted hp hid hcrc hbad hform hsame hblk]
  · rw [exec_dtSwitchApply ht, State.dtApply_switched hp hb]
  · rw [exec_dtSwitchApply ht, State.dtApply_blocked hp hb]

end Sys2Proof.Machine
end

section
/-!
PROOFS. Register writes and reads of PF0 and the service port (spec/02 R40 to R56).
-/
namespace Sys2Proof.Machine

/-! ### Writes by the type of the register -/

section
variable {s : State} {a : Nat}

theorem State.write1_register {src : Nat} (d : W) (hv : isVf src = false) (ha : a < 0x8000000) : s.write1 src a d = s.regWrite src a d := by
  simp [State.write1, State.write0, s.fnOn_of_not_isVf hv, hv, ha]
theorem State.deny_pf0 (c : Nat) : s.deny 0 a c = s.refuse 0 0 a c := rfl

/-- No descriptor of an absent partition. -/
theorem not_absentDescriptor (h : inPd a = false ∨ s.mode (pdIdx a) ≠ 0) (P : Prop) : ¬ (inPd a = true ∧ P ∧ s.mode (pdIdx a) = 0) :=
  fun ⟨hin, _, hm⟩ => h.elim (fun hf => Bool.false_ne_true (hf.symm.trans hin)) (fun hne => hne hm)

section
variable {r : RegRow} (hp : addrPresent s.fuse a = true) (hr : regRow a = some r) (hpd : inPd a = false ∨ s.mode (pdIdx a) ≠ 0) (hws : r.ws = 0)
include hp hr hpd hws

/-- A write of a register that no SEQ register is, by the type of its bits. -/
theorem State.regWrite_plain (src : Nat) (d : W) : s.regWrite src a d =
    if rwpMask a ≠ 0 then s.postWrite src a d
    else if r.wo ≠ 0 then s.cmdWrite src a d
    else if r.rw ≠ 0 then s.rwWrite src a d
    else if r.pend ≠ 0 then s.pendWrite src a d
    else if a = aFLT_DUMP then s.deny src a 0x0A
    else s := by
  have habs : ¬ (inPd a = true ∧ isVf src = false ∧ s.mode (pdIdx a) = 0 ∧ a % 0x800 ≠ 4 ∧ r.ws = 0) :=
    fun ⟨hin, hv, hm, _⟩ => not_absentDescriptor hpd (isVf src = false) ⟨hin, hv, hm⟩
  rw [State.regWrite, if_neg (by rw [hp]; exact Bool.noConfusion), hr]
  exact (if_neg habs).trans (if_neg (not_not.mpr hws))

theorem State.regWrite_posted (src : Nat) (d : W) (hrwp : rwpMask a ≠ 0) : s.regWrite src a d = s.postWrite src a d := by
  rw [s.regWrite_plain hp hr hpd hws, if_pos hrwp]

variable (hrwp : rwpMask a = 0) (hwo : r.wo = 0) (hrw : r.rw = 0)
include hrwp hwo hrw

theorem State.regWrite_pending (src : Nat) (d : W) (hpend : r.pend ≠ 0) : s.regWrite src a d = s.pendWrite src a d := by
  rw [s.regWrite_plain hp hr hpd hws, if_neg (not_not.mpr hrwp), if_neg (not_not.mpr hwo), if_neg (not_not.mpr hrw), if_pos hpend]
theorem State.regWrite_readOnly (src : Nat) (d : W) (hpend : r.pend = 0) (hdump : a ≠ aFLT_DUMP) : s.regWrite src a d = s := by
  rw [s.regWrite_plain hp hr hpd hws, if_neg (not_not.mpr hrwp), if_neg (not_not.mpr hwo), if_neg (not_not.mpr hrw), if_neg (not_not.mpr hpend),
    if_neg hdump]

end

/-- Pending values outside the ranges with checks of their own are checked for a pending commit, then for their range. -/
theorem State.pendWrite_plain (src : Nat) (d : W) (hent : ¬ (0x410000 ≤ a ∧ a < 0x420000)) (hmov : inPd a = false ∨ a % 0x800 ≠ 0x394)
    (hdev : a ≠ aMOV_DEV_RANGE) : s.pendWrite src a d =
      if s.commitShut a then s.deny src a 4
      else if s.pendBad a d then s.deny src a 0x0A
      else if isStrobed a then s.setPnd a (mergeBits (s.pnd a) (pendMask a) d)
      else { s.setPnd a (mergeBits (s.pnd a) (pendMask a) d) with
        touched := FMap.set (fun _ => false) (s.setPnd a (mergeBits (s.pnd a) (pendMask a) d)).touched a true } := by
  have hrange : ¬ (inPd a = true ∧ a % 0x800 = 0x394) :=
    fun ⟨hin, heq⟩ => hmov.elim (fun hf => Bool.false_ne_true (hf.symm.trans hin)) (fun hne => hne heq)
  rw [State.pendWrite, if_neg hent, if_neg hrange, if_neg hdev]

/-! ### Posted writes -/

variable {b : Nat}

theorem farBstat_not_inPd (h : farBstat a = some b) : inPd a = false := by
  simp only [farBstat] at h
  simp only [inPd, decide_eq_false_iff_not]
  split at h
  · omega
  · split at h
    · omega
    · cases h

/-- A value in range of a far register, its code assigned: posted unless the block is unreachable or busy. -/
theorem State.postWrite_inRange {d : W} (hfar : farBstat a = some b)
    (hcode : farCodes a = none ∨ ∃ n, farCodes a = some n ∧ fld d 3 0 ≠ 0 ∧ fld d 3 0 ≤ n) (hbad : rwpBad a d = false) : s.postWrite 0 a d =
      if s.rb b 1 then s.refuse 0 0 a 3
      else if s.rb b 0 then s.refuse 0 0 a 2
      else { s.setRf b 0 0 1 with posted := FMap.set (fun _ => none) s.posted b (some (0, a, d)) } := by
  have hzero : ¬ (farCodes a ≠ none ∧ fld d 3 0 = 0) := by
    rcases hcode with hn | ⟨n, -, hne, -⟩
    · exact fun h => h.1 hn
    · exact fun h => hne h.2
  have habove : ((farCodes a).map (fun n => decide (n < fld d 3 0))).getD false = false := by
    rcases hcode with hn | ⟨n, hn, -, hle⟩
    · rw [hn]; rfl
    · rw [hn]; exact decide_eq_false (Nat.not_lt.mpr hle)
  have hvf : isVf 0 = false := by decide
  rw [State.postWrite, hfar]
  dsimp only
  rw [if_neg (ne_true_of_eq_false hvf), if_neg hzero, if_neg (by rw [habove, hbad]; decide)]
  rfl

theorem State.settle_posted {src : Nat} {d : W} (sub : BitVec 15) (found : BitVec 2) (hreach : s.rb b 1 = false)
    (hpost : FMap.get (fun _ => none) s.posted b = some (src, a, d)) : s.settle b sub found =
      (({ s with posted := FMap.set (fun _ => none) s.posted b none }.setRf b 0 0 0).farApply src a d sub found).setRf b 0 0 0 := by
  rw [State.settle, if_neg (ne_true_of_eq_false hreach), hpost]

/-! ### Reads -/

/-- A read of PF0 or the service port of one register answers its word. -/
theorem State.hostRead_register {src : Nat} (sub : BitVec 15) (hv : isVf src = false) (h4 : a % 4 = 0) (ha : a < 0x8000000) :
    s.hostRead src false a 4 sub = (s.readReg src a sub).1.emit (.readData src (bytesOf ((s.readReg src a sub).2.getD 0))) := by
  simp [State.hostRead, hv, sizeOk_four h4, s.fnOn_of_not_isVf hv, readBytes, wordsIn_four h4, Machine.readAll, State.read0, ha, h4, bytesOf]

section
variable (hrow : (regRow a).isSome = true) (hp : addrPresent s.fuse a = true) (hpd : inPd a = false ∨ s.mode (pdIdx a) ≠ 0)
include hrow hp hpd

theorem State.readReg_ldie (src : Nat) (sub : BitVec 15) (hfar : farBstat a = none) : s.readReg src a sub = s.served src a := by
  have habs : ¬ (inPd a = true ∧ s.mode (pdIdx a) = 0) := fun ⟨hin, hm⟩ => not_absentDescriptor hpd True ⟨hin, trivial, hm⟩
  rw [State.readReg, if_neg (by simp [hrow, hp, ← Option.not_isSome]), if_neg habs, hfar]
theorem State.readReg_far {b : Nat} (src : Nat) (sub : BitVec 15) (hfar : farBstat a = some b) (hhere : servedHere a = false) :
    s.readReg src a sub = s.farRead src a b sub := by
  have habs : ¬ (inPd a = true ∧ s.mode (pdIdx a) = 0) := fun ⟨hin, hm⟩ => not_absentDescriptor hpd True ⟨hin, trivial, hm⟩
  rw [State.readReg, if_neg (by simp [hrow, hp, ← Option.not_isSome]), if_neg habs, hfar]
  exact if_neg (ne_true_of_eq_false hhere)

end

theorem State.served_live {h : Nat} (src : Nat) (hh : highOf a = some h) : s.served src a =
    ({ s with latch := FMap.set (fun _ => (0, 0)) s.latch src (h, s.shown src h) }, some (s.shown src a)) := by
  rw [State.served, hh]
/-- A read of a register of the L-die with no word latched for it changes nothing. -/
theorem State.served_ldie {src : Nat} (hh : highOf a = none) (hl : s.latched src a = none) (ha : a < 0x1000000) :
    s.served src a = (s, some (s.shown src a)) := by
  simp only [State.served, hh, hl]
  rw [if_neg (fun h => absurd h.1 (Nat.not_le.mpr ha))]

end

/-- A read of a far register applies the posted write of its block, then is served. -/
theorem State.farRead_reached {s s1 : State} {src a b : Nat} {sub : BitVec 15} (hs : s.settle b sub 0 = s1) (hev : inEvWindow a = false)
    (hreach : s1.rb b 1 = false) (hnv : s1.nvBlock = false) : s.farRead src a b sub = s1.served src a := by
  rw [State.farRead, hs]
  simp [hev, hreach, hnv]

/-- Settles O42: a write goes by the type of the register, a read by the region and the die.
`witness_HostRegisterAccessResult` meets the premises. -/
theorem hostRegisterAccessResult : Obligations.HostRegisterAccessResult := by
  unfold Obligations.HostRegisterAccessResult
  have hpf0 : isVf 0 = false := by decide
  have write {s : State} {off : BitVec 28} (d : W64) (h4 : off.toNat % 4 = 0) (ha : off.toNat < 0x8000000) :
      exec (.registerWrite 0 off 4 true d) s = .next (s.regWrite 0 off.toNat (lo32 d)) :=
    (exec_registerWrite_four (src := 0) d (s.fnOn_of_not_isVf hpf0) h4).trans (congrArg _ (State.write1_register _ hpf0 ha))
  have post {s : State} {off : BitVec 28} (d : W) (hrwp : rwpMask off.toNat ≠ 0) (ha : off.toNat < 0x8000000) :
      exec (.rwpWrite 0 off d) s = .next (s.regWrite 0 off.toNat d) :=
    congrArg Host.Outcome.next ((if_neg hrwp).trans (State.write1_register _ hpf0 ha))
  refine ⟨fun s off d r h4 ha hp hr hpd hws hrwp hwo hrw hpend hent hmov hdev hc hb => ?pending,
    fun s off d r h4 ha hp hr hpd hws hrwp hwo hrw hpend hent hmov hdev hc => ?shut,
    fun s off d r h4 ha hp hr hpd hws hrwp hwo hrw hpend hent hmov hdev hc hb => ?bad,
    fun s off d r h4 ha hp hr hpd hws hrwp hwo hrw hpend hdump => ?readOnly,
    fun s src off size full d hf hbad => ?size, fun s src off size full d hf => ?disabled, fun s off d h8 => ?eight,
    fun s off h4 ha hrow hp hpd hfar hh hl => ?ldie, fun s src off h hv h4 ha hrow hp hpd hfar hh => ?counter,
    fun s off d r b ha hp hr hws hrwp hfar hcode hbad hreach hbusy => ?posted,
    fun s off d r b ha hp hr hws hrwp hfar hcode hbad => ⟨fun hreach => ?unreachable, fun hreach hbusy => ?busy⟩,
    fun s inst sub found dt src a d hreach hpost => ?applied,
    fun s off sub b h4 ha hrow hp hpd hfar hrtc hhere hev hreach hnv => ?far⟩
  case pending =>
    rw [write d h4 ha, State.regWrite_pending hp hr hpd hws hrwp hwo hrw _ _ hpend, State.pendWrite_plain _ _ hent hmov hdev,
      if_neg (ne_true_of_eq_false hc), if_neg (ne_true_of_eq_false hb)]
  case shut =>
    rw [write d h4 ha, State.regWrite_pending hp hr hpd hws hrwp hwo hrw _ _ hpend, State.pendWrite_plain _ _ hent hmov hdev, if_pos hc,
      State.deny_pf0]
  case bad =>
    rw [write d h4 ha, State.regWrite_pending hp hr hpd hws hrwp hwo hrw _ _ hpend, State.pendWrite_plain _ _ hent hmov hdev,
      if_neg (ne_true_of_eq_false hc), if_pos hb, State.deny_pf0]
  case readOnly => rw [write d h4 ha, State.regWrite_readOnly hp hr hpd hws hrwp hwo hrw _ _ hpend hdump]
  case size =>
    have hbad' : (!full || !sizeOk off.toNat size.toNat) = true := by rcases hbad with h | h <;> simp [h]
    exact congrArg Host.Outcome.next ((if_neg (by rw [hf]; exact Bool.noConfusion)).trans (if_pos hbad'))
  case disabled =>
    exact ⟨congrArg Host.Outcome.next (if_pos hf), fun bar2 len => congrArg Host.Outcome.next (if_pos (by simp [hf]))⟩
  case eight => exact exec_registerWrite_eight (src := 0) d (s.fnOn_of_not_isVf hpf0) h8
  case ldie =>
    refine congrArg Host.Outcome.next ((State.hostRead_register 0 hpf0 h4 (Nat.lt_trans ha (by decide))).trans ?_)
    rw [State.readReg_ldie hrow hp hpd _ _ hfar, State.served_ldie hh hl ha]
    rfl
  case counter =>
    refine congrArg Host.Outcome.next ((State.hostRead_register 0 hv h4 (Nat.lt_trans ha (by decide))).trans ?_)
    rw [State.readReg_ldie hrow hp hpd _ _ hfar, State.served_live _ hh]
    rfl
  case posted =>
    rw [post d hrwp ha, State.regWrite_posted hp hr (.inl (farBstat_not_inPd hfar)) hws _ _ hrwp, State.postWrite_inRange hfar hcode hbad,
      if_neg (ne_true_of_eq_false hreach), if_neg (ne_true_of_eq_false hbusy)]
  case unreachable =>
    rw [post d hrwp ha, State.regWrite_posted hp hr (.inl (farBstat_not_inPd hfar)) hws _ _ hrwp, State.postWrite_inRange hfar (.inl hcode) hbad,
      if_pos hreach]
  case busy =>
    rw [post d hrwp ha, State.regWrite_posted hp hr (.inl (farBstat_not_inPd hfar)) hws _ _ hrwp, State.postWrite_inRange hfar (.inl hcode) hbad,
      if_neg (ne_true_of_eq_false hreach), if_pos hbusy]
  case applied => exact congrArg Host.Outcome.next (State.settle_posted sub found hreach hpost)
  case far =>
    have hat : ¬ farBstat off.toNat = some aRTC_BSTAT := by rw [hfar]; exact fun h => hrtc (Option.some.inj h)
    refine congrArg Host.Outcome.next ?_
    rw [if_neg hat]
    refine (State.hostRead_register sub hpf0 h4 ha).trans ?_
    rw [State.readReg_far hrow hp (.inl hpd) _ _ hfar hhere, State.farRead_reached rfl hev hreach hnv]

end Sys2Proof.Machine
end

section
/-!
PROOFS. Aliases, windows, configuration requests, resets of the endpoint and the die link (spec/02 R31 to R39, R59 to R61, R468).
-/
namespace Sys2Proof.Machine

/-! ### Folds of register writes -/

/-- Zeroing registers changes the register file alone. -/
theorem State.zeroRegs_eq (s : State) (l : List Nat) : s.zeroRegs l = { s with regs := (s.zeroRegs l).regs } := by
  unfold State.zeroRegs
  induction l generalizing s with
  | nil => rfl
  | cons a l ih => exact (ih (s.setReg a 0)).trans rfl

/-- The registers zeroed read 0, the others as before. -/
theorem State.reg_zeroRegs {s : State} (l : List Nat) (a : Nat) (hw : FMap.wf (regReset s.fuse) s.regs = true) :
    (s.zeroRegs l).reg a = if a ∈ l then 0 else s.reg a := by
  unfold State.zeroRegs
  induction l generalizing s with
  | nil => rw [List.foldl_nil, if_neg List.not_mem_nil]
  | cons b l ih =>
    rw [List.foldl_cons, ih (s := s.setReg b 0) (s.regs_wf_setReg b 0 hw), s.reg_setReg b a 0 hw]
    by_cases hl : a ∈ l
    · simp [hl]
    · simp [hl]

section
variable {s : State} (hw : FMap.wf (regReset s.fuse) s.regs = true) (l : List Nat) (hi lo n : Nat)
include hw

/-- The same field written in several registers: a register of the list takes it, the others read as before. -/
theorem State.reg_foldl_setRf (x : Nat) (hl : l.Nodup) : (l.foldl (fun s a => s.setRf a hi lo n) s).reg x =
    if x ∈ l then putFld (s.reg x) hi lo n else s.reg x := by
  induction l generalizing s with
  | nil => rw [List.foldl_nil, if_neg List.not_mem_nil]
  | cons a l ih =>
    obtain ⟨ha, hl'⟩ := List.nodup_cons.mp hl
    rw [List.foldl_cons, ih (s := s.setRf a hi lo n) (s.regs_wf_setReg a _ hw) hl', s.reg_setRf a x hi lo n hw]
    by_cases hx : x = a
    · subst hx; simp [ha]
    · simp [hx]

end

/-! ### Aliases (R59 to R61) -/

section
variable {s : State} {src : BitVec 10} {off : BitVec 28} {bit : Bool}
variable (hv : isVf src.toNat = false) (hlo : 0x8000000 ≤ off.toNat) (hhi : off.toNat < 0xA000000)

include hv hlo hhi in
theorem exec_aliasWrite : exec (.aliasWrite src off bit) s = .next (s.aliasWrite src.toNat (off.toNat - 0x8000000) bit) := by
  have hbit : bitAt (if bit = true then (1 : W) else 0) 0 = bit := by cases bit <;> rfl
  have hw : s.write1 src.toNat off.toNat (if bit = true then 1 else 0) = s.aliasWrite src.toNat (off.toNat - 0x8000000) bit := by
    rw [State.write1, if_neg (by rw [s.fnOn_of_not_isVf hv]; exact Bool.noConfusion), if_neg (ne_true_of_eq_false hv), State.write0,
      if_neg (Nat.not_lt.mpr hlo), if_pos hhi, hbit]
  exact congrArg Host.Outcome.next hw

end

section
variable {s : State} {x : Nat} {r : RegRow} (hr : regRow (aliasOf x).1 = some r) (hlt : (aliasOf x).1 < 0x100000)
  (hp : addrPresent s.fuse (aliasOf x).1 = true)
include hr hlt hp

/-- The bit of a register that is present: no alias of a WS, WO or RWP bit; the register written with the bit of an RW one replaced, the
pending value with that of an RWS or RWN one. -/
theorem State.aliasWrite_present (src : Nat) (v : Bool) : s.aliasWrite src x v =
    if (rwpMask (aliasOf x).1).getLsbD (aliasOf x).2 || r.wo.testBit (aliasOf x).2 || r.ws.testBit (aliasOf x).2 then
      s.refuse src (accSpace src) (0x8000000 + x) 7
    else if r.rw.testBit (aliasOf x).2 then
      s.refile (s.regWrite src (aliasOf x).1 (putBit (s.raw src (aliasOf x).1) (aliasOf x).2 v)) src (aliasOf x).1 (0x8000000 + x)
    else if r.pend.testBit (aliasOf x).2 then
      s.refile (s.regWrite src (aliasOf x).1 (putBit (s.pnd (aliasOf x).1) (aliasOf x).2 v)) src (aliasOf x).1 (0x8000000 + x)
    else s := by
  have habs : ¬ (0x100000 ≤ (aliasOf x).1 ∨ addrPresent s.fuse (aliasOf x).1 = false) := by
    rw [hp]; exact fun h => h.elim (Nat.not_le.mpr hlt) Bool.noConfusion
  rw [State.aliasWrite, hr]
  exact if_neg habs

end

theorem exec_aliasWrite_present {s : State} {src : BitVec 10} {off : BitVec 28} {bit : Bool} {r : RegRow} (hv : isVf src.toNat = false)
    (hlo : 0x8000000 ≤ off.toNat) (hhi : off.toNat < 0xA000000) (hr : regRow (aliasOf (off.toNat - 0x8000000)).1 = some r)
    (hlt : (aliasOf (off.toNat - 0x8000000)).1 < 0x100000) (hp : addrPresent s.fuse (aliasOf (off.toNat - 0x8000000)).1 = true) :
    let al := aliasOf (off.toNat - 0x8000000)
    exec (.aliasWrite src off bit) s = .next
      (if (rwpMask al.1).getLsbD al.2 || r.wo.testBit al.2 || r.ws.testBit al.2 then s.refuse src.toNat (accSpace src.toNat) off.toNat 7
      else if r.rw.testBit al.2 then s.refile (s.regWrite src.toNat al.1 (putBit (s.raw src.toNat al.1) al.2 bit)) src.toNat al.1 off.toNat
      else if r.pend.testBit al.2 then s.refile (s.regWrite src.toNat al.1 (putBit (s.pnd al.1) al.2 bit)) src.toNat al.1 off.toNat
      else s) := by
  have hoff : 0x8000000 + (off.toNat - 0x8000000) = off.toNat := Nat.add_sub_cancel' hlo
  have halias := State.aliasWrite_present hr hlt hp src.toNat bit
  rw [hoff] at halias
  exact (exec_aliasWrite hv hlo hhi).trans (congrArg _ halias)

/-! ### Windows (R36 to R38) -/

section
variable {s : State} {off : BitVec 28} {data : List Byte} (hone : onePacket off.toNat data.length = true) (hoff : off.toNat < 0xD000000)
include hone hoff

theorem exec_storeWindowWrite : exec (.storeWindowWrite off data) s = .next
    (match s.pageShut off.toNat with
      | some c => s.refuse 0 1 off.toNat c
      | none => s.putWords off.toNat data (fun s => s.refuse 0 1 off.toNat 0x0A)) := by
  refine congrArg Host.Outcome.next ((if_pos hone).trans ?_)
  rw [State.write2, if_neg (Nat.not_le.mpr hoff)]
  rfl

end

section
variable {s : State} {vf : BitVec 10}

theorem isVf_ne_port (hv : isVf vf.toNat = true) : vf.toNat ≠ 0x3FE := by
  rw [isVf, decide_eq_true_eq] at hv
  omega
theorem State.vfRefuse_vf (hv : isVf vf.toNat = true) (off c : Nat) : s.vfRefuse vf.toNat off c = s.refuse vf.toNat 2 off c := by
  rw [State.vfRefuse, if_neg (isVf_ne_port hv)]

variable {off : BitVec 28} {data : List Byte}

theorem exec_imageWindowWrite (hv : isVf vf.toNat = true) (hf : s.fnOn vf.toNat = true) (hle : vf.toNat ≤ s.fuse.partitions)
    (hin : inImage off.toNat = true) (hone : onePacket off.toNat data.length = true) :
    exec (.imageWindowWrite vf off data) s = .next (s.imageWrite vf.toNat vf.toNat off.toNat data) :=
  congrArg Host.Outcome.next (if_pos ⟨hv, hf, hle, hin, hone⟩)

end

section
variable {s : State} {vf off : Nat} (src : Nat) (data : List Byte)

theorem State.imageWrite_absent (hm : s.mode (vf - 1) = 0) : s.imageWrite src vf off data = s.vfRefuse src off 9 := by
  rw [State.imageWrite]; exact if_pos hm

variable (hm : s.mode (vf - 1) ≠ 0)
include hm

theorem State.imageWrite_mapped {a : Nat} (hl : s.look (vf - 1) 2 ((off - 0x80000) / 4) = .at a) :
    s.imageWrite src vf off data = s.putWords (a + off % 4) data (fun s => s.vfRefuse src off 0x0A) := by
  rw [State.imageWrite, if_neg hm, State.imageLoc, hl]
theorem State.imageWrite_unmapped (hl : s.look (vf - 1) 2 ((off - 0x80000) / 4) = .unmapped) :
    s.imageWrite src vf off data = s.vfRefuse src off 9 := by
  rw [State.imageWrite, if_neg hm, State.imageLoc, hl]

end

/-! ### Resets of functions and of the endpoint (R32) -/

/-- The four registers of the ACC_ERR group from `g` on. -/
theorem mem_group_iff {g a : Nat} (hg : g % 4 = 0) : a ∈ [g, g + 4, g + 8, g + 12] ↔ g ≤ a ∧ a < g + 16 ∧ a % 4 = 0 := by
  simp only [List.mem_cons, List.not_mem_nil, or_false]
  omega

theorem FMap.get_erase_same {α : Type} [DecidableEq α] {d : Nat → α} {m : FMap α} (h : FMap.wf d m = true) (k : Nat) :
    FMap.get d (FMap.erase m k) k = d k := by
  rw [FMap.get, FMap.find?_erase h, if_pos rfl, Option.getD_none]

section
variable (s : State) (k : Nat)

/-- A reset of VF `k` changes registers, masks and latches alone. -/
theorem State.resetVf_eq : s.resetVf k = { s with regs := (s.resetVf k).regs, fnMask := (s.resetVf k).fnMask, latch := (s.resetVf k).latch, vecMask := (s.resetVf k).vecMask, vecPend := (s.resetVf k).vecPend } := by
  rw [State.resetVf, State.zeroRegs_eq]
theorem State.resetVf_vecMask : (s.resetVf k).vecMask = FMap.forget (fun v => decide (v / 2048 = k)) s.vecMask := by
  rw [State.resetVf, State.zeroRegs_eq]
theorem State.resetVf_vecPend : (s.resetVf k).vecPend = FMap.forget (fun v => decide (v / 2048 = k)) s.vecPend := by
  rw [State.resetVf, State.zeroRegs_eq]
/-- Masks and latches are no registers. -/
theorem State.reg_withMasks (fm : FMap Bool) (l : FMap (Nat × W)) (vm vp : FMap Bool) (a : Nat) :
    ({ s with fnMask := fm, latch := l, vecMask := vm, vecPend := vp } : State).reg a = s.reg a := rfl
/-- The ACC_ERR group of the VF reads 0, every other register as before. -/
theorem State.reg_resetVf (a : Nat) (hw : FMap.wf (regReset s.fuse) s.regs = true) : (s.resetVf k).reg a =
    if aPD_ACC_SEQ (k - 1) ≤ a ∧ a < aPD_ACC_SEQ (k - 1) + 16 ∧ a % 4 = 0 then 0 else s.reg a := by
  have hg : aPD_ACC_SEQ (k - 1) % 4 = 0 := by rw [aPD_ACC_SEQ]; omega
  have hz := State.reg_zeroRegs [aPD_ACC_SEQ (k - 1), aPD_ACC_SEQ (k - 1) + 4, aPD_ACC_SEQ (k - 1) + 8, aPD_ACC_SEQ (k - 1) + 12] a hw
  rw [State.resetVf, State.reg_withMasks, hz]
  exact if_congr (mem_group_iff hg) rfl rfl

/-- The registers that a block reset of the endpoint writes. -/
theorem State.reg_resetBlock_endpoint (a : Nat) :
    (s.resetBlock 0x13).reg a = (((s.noteReset 11).setRf aRST_BLK_MAP_LO 19 19 1).setReg aAU_GRANT 0).reg a := rfl
theorem State.resetBlock_endpoint_blkRst : (s.resetBlock 0x13).blkRst = FMap.set (fun _ => false) s.blkRst 0x13 true := rfl
theorem State.resetBlock_endpoint_vfs : (s.resetBlock 0x13).vfEnable = false ∧ (s.resetBlock 0x13).numVfs = 0 := ⟨rfl, rfl⟩
theorem State.resetBlock_endpoint_masks : (s.resetBlock 0x13).fnMask = [] ∧ (s.resetBlock 0x13).vecMask = [] ∧ (s.resetBlock 0x13).vecPend = [] :=
  ⟨rfl, rfl, rfl⟩
theorem State.resetEndpoint_mem : s.resetEndpoint.mem = s.mem := rfl
theorem State.resetEndpoint_tasks : s.resetEndpoint.tasks = s.tasks := rfl
theorem State.noteReset_mem (b : Nat) : (s.noteReset b).mem = s.mem := by rw [State.noteReset, State.setRf_mem, State.advance_mem]
theorem State.noteReset_tasks (b : Nat) : (s.noteReset b).tasks = s.tasks := by rw [State.noteReset, State.setRf_tasks, State.advance_tasks]
theorem State.resetBlock_endpoint_eq : s.resetBlock 0x13 = State.resetEndpoint
    { (s.noteReset 11).setRf aRST_BLK_MAP_LO 19 19 1 with blkRst := FMap.set (fun _ => false) s.blkRst 0x13 true } := rfl
theorem State.resetBlock_endpoint_mem : (s.resetBlock 0x13).mem = s.mem := by
  rw [State.resetBlock_endpoint_eq, State.resetEndpoint_mem, State.setRf_mem, State.noteReset_mem]
theorem State.resetBlock_endpoint_tasks : (s.resetBlock 0x13).tasks = s.tasks := by
  rw [State.resetBlock_endpoint_eq, State.resetEndpoint_tasks, State.setRf_tasks, State.noteReset_tasks]
theorem State.exec_pf0Reset : exec .pf0Reset s = .next (s.resetBlock 0x13) := rfl
theorem State.exec_pciePerst : exec .pciePerst s = .next (s.resetBlock 0x13) := rfl
theorem State.resetBlock_endpoint_latch : (s.resetBlock 0x13).latch = s.latch.filter (fun e => decide (e.1 = 0x3FE)) := rfl

end

/-- A value that is not the default reads back, whatever the table. -/
theorem FMap.get_set_of_ne {α : Type} [DecidableEq α] {d : Nat → α} (m : FMap α) (k : Nat) {v : α} (hv : v ≠ d k) :
    FMap.get d (FMap.set d m k v) k = v := by
  rw [FMap.get, FMap.set, if_neg hv, FMap.find?_insert, if_pos rfl, Option.getD_some]

section
variable {s : State} (hw : FMap.wf (regReset s.fuse) s.regs = true)
include hw

/-- The cause of a reset shows, whatever other registers are written after it. -/
theorem State.cause_noteReset {b x y hi lo n : Nat} {v : W} (hb : b < 32) (hx : aRST_CAUSE ≠ x) (hy : aRST_CAUSE ≠ y) :
    bitAt ((((s.noteReset b).setRf x hi lo n).setReg y v).reg aRST_CAUSE) b = true := by
  have hw0 := s.regs_wf_setReg aRST_CAUSE_SEQ (s.reg aRST_CAUSE_SEQ + 1) hw
  have hw1 := (s.advance aRST_CAUSE_SEQ).regs_wf_setReg aRST_CAUSE (putFld ((s.advance aRST_CAUSE_SEQ).reg aRST_CAUSE) b b 1) hw0
  have hw2 := (s.noteReset b).regs_wf_setReg x (putFld ((s.noteReset b).reg x) hi lo n) hw1
  have hput := bitAt_putFld ((s.advance aRST_CAUSE_SEQ).reg aRST_CAUSE) (hi := b) (lo := b) 1 hb
  rw [State.reg_setReg _ y _ v hw2, if_neg hy, State.reg_setRf _ x _ hi lo n hw1, if_neg hx, State.noteReset,
    State.reg_setRf _ _ _ b b 1 hw0, if_pos rfl, hput, if_pos ⟨Nat.le_refl b, Nat.le_refl b⟩, Nat.sub_self]
  rfl

end

theorem fdieBstat_nodup : fdieBstat.Nodup := by decide

/-- The `BSTAT` registers once the die link is up again. -/
def State.linkUp (s : State) : State := fdieBstat.foldl (fun (s : State) a => s.setRf a 1 1 0) { s with lines := FMap.erase s.lines 24 }
theorem State.exec_dieLinkRestored (s : State) : exec .dieLinkRestored s = .next s.linkUp := rfl
theorem State.reg_linkUp {s : State} (hw : FMap.wf (regReset s.fuse) s.regs = true) (x : Nat) :
    s.linkUp.reg x = if x ∈ fdieBstat then putFld (s.reg x) 1 1 0 else s.reg x :=
  State.reg_foldl_setRf (s := { s with lines := FMap.erase s.lines 24 }) hw fdieBstat 1 1 0 x fdieBstat_nodup

/-! ### The statement -/

/-- Settles O43: each access by its own function; a reset of a function or of the endpoint by the fields it writes; the die link by the six
`BSTAT` registers.
`witness_AliasWindowAndConfigurationResult` meets the premises. -/
theorem aliasWindowAndConfigurationResult : Obligations.AliasWindowAndConfigurationResult := by
  unfold Obligations.AliasWindowAndConfigurationResult
  refine ⟨fun s src off bit r hv _ hlo hhi hr hlt hp h => ?refused, fun s src off bit r hv _ hlo hhi hr hlt hp h hrw => ?rw,
    fun s src off bit r hv _ hlo hhi hr hlt hp h hrw hpend => ?pend, fun s off data hone hoff hshut => ?store,
    fun s off data c hone hoff hshut => ?shut,
    fun s vf off data hv hf hle hin hone => ⟨fun hm => ?absent, fun hm a hl => ?mapped, fun hm hl => ?unmapped⟩,
    fun s fn ready msix vec mask hup hf => ?config, fun s fn ready msix vec mask hup => ?retry, fun s k hc hv hfn hlat => ?vfFlr,
    fun s hc => ?endpoint, fun s hw => ?dieLink⟩
  case refused => exact (exec_aliasWrite_present hv hlo hhi hr hlt hp).trans (congrArg _ (if_pos h))
  case rw =>
    exact (exec_aliasWrite_present hv hlo hhi hr hlt hp).trans (congrArg _ ((if_neg (ne_true_of_eq_false h)).trans (if_pos hrw)))
  case pend =>
    exact (exec_aliasWrite_present hv hlo hhi hr hlt hp).trans
      (congrArg _ ((if_neg (ne_true_of_eq_false h)).trans ((if_neg (ne_true_of_eq_false hrw)).trans (if_pos hpend))))
  case store =>
    rw [exec_storeWindowWrite hone hoff, hshut]
    rfl
  case shut => rw [exec_storeWindowWrite hone hoff, hshut]
  case absent => rw [exec_imageWindowWrite hv hf hle hin hone, State.imageWrite_absent _ _ hm, State.vfRefuse_vf hv]
  case mapped =>
    rw [exec_imageWindowWrite hv hf hle hin hone, State.imageWrite_mapped _ _ hm hl]
  case unmapped => rw [exec_imageWindowWrite hv hf hle hin hone, State.imageWrite_unmapped _ _ hm hl, State.vfRefuse_vf hv]
  case config => exact congrArg Host.Outcome.next ((if_pos hup).trans (if_neg (by rw [hf]; exact Bool.noConfusion)))
  case retry => exact congrArg Host.Outcome.next (if_neg (ne_true_of_eq_false hup))
  case vfFlr =>
    obtain ⟨-, hw, -⟩ := hc
    refine ⟨s.resetVf k.toNat, congrArg Host.Outcome.next (if_pos hv), s.resetVf_eq k.toNat, fun a => s.reg_resetVf k.toNat a hw,
      FMap.get_erase_same hfn _, FMap.get_erase_same hlat _, fun v hlt => ?_, fun x hne => ?_⟩
    · have hkey : decide ((k.toNat * 2048 + v) / 2048 = k.toNat) = true := decide_eq_true (by omega)
      rw [State.resetVf_vecMask, State.resetVf_vecPend, FMap.get_forget, FMap.get_forget, if_pos hkey, if_pos hkey]
      exact ⟨rfl, rfl⟩
    · have hkey : ¬ decide (x / 2048 = k.toNat) = true := fun h => hne (of_decide_eq_true h)
      rw [State.resetVf_vecMask, State.resetVf_vecPend, FMap.get_forget, FMap.get_forget, if_neg hkey, if_neg hkey]
      exact ⟨rfl, rfl⟩
  case endpoint =>
    have hw := hc.2.1
    refine ⟨s.resetBlock 0x13, s.exec_pf0Reset, s.exec_pciePerst, ?inReset, ?cause, s.resetBlock_endpoint_vfs.1, s.resetBlock_endpoint_vfs.2,
      s.resetBlock_endpoint_masks.1, s.resetBlock_endpoint_masks.2.1, s.resetBlock_endpoint_masks.2.2, ?latch, ?grant, s.resetBlock_endpoint_mem,
      s.resetBlock_endpoint_tasks⟩
    case inReset =>
      rw [State.inReset, State.resetBlock_endpoint_blkRst]
      exact FMap.get_set_of_ne _ _ (by decide)
    case cause =>
      rw [State.rb, State.reg_resetBlock_endpoint]
      exact State.cause_noteReset hw (by decide) (by decide) (by decide)
    case latch =>
      rw [State.resetBlock_endpoint_latch]
      exact fun e he => of_decide_eq_true (List.mem_filter.mp he).2
    case grant =>
      obtain ⟨-, hw2, -⟩ := canonical_setRf aRST_BLK_MAP_LO 19 19 1 (canonical_noteReset 11 hc)
      have hgrant := State.reg_setReg ((s.noteReset 11).setRf aRST_BLK_MAP_LO 19 19 1) aAU_GRANT aAU_GRANT 0 hw2
      rw [if_pos rfl] at hgrant
      rw [State.regFor, if_neg (by decide), State.reg_resetBlock_endpoint, hgrant]
  case dieLink =>
    refine ⟨s.linkUp, s.exec_dieLinkRestored, fun b hb => ?_, fun x hx => (State.reg_linkUp hw x).trans (if_neg hx)⟩
    have hreg := (State.reg_linkUp hw b).trans (if_pos hb)
    refine ⟨?_, fun k hk hne => ?_⟩
    · rw [State.rb, hreg, bitAt_putFld _ 0 (by decide), if_pos ⟨Nat.le_refl 1, Nat.le_refl 1⟩, Nat.sub_self, Nat.zero_testBit]
    · rw [State.rb, hreg, bitAt_putFld _ 0 hk, if_neg (by omega), State.rb]

end Sys2Proof.Machine
end

section
/-!
PROOFS. `GCTL_UPDATE`, the instants of the strobe groups and the Survey (spec/02 R52 to R58, R468).
-/
namespace Sys2Proof.Machine

/-! ### `GCTL_UPDATE` -/

/-- The present groups that a value of `GCTL_UPDATE` names. -/
def State.namedGroups (s : State) (d : W) : List Nat := (List.range 19).filter (fun b => bitAt d b && s.groupPresent b)

section
variable {s : State} {src : Nat} {d : W} (hv : isVf src = false)
include hv

/-- Groups at rest and in reach take their snapshots. -/
theorem State.updateWrite_taken (ha : (s.namedGroups d).any s.applying = false) (hu : (s.namedGroups d).any s.groupUnreach = false) :
    s.updateWrite src d =
      (s.namedGroups d).foldl (fun s b => (s.takeSnap (groupRange b).1 (groupRange b).2).setRf aGCTL_UPDATE_STAT b b 1) s :=
  (if_neg (ne_true_of_eq_false hv)).trans ((if_neg (ne_true_of_eq_false ha)).trans (if_neg (ne_true_of_eq_false hu)))
/-- With one group still applying the whole write is refused. -/
theorem State.updateWrite_applying (ha : (s.namedGroups d).any s.applying = true) :
    s.updateWrite src d = s.refuse src (farSpace src) aGCTL_UPDATE 5 :=
  (if_neg (ne_true_of_eq_false hv)).trans (if_pos ha)

end

/-! ### The instants of the groups -/

section
variable {s : State}

theorem State.fioApply_taken (ha : s.applying 16 = true) (hr : s.rb aFIO_BSTAT 1 = false) :
    let s1 := ((List.range 32).filter (fun n => !s.rb (aFIO_OWN n) 30)).foldl (fun s n => (s.fioCfgSnap n).ownSnap (aFIO_OWN n)) (s.applySnap aFIO_HB)
    let s2 := if s1.sfApplied then s1 else s1.tpPeriod (s1.snapped aTP_PERIOD)
    let s3 := ((List.range 4).filter (fun n => !s.tpUsed n)).foldl (fun s n => (s.applySnap (aTP_CFG n)).tpTake n) s2
    s.fioApply = (((List.range 32).foldl State.reportIn s3).moveBlock 0xB0000 0xC0000).endStrobe 16 :=
  if_pos ⟨ha, hr⟩

theorem State.rtcApply_taken (ha : s.applying 18 = true) (hr : s.rb aRTC_BSTAT 1 = false) :
    s.rtcApply = (([aRTC_TRIM, aRTC_MEASCFG, aRTC_ALM_T0 0, aRTC_ALM_T1 0, aRTC_ALM_MASK 0, aRTC_ALM_T0 1, aRTC_ALM_T1 1,
      aRTC_ALM_MASK 1]).foldl State.applySnap (s.measAbort 3)).endStrobe 18 := if_pos ⟨ha, hr⟩

section
variable {n : Nat} (hn : n < s.fuse.cans) (ha : s.applying n = true) (hr : s.rb (aCAN_BSTAT n) 1 = false)
  (hi : s.canMode n = 0 ∨ s.canEst n = 2 ∨ (s.can n).bus = none)
include hn ha hr hi

/-- In CONFIG, in bus-off and at bus idle the group applies, or is refused whole by its first failing check. -/
theorem State.canApply_instant : s.canApply n =
    (if s.canCheck n = 0 then s.canTake n
     else
      let s1 := s.setReg (aCAN_CFGERR n) (BitVec.ofNat 32 (s.canCheck n * 256))
      let s2 := if s.canCheck n = 2 then s1.setReg (aCAN_CFGOBJ n) (BitVec.ofNat 32 ((s.canDuplicate n).getD 0)) else s1
      s2.canEvent n 8).endStrobe n :=
  if_pos ⟨hn, ha, hr, hi.imp_right (Or.imp_right Option.isNone_iff_eq_none.mpr)⟩

theorem State.canApply_taken (hc : s.canCheck n = 0) : s.canApply n = (s.canTake n).endStrobe n := by
  rw [State.canApply_instant hn ha hr hi, if_pos hc]
theorem State.canApply_timing (hc : s.canCheck n = 1) :
    s.canApply n = ((s.setReg (aCAN_CFGERR n) 0x100).canEvent n 8).endStrobe n := by
  rw [State.canApply_instant hn ha hr hi, hc]
  rfl

end

/-! ### The Survey -/

theorem State.surveyEnd_captured (hb : s.rb aGCTL_SURVEY_STAT 0 = true) (hr : s.rb aNV_BSTAT 1 = false) :
    s.surveyEnd = (s.surveyCapture true).setRf aGCTL_SURVEY_STAT 1 0 2 :=
  (if_neg (by rw [hb]; exact Bool.noConfusion)).trans (if_neg (ne_true_of_eq_false hr))
theorem State.surveyEnd_unreached (hb : s.rb aGCTL_SURVEY_STAT 0 = true) (hr : s.rb aNV_BSTAT 1 = true) :
    s.surveyEnd = s.setRf aGCTL_SURVEY_STAT 1 0 0 := (if_neg (by rw [hb]; exact Bool.noConfusion)).trans (if_pos hr)

end

/-- Settles O44: `updateWrite`, the instant of each group and the two ends of the Survey by their branches.
`witness_StrobesAndSurveyResult` meets the premises. -/
theorem strobesAndSurveyResult : Obligations.StrobesAndSurveyResult := by
  unfold Obligations.StrobesAndSurveyResult
  refine ⟨fun s src d hv ha hu => ?_, fun s src d hv ha => ?_, fun s src d hv ha hu => ?_, fun s src d hv ha => ?_, fun s src d hv ha hu => ?_,
    fun s src d hv ha => ?_, fun s src d n hv ha hu => ?_, fun s src d n hv ha => ?_, fun s dt ha hr => ?fio, fun s dt n hn ha hr hi hc => ?can,
    fun s dt n hn ha hr hi hc => ?timing, fun s dt ha => ?wdg, fun s dt ha hr => ?rtc, fun s src hv hb => ?survey, fun s src hv hb => ?refused,
    fun s dt hb => ⟨fun hr => ?captured, fun hr => ?unreached⟩⟩
  case fio => exact congrArg Host.Outcome.next (State.fioApply_taken ha hr)
  case can => exact congrArg Host.Outcome.next (State.canApply_taken hn ha hr hi hc)
  case timing => exact congrArg Host.Outcome.next (State.canApply_timing hn ha hr hi hc)
  case wdg => exact congrArg Host.Outcome.next (if_pos ha)
  case rtc => exact congrArg Host.Outcome.next (State.rtcApply_taken ha hr)
  case survey => exact congrArg Host.Outcome.next ((if_neg (ne_true_of_eq_false hv)).trans (if_neg (ne_true_of_eq_false hb)))
  case refused => exact congrArg Host.Outcome.next ((if_neg (ne_true_of_eq_false hv)).trans (if_pos hb))
  case captured => exact congrArg Host.Outcome.next (State.surveyEnd_captured hb hr)
  case unreached => exact congrArg Host.Outcome.next (State.surveyEnd_unreached hb hr)
  · exact congrArg Host.Outcome.next (State.updateWrite_taken hv ha hu)
  · exact congrArg Host.Outcome.next (State.updateWrite_applying hv ha)
  · exact congrArg Host.Outcome.next (State.updateWrite_taken hv ha hu)
  · exact congrArg Host.Outcome.next (State.updateWrite_applying hv ha)
  · exact congrArg Host.Outcome.next (State.updateWrite_taken hv ha hu)
  · exact congrArg Host.Outcome.next (State.updateWrite_applying hv ha)
  · exact congrArg Host.Outcome.next (State.updateWrite_taken hv ha hu)
  · exact congrArg Host.Outcome.next (State.updateWrite_applying hv ha)

end Sys2Proof.Machine
end

section
/-!
PROOFS. The commands of the real-time clock (spec/09 R285 to R294).
-/
namespace Sys2Proof.Machine

section
variable {s : State} {src : Nat} (hv : isVf src = false)
include hv

variable (hu : s.rb aRTC_BSTAT 1 = false) (hb : s.rb aRTC_BSTAT 0 = false)
include hu hb

/-- A reachable RTC with no posted write in hand takes the command; REASON 1 while a SET waits. -/
theorem State.rtcCmd_reached (k : State → State) : s.rtcCmd src k = (if s.rtcSetDue then s.rtcReason 1 else k s).setRf aRTC_BSTAT 0 0 1 :=
  State.farWrite_idle _ _ hv hu hb
theorem State.rtcCmd_taken (k : State → State) (hd : s.rtcSetDue = false) : s.rtcCmd src k = (k s).setRf aRTC_BSTAT 0 0 1 := by
  rw [State.rtcCmd_reached hv hu hb, if_neg (ne_true_of_eq_false hd)]
theorem State.rtcCmd_waiting (k : State → State) (hd : s.rtcSetDue = true) : s.rtcCmd src k = (s.rtcReason 1).setRf aRTC_BSTAT 0 0 1 := by
  rw [State.rtcCmd_reached hv hu hb, if_pos hd]

end

section
variable {s : State}

theorem State.rtcSet_invalid (h : s.rtcSetOk = false) : s.rtcSet = s.rtcReason 2 := if_pos h
theorem State.rtcSet_running (h : s.rtcSetOk = true) (hr : s.rtcRun = true) : s.rtcSet = s.rtcLoad := by simp [State.rtcSet, h, hr]
theorem State.rtcSet_stopped (h : s.rtcSetOk = true) (hr : s.rtcRun = false) : s.rtcSet = { s with rtcSetDue := true } := by
  simp [State.rtcSet, h, hr]

theorem State.rtcCorr_invalid (hv : s.rtcValid = false) : s.rtcCorr = s.rtcReason 6 := if_pos hv
/-- A correction below 1 s slews, one from 1 s on steps. -/
theorem State.rtcCorr_valid {c : W} (hv : s.rtcValid = true) (hc : s.reg aRTC_CORR = c) : s.rtcCorr =
    if c.toInt.natAbs < 1000000 then ((s.measAbort 1).rtcReason 0).setSlew (corrTicks c.toInt)
    else s.oneEvent aRTC_EVT_SEQ (((((s.measAbort 1).rtcReason 0).setSlew 0).calStep (corrTicks c.toInt)).rtcEvent 4) := by
  rw [State.rtcCorr, if_neg (by rw [hv]; exact Bool.noConfusion), hc]

theorem State.dstCmd_waiting (fwd : Bool) (h : s.rtcDst ≠ none) : s.dstCmd fwd = s.rtcReason 3 := if_pos (Option.isSome_iff_ne_none.mpr h)
theorem State.dstCmd_inState {fwd : Bool} (h : s.rtcDst = none) (hs : s.rb aRTC_STAT 3 = fwd) : s.dstCmd fwd = s.rtcReason 5 :=
  (if_neg (by rw [h]; decide)).trans (if_pos hs)
/-- A DST command of a valid calendar that stays within its 400 years waits for the next second boundary. -/
theorem State.dstCmd_taken {fwd : Bool} (h : s.rtcDst = none) (hs : s.rb aRTC_STAT 3 ≠ fwd)
    (hr : 0 ≤ (s.rtcSec : Int) + 1 + (if fwd then 3600 else -3600) ∧ (s.rtcSec : Int) + 1 + (if fwd then 3600 else -3600) < calSeconds)
    (hv : s.rtcValid = true) : s.dstCmd fwd = { (s.measAbort 2).rtcReason 0 with rtcDst := some fwd } :=
  (if_neg (by rw [h]; decide)).trans ((if_neg hs).trans
    ((if_neg (fun hn => hn.elim (Int.not_lt.mpr hr.1) (Int.not_le.mpr hr.2))).trans (if_neg (by rw [hv]; exact Bool.noConfusion))))

theorem State.measStart_refused (h : s.meas ≠ none ∨ s.rb aRTC_STAT 2 = true) : s.measStart = s.rtcReason 4 := by
  have hsome : s.rb aRTC_STAT 2 = true ∨ s.meas.isSome = true := h.symm.imp_right Option.isSome_iff_ne_none.mpr
  refine if_pos ?_
  rcases hsome with h2 | hm
  · exact .inl h2
  · exact .inr (.inr (.inr (.inr hm)))

/-- MEAS of a valid calendar with an allowed source and window, with no slew and no measurement running. -/
theorem State.measStart_taken (hslew : s.rb aRTC_STAT 2 = false)
    (hsrc : fld (s.reg aRTC_MEASCFG) 31 30 = 1 ∧ s.merValid = true ∨ fld (s.reg aRTC_MEASCFG) 31 30 = 2)
    (hlo : 100 ≤ fld (s.reg aRTC_MEASCFG) 13 0) (hhi : fld (s.reg aRTC_MEASCFG) 13 0 ≤ 10000) (hm : s.meas = none) (hv : s.rtcValid = true) :
    s.measStart = { (s.rtcReason 0).measShow 0 1 with
      meas := some { mains := fld (s.reg aRTC_MEASCFG) 31 30 == 2, win := fld (s.reg aRTC_MEASCFG) 13 0
                     hz60 := bitAt (s.reg aRTC_MEASCFG) 29, start := none, last := 0, secs := 0, n := 0, e := 0 } } := by
  refine (if_neg ?_).trans (if_neg (by rw [hv]; exact Bool.noConfusion))
  rintro (h2 | hs | ⟨h1, hf⟩ | hw | hsome)
  · exact ne_true_of_eq_false hslew h2
  · exact hs (hsrc.imp_left And.left)
  · rcases hsrc with ⟨-, ht⟩ | h2
    · exact ne_true_of_eq_false hf ht
    · exact absurd (h1.symm.trans h2) (by decide)
  · exact hw ⟨hlo, hhi⟩
  · rw [hm] at hsome; exact Bool.noConfusion hsome

end

/-- Settles O45: the command goes through `farWrite`, then by the branches of its own meaning.
`witness_RtcCommandsResult` meets the premises. -/
theorem rtcCommandsResult : Obligations.RtcCommandsResult := by
  unfold Obligations.RtcCommandsResult
  have taken {s t : State} {src : BitVec 10} {k : State → State} (hv : isVf src.toNat = false) (hu : s.rb aRTC_BSTAT 1 = false)
      (hb : s.rb aRTC_BSTAT 0 = false) (hd : s.rtcSetDue = false) (hk : k s = t) :
      (Host.Outcome.next (s.rtcCmd src.toNat k) : Host.Outcome State Fault Refusal) = .next (t.setRf aRTC_BSTAT 0 0 1) :=
    congrArg _ ((State.rtcCmd_taken hv hu hb k hd).trans (by rw [hk]))
  refine ⟨fun s src hv hu hb hd hr hok => ?set, fun s src hv hu hb hd hr hok => ?setStopped, fun s src hv hu hb hd hok => ?setInvalid,
    fun s src sub hv hu hb hd hval hc hlt => ?slew, fun s src sub hv hu hb hd hval hc hge => ?step, fun s src sub hv hu hb hd hval => ?corrInvalid,
    fun s src hv hu hb hd hn hst hlt hval => ?fwd, fun s src hv hu hb hd hn hst hge hlt hval => ?back,
    fun s src hv hu hb hd hn => ⟨taken hv hu hb hd (State.dstCmd_waiting _ hn), taken hv hu hb hd (State.dstCmd_waiting _ hn)⟩,
    fun s src hv hu hb hd hn => ⟨fun hst => taken hv hu hb hd (State.dstCmd_inState hn hst), fun hst => taken hv hu hb hd (State.dstCmd_inState hn hst)⟩,
    fun s src hv hu hb hd hslew hsrc hlo hhi hm hval => ?meas, fun s src hv hu hb hd h => ?measRefused, fun s src hv hu hb hd => ?measstop,
    fun s src hv hu hb hd => ?waiting, fun s src hv hu => ?unreachable⟩
  case set => exact taken hv hu hb hd (State.rtcSet_running hok hr)
  case setStopped => exact taken hv hu hb hd (State.rtcSet_stopped hok hr)
  case setInvalid => exact taken hv hu hb hd (State.rtcSet_invalid hok)
  case slew => exact taken hv hu hb hd ((State.rtcCorr_valid hval hc).trans (if_pos hlt))
  case step => exact taken hv hu hb hd ((State.rtcCorr_valid hval hc).trans (if_neg (Nat.not_lt.mpr hge)))
  case corrInvalid => exact taken hv hu hb hd (State.rtcCorr_invalid hval)
  case fwd =>
    refine taken hv hu hb hd (State.dstCmd_taken hn (ne_true_of_eq_false hst) ⟨?_, ?_⟩ hval)
    · rw [if_pos rfl]; omega
    · rw [if_pos rfl]; omega
  case back =>
    refine taken hv hu hb hd (State.dstCmd_taken hn (by rw [hst]; exact Bool.noConfusion) ⟨?_, ?_⟩ hval)
    · rw [if_neg Bool.noConfusion]; omega
    · rw [if_neg Bool.noConfusion]; omega
  case meas => exact taken hv hu hb hd (State.measStart_taken hslew hsrc hlo hhi hm hval)
  case measRefused => exact taken hv hu hb hd (State.measStart_refused h)
  case measstop => exact taken hv hu hb hd rfl
  case waiting =>
    have waits (k : State → State) : (Host.Outcome.next (s.rtcCmd src.toNat k) : Host.Outcome State Fault Refusal) =
        .next ((s.rtcReason 1).setRf aRTC_BSTAT 0 0 1) := congrArg _ (State.rtcCmd_waiting hv hu hb k hd)
    simp only [List.forall_mem_cons, List.not_mem_nil, false_implies, implies_true, and_true]
    exact ⟨waits _, waits _, waits _, waits _, waits _, waits _⟩
  case unreachable =>
    have refuses (k : State → State) : (Host.Outcome.next (s.rtcCmd src.toNat k) : Host.Outcome State Fault Refusal) =
        .next (s.refuse src.toNat (farSpace src.toNat) aRTC_CMD 3) := congrArg _ (State.farWrite_unreachable _ _ hv hu)
    simp only [List.forall_mem_cons, List.not_mem_nil, false_implies, implies_true, and_true]
    exact ⟨refuses _, refuses _, refuses _, refuses _, refuses _, refuses _⟩

end Sys2Proof.Machine
end

section
/-!
PROOFS. The commits of switch, queues and mover, the station tick and the heartbeat (spec/07 R210 to R236).
-/
namespace Sys2Proof.Machine

section
variable {s : State}

/-! ### The commits at a tick -/

section
variable (hp : s.rb aSW_COMMIT 1 = true)
include hp

theorem State.swApply_refused {r p k : Nat} (hc : s.swCheck = some (r, p, k)) : s.swApply =
    ((s.setReg aSW_COMMIT 0).setReg aSW_COMMIT_STAT (BitVec.ofNat 32 (p * 65536 + k * 256 + r))).swEvent 8 := by
  rw [State.swApply, if_pos hp, hc]
theorem State.swApply_taken (hc : s.swCheck = none) :
    s.swApply = ((((s.setReg aSW_COMMIT 0).swTake).setReg aSW_COMMIT_STAT 0).swEvent 8) := by
  rw [State.swApply, if_pos hp, hc]

end

section
variable (hp : s.rb aQM_COMMIT 1 = true)
include hp

theorem State.queueApply_refused (hc : s.queueCheck ≠ 0) :
    s.queueApply = (s.setReg aQM_COMMIT 0).setReg aQM_STAT (BitVec.ofNat 32 s.queueCheck) := by
  rw [State.queueApply, if_pos hp, if_pos hc]
theorem State.queueApply_taken (hc : s.queueCheck = 0) :
    let s0 := (s.setReg aQM_COMMIT 0).setReg aQM_STAT 0
    let qs := s0.queuesListed.filter (fun q => (List.range 4).any (fun i => s0.differs (aQM_Q0 q + 4 * i)) || (s0.waitAt (aQM_Q0 q)).isSome)
    s.queueApply = ((qs.foldl State.queueTake s0).moveBlock 0xF00000 0xF80000).untouch 0xF00000 0xF80000 := by
  rw [State.queueApply, if_pos hp, if_neg (not_not.mpr hc), hc]
  exact rfl

end

section
variable (hp : s.rb aMOV_COMMIT 1 = true)
include hp

theorem State.movApply_refused (hc : s.movCheck s.movCandidate ≠ 0) :
    s.movApply = (s.setReg aMOV_COMMIT 0).setReg aMOV_STAT (BitVec.ofNat 32 (s.movCheck s.movCandidate)) := by
  rw [State.movApply, if_pos hp, if_pos hc]
theorem State.movApply_taken (hc : s.movCheck s.movCandidate = 0) :
    let s1 := ((s.setReg aMOV_COMMIT 0).setReg aMOV_STAT 0).movCandidate.stiTake
    let f := s1.rf aMOV_DEV_RANGE 15 0
    let n := s1.rf aMOV_DEV_RANGE 31 16
    s.movApply = ((s1.descsFollow f n).untouch (aMD_0 f) (aMD_0 (f + n))).untouch 0x500000 0x510000 := by
  rw [State.movApply, if_pos hp, if_neg (not_not.mpr hc), hc]
  exact rfl

end

/-! ### The station unit -/

/-- The heartbeat goes out when none was sent for 100 µs, and counts on a die link that is up. -/
theorem exec_heartbeatSend_due {dt : Nat} (hu : (s.elapse dt).stationUp = true)
    (hdue : ∀ t, (s.elapse dt).hbSent = some t → t + 80000 ≤ (s.elapse dt).fab) :
    exec (.heartbeatSend dt) s = .next { s.elapse dt with
      hbSent := some (s.elapse dt).fab
      hbLink := if (s.elapse dt).rb aFIO_BSTAT 1 then (s.elapse dt).hbLink else (s.elapse dt).hbLink + 1 } := by
  refine congrArg Host.Outcome.next (if_pos ⟨hu, ?_⟩)
  cases hs : (s.elapse dt).hbSent with
  | none => rfl
  | some t => exact decide_eq_true (hdue t hs)
theorem exec_heartbeatSend_early {dt t : Nat} (hs : (s.elapse dt).hbSent = some t) (hn : ¬ t + 80000 ≤ (s.elapse dt).fab) :
    exec (.heartbeatSend dt) s = .next (s.elapse dt) := by
  refine congrArg Host.Outcome.next (if_neg fun h => hn ?_)
  have hdue := h.2
  rw [hs] at hdue
  exact of_decide_eq_true hdue

theorem exec_stationTick_due {g : BitVec 4} {dt : Nat} (hm : (s.elapse dt).moverUp = true) (ht : (s.elapse dt).onTick = true)
    (hj : (s.elapse dt).merMark.toNat < (s.elapse dt).grid.toNat) (hg : (s.elapse dt).groupGrid g.toNat (s.elapse dt).grid = true) :
    exec (.stationTick g dt) s = .next ((s.elapse dt).stationTick g.toNat) := by
  have hall : ((s.elapse dt).moverUp && (s.elapse dt).onTick && decide ((s.elapse dt).merMark.toNat < (s.elapse dt).grid.toNat)
      && (s.elapse dt).groupGrid g.toNat (s.elapse dt).grid) = true := by
    rw [hm, ht, decide_eq_true hj, hg]; rfl
  exact congrArg Host.Outcome.next (if_pos hall)

/-! ### The station range -/

section
variable {src : BitVec 10} {d : W} (hv : isVf src.toNat = false)
include hv

theorem exec_movDevRangeWrite_pending (hp : s.rb aMOV_COMMIT 1 = false) (hend : fld d 31 16 + fld d 15 0 ≤ 61440) (hn : fld d 31 16 ≤ 4096) :
    exec (.movDevRangeWrite src d) s =
      .next { s.setPnd aMOV_DEV_RANGE d with touched := FMap.set (fun _ => false) s.touched aMOV_DEV_RANGE true } := by
  have hfits : ¬ (61440 < fld d 31 16 + fld d 15 0 ∨ 4096 < fld d 31 16) := by omega
  exact congrArg Host.Outcome.next
    ((if_neg (ne_true_of_eq_false hv)).trans ((if_neg (ne_true_of_eq_false hp)).trans (if_neg hfits)))
theorem exec_movDevRangeWrite_shut (hp : s.rb aMOV_COMMIT 1 = true) :
    exec (.movDevRangeWrite src d) s = .next (s.refuse src.toNat (accSpace src.toNat) aMOV_DEV_RANGE 4) :=
  congrArg Host.Outcome.next ((if_neg (ne_true_of_eq_false hv)).trans (if_pos hp))

end

end

/-- Settles O48: the GO commands and the four commits, the station range and the station unit by their branches.
`witness_NetworkAndMoverCommitsResult` meets the premises. -/
theorem networkAndMoverCommitsResult : Obligations.NetworkAndMoverCommitsResult := by
  unfold Obligations.NetworkAndMoverCommitsResult
  refine ⟨fun s src hv => ?_, fun s src hv => ?_, fun s src hv => ?_, fun s src hv => ?vf, fun s dt r p k ht hp hc => ?swRefused,
    fun s dt ht hp hc => ?swTaken, fun s dt ht hp hc => ?qRefused, fun s dt ht hp hc => ?qTaken, fun s dt hp hc => ?mRefused,
    fun s dt hp hc => ?mTaken, fun s port dt => rfl, fun s src d hv hp hend hn => exec_movDevRangeWrite_pending hv hp hend hn,
    fun s src d hv hp => exec_movDevRangeWrite_shut hv hp, fun s dt g hm ht hj hg => exec_stationTick_due hm ht hj hg,
    fun s dt t hu hs hdue => ?beat, fun s dt hu hs => ?first, fun s dt t hs hn => exec_heartbeatSend_early hs hn⟩
  case vf =>
    simp only [List.forall_mem_cons, List.not_mem_nil, false_implies, implies_true, and_true]
    exact ⟨congrArg _ (if_pos hv), congrArg _ (if_pos hv), congrArg _ (if_pos hv), congrArg _ (if_pos hv), congrArg _ (if_pos hv)⟩
  case swRefused => exact congrArg Host.Outcome.next ((if_pos ht).trans (State.swApply_refused hp hc))
  case swTaken => exact congrArg Host.Outcome.next ((if_pos ht).trans (State.swApply_taken hp hc))
  case qRefused => exact congrArg Host.Outcome.next ((if_pos ht).trans (State.queueApply_refused hp hc))
  case qTaken => exact congrArg Host.Outcome.next ((if_pos ht).trans (State.queueApply_taken hp hc))
  case mRefused => exact congrArg Host.Outcome.next (State.movApply_refused hp hc)
  case mTaken => exact congrArg Host.Outcome.next (State.movApply_taken hp hc)
  case beat => exact exec_heartbeatSend_due hu (fun t' ht' => by rw [hs] at ht'; cases ht'; exact hdue)
  case first => exact exec_heartbeatSend_due hu (fun t' ht' => by rw [hs] at ht'; cases ht')
  · exact congrArg Host.Outcome.next (if_neg (ne_true_of_eq_false hv))
  · exact congrArg Host.Outcome.next (if_neg (ne_true_of_eq_false hv))
  · exact congrArg Host.Outcome.next (if_neg (ne_true_of_eq_false hv))

end Sys2Proof.Machine
end

section
/-!
PROOFS. Planned swaps, the commands of `RU_CMD` and the redundancy commit (spec/08 R237 to R274).
-/
namespace Sys2Proof.Machine

/-! ### The commands of `RU_CMD` -/

section
variable {s : State} {src : Nat} (code : Nat) (hv : isVf src = false)
include hv

theorem State.ruCmd_busy (hb : s.rb aRU_CMD_STAT 0 = true) : s.ruCmd src code = s.setRf aRU_CMD_STAT 23 16 5 :=
  (if_neg (ne_true_of_eq_false hv)).trans (if_pos hb)
/-- A command with BUSY 0 and no management pause: REASON 0xFF without the supervisor. -/
theorem State.ruCmd_idle (hb : s.rb aRU_CMD_STAT 0 = false) (hm : s.mgmt = false) :
    s.ruCmd src code = if s.supRun = false then s.endRu 0xFF else s.ruDo code :=
  (if_neg (ne_true_of_eq_false hv)).trans ((if_neg (ne_true_of_eq_false hb)).trans (if_neg (ne_true_of_eq_false hm)))
theorem State.ruCmd_done (hb : s.rb aRU_CMD_STAT 0 = false) (hm : s.mgmt = false) (hs : s.supRun = true) : s.ruCmd src code = s.ruDo code := by
  rw [State.ruCmd_idle code hv hb hm, if_neg (by rw [hs]; exact Bool.noConfusion)]
theorem State.ruCmd_unsupervised (hb : s.rb aRU_CMD_STAT 0 = false) (hm : s.mgmt = false) (hs : s.supRun = false) :
    s.ruCmd src code = s.endRu 0xFF := by
  rw [State.ruCmd_idle code hv hb hm, if_pos hs]

end

section
variable (s : State)

theorem State.ruDo_swap : s.ruDo 1 = s.beginSwap := rfl
theorem State.ruDo_resync : s.ruDo 2 =
    if s.ruRole = 5 then s.toSync.endRu 0 else if s.ruRole = 4 then (s.askResync 0x3FF).endRu 0 else s.endRu 1 := rfl
theorem State.ruDo_rejoin : s.ruDo 3 = if s.ruRole = 6 then (s.setRole 1).endRu 0 else s.endRu 1 := rfl
theorem State.ruDo_leave : s.ruDo 4 =
    if s.ruRole = 3 then ((s.setRole 1).sendLease 5 s.ruEpoch false 0).endRu 0 else if s.ruRole = 5 then (s.goLeft 4).endRu 0 else s.endRu 1 := rfl
theorem State.ruDo_take : s.ruDo 5 =
    if s.comm ∧ s.ruRole = 1 then { s with ru := { s.ru with take := true, takeAt := s.fab } }.endRu 0 else s.endRu 4 := rfl

variable {s}

theorem State.beginSwap_waits (h : s.swapRefusal = 0) : s.beginSwap = { s.busyRu with ru := { s.ru with swapFrom := some s.fab } } := if_pos h
/-- A member that is neither ACTIVE nor STANDBY begins no swap. -/
theorem State.beginSwap_otherRole (h3 : s.ruRole ≠ 3) (h5 : s.ruRole ≠ 5) : s.beginSwap = (s.endRu 1).ruEvent 0x20 := by
  have hr : s.swapRefusal = 1 := if_pos ⟨h3, h5⟩
  rw [State.beginSwap, hr]
  rfl

/-! ### The redundancy commit -/

section
variable (hp : s.rb aRU_COMMIT 1 = true)
include hp

theorem State.ruApply_refused (hc : s.ruCheck s.ruCandidate ≠ 0) :
    s.ruApply = ((s.setReg aRU_COMMIT 0).setReg aRU_STAT (BitVec.ofNat 32 (s.ruCheck s.ruCandidate))).ruEvent 0x80 := by
  rw [State.ruApply, if_pos hp, if_pos hc]
/-- A commit that passes and leaves an ACTIVE member enabled applies without a release. -/
theorem State.ruApply_taken (hc : s.ruCheck s.ruCandidate = 0) (hm : s.ruRole ≠ 3 ∨ s.ruCandidate.member = true) :
    let s2 := ((s.setReg aRU_COMMIT 0).setReg aRU_STAT 0).ruCandidate
    let s3 := ((List.range 16).filter (fun k => s.wasTouched (aWT_0 k) || s.wasTouched (aWT_1 k))).foldl State.witHush s2
    s.ruApply = (((((s3.stepsFollow s).roleFollows s).rangesFollow s).refreshPair).untouch 0xD0000 0xE0000).ruEvent 0x80 := by
  have hkeeps : ¬ (s.ruRole = 3 ∧ s.ruCandidate.member = false) := by
    rintro ⟨h3, hf⟩
    exact hm.elim (fun h => h h3) (fun h => Bool.false_ne_true (hf.symm.trans h))
  rw [State.ruApply, if_pos hp, if_neg (not_not.mpr hc), if_neg hkeeps, hc]
  exact rfl

end

end

/-- Settles O51: the command passes BUSY, the pause and the supervisor, then goes by its code and the role; the waits of a swap and the
commit by their branches.
`witness_SwapCommandsAndRedundancyCommitResult` meets the premises. -/
theorem swapCommandsAndRedundancyCommitResult : Obligations.SwapCommandsAndRedundancyCommitResult := by
  unfold Obligations.SwapCommandsAndRedundancyCommitResult
  have done {s t : State} {src : BitVec 10} {code : Nat} (hv : isVf src.toNat = false) (hb : s.rb aRU_CMD_STAT 0 = false) (hm : s.mgmt = false)
      (hs : s.supRun = true) (ht : s.ruDo code = t) : (Host.Outcome.next (s.ruCmd src.toNat code) : Host.Outcome State Fault Refusal) = .next t :=
    congrArg _ ((State.ruCmd_done code hv hb hm hs).trans ht)
  refine ⟨fun s src hv hb hm hs hr => ?swap, fun s src hv hb hm hs h3 h5 => ?noSwap, fun s src hv hb hm hs => ?resync, fun s src hv hb hm hs => ?rejoin,
    fun s src hv hb hm hs => ?leave, fun s src hv hb hm hs => ?take, fun s src hv hb => ?busy, fun s src hv hb hm hs => ?unsupervised,
    fun s dt hrole hcomm hn hb hold htry => ?timer, fun s dt hrole hfrom hat ht => ?boundary, fun s dt t0 hf ht => ?noBoundary,
    fun s dt t0 hto ht => ?noActive, fun s src hv => ?go, fun s dt ht hp hc => ?refused, fun s dt ht hp hc hm => ?taken⟩
  case swap => exact done hv hb hm hs (s.ruDo_swap.trans (State.beginSwap_waits hr))
  case noSwap => exact done hv hb hm hs (s.ruDo_swap.trans (State.beginSwap_otherRole h3 h5))
  case resync =>
    refine ⟨fun h5 => done hv hb hm hs ?_, fun h4 => done hv hb hm hs ?_, fun h5 h4 => done hv hb hm hs ?_⟩
    · rw [State.ruDo_resync, if_pos h5]
    · rw [State.ruDo_resync, if_neg (by rw [h4]; decide), if_pos h4]
    · rw [State.ruDo_resync, if_neg h5, if_neg h4]
  case rejoin =>
    exact ⟨fun h6 => done hv hb hm hs (s.ruDo_rejoin.trans (if_pos h6)), fun h6 => done hv hb hm hs (s.ruDo_rejoin.trans (if_neg h6))⟩
  case leave =>
    refine ⟨fun h3 => done hv hb hm hs ?_, fun h5 => done hv hb hm hs ?_, fun h3 h5 => done hv hb hm hs ?_⟩
    · rw [State.ruDo_leave, if_pos h3]
    · rw [State.ruDo_leave, if_neg (by rw [h5]; decide), if_pos h5]
    · rw [State.ruDo_leave, if_neg h3, if_neg h5]
  case take =>
    refine ⟨fun hc h1 => done hv hb hm hs (s.ruDo_take.trans (if_pos ⟨hc, h1⟩)), fun h => done hv hb hm hs (s.ruDo_take.trans (if_neg ?_))⟩
    rintro ⟨hc, h1⟩
    exact h.elim (fun hf => Bool.false_ne_true (hf.symm.trans hc)) (fun hne => hne h1)
  case busy =>
    have busy (code : Nat) : (Host.Outcome.next (s.ruCmd src.toNat code) : Host.Outcome State Fault Refusal) = .next (s.setRf aRU_CMD_STAT 23 16 5) :=
      congrArg _ (State.ruCmd_busy code hv hb)
    simp only [List.forall_mem_cons, List.not_mem_nil, false_implies, implies_true, and_true]
    exact ⟨busy 1, busy 2, busy 3, busy 4, busy 5⟩
  case unsupervised =>
    have ends (code : Nat) : (Host.Outcome.next (s.ruCmd src.toNat code) : Host.Outcome State Fault Refusal) = .next (s.endRu 0xFF) :=
      congrArg _ (State.ruCmd_unsupervised code hv hb hm hs)
    simp only [List.forall_mem_cons, List.not_mem_nil, false_implies, implies_true, and_true]
    exact ⟨ends 1, ends 2, ends 3, ends 4, ends 5⟩
  case timer => exact congrArg Host.Outcome.next (if_pos ⟨hrole, hcomm, hn, hb, hold, htry⟩)
  case boundary => exact congrArg Host.Outcome.next (if_pos ⟨hrole, hfrom, hat, ht⟩)
  case noBoundary =>
    refine congrArg Host.Outcome.next ?_
    rw [hf]
    exact if_pos ht
  case noActive =>
    refine congrArg Host.Outcome.next ?_
    rw [hto]
    exact if_pos ht
  case go => exact congrArg Host.Outcome.next (if_neg (ne_true_of_eq_false hv))
  case refused => exact congrArg Host.Outcome.next ((if_pos ht).trans (congrArg _ (State.ruApply_refused hp hc)))
  case taken => exact congrArg Host.Outcome.next ((if_pos ht).trans (congrArg _ (State.ruApply_taken hp hc hm)))

end Sys2Proof.Machine
end

section
/-!
PROOFS. The stores, the registers and the pending values in canonical form (R37, R168, log 189): a rule for each operation of the model, in
the order of the model's files, and from them that every step keeps the form.
-/
namespace Sys2Proof.Machine

/-- The stores, the registers and the pending values of `s` are canonical: `Canonical` under a name that is not an abbreviation, so that two
states are compared before their three maps are. -/
def HasForm (s : State) : Prop := Canonical s

/-! ### The operations on the three maps -/

section
variable {s : State}

theorem form_setReg (a : Nat) (v : W) (hs : HasForm s) : HasForm (s.setReg a v) := canonical_setReg a v hs
theorem form_setPnd (a : Nat) (v : W) (hs : HasForm s) : HasForm (s.setPnd a v) := canonical_setPnd a v hs
theorem form_setRf (a hi lo v : Nat) (hs : HasForm s) : HasForm (s.setRf a hi lo v) := canonical_setRf a hi lo v hs
theorem form_setReg64 (a : Nat) (v : W64) (hs : HasForm s) : HasForm (s.setReg64 a v) := canonical_setReg64 a v hs
theorem form_count (a : Nat) (hs : HasForm s) : HasForm (s.count a) := canonical_count a hs
theorem form_advance (a : Nat) (hs : HasForm s) : HasForm (s.advance a) := canonical_advance a hs
theorem form_applyPnd (a : Nat) (hs : HasForm s) : HasForm (s.applyPnd a) := canonical_applyPnd a hs
theorem form_applyMany (a st n : Nat) (hs : HasForm s) : HasForm (s.applyMany a st n) := canonical_applyMany a st n hs
theorem form_applyRange (lo hi : Nat) (hs : HasForm s) : HasForm (s.applyRange lo hi) := canonical_applyRange lo hi hs
theorem form_zeroRegs (l : List Nat) (hs : HasForm s) : HasForm (s.zeroRegs l) := canonical_zeroRegs l hs
theorem form_setRegFor (src a : Nat) (v : W) (hs : HasForm s) : HasForm (s.setRegFor src a v) := canonical_setRegFor src a v hs
theorem form_markRetp (a : Nat) (hs : HasForm s) : HasForm (s.markRetp a) := canonical_markRetp a hs
theorem form_wrBytes (a : Nat) (l : List Byte) (hs : HasForm s) : HasForm (s.wrBytes a l) := canonical_wrBytes a l hs
theorem form_wrMem (a : Nat) (w : W) (hs : HasForm s) : HasForm (s.wrMem a w) := canonical_wrMem a w hs
theorem form_clearPage (k n : Nat) (hs : HasForm s) : HasForm (s.clearPage k n) := canonical_clearPage k n hs
theorem form_clearPart (p : Nat) (hs : HasForm s) : HasForm (s.clearPart p) := canonical_clearPart p hs
theorem form_noteReset (b : Nat) (hs : HasForm s) : HasForm (s.noteReset b) := canonical_noteReset b hs
theorem form_foldl {α : Type} (f : State → α → State) (hf : ∀ u a, HasForm u → HasForm (f u a)) (l : List α) (hs : HasForm s) :
    HasForm (l.foldl f s) := canonical_foldl f hf l hs
theorem form_pair_fst {α : Type} {x : α} (hs : HasForm s) : HasForm (s, x).1 := hs

end

/-! ### Choices, folds and outcomes -/

theorem form_ite {c : Prop} {_ : Decidable c} {s t : State} (hs : HasForm s) (ht : HasForm t) : HasForm (if c then s else t) := by
  split
  · exact hs
  · exact ht
theorem form_ite_fst {α : Type} {c : Prop} {_ : Decidable c} {r q : State × α} (hr : HasForm r.1) (hq : HasForm q.1) :
    HasForm (if c then r else q).1 := by
  split
  · exact hr
  · exact hq
/-- A fold that carries a value beside the state. -/
theorem form_foldl_fst {α β : Type} (f : State × β → α → State × β) (hf : ∀ r a, HasForm r.1 → HasForm (f r a).1) (l : List α)
    {r : State × β} (h : HasForm r.1) : HasForm (l.foldl f r).1 := by
  induction l generalizing r with
  | nil => exact h
  | cons a l ih => exact ih (hf r a h)

/-- The next state that a meaning answers has the canonical form. -/
def KeepsForm (o : Host.Outcome State Fault Refusal) : Prop := ∀ t, o = .next t → HasForm t
theorem keepsForm_next {t : State} (h : HasForm t) : KeepsForm (.next t) := fun _ heq => Host.Outcome.next.inj heq ▸ h
theorem form_ran {s : State} {o : Host.Outcome State Fault Refusal} (h : HasForm s) (ho : KeepsForm o) : HasForm (ran s o) := by
  unfold ran
  split
  · exact ho _ rfl
  · exact h
theorem keepsForm_ite {c : Prop} {_ : Decidable c} {o q : Host.Outcome State Fault Refusal} (ho : KeepsForm o) (hq : KeepsForm q) :
    KeepsForm (if c then o else q) := by
  split
  · exact ho
  · exact hq

/-! ### Fields beside the three maps

An update of other fields keeps the form: one rule for each group of fields that an operation of the model updates at once. -/

theorem form_with_aliveStop {s} {v} (hs : HasForm s) : HasForm { s with aliveStop := v } := hs
theorem form_with_auEnd {s} {v} (hs : HasForm s) : HasForm { s with auEnd := v } := hs
theorem form_with_auExch {s} {v} (hs : HasForm s) : HasForm { s with auExch := v } := hs
theorem form_with_auFails {s} {v} (hs : HasForm s) : HasForm { s with auFails := v } := hs
theorem form_with_auFails_auLevel_auExch {s} {v0 v1 v2} (hs : HasForm s) :
    HasForm { s with auFails := v0, auLevel := v1, auExch := v2 } := hs
theorem form_with_auFails_auLevel_auLock {s} {v0 v1 v2} (hs : HasForm s) :
    HasForm { s with auFails := v0, auLevel := v1, auLock := v2 } := hs
theorem form_with_auKeys {s} {v} (hs : HasForm s) : HasForm { s with auKeys := v } := hs
theorem form_with_auKeys_auWrites {s} {v0 v1} (hs : HasForm s) : HasForm { s with auKeys := v0, auWrites := v1 } := hs
theorem form_with_auLock {s} {v} (hs : HasForm s) : HasForm { s with auLock := v } := hs
theorem form_with_auSlot_auEnd {s} {v0 v1} (hs : HasForm s) : HasForm { s with auSlot := v0, auEnd := v1 } := hs
theorem form_with_bad {s} {v} (hs : HasForm s) : HasForm { s with bad := v } := hs
theorem form_with_blkRst {s} {v} (hs : HasForm s) : HasForm { s with blkRst := v } := hs
theorem form_with_bootFails {s} {v} (hs : HasForm s) : HasForm { s with bootFails := v } := hs
theorem form_with_bootFails_rstNote {s} {v0 v1} (hs : HasForm s) : HasForm { s with bootFails := v0, rstNote := v1 } := hs
theorem form_with_bootRec {s} {v} (hs : HasForm s) : HasForm { s with bootRec := v } := hs
theorem form_with_bucket {s} {v} (hs : HasForm s) : HasForm { s with bucket := v } := hs
theorem form_with_bucket_seqs {s} {v0 v1} (hs : HasForm s) : HasForm { s with bucket := v0, seqs := v1 } := hs
theorem form_with_cadSaving {s} {v} (hs : HasForm s) : HasForm { s with cadSaving := v } := hs
theorem form_with_cadSaving_cadSaved_cadLast {s} {v0 v1 v2} (hs : HasForm s) :
    HasForm { s with cadSaving := v0, cadSaved := v1, cadLast := v2 } := hs
theorem form_with_cans {s} {v} (hs : HasForm s) : HasForm { s with cans := v } := hs
theorem form_with_cntSaved {s} {v} (hs : HasForm s) : HasForm { s with cntSaved := v } := hs
theorem form_with_colSent_fltMsg {s} {v0 v1} (hs : HasForm s) : HasForm { s with colSent := v0, fltMsg := v1 } := hs
theorem form_with_cu {s} {v} (hs : HasForm s) : HasForm { s with cu := v } := hs
theorem form_with_dirty {s} {v} (hs : HasForm s) : HasForm { s with dirty := v } := hs
theorem form_with_dirty_ruForced {s} {v0 v1} (hs : HasForm s) : HasForm { s with dirty := v0, ruForced := v1 } := hs
theorem form_with_dtBad {s} {v} (hs : HasForm s) : HasForm { s with dtBad := v } := hs
theorem form_with_dumpPend {s} {v} (hs : HasForm s) : HasForm { s with dumpPend := v } := hs
theorem form_with_dumpPend_dumpNew {s} {v0 v1} (hs : HasForm s) : HasForm { s with dumpPend := v0, dumpNew := v1 } := hs
theorem form_with_engRst {s} {v} (hs : HasForm s) : HasForm { s with engRst := v } := hs
theorem form_with_engs {s} {v} (hs : HasForm s) : HasForm { s with engs := v } := hs
theorem form_with_evAccess {s} {v} (hs : HasForm s) : HasForm { s with evAccess := v } := hs
theorem form_with_evBkt {s} {v} (hs : HasForm s) : HasForm { s with evBkt := v } := hs
theorem form_with_evBuf {s} {v} (hs : HasForm s) : HasForm { s with evBuf := v } := hs
theorem form_with_evBuf_evUnw {s} {v0 v1} (hs : HasForm s) : HasForm { s with evBuf := v0, evUnw := v1 } := hs
theorem form_with_evBuf_evUnw_evLost {s} {v0 v1 v2} (hs : HasForm s) : HasForm { s with evBuf := v0, evUnw := v1, evLost := v2 } := hs
theorem form_with_evLost {s} {v} (hs : HasForm s) : HasForm { s with evLost := v } := hs
theorem form_with_evPass {s} {v} (hs : HasForm s) : HasForm { s with evPass := v } := hs
theorem form_with_evPass_evLost {s} {v0 v1} (hs : HasForm s) : HasForm { s with evPass := v0, evLost := v1 } := hs
theorem form_with_evPass_pfHold_evLost {s} {v0 v1 v2} (hs : HasForm s) : HasForm { s with evPass := v0, pfHold := v1, evLost := v2 } := hs
theorem form_with_evStage {s} {v} (hs : HasForm s) : HasForm { s with evStage := v } := hs
theorem form_with_evStore_evUnw {s} {v0 v1} (hs : HasForm s) : HasForm { s with evStore := v0, evUnw := v1 } := hs
theorem form_with_evUnw {s} {v} (hs : HasForm s) : HasForm { s with evUnw := v } := hs
theorem form_with_evUnw_evLost {s} {v0 v1} (hs : HasForm s) : HasForm { s with evUnw := v0, evLost := v1 } := hs
theorem form_with_fPause_nvBlock {s} {v0 v1} (hs : HasForm s) : HasForm { s with fPause := v0, nvBlock := v1 } := hs
theorem form_with_fPh {s} {v} (hs : HasForm s) : HasForm { s with fPh := v } := hs
theorem form_with_fPh_opt_bootFault {s} {v0 v1 v2} (hs : HasForm s) : HasForm { s with fPh := v0, opt := v1, bootFault := v2 } := hs
theorem form_with_fRec {s} {v} (hs : HasForm s) : HasForm { s with fRec := v } := hs
theorem form_with_fatalLine {s} {v} (hs : HasForm s) : HasForm { s with fatalLine := v } := hs
theorem form_with_fatalSrc_fatalRegs_fatalPages {s} {v0 v1 v2} (hs : HasForm s) :
    HasForm { s with fatalSrc := v0, fatalRegs := v1, fatalPages := v2 } := hs
theorem form_with_fio {s} {v} (hs : HasForm s) : HasForm { s with fio := v } := hs
theorem form_with_fioHeld {s} {v} (hs : HasForm s) : HasForm { s with fioHeld := v } := hs
theorem form_with_fioLink {s} {v} (hs : HasForm s) : HasForm { s with fioLink := v } := hs
theorem form_with_fioLink_fPause_nvBlock {s} {v0 v1 v2} (hs : HasForm s) :
    HasForm { s with fioLink := v0, fPause := v1, nvBlock := v2 } := hs
theorem form_with_fltNew {s} {v} (hs : HasForm s) : HasForm { s with fltNew := v } := hs
theorem form_with_fnMask {s} {v} (hs : HasForm s) : HasForm { s with fnMask := v } := hs
theorem form_with_forceHist {s} {v} (hs : HasForm s) : HasForm { s with forceHist := v } := hs
theorem form_with_fresh {s} {v} (hs : HasForm s) : HasForm { s with fresh := v } := hs
theorem form_with_gateNew {s} {v} (hs : HasForm s) : HasForm { s with gateNew := v } := hs
theorem form_with_hbLink {s} {v} (hs : HasForm s) : HasForm { s with hbLink := v } := hs
theorem form_with_hbLink_hbSent {s} {v0 v1} (hs : HasForm s) : HasForm { s with hbLink := v0, hbSent := v1 } := hs
theorem form_with_hbRun {s} {v} (hs : HasForm s) : HasForm { s with hbRun := v } := hs
theorem form_with_hbRun_lastHb_hbLink {s} {v0 v1 v2} (hs : HasForm s) : HasForm { s with hbRun := v0, lastHb := v1, hbLink := v2 } := hs
theorem form_with_hbSent {s} {v} (hs : HasForm s) : HasForm { s with hbSent := v } := hs
theorem form_with_held {s} {v} (hs : HasForm s) : HasForm { s with held := v } := hs
theorem form_with_lastOut {s} {v} (hs : HasForm s) : HasForm { s with lastOut := v } := hs
theorem form_with_latch {s} {v} (hs : HasForm s) : HasForm { s with latch := v } := hs
theorem form_with_latch_fnMask_vecMask_vecPend {s} {v0 v1 v2 v3} (hs : HasForm s) :
    HasForm { s with latch := v0, fnMask := v1, vecMask := v2, vecPend := v3 } := hs
theorem form_with_latch_fnMask_vecMask_vecPend_vfEnable_numVfs {s} {v0 v1 v2 v3 v4 v5} (hs : HasForm s) :
    HasForm { s with latch := v0, fnMask := v1, vecMask := v2, vecPend := v3, vfEnable := v4, numVfs := v5 } := hs
theorem form_with_lines {s} {v} (hs : HasForm s) : HasForm { s with lines := v } := hs
theorem form_with_localF {s} {v} (hs : HasForm s) : HasForm { s with localF := v } := hs
theorem form_with_lpg {s} {v} (hs : HasForm s) : HasForm { s with lpg := v } := hs
theorem form_with_meas {s} {v} (hs : HasForm s) : HasForm { s with meas := v } := hs
theorem form_with_mer {s} {v} (hs : HasForm s) : HasForm { s with mer := v } := hs
theorem form_with_merCand {s} {v} (hs : HasForm s) : HasForm { s with merCand := v } := hs
theorem form_with_merDly {s} {v} (hs : HasForm s) : HasForm { s with merDly := v } := hs
theorem form_with_merLock {s} {v} (hs : HasForm s) : HasForm { s with merLock := v } := hs
theorem form_with_merMark {s} {v} (hs : HasForm s) : HasForm { s with merMark := v } := hs
theorem form_with_merReq {s} {v} (hs : HasForm s) : HasForm { s with merReq := v } := hs
theorem form_with_merSeq {s} {v} (hs : HasForm s) : HasForm { s with merSeq := v } := hs
theorem form_with_mer_fab {s} {v0 v1} (hs : HasForm s) : HasForm { s with mer := v0, fab := v1 } := hs
theorem form_with_mer_seedDue_coldRst_bootFault_aliveStop_clkStop {s} {v0 v1 v2 v3 v4 v5} (hs : HasForm s) :
    HasForm { s with mer := v0, seedDue := v1, coldRst := v2, bootFault := v3, aliveStop := v4, clkStop := v5 } := hs
theorem form_with_mirSeq_mirTurn {s} {v0 v1} (hs : HasForm s) : HasForm { s with mirSeq := v0, mirTurn := v1 } := hs
theorem form_with_modeWait {s} {v} (hs : HasForm s) : HasForm { s with modeWait := v } := hs
theorem form_with_mseqs {s} {v} (hs : HasForm s) : HasForm { s with mseqs := v } := hs
theorem form_with_mseqs_lastOut {s} {v0 v1} (hs : HasForm s) : HasForm { s with mseqs := v0, lastOut := v1 } := hs
theorem form_with_nvBad {s} {v} (hs : HasForm s) : HasForm { s with nvBad := v } := hs
theorem form_with_nvBlock {s} {v} (hs : HasForm s) : HasForm { s with nvBlock := v } := hs
theorem form_with_nvBlock_fPh {s} {v0 v1} (hs : HasForm s) : HasForm { s with nvBlock := v0, fPh := v1 } := hs
theorem form_with_nvQ {s} {v} (hs : HasForm s) : HasForm { s with nvQ := v } := hs
theorem form_with_nvQ_evBuf_evUnw {s} {v0 v1 v2} (hs : HasForm s) : HasForm { s with nvQ := v0, evBuf := v1, evUnw := v2 } := hs
theorem form_with_nvQ_pfLow_pfHold {s} {v0 v1 v2} (hs : HasForm s) : HasForm { s with nvQ := v0, pfLow := v1, pfHold := v2 } := hs
theorem form_with_nv_nvBad {s} {v0 v1} (hs : HasForm s) : HasForm { s with nv := v0, nvBad := v1 } := hs
theorem form_with_objCopy {s} {v} (hs : HasForm s) : HasForm { s with objCopy := v } := hs
theorem form_with_opAt {s} {v} (hs : HasForm s) : HasForm { s with opAt := v } := hs
theorem form_with_outbox {s} {v} (hs : HasForm s) : HasForm { s with outbox := v } := hs
theorem form_with_ownWait {s} {v} (hs : HasForm s) : HasForm { s with ownWait := v } := hs
theorem form_with_parts {s} {v} (hs : HasForm s) : HasForm { s with parts := v } := hs
theorem form_with_parts_spLast_spReply {s} {v0 v1 v2} (hs : HasForm s) : HasForm { s with parts := v0, spLast := v1, spReply := v2 } := hs
theorem form_with_pending {s} {v} (hs : HasForm s) : HasForm { s with pending := v } := hs
theorem form_with_pfLow {s} {v} (hs : HasForm s) : HasForm { s with pfLow := v } := hs
theorem form_with_ports {s} {v} (hs : HasForm s) : HasForm { s with ports := v } := hs
theorem form_with_posted {s} {v} (hs : HasForm s) : HasForm { s with posted := v } := hs
theorem form_with_ppsAt {s} {v} (hs : HasForm s) : HasForm { s with ppsAt := v } := hs
theorem form_with_ppsOut {s} {v} (hs : HasForm s) : HasForm { s with ppsOut := v } := hs
theorem form_with_ppsOut_ppsSec {s} {v0 v1} (hs : HasForm s) : HasForm { s with ppsOut := v0, ppsSec := v1 } := hs
theorem form_with_qTurn {s} {v} (hs : HasForm s) : HasForm { s with qTurn := v } := hs
theorem form_with_queues {s} {v} (hs : HasForm s) : HasForm { s with queues := v } := hs
theorem form_with_retCopy {s} {v} (hs : HasForm s) : HasForm { s with retCopy := v } := hs
theorem form_with_retList {s} {v} (hs : HasForm s) : HasForm { s with retList := v } := hs
theorem form_with_rstNote {s} {v} (hs : HasForm s) : HasForm { s with rstNote := v } := hs
theorem form_with_rtcDst {s} {v} (hs : HasForm s) : HasForm { s with rtcDst := v } := hs
theorem form_with_rtcFold {s} {v} (hs : HasForm s) : HasForm { s with rtcFold := v } := hs
theorem form_with_rtcRun {s} {v} (hs : HasForm s) : HasForm { s with rtcRun := v } := hs
theorem form_with_rtcSec_rtcSub {s} {v0 v1} (hs : HasForm s) : HasForm { s with rtcSec := v0, rtcSub := v1 } := hs
theorem form_with_rtcSec_rtcSub_rtcFold_rtcSetDue {s} {v0 v1 v2 v3} (hs : HasForm s) :
    HasForm { s with rtcSec := v0, rtcSub := v1, rtcFold := v2, rtcSetDue := v3 } := hs
theorem form_with_rtcSec_rtcSub_rtcRun {s} {v0 v1 v2} (hs : HasForm s) : HasForm { s with rtcSec := v0, rtcSub := v1, rtcRun := v2 } := hs
theorem form_with_rtcSetDue {s} {v} (hs : HasForm s) : HasForm { s with rtcSetDue := v } := hs
theorem form_with_rtcSub {s} {v} (hs : HasForm s) : HasForm { s with rtcSub := v } := hs
theorem form_with_ru {s} {v} (hs : HasForm s) : HasForm { s with ru := v } := hs
theorem form_with_ruCap {s} {v} (hs : HasForm s) : HasForm { s with ruCap := v } := hs
theorem form_with_ruEdit {s} {v} (hs : HasForm s) : HasForm { s with ruEdit := v } := hs
theorem form_with_ruResync {s} {v} (hs : HasForm s) : HasForm { s with ruResync := v } := hs
theorem form_with_ru_shadow {s} {v0 v1} (hs : HasForm s) : HasForm { s with ru := v0, shadow := v1 } := hs
theorem form_with_ru_shadow_ruForced_ruResync {s} {v0 v1 v2 v3} (hs : HasForm s) :
    HasForm { s with ru := v0, shadow := v1, ruForced := v2, ruResync := v3 } := hs
theorem form_with_rx {s} {v} (hs : HasForm s) : HasForm { s with rx := v } := hs
theorem form_with_seedCmd {s} {v} (hs : HasForm s) : HasForm { s with seedCmd := v } := hs
theorem form_with_seedDue_seedCmd {s} {v0 v1} (hs : HasForm s) : HasForm { s with seedDue := v0, seedCmd := v1 } := hs
theorem form_with_seqs {s} {v} (hs : HasForm s) : HasForm { s with seqs := v } := hs
theorem form_with_sf {s} {v} (hs : HasForm s) : HasForm { s with sf := v } := hs
theorem form_with_sfDiff {s} {v} (hs : HasForm s) : HasForm { s with sfDiff := v } := hs
theorem form_with_sfPress {s} {v} (hs : HasForm s) : HasForm { s with sfPress := v } := hs
theorem form_with_sfReq {s} {v} (hs : HasForm s) : HasForm { s with sfReq := v } := hs
theorem form_with_sfReq_sfStop {s} {v0 v1} (hs : HasForm s) : HasForm { s with sfReq := v0, sfStop := v1 } := hs
theorem form_with_sfStop {s} {v} (hs : HasForm s) : HasForm { s with sfStop := v } := hs
theorem form_with_sfWord_sfScnt {s} {v0 v1} (hs : HasForm s) : HasForm { s with sfWord := v0, sfScnt := v1 } := hs
theorem form_with_sf_sfSet_sfDiff_sfReq_sfPress {s} {v0 v1 v2 v3 v4} (hs : HasForm s) :
    HasForm { s with sf := v0, sfSet := v1, sfDiff := v2, sfReq := v3, sfPress := v4 } := hs
theorem form_with_sgTick {s} {v} (hs : HasForm s) : HasForm { s with sgTick := v } := hs
theorem form_with_shadow {s} {v} (hs : HasForm s) : HasForm { s with shadow := v } := hs
theorem form_with_slotBuf_slotOld_slotT_slotWait {s} {v0 v1 v2 v3} (hs : HasForm s) :
    HasForm { s with slotBuf := v0, slotOld := v1, slotT := v2, slotWait := v3 } := hs
theorem form_with_slotBuf_slotOld_slotT_slotWait_slotPage {s} {v0 v1 v2 v3 v4} (hs : HasForm s) :
    HasForm { s with slotBuf := v0, slotOld := v1, slotT := v2, slotWait := v3, slotPage := v4 } := hs
theorem form_with_slotBuf_slotOld_slotWait_slotPage {s} {v0 v1 v2 v3} (hs : HasForm s) :
    HasForm { s with slotBuf := v0, slotOld := v1, slotWait := v2, slotPage := v3 } := hs
theorem form_with_slotPage_slotT {s} {v0 v1} (hs : HasForm s) : HasForm { s with slotPage := v0, slotT := v1 } := hs
theorem form_with_slotWait {s} {v} (hs : HasForm s) : HasForm { s with slotWait := v } := hs
theorem form_with_slots {s} {v} (hs : HasForm s) : HasForm { s with slots := v } := hs
theorem form_with_slots_fRec {s} {v0 v1} (hs : HasForm s) : HasForm { s with slots := v0, fRec := v1 } := hs
theorem form_with_snap {s} {v} (hs : HasForm s) : HasForm { s with snap := v } := hs
theorem form_with_spAt {s} {v} (hs : HasForm s) : HasForm { s with spAt := v } := hs
theorem form_with_spLast_spReply {s} {v0 v1} (hs : HasForm s) : HasForm { s with spLast := v0, spReply := v1 } := hs
theorem form_with_spPeer_spLast_spAt_spReply {s} {v0 v1 v2 v3} (hs : HasForm s) :
    HasForm { s with spPeer := v0, spLast := v1, spAt := v2, spReply := v3 } := hs
theorem form_with_sq {s} {v} (hs : HasForm s) : HasForm { s with sq := v } := hs
theorem form_with_stiPages {s} {v} (hs : HasForm s) : HasForm { s with stiPages := v } := hs
theorem form_with_supRun_clkStop {s} {v0 v1} (hs : HasForm s) : HasForm { s with supRun := v0, clkStop := v1 } := hs
theorem form_with_supRun_mgmt {s} {v0 v1} (hs : HasForm s) : HasForm { s with supRun := v0, mgmt := v1 } := hs
theorem form_with_supRun_mgmt_held {s} {v0 v1 v2} (hs : HasForm s) : HasForm { s with supRun := v0, mgmt := v1, held := v2 } := hs
theorem form_with_survey {s} {v} (hs : HasForm s) : HasForm { s with survey := v } := hs
theorem form_with_tasks {s} {v} (hs : HasForm s) : HasForm { s with tasks := v } := hs
theorem form_with_tasks_cans_trigEnd_shadow {s} {v0 v1 v2 v3} (hs : HasForm s) :
    HasForm { s with tasks := v0, cans := v1, trigEnd := v2, shadow := v3 } := hs
theorem form_with_touched {s} {v} (hs : HasForm s) : HasForm { s with touched := v } := hs
theorem form_with_tpLast {s} {v} (hs : HasForm s) : HasForm { s with tpLast := v } := hs
theorem form_with_tpLow {s} {v} (hs : HasForm s) : HasForm { s with tpLow := v } := hs
theorem form_with_tpLow_tpWin {s} {v0 v1} (hs : HasForm s) : HasForm { s with tpLow := v0, tpWin := v1 } := hs
theorem form_with_tpLow_tpWin_tpLast {s} {v0 v1 v2} (hs : HasForm s) : HasForm { s with tpLow := v0, tpWin := v1, tpLast := v2 } := hs
theorem form_with_trA {s} {v} (hs : HasForm s) : HasForm { s with trA := v } := hs
theorem form_with_trA_trBad {s} {v0 v1} (hs : HasForm s) : HasForm { s with trA := v0, trBad := v1 } := hs
theorem form_with_trBad {s} {v} (hs : HasForm s) : HasForm { s with trBad := v } := hs
theorem form_with_trP {s} {v} (hs : HasForm s) : HasForm { s with trP := v } := hs
theorem form_with_trigEnd {s} {v} (hs : HasForm s) : HasForm { s with trigEnd := v } := hs
theorem form_with_vecMask {s} {v} (hs : HasForm s) : HasForm { s with vecMask := v } := hs
theorem form_with_vecPend {s} {v} (hs : HasForm s) : HasForm { s with vecPend := v } := hs
theorem form_with_vfEnable_numVfs {s} {v0 v1} (hs : HasForm s) : HasForm { s with vfEnable := v0, numVfs := v1 } := hs
theorem form_with_wdgAt_wdgReq {s} {v0 v1} (hs : HasForm s) : HasForm { s with wdgAt := v0, wdgReq := v1 } := hs
theorem form_with_wdgExp {s} {v} (hs : HasForm s) : HasForm { s with wdgExp := v } := hs
theorem form_with_wdgReq {s} {v} (hs : HasForm s) : HasForm { s with wdgReq := v } := hs
theorem form_with_wdgReq_wdgExp {s} {v0 v1} (hs : HasForm s) : HasForm { s with wdgReq := v0, wdgExp := v1 } := hs
theorem form_with_wdgSvc {s} {v} (hs : HasForm s) : HasForm { s with wdgSvc := v } := hs
theorem form_with_win {s} {v} (hs : HasForm s) : HasForm { s with win := v } := hs
theorem form_with_win_accepted {s} {v0 v1} (hs : HasForm s) : HasForm { s with win := v0, accepted := v1 } := hs
theorem form_with_witQuiet {s} {v} (hs : HasForm s) : HasForm { s with witQuiet := v } := hs
theorem form_with_witX {s} {v} (hs : HasForm s) : HasForm { s with witX := v } := hs
theorem form_with_witX_witQuiet {s} {v0 v1} (hs : HasForm s) : HasForm { s with witX := v0, witQuiet := v1 } := hs
theorem form_with_xfer {s} {v} (hs : HasForm s) : HasForm { s with xfer := v } := hs
theorem form_with_zeroQ {s} {v} (hs : HasForm s) : HasForm { s with zeroQ := v } := hs

/-! ### Ops -/

theorem form_untouch {s : State} {lo hi : Nat} (hs : HasForm s) : HasForm (s.untouch lo hi) := form_with_touched hs
theorem form_setTask {s : State} {p t : Nat} {v : Task} (hs : HasForm s) : HasForm (s.setTask p t v) := form_with_tasks hs
theorem form_setPart {s : State} {p : Nat} {v : Part} (hs : HasForm s) : HasForm (s.setPart p v) := form_with_parts hs
theorem form_setEng {s : State} {e : Nat} {v : Eng} (hs : HasForm s) : HasForm (s.setEng e v) := form_with_engs hs
theorem form_elapse {s : State} {n : Nat} (hs : HasForm s) : HasForm (s.elapse n) := form_with_mer_fab hs
theorem form_sendVec {s : State} {f v : Nat} (hs : HasForm s) : HasForm (s.sendVec f v) :=
    form_ite hs (form_ite (form_with_vecPend hs) (form_with_outbox hs))
theorem form_sendIf {s : State} {c : Bool} {f v : Nat} (hs : HasForm s) : HasForm (s.sendIf c f v) := form_ite (form_sendVec hs) hs
theorem form_groupEvent {s : State} {seq st en vec : Nat} {bits : W} (hs : HasForm s) : HasForm (s.groupEvent seq st en vec bits) :=
    form_sendIf (form_setReg _ _ (form_advance _ hs))
theorem form_oneEvent {s : State} {seq : Nat} {t : State} (ht : HasForm t) : HasForm (s.oneEvent seq t) := form_ite ht (form_setReg _ _ ht)
theorem form_recordRefusal {s : State} {g src space off cause : Nat} (hs : HasForm s) : HasForm (s.recordRefusal g src space off cause) :=
    form_ite (form_count _ (form_advance _ hs)) (form_setReg _ _ (form_setReg _ _ (form_count _ (form_advance _ hs))))
theorem form_refuse {s : State} {src space off cause : Nat} (hs : HasForm s) : HasForm (s.refuse src space off cause) :=
    form_ite (form_sendVec (form_recordRefusal (form_recordRefusal hs))) (form_recordRefusal hs)
theorem form_emit {s : State} {o : Output} (hs : HasForm s) : HasForm (s.emit o) := form_with_outbox hs
theorem form_useFresh {s : State} (hs : HasForm s) : HasForm s.useFresh := form_with_fresh hs
theorem form_passEvent {s : State} {code sev : Nat} {body : List W} (hs : HasForm s) : HasForm (s.passEvent code sev body) := form_with_evPass hs

/-! ### Store -/

theorem form_setBad {s : State} {a : Nat} {v : Bool} (hs : HasForm s) : HasForm (s.setBad a v) := form_with_bad hs
theorem form_countPage {s : State} {k old new : Nat} (hs : HasForm s) : HasForm (s.countPage k old new) := form_setReg _ _ hs
theorem form_setPage {s : State} {k n st p : Nat} (hs : HasForm s) : HasForm (s.setPage k n st p) := form_setReg _ _ (form_countPage hs)
theorem form_toZeroing {s : State} {k n : Nat} (hs : HasForm s) : HasForm (s.toZeroing k n) := form_with_zeroQ (form_setPage hs)
theorem form_retireNow {s : State} {k n : Nat} (hs : HasForm s) : HasForm (s.retireNow k n) :=
    form_ite (form_with_retList (form_setPage hs)) (form_setPage hs)
theorem form_leaveOwner {s : State} {k n : Nat} (hs : HasForm s) : HasForm (s.leaveOwner k n) := form_ite (form_retireNow hs) (form_toZeroing hs)
theorem form_abandonCopy {s : State} {p : Nat} (hs : HasForm s) : HasForm (s.abandonCopy p) := by
  unfold State.abandonCopy
  split
  · exact form_ite (form_with_retCopy (form_toZeroing hs)) hs
  · exact hs
theorem form_setEntA {s : State} {key : Nat} {w : W} (hs : HasForm s) : HasForm (s.setEntA key w) := form_with_trA hs
theorem form_setEntP {s : State} {key : Nat} {w : W} (hs : HasForm s) : HasForm (s.setEntP key w) := form_with_trP hs
theorem form_poke {s : State} {p : Nat} {img : Bool} {w : Nat} {v : W} (hs : HasForm s) : HasForm (s.poke p img w v) := by
  unfold State.poke
  split
  · exact form_wrMem _ _ hs
  · exact hs

/-! ### Context -/

theorem form_saveWords {s : State} {p w : Nat} {l : List W} (h : HasForm s) : HasForm (s.saveWords p w l).1 := by
  induction l generalizing s w with
  | nil => exact h
  | cons v l ih =>
    unfold State.saveWords
    split
    · exact form_ite_fst h (ih (form_wrMem _ _ h))
    · exact h
theorem form_saveCtx {s : State} {p t : Nat} (hs : HasForm s) : HasForm (s.saveCtx p t).1 := form_setTask (form_saveWords hs)
theorem form_of_restoreCtx {s r : State} {p t : Nat} (h : HasForm s) (hr : s.restoreCtx p t = some r) : HasForm r := by
  obtain ⟨w, -, rfl⟩ := Option.map_eq_some_iff.mp hr
  exact form_setTask h

/-! ### Net -/

theorem form_setPort {s : State} {p : Nat} {v : Port} (hs : HasForm s) : HasForm (s.setPort p v) := form_with_ports hs
theorem form_swEvent {s : State} {bits : W} (hs : HasForm s) : HasForm (s.swEvent bits) := form_groupEvent hs
theorem form_setFrames {s : State} {q : Nat} {l : List QFrame} (hs : HasForm s) : HasForm (s.setFrames q l) := form_with_queues hs
theorem form_setDepth {s : State} {q d : Nat} (hs : HasForm s) : HasForm (s.setDepth q d) := form_setReg _ _ (form_setReg _ _ hs)
theorem form_dropCopy {s : State} {q : Nat} {noCell : Bool} (hs : HasForm s) : HasForm (s.dropCopy q noCell) :=
    form_ite (form_ite (form_swEvent (form_count _ (form_count _ hs))) (form_count _ (form_count _ hs))) (form_count _ hs)
theorem form_enqueue {s : State} {q : Nat} {f : QFrame} (hs : HasForm s) : HasForm (s.enqueue q f) :=
    form_ite hs (form_ite (form_dropCopy hs) (form_ite (form_setFrames (form_setDepth hs)) (form_dropCopy hs)))
theorem form_flushQueue {s : State} {q : Nat} (hs : HasForm s) : HasForm (s.flushQueue q) := form_setFrames (form_setDepth hs)
theorem form_debit {s : State} {i n : Nat} (hs : HasForm s) : HasForm (s.debit i n) := form_ite (form_with_bucket hs) hs
theorem form_placeOwn {s : State} {i q : Nat} {h : SpanHdr} {body : List Byte} (hs : HasForm s) : HasForm (s.placeOwn i q h body) := form_enqueue hs
theorem form_originate {s : State} {i ty : Nat} {held safe epv : Bool} {blocks : Nat} {body : List Byte} (hs : HasForm s) :
    HasForm (s.originate i ty held safe epv blocks body) :=
    form_ite (form_with_seqs hs) (form_ite (form_count _ (form_with_seqs hs)) (form_foldl _ (fun _ _ => form_placeOwn) _ (form_foldl _ (fun _ _ =>
    form_placeOwn) _ (form_debit (form_with_seqs hs)))))
theorem form_sendBlocks {s : State} {i : Nat} {held safe : Bool} {bs : List Block} (hs : HasForm s) : HasForm (s.sendBlocks i held safe bs) :=
    form_foldl _ (fun _ _ => form_originate) _ hs
theorem form_sendAll {s : State} {held safe : Bool} {bs : List (Nat × Block)} (hs : HasForm s) : HasForm (s.sendAll held safe bs) :=
    form_foldl _ (fun _ _ => form_sendBlocks) _ hs
theorem form_sendMirror {s : State} {kind task part stamp count : Nat} {payload : List Byte} (hs : HasForm s) :
    HasForm (s.sendMirror kind task part stamp count payload) := by
  unfold State.sendMirror
  dsimp only
  split
  · exact hs
  · exact form_ite hs (form_with_mirSeq_mirTurn (form_emit hs))

/-! ### Sched -/

theorem form_pdEvent {s : State} {p : Nat} {bits : W} (hs : HasForm s) : HasForm (s.pdEvent p bits) :=
    form_sendIf (form_sendIf (form_sendIf (form_groupEvent hs)))
theorem form_setTState {s : State} {p t v : Nat} (hs : HasForm s) : HasForm (s.setTState p t v) := form_setRf _ _ _ _ hs
theorem form_freeEngine {s : State} {e : Nat} (hs : HasForm s) : HasForm (s.freeEngine e) := form_setEng (form_setEng hs)
theorem form_takeEngine {s : State} {e k : Nat} (hs : HasForm s) : HasForm (s.takeEngine e k) := form_setTState (form_setEng hs)
theorem form_startIfFree {s : State} {p t : Nat} (hs : HasForm s) : HasForm (s.startIfFree p t) := form_ite (form_takeEngine hs) hs
theorem form_mirrorMode {s : State} {p : Nat} (hs : HasForm s) : HasForm (s.mirrorMode p) := form_ite (form_sendMirror hs) hs
theorem form_setSrc {s : State} {lo hi i : Nat} (hs : HasForm s) : HasForm (s.setSrc lo hi i) := form_ite (form_setReg _ _ hs) (form_setReg _ _ hs)
theorem form_noteDet {s : State} {src cls code unit : Nat} (hs : HasForm s) : HasForm (s.noteDet src cls code unit) :=
    form_ite (form_setReg _ _ hs) hs
theorem form_noteFirst {s : State} {same : Bool} {src cls unit : Nat} (hs : HasForm s) : HasForm (s.noteFirst same src cls unit) :=
    form_ite (form_with_fltNew hs) (form_setReg64 _ _ (form_setReg _ _ (form_with_fltNew hs)))
theorem form_noteEvent {s : State} {same : Bool} {src cls code unit : Nat} (hs : HasForm s) : HasForm (s.noteEvent same src cls code unit) :=
    form_sendIf (form_ite (form_count _ (form_noteFirst (form_noteDet (form_setRf _ _ _ _ (form_setSrc (form_ite hs (form_advance _ hs)))))))
    (form_noteFirst (form_noteDet (form_setRf _ _ _ _ (form_setSrc (form_ite hs (form_advance _ hs)))))))
theorem form_faultRecord {s : State} {src cls : Nat} (hs : HasForm s) : HasForm (s.faultRecord src cls) := form_passEvent hs
theorem form_report {s : State} {src code unit : Nat} (hs : HasForm s) : HasForm (s.report src code unit) :=
    form_ite hs (form_faultRecord (form_noteEvent hs))
theorem form_noteLocal {s : State} {p : Nat} (hs : HasForm s) : HasForm (s.noteLocal p) := form_with_localF hs
theorem form_storeFault {s : State} {a : Nat} (hs : HasForm s) : HasForm (s.storeFault a) :=
    form_report (form_markRetp _ (form_ite (form_noteLocal hs) hs))
theorem form_entryFault {s : State} {key : Nat} (hs : HasForm s) : HasForm (s.entryFault key) :=
    form_report (form_ite (form_count _ (form_advance _ (form_with_trBad (form_setEntP (form_setEntA (form_noteLocal hs)))))) (form_setReg _ _
    (form_count _ (form_advance _ (form_with_trBad (form_setEntP (form_setEntA (form_noteLocal hs))))))))
theorem form_pokeAt {s : State} {p : Nat} {img : Bool} {w : Nat} {v : W} (hs : HasForm s) : HasForm (s.pokeAt p img w v) := by
  unfold State.pokeAt
  split
  · exact form_wrMem _ _ hs
  · exact hs
  · exact form_entryFault hs
theorem form_seeWord {s : State} {p sp w : Nat} (hs : HasForm s) : HasForm (s.seeWord p sp w) := by
  unfold State.seeWord
  split
  · exact form_ite (form_storeFault hs) hs
  · exact hs
  · exact form_entryFault hs
theorem form_addJob {s : State} {out : Bool} {p t : Nat} (hs : HasForm s) : HasForm (s.addJob out p t) := form_with_cu hs
theorem form_wrCells {s : State} {l : List (Nat × W)} (hs : HasForm s) : HasForm (s.wrCells l) := form_foldl _ (fun _ _ h1 => form_wrMem _ _ h1) _ hs
theorem form_dropJob {s : State} {p t : Nat} (hs : HasForm s) : HasForm (s.dropJob p t) :=
    form_foldl _ (fun _ _ h1 => form_ite (form_wrCells h1) (form_sendAll (form_wrCells h1))) _ (form_with_cu hs)
theorem form_ctxFault {s : State} {p t : Nat} (hs : HasForm s) : HasForm (s.ctxFault p t) := by
  unfold State.ctxFault
  split
  · exact form_entryFault hs
  · exact form_storeFault hs
  · exact hs
theorem form_keepSave {s : State} {e : Nat} {words : List W} (hs : HasForm s) : HasForm (s.keepSave e words) :=
    form_foldl _ (fun _ _ h1 => form_setReg _ _ h1) _ hs
theorem form_lateFault {s : State} {p cause : Nat} {bits : W} (hs : HasForm s) : HasForm (s.lateFault p cause bits) :=
    form_ite (form_pdEvent (form_setPart (form_setRf _ _ _ _ hs))) hs
theorem form_saveOff {s : State} {p t : Nat} (hs : HasForm s) : HasForm (s.saveOff p t) :=
    form_ite (form_saveCtx hs) (form_report (form_lateFault (form_keepSave (form_ctxFault (form_saveCtx hs)))))
theorem form_offTask {s : State} {p t : Nat} (hs : HasForm s) : HasForm (s.offTask p t) :=
    form_ite (form_ite hs (form_freeEngine (form_setTState (form_saveOff hs)))) (form_ite (form_setTState (form_saveOff hs)) (form_setTState
    (form_dropJob hs)))
theorem form_offTasks {s : State} {p : Nat} (hs : HasForm s) : HasForm (s.offTasks p) := form_foldl _ (fun _ _ => form_offTask) _ hs
theorem form_endCmd {s : State} {p r : Nat} (hs : HasForm s) : HasForm (s.endCmd p r) := form_setPart (form_setReg _ _ hs)
theorem form_freezeTime {s : State} {p : Nat} (hs : HasForm s) : HasForm (s.freezeTime p) := form_ite (form_setReg64 _ _ hs) hs
theorem form_dropCmd {s : State} {p cause : Nat} (hs : HasForm s) : HasForm (s.dropCmd p cause) := by
  unfold State.dropCmd
  split
  · exact form_ite hs (form_endCmd hs)
  · exact form_ite hs (form_endCmd hs)
  · exact form_ite hs (form_endCmd hs)
  · exact hs
theorem form_stopPart {s : State} {p cause : Nat} {bits : W} (hs : HasForm s) : HasForm (s.stopPart p cause bits) :=
    form_ite (form_mirrorMode (form_offTasks (form_pdEvent (form_setPart (form_setRf _ _ _ _ (form_setRf _ _ _ _ (form_dropCmd (form_freezeTime
    hs)))))))) (form_lateFault hs)
theorem form_dropBist {s : State} (hs : HasForm s) : HasForm s.dropBist := form_foldl _ (fun _ _ h1 => form_ite (form_setReg _ _ h1) h1) _ hs
theorem form_fatalReaction {s : State} {src : Nat} (hs : HasForm s) : HasForm (s.fatalReaction src) :=
    form_ite (form_setReg _ _ (form_foldl _ (fun _ _ => form_stopPart) _ (form_with_fatalSrc_fatalRegs_fatalPages (form_dropBist hs)))) (form_foldl _
    (fun _ _ => form_stopPart) _ (form_with_fatalSrc_fatalRegs_fatalPages (form_dropBist hs)))
theorem form_collectIn {s : State} {same : Bool} {src cls code unit : Nat} (hs : HasForm s) : HasForm (s.collectIn same src cls code unit) :=
    form_ite hs (form_ite (form_ite (form_setSrc (form_faultRecord (form_noteEvent hs))) (form_fatalReaction (form_setSrc (form_faultRecord
    (form_noteEvent hs))))) (form_faultRecord (form_noteEvent hs)))
theorem form_collect {s : State} {src cls code unit : Nat} (hs : HasForm s) : HasForm (s.collect src cls code unit) := form_collectIn hs
theorem form_partFault {s : State} {p cause : Nat} {bits : W} (hs : HasForm s) : HasForm (s.partFault p cause bits) := form_collect (form_stopPart hs)

/-! ### Slots -/

theorem form_switchSlot {s : State} {n : Nat} {b : Block} (hs : HasForm s) : HasForm (s.switchSlot n b) :=
    form_setReg _ _ (form_setReg _ _ (form_setReg _ _ (form_with_slotBuf_slotOld_slotT_slotWait hs)))
theorem form_takeBlock {s : State} {n : Nat} {b : Block} {now : Bool} (hs : HasForm s) : HasForm (s.takeBlock n b now) :=
    form_ite (form_count _ hs) (form_ite (form_count _ hs) (form_ite (form_switchSlot hs) (form_with_slotWait hs)))
theorem keepsForm_execHeldSlotWrite {n : BitVec 14} {dt : Nat} {st : State} (hst : HasForm st) : KeepsForm (execHeldSlotWrite n dt st) := by
  refine keepsForm_next ?_
  split
  · exact form_ite (form_elapse hst) (form_switchSlot (form_elapse hst))
  · exact form_elapse hst

/-! ### FieldIo -/

theorem form_setChan {s : State} {n : Nat} {v : Fio} (hs : HasForm s) : HasForm (s.setChan n v) := form_with_fio hs
theorem form_fioEvent {s : State} {bits : W} {ch : Nat} (hs : HasForm s) : HasForm (s.fioEvent bits ch) :=
    form_groupEvent (form_ite (form_setRf _ _ _ _ hs) hs)
theorem form_drivePin {s : State} {n : Nat} (hs : HasForm s) : HasForm (s.drivePin n) := form_setRf _ _ _ _ hs
theorem form_drivePins {s : State} {ns : List Nat} (hs : HasForm s) : HasForm (s.drivePins ns) := form_foldl _ (fun _ _ => form_drivePin) _ hs
theorem form_reportIn {s : State} {n : Nat} (hs : HasForm s) : HasForm (s.reportIn n) := form_setRf _ _ _ _ hs
theorem form_fioSamples {s : State} {n : Nat} {level : Bool} {k : Nat} (hs : HasForm s) : HasForm (s.fioSamples n level k) :=
    form_ite (form_ite hs (form_setRf _ _ _ _ hs)) (form_ite (form_setChan (form_ite hs (form_setRf _ _ _ _ hs))) (form_ite (form_reportIn
    (form_setChan (form_ite hs (form_setRf _ _ _ _ hs)))) (form_setChan (form_ite hs (form_setRf _ _ _ _ hs)))))
theorem keepsForm_execFioInputSettled {ch : BitVec 5} {level : Bool} {samples : Nat} {dt : Nat} {st : State} (hst : HasForm st) :
    KeepsForm (execFioInputSettled ch level samples dt st) :=
    keepsForm_next (form_ite (form_fioSamples (form_elapse hst)) (form_elapse hst))
theorem form_command {s : State} {n : Nat} {on : Bool} (hs : HasForm s) : HasForm (s.command n on) :=
    form_ite (form_ite (form_setChan (form_setRf _ _ _ _ hs)) (form_drivePin (form_setChan (form_setRf _ _ _ _ hs)))) hs
theorem form_pass {s : State} {n : Nat} {on : Bool} (hs : HasForm s) : HasForm (s.pass n on) := form_with_fioLink hs
theorem keepsForm_execFioOutputCommand {dt : Nat} {st : State} (hst : HasForm st) : KeepsForm (execFioOutputCommand dt st) := by
  refine keepsForm_next (form_ite (form_elapse hst) ?_)
  split
  · exact form_elapse hst
  · exact form_command (form_with_fioLink (form_elapse hst))
theorem form_farWrite {s : State} {src a bstat : Nat} {k : State → State} (hs : HasForm s) (hk : ∀ u0, HasForm u0 → HasForm (k u0)) :
    HasForm (s.farWrite src a bstat k) :=
    form_ite hs (form_ite (form_refuse hs) (form_ite (form_refuse hs) (form_setRf _ _ _ _ (hk _ hs))))
theorem form_hostCmd {s : State} {data : W} (hs : HasForm s) : HasForm (s.hostCmd data) :=
    form_foldl _ (fun _ _ h1 => form_ite (form_pass h1) h1) _ (form_setReg _ _ hs)
theorem keepsForm_execFioHostcmdWrite {src : BitVec 10} {data : W} {st : State} (hst : HasForm st) : KeepsForm (execFioHostcmdWrite src data st) :=
    keepsForm_next (form_ite (form_farWrite hst (fun _ => form_hostCmd)) hst)
theorem form_diag {s : State} {n b : Nat} (hs : HasForm s) : HasForm (s.diag n b) := form_fioEvent (form_count _ (form_setRf _ _ _ _ hs))
theorem form_protect {s : State} {n b : Nat} (hs : HasForm s) : HasForm (s.protect n b) :=
    form_drivePin (form_ite (form_count _ (form_setRf _ _ _ _ (form_diag (form_setRf _ _ _ _ (form_setChan hs))))) (form_diag (form_setRf _ _ _ _
    (form_setChan hs))))
theorem form_unprotect {s : State} {n : Nat} (hs : HasForm s) : HasForm (s.unprotect n) := form_drivePin (form_setRf _ _ _ _ (form_setChan hs))
theorem keepsForm_execCurrentLimit {ch : BitVec 5} {on : Bool} {st : State} (hst : HasForm st) : KeepsForm (execCurrentLimit ch on st) :=
    keepsForm_next (form_ite (form_ite (form_diag hst) hst) (form_setRf _ _ _ _ hst))
theorem keepsForm_execOverloadTrip {ch : BitVec 5} {st : State} (hst : HasForm st) : KeepsForm (execOverloadTrip ch st) :=
    keepsForm_next (form_ite (form_protect hst) hst)
theorem keepsForm_execThermalShutdown {ch : BitVec 5} {st : State} (hst : HasForm st) : KeepsForm (execThermalShutdown ch st) :=
    keepsForm_next (form_ite (form_protect hst) hst)
theorem keepsForm_execOutputRestart {ch : BitVec 5} {st : State} (hst : HasForm st) : KeepsForm (execOutputRestart ch st) :=
    keepsForm_next (form_ite (form_ite (form_unprotect hst) (form_setChan hst)) hst)
theorem keepsForm_execOpenLoad {ch : BitVec 5} {st : State} (hst : HasForm st) : KeepsForm (execOpenLoad ch st) :=
    keepsForm_next (form_ite (form_diag hst) hst)
theorem keepsForm_execShortToSupply {ch : BitVec 5} {st : State} (hst : HasForm st) : KeepsForm (execShortToSupply ch st) :=
    keepsForm_next (form_ite (form_diag hst) hst)
theorem form_setGroup {s : State} {g b : Nat} {on : Bool} (hs : HasForm s) : HasForm (s.setGroup g b on) := form_fioEvent (form_setRf _ _ _ _ hs)
theorem form_measured {s : State} {g : Nat} {meas : W} (hs : HasForm s) : HasForm (s.measured g meas) := form_ite (form_setReg _ _ hs) hs
theorem keepsForm_execGroupUndervoltage {g : BitVec 2} {meas : W} {st0 : State} (hst0 : HasForm st0) : KeepsForm (execGroupUndervoltage g meas st0) :=
    keepsForm_next (form_ite (form_setGroup (form_measured hst0)) (form_measured hst0))
theorem keepsForm_execGroupOvervoltage {g : BitVec 2} {meas : W} {st0 : State} (hst0 : HasForm st0) : KeepsForm (execGroupOvervoltage g meas st0) :=
    keepsForm_next (form_ite (form_drivePins (form_setGroup (form_measured hst0))) (form_measured hst0))
theorem keepsForm_execGroupOvercurrent {g : BitVec 2} {meas : W} {st0 : State} (hst0 : HasForm st0) : KeepsForm (execGroupOvercurrent g meas st0) :=
    keepsForm_next (form_ite (form_foldl _ (fun _ _ h1 => form_ite (form_protect h1) h1) _ (form_setGroup (form_measured hst0))) (form_measured hst0))
theorem keepsForm_execGroupConditionEnd {g : BitVec 2} {bit : BitVec 2} {meas : W} {st0 : State} (hst0 : HasForm st0) :
    KeepsForm (execGroupConditionEnd g bit meas st0) :=
    keepsForm_next (form_ite (form_drivePins (form_setGroup (form_measured hst0))) (form_measured hst0))
theorem form_reportFed {s : State} {t : Nat} (hs : HasForm s) : HasForm (s.reportFed t) :=
    form_foldl _ (fun _ _ h1 => form_ite (form_reportIn h1) h1) _ hs
theorem form_tpTake {s : State} {n : Nat} (hs : HasForm s) : HasForm (s.tpTake n) :=
    form_ite (form_setRf _ _ _ _ hs) (form_with_tpLow (form_setRf _ _ _ _ hs))
theorem form_tpPeriod {s : State} {w : W} (hs : HasForm s) : HasForm (s.tpPeriod w) := form_with_tpLast (form_setReg _ _ hs)
theorem keepsForm_execTpPulseStart {n : BitVec 2} {dt : Nat} {st : State} (hst : HasForm st) : KeepsForm (execTpPulseStart n dt st) :=
    keepsForm_next (form_ite (form_with_tpLow_tpWin_tpLast (form_elapse hst)) (form_elapse hst))
theorem keepsForm_execTpPulseEnd {n : BitVec 2} {high : Bool} {dt : Nat} {st : State} (hst : HasForm st) : KeepsForm (execTpPulseEnd n high dt st) :=
    keepsForm_next (form_ite (form_reportFed (form_ite (form_fioEvent (form_setRf _ _ _ _ (form_with_tpLow_tpWin (form_elapse hst)))) (form_setRf _ _
    _ _ (form_with_tpLow_tpWin (form_elapse hst))))) (form_elapse hst))
theorem form_xsCheck {s : State} {n : Nat} {high : Bool} (hs : HasForm s) : HasForm (s.xsCheck n high) :=
    form_ite (form_reportIn (form_fioEvent (form_setRf _ _ _ _ (form_setChan hs)))) (form_ite (form_reportIn (form_setRf _ _ _ _ (form_setChan hs)))
    (form_setChan hs))
theorem keepsForm_execCrossShortCheck {n : BitVec 2} {pins : W} {dt : Nat} {st : State} (hst : HasForm st) :
    KeepsForm (execCrossShortCheck n pins dt st) :=
    keepsForm_next (form_ite (form_foldl _ (fun _ _ h1 => form_ite (form_xsCheck (form_setRf _ _ _ _ h1)) h1) _ (form_elapse hst)) (form_elapse hst))
theorem keepsForm_execTpOverload {n : BitVec 2} {st : State} (hst : HasForm st) : KeepsForm (execTpOverload n st) :=
    keepsForm_next (form_ite (form_reportFed (form_fioEvent (form_setRf _ _ _ _ (form_setRf _ _ _ _ hst)))) hst)
theorem keepsForm_execTpRetry {n : BitVec 2} {st : State} (hst : HasForm st) : KeepsForm (execTpRetry n st) :=
    keepsForm_next (form_ite (form_reportFed (form_setRf _ _ _ _ (form_setRf _ _ _ _ hst))) hst)
theorem form_forceChan {s : State} {n : Nat} (hs : HasForm s) : HasForm (s.forceChan n) := form_drivePin (form_setChan hs)
theorem form_forceCause {s : State} {b : Nat} (hs : HasForm s) : HasForm (s.forceCause b) :=
    form_ite hs (form_ite (form_with_forceHist (form_ite hs (form_fioEvent (form_setReg _ _ hs)))) (form_foldl _ (fun _ _ => form_forceChan) _
    (form_with_forceHist (form_ite hs (form_fioEvent (form_setReg _ _ hs))))))
theorem form_causeEnds {s : State} {b : Nat} (hs : HasForm s) : HasForm (s.causeEnds b) := form_ite (form_fioEvent (form_setRf _ _ _ _ hs)) hs
theorem form_unforce {s : State} (hs : HasForm s) : HasForm s.unforce :=
    form_foldl _ (fun _ _ h1 => form_ite (form_drivePin (form_setChan h1)) h1) _ (form_fioEvent (form_setRf _ _ _ _ hs))
theorem keepsForm_execHeartbeatReceived {dt : Nat} {st : State} (hst : HasForm st) : KeepsForm (execHeartbeatReceived dt st) :=
    keepsForm_next (form_ite (form_elapse hst) (form_ite (form_unforce (form_with_hbRun_lastHb_hbLink (form_causeEnds (form_elapse hst))))
    (form_with_hbRun_lastHb_hbLink (form_causeEnds (form_elapse hst)))))
theorem keepsForm_execHeartbeatTimeout {dt : Nat} {st : State} (hst : HasForm st) : KeepsForm (execHeartbeatTimeout dt st) :=
    keepsForm_next (form_ite (form_with_hbRun (form_forceCause (form_elapse hst))) (form_elapse hst))
theorem form_recover {s : State} (hs : HasForm s) : HasForm s.recover :=
    form_ite (form_setReg _ _ hs) (form_setReg _ _ (form_ite (form_unforce hs) hs))
theorem keepsForm_execFioRecover {src : BitVec 10} {st : State} (hst : HasForm st) : KeepsForm (execFioRecover src st) :=
    keepsForm_next (form_ite (form_farWrite hst (fun _ => form_recover)) hst)
theorem form_dclrChan {s : State} {n : Nat} (hs : HasForm s) : HasForm (s.dclrChan n) :=
    form_ite (form_ite (form_unprotect (form_setReg _ _ hs)) (form_setChan (form_setReg _ _ hs))) (form_setRf _ _ _ _ (form_setReg _ _ hs))
theorem form_dclrAll {s : State} (hs : HasForm s) : HasForm s.dclrAll :=
    form_setReg _ _ (form_foldl _ (fun _ _ h1 => form_ite (form_dclrChan h1) h1) _ hs)
theorem keepsForm_execDclr {src : BitVec 10} {st : State} (hst : HasForm st) : KeepsForm (execDclr src st) :=
    keepsForm_next (form_ite (form_farWrite hst (fun _ => form_dclrAll)) hst)

/-! ### Roles -/

theorem form_ruEvent {s : State} {bits : W} (hs : HasForm s) : HasForm (s.ruEvent bits) := form_groupEvent hs
theorem form_setPstep {s : State} {p v : Nat} (hs : HasForm s) : HasForm (s.setPstep p v) := form_setRf _ _ _ _ hs
theorem form_setShad {s : State} {p t : Nat} {v : Shadow} (hs : HasForm s) : HasForm (s.setShad p t v) := form_with_shadow hs
theorem form_refreshPair {s : State} (hs : HasForm s) : HasForm s.refreshPair := form_setRf _ _ _ _ hs
theorem form_setRole {s : State} {r : Nat} (hs : HasForm s) : HasForm (s.setRole r) :=
    form_ite hs (form_ite (form_with_ru (form_ruEvent (form_refreshPair (form_setRf _ _ _ _ hs)))) (form_ruEvent (form_refreshPair (form_setRf _ _ _ _
    hs))))
theorem form_noteEpoch {s : State} {e : Nat} (hs : HasForm s) : HasForm (s.noteEpoch e) :=
    form_ite (form_ite (form_setReg _ _ hs) (form_setRf _ _ _ _ (form_setReg _ _ hs))) hs
theorem form_sendLease {s : State} {op epoch : Nat} {succ : Bool} {swapT : Nat} (hs : HasForm s) : HasForm (s.sendLease op epoch succ swapT) := by
  unfold State.sendLease
  dsimp only
  split
  · exact form_ite (form_originate (form_with_ru hs)) (form_with_ru hs)
  · exact form_with_ru hs
theorem form_seeLine {s : State} {p : Nat} {l : Bool × Nat} (hs : HasForm s) : HasForm (s.seeLine p l) := by
  unfold State.seeLine
  split
  · exact form_entryFault hs
  · exact hs
theorem form_forceLines {s : State} {p : Nat} (hs : HasForm s) : HasForm (s.forceLines p) := by
  refine form_setRf _ _ _ _ (form_foldl _ (fun _ _ h1 => ?_) _ hs)
  split
  · exact form_seeLine h1
  · exact form_with_dirty_ruForced h1
theorem form_askResync {s : State} {p : Nat} (hs : HasForm s) : HasForm (s.askResync p) :=
    form_ite (form_ruEvent (form_with_ruResync (form_sendMirror (form_foldl _ (fun _ _ => form_setPstep) _ hs)))) hs
theorem form_toSync {s : State} (hs : HasForm s) : HasForm s.toSync :=
    form_oneEvent (form_askResync (form_foldl _ (fun _ _ => form_setPstep) _ (form_with_ru_shadow (form_setRole hs))))
theorem form_goLeft {s : State} {cause : Nat} (hs : HasForm s) : HasForm (s.goLeft cause) :=
    form_foldl _ (fun _ _ => form_stopPart) _ (form_oneEvent (form_ruEvent (form_setRole (form_setRf _ _ _ _ hs))))
theorem form_outOfStep {s : State} {p : Nat} (hs : HasForm s) : HasForm (s.outOfStep p) :=
    form_ite (form_toSync (form_setPstep hs)) (form_ite (form_askResync (form_setPstep hs)) (form_setPstep hs))
theorem form_writeLine {s0 : State} {p : Nat} {l : W × W × List Byte} (hs0 : HasForm s0) : HasForm (s0.writeLine p l) :=
    form_advance _ (form_foldl _ (fun _ _ => form_poke) _ (form_seeLine hs0))
theorem form_writeLines {s : State} {p t : Nat} {stamp : W} {r : PassRes} (hs : HasForm s) : HasForm (s.writeLines p t stamp r) :=
    form_ite (form_setRole (form_ite (form_ruEvent (form_setPstep (form_with_ruResync (form_foldl _ (fun _ _ => form_writeLine) _ hs)))) (form_ite
    (form_setPstep (form_foldl _ (fun _ _ => form_writeLine) _ hs)) (form_ite (form_setPstep (form_foldl _ (fun _ _ => form_writeLine) _ hs))
    (form_foldl _ (fun _ _ => form_writeLine) _ hs))))) (form_ite (form_ruEvent (form_setPstep (form_with_ruResync (form_foldl _ (fun _ _ =>
    form_writeLine) _ hs)))) (form_ite (form_setPstep (form_foldl _ (fun _ _ => form_writeLine) _ hs)) (form_ite (form_setPstep (form_foldl _ (fun _ _
    => form_writeLine) _ hs)) (form_foldl _ (fun _ _ => form_writeLine) _ hs))))
theorem form_sendVerdict {s : State} {p t : Nat} {stamp : W} {res outcome cause : Nat} {loc : Bool} (hs : HasForm s) :
    HasForm (s.sendVerdict p t stamp res outcome cause loc) :=
    form_sendMirror hs
theorem form_mismatch {s : State} (hs : HasForm s) : HasForm s.mismatch := form_ruEvent (form_count _ hs)
theorem form_unexplained {s : State} {p : Nat} {inStep : Bool} (hs : HasForm s) : HasForm (s.unexplained p inStep) :=
    form_ite (form_goLeft (form_collect (form_ite (form_setRf _ _ _ _ hs) hs))) (form_outOfStep (form_collect (form_ite (form_setRf _ _ _ _ hs) hs)))
theorem form_lapsePeer {s : State} (hs : HasForm s) : HasForm s.lapsePeer := form_setRole (form_with_ru hs)
theorem form_decide_ {s : State} {p t : Nat} {r : PassRes} {crc : W64} {outcome cause : Nat} (hs : HasForm s) :
    HasForm (s.decide_ p t r crc outcome cause) :=
    form_ite (form_sendVerdict (form_count _ hs)) (form_ite (form_sendVerdict (form_count _ (form_ite (form_setRf _ _ _ _ hs) hs))) (form_ite
    (form_sendVerdict (form_count _ hs)) (form_sendVerdict (form_mismatch hs))))
theorem form_afterDecide {s : State} {p : Nat} {r : PassRes} {crc : W64} {outcome cause : Nat} {div loc inStep : Bool} (hs : HasForm s) :
    HasForm (s.afterDecide p r crc outcome cause div loc inStep) :=
    form_ite hs (form_ite hs (form_ite (form_outOfStep hs) (form_unexplained hs)))
theorem form_judge {s : State} {p t : Nat} (hs : HasForm s) : HasForm (s.judge p t).1 := by
  unfold State.judge
  dsimp only
  split
  · exact form_afterDecide (form_setShad (form_writeLines (form_decide_ hs)))
  · exact hs
theorem form_sendInvec {s : State} {p t : Nat} (hs : HasForm s) : HasForm (s.sendInvec p t) := by
  unfold State.sendInvec
  dsimp only
  split
  · exact form_sendMirror hs
  · exact hs
theorem form_sendResult {s : State} {p t : Nat} {r : PassRes} (hs : HasForm s) : HasForm (s.sendResult p t r) := form_sendMirror hs
theorem form_openVerdict {s : State} {p t : Nat} {loc : Bool} (hs : HasForm s) : HasForm (s.openVerdict p t loc) := form_with_ru hs
theorem form_passFault {s : State} {p t outcome cause : Nat} (hs : HasForm s) : HasForm (s.passFault p t outcome cause) :=
    form_ite hs (form_ite (form_openVerdict (form_with_ru (form_sendResult (form_sendInvec hs)))) (form_ite (form_ite (form_outOfStep (form_judge
    (form_setShad hs))) (form_judge (form_setShad hs))) hs))
theorem form_noteBegin {s : State} {p t : Nat} {stamp : W64} (hs : HasForm s) : HasForm (s.noteBegin p t stamp) := form_ite (form_setShad hs) hs

/-! ### Pipeline -/

theorem form_freezeTask {s : State} {p t from_ : Nat} (hs : HasForm s) : HasForm (s.freezeTask p t from_) := form_setTState (form_setTask hs)
theorem form_endStep {s : State} {p t : Nat} (hs : HasForm s) : HasForm (s.endStep p t) :=
    form_endCmd (form_pdEvent (form_setRf _ _ _ _ (form_freeEngine (form_freezeTask hs))))
theorem form_atBoundary {s : State} {p t : Nat} (hs : HasForm s) : HasForm (s.atBoundary p t) :=
    form_ite hs (form_ite (form_offTask hs) (form_ite (form_ite (form_endStep hs) (form_ite (form_freeEngine (form_freezeTask hs)) hs)) hs))
theorem form_captureTrap {s : State} {e p t : Nat} {dslot : Bool} {pc : Nat} {tr : Trap} (hs : HasForm s) :
    HasForm (s.captureTrap e p t dslot pc tr) :=
    form_ite (form_advance _ hs) (form_setReg _ _ (form_setReg _ _ (form_setReg _ _ (form_advance _ hs))))
theorem form_trapSource {s : State} {tr : Trap} (hs : HasForm s) : HasForm (s.trapSource tr) := by
  refine form_ite (form_collect ?_) ?_
  · split
    · refine form_entryFault ?_
      split
      · exact form_storeFault hs
      · exact hs
    · split
      · exact form_storeFault hs
      · exact hs
  · split
    · refine form_entryFault ?_
      split
      · exact form_storeFault hs
      · exact hs
    · split
      · exact form_storeFault hs
      · exact hs
theorem form_trap {s : State} {e p t : Nat} {tr : Trap} (hs : HasForm s) : HasForm (s.trap e p t tr) :=
    form_atBoundary (form_passFault (form_partFault (form_trapSource (form_setTask (form_captureTrap hs)))))
theorem form_landWrites {s : State} {wr : List MemWr} (hs : HasForm s) : HasForm (s.landWrites wr) :=
    form_foldl _ (fun _ _ h1 => form_wrMem _ _ h1) _ hs
theorem form_retire {s : State} {p t w clks : Nat} {f : Eff} (hs : HasForm s) : HasForm (s.retire p t w clks f) :=
    form_atBoundary (form_setTask (form_landWrites hs))
theorem form_issue {s : State} {e w clks : Nat} {body : Nat → Nat → Ctx → Except Trap Eff} (hs : HasForm s) : HasForm (s.issue e w clks body) := by
  unfold State.issue
  split
  · exact hs
  · dsimp only
    split
    · exact form_trap hs
    · exact form_retire hs
theorem form_issueNoSlot {s : State} {e w clks : Nat} {body : Nat → Nat → Ctx → Except Trap Eff} (hs : HasForm s) :
    HasForm (s.issueNoSlot e w clks body) := by
  unfold State.issueNoSlot
  split
  · exact hs
  · exact form_ite (form_issue hs) (form_issue hs)

/-! ### DecodeTable -/

theorem form_dtConflict {s : State} (hs : HasForm s) : HasForm s.dtConflict := form_setReg _ _ (form_setReg _ _ (form_setReg _ _ hs))
theorem form_dtRefuse {s : State} {r : Nat} (hs : HasForm s) : HasForm (s.dtRefuse r) :=
    form_setReg _ _ (form_setReg _ _ (form_setReg _ _ (form_setReg _ _ (form_setRf _ _ _ _ hs))))
theorem form_dtSwitch {s : State} (hs : HasForm s) : HasForm s.dtSwitch := by
  refine form_ite (form_setRf _ _ _ _ hs) (form_ite (form_dtRefuse hs) (form_ite (form_dtRefuse hs) ?_))
  split
  · exact form_setReg _ _ (form_dtRefuse hs)
  · exact form_ite (form_dtRefuse hs) (form_ite (form_dtConflict (form_dtRefuse hs)) (form_setRf _ _ _ _ (form_setRf _ _ _ _ hs)))
theorem form_dtApply {s : State} (hs : HasForm s) : HasForm s.dtApply :=
    form_ite (form_ite (form_dtConflict (form_dtRefuse (form_setRf _ _ _ _ hs))) (form_setRf _ _ _ _ (form_setReg _ _ (form_setRf _ _ _ _ (form_setRf
    _ _ _ _ hs))))) hs
theorem form_customer {s : State} {e : Nat} {mode : BitVec 2} {i : Nat} {w1 : BitVec 14} (hs : HasForm s) : HasForm (s.customer e mode i w1) := by
  unfold State.customer
  split
  · exact hs
  · exact form_ite (form_issue hs) (form_ite (form_issue hs) (form_issue hs))
theorem keepsForm_execOpCustomer {e : BitVec 7} {mode : BitVec 2} {s : BitVec 6} {w1 : BitVec 14} {st : State} (hst : HasForm st) :
    KeepsForm (execOpCustomer e mode s w1 st) :=
    keepsForm_next (form_customer hst)
theorem keepsForm_execOpIllegal {e : BitVec 7} {_w0 : BitVec 14} {st : State} (hst : HasForm st) : KeepsForm (execOpIllegal e _w0 st) :=
    keepsForm_next (form_issue hst)

/-! ### EngBit -/

theorem form_bitOp {st : State} {e : Nat} {o : Opnd} {f : Bool → Bool → Bool} (hst : HasForm st) : HasForm (st.bitOp e o f) := form_issue hst
theorem form_bitStore {st : State} {e : Nat} {o : Opnd} {f : Bool → Option Bool} (hst : HasForm st) : HasForm (st.bitStore e o f) := form_issue hst
theorem form_regOp {st : State} {e : Nat} {f : Ctx → Ctx} (hst : HasForm st) : HasForm (st.regOp e f) := form_issue hst
theorem form_stackPush {st : State} {e : Nat} (hst : HasForm st) : HasForm (st.stackPush e) := form_issue hst
theorem form_stackOp {st : State} {e : Nat} {pop : Nat} {f : Bool → Bool → Bool} (hst : HasForm st) : HasForm (st.stackOp e pop f) := form_issue hst
theorem form_edge {st : State} {e : Nat} {o : Opnd} {f : Bool → Bool → Bool} (hst : HasForm st) : HasForm (st.edge e o f) := form_issue hst
theorem keepsForm_execOpLd {e : BitVec 7} {mode : BitVec 2} {s : BitVec 6} {w1 : BitVec 14} {st : State} (hst : HasForm st) :
    KeepsForm (execOpLd e mode s w1 st) :=
    keepsForm_next (form_bitOp hst)
theorem keepsForm_execOpLdn {e : BitVec 7} {mode : BitVec 2} {s : BitVec 6} {w1 : BitVec 14} {st : State} (hst : HasForm st) :
    KeepsForm (execOpLdn e mode s w1 st) :=
    keepsForm_next (form_bitOp hst)
theorem keepsForm_execOpAnd {e : BitVec 7} {mode : BitVec 2} {s : BitVec 6} {w1 : BitVec 14} {st : State} (hst : HasForm st) :
    KeepsForm (execOpAnd e mode s w1 st) :=
    keepsForm_next (form_bitOp hst)
theorem keepsForm_execOpAndn {e : BitVec 7} {mode : BitVec 2} {s : BitVec 6} {w1 : BitVec 14} {st : State} (hst : HasForm st) :
    KeepsForm (execOpAndn e mode s w1 st) :=
    keepsForm_next (form_bitOp hst)
theorem keepsForm_execOpOr {e : BitVec 7} {mode : BitVec 2} {s : BitVec 6} {w1 : BitVec 14} {st : State} (hst : HasForm st) :
    KeepsForm (execOpOr e mode s w1 st) :=
    keepsForm_next (form_bitOp hst)
theorem keepsForm_execOpOrn {e : BitVec 7} {mode : BitVec 2} {s : BitVec 6} {w1 : BitVec 14} {st : State} (hst : HasForm st) :
    KeepsForm (execOpOrn e mode s w1 st) :=
    keepsForm_next (form_bitOp hst)
theorem keepsForm_execOpXor {e : BitVec 7} {mode : BitVec 2} {s : BitVec 6} {w1 : BitVec 14} {st : State} (hst : HasForm st) :
    KeepsForm (execOpXor e mode s w1 st) :=
    keepsForm_next (form_bitOp hst)
theorem keepsForm_execOpXorn {e : BitVec 7} {mode : BitVec 2} {s : BitVec 6} {w1 : BitVec 14} {st : State} (hst : HasForm st) :
    KeepsForm (execOpXorn e mode s w1 st) :=
    keepsForm_next (form_bitOp hst)
theorem keepsForm_execOpSt {e : BitVec 7} {mode : BitVec 2} {s : BitVec 6} {w1 : BitVec 14} {st : State} (hst : HasForm st) :
    KeepsForm (execOpSt e mode s w1 st) :=
    keepsForm_next (form_bitStore hst)
theorem keepsForm_execOpStn {e : BitVec 7} {mode : BitVec 2} {s : BitVec 6} {w1 : BitVec 14} {st : State} (hst : HasForm st) :
    KeepsForm (execOpStn e mode s w1 st) :=
    keepsForm_next (form_bitStore hst)
theorem keepsForm_execOpSet {e : BitVec 7} {mode : BitVec 2} {s : BitVec 6} {w1 : BitVec 14} {st : State} (hst : HasForm st) :
    KeepsForm (execOpSet e mode s w1 st) :=
    keepsForm_next (form_bitStore hst)
theorem keepsForm_execOpRst {e : BitVec 7} {mode : BitVec 2} {s : BitVec 6} {w1 : BitVec 14} {st : State} (hst : HasForm st) :
    KeepsForm (execOpRst e mode s w1 st) :=
    keepsForm_next (form_bitStore hst)
theorem keepsForm_execOpNot {e : BitVec 7} {st : State} (hst : HasForm st) : KeepsForm (execOpNot e st) := keepsForm_next (form_regOp hst)
theorem keepsForm_execOpSetl {e : BitVec 7} {st : State} (hst : HasForm st) : KeepsForm (execOpSetl e st) := keepsForm_next (form_regOp hst)
theorem keepsForm_execOpClrl {e : BitVec 7} {st : State} (hst : HasForm st) : KeepsForm (execOpClrl e st) := keepsForm_next (form_regOp hst)
theorem keepsForm_execOpBpsh {e : BitVec 7} {st : State} (hst : HasForm st) : KeepsForm (execOpBpsh e st) := keepsForm_next (form_stackPush hst)
theorem keepsForm_execOpBrd {e : BitVec 7} {st : State} (hst : HasForm st) : KeepsForm (execOpBrd e st) := keepsForm_next (form_stackOp hst)
theorem keepsForm_execOpBrda {e : BitVec 7} {st : State} (hst : HasForm st) : KeepsForm (execOpBrda e st) := keepsForm_next (form_stackOp hst)
theorem keepsForm_execOpBrdo {e : BitVec 7} {st : State} (hst : HasForm st) : KeepsForm (execOpBrdo e st) := keepsForm_next (form_stackOp hst)
theorem keepsForm_execOpBpop {e : BitVec 7} {st : State} (hst : HasForm st) : KeepsForm (execOpBpop e st) := keepsForm_next (form_stackOp hst)
theorem keepsForm_execOpBppa {e : BitVec 7} {st : State} (hst : HasForm st) : KeepsForm (execOpBppa e st) := keepsForm_next (form_stackOp hst)
theorem keepsForm_execOpBppo {e : BitVec 7} {st : State} (hst : HasForm st) : KeepsForm (execOpBppo e st) := keepsForm_next (form_stackOp hst)
theorem keepsForm_execOpBdrp {e : BitVec 7} {st : State} (hst : HasForm st) : KeepsForm (execOpBdrp e st) := keepsForm_next (form_stackOp hst)
theorem keepsForm_execOpLra {e : BitVec 7} {st : State} (hst : HasForm st) : KeepsForm (execOpLra e st) := keepsForm_next (form_regOp hst)
theorem keepsForm_execOpAlr {e : BitVec 7} {st : State} (hst : HasForm st) : KeepsForm (execOpAlr e st) := keepsForm_next (form_regOp hst)
theorem keepsForm_execOpEdp {e : BitVec 7} {mode : BitVec 2} {s : BitVec 6} {w1 : BitVec 14} {st : State} (hst : HasForm st) :
    KeepsForm (execOpEdp e mode s w1 st) :=
    keepsForm_next (form_edge hst)
theorem keepsForm_execOpEdn {e : BitVec 7} {mode : BitVec 2} {s : BitVec 6} {w1 : BitVec 14} {st : State} (hst : HasForm st) :
    KeepsForm (execOpEdn e mode s w1 st) :=
    keepsForm_next (form_edge hst)

/-! ### EngArith -/

theorem form_wordOp {st : State} {e : Nat} {o : Opnd} {d : Nat} {l : BitVec 8} {f : Ctx → W → Res} (hst : HasForm st) :
    HasForm (st.wordOp e o d l f) :=
    form_issue hst
theorem form_cmpOp {st : State} {e : Nat} {o : Opnd} {d : Nat} {l : BitVec 8} {f : Ctx → W → BitVec 8} (hst : HasForm st) :
    HasForm (st.cmpOp e o d l f) :=
    form_issue hst
theorem form_divOp {st : State} {e : Nat} {o : Opnd} {f : W → W → Res} (hst : HasForm st) : HasForm (st.divOp e o f) := form_issue hst
theorem form_immOp {st : State} {e : Nat} {f : Ctx → Ctx} (hst : HasForm st) : HasForm (st.immOp e f) := form_issue hst
theorem form_shiftOp {st : State} {e : Nat} {o : Opnd} {f : W → Nat → Bool → Res} (hst : HasForm st) : HasForm (st.shiftOp e o f) := form_wordOp hst
theorem form_shiftImm {st : State} {e : Nat} {imm : BitVec 14} {f : W → Nat → Bool → Res} (hst : HasForm st) : HasForm (st.shiftImm e imm f) :=
    form_immOp hst
theorem keepsForm_execOpAdd {e : BitVec 7} {mode : BitVec 2} {s : BitVec 6} {w1 : BitVec 14} {st : State} (hst : HasForm st) :
    KeepsForm (execOpAdd e mode s w1 st) :=
    keepsForm_next (form_wordOp hst)
theorem keepsForm_execOpSub {e : BitVec 7} {mode : BitVec 2} {s : BitVec 6} {w1 : BitVec 14} {st : State} (hst : HasForm st) :
    KeepsForm (execOpSub e mode s w1 st) :=
    keepsForm_next (form_wordOp hst)
theorem keepsForm_execOpAdc {e : BitVec 7} {mode : BitVec 2} {s : BitVec 6} {w1 : BitVec 14} {st : State} (hst : HasForm st) :
    KeepsForm (execOpAdc e mode s w1 st) :=
    keepsForm_next (form_wordOp hst)
theorem keepsForm_execOpSbc {e : BitVec 7} {mode : BitVec 2} {s : BitVec 6} {w1 : BitVec 14} {st : State} (hst : HasForm st) :
    KeepsForm (execOpSbc e mode s w1 st) :=
    keepsForm_next (form_wordOp hst)
theorem keepsForm_execOpMul {e : BitVec 7} {mode : BitVec 2} {s : BitVec 6} {w1 : BitVec 14} {st : State} (hst : HasForm st) :
    KeepsForm (execOpMul e mode s w1 st) :=
    keepsForm_next (form_wordOp hst)
theorem keepsForm_execOpDiv {e : BitVec 7} {mode : BitVec 2} {s : BitVec 6} {w1 : BitVec 14} {st : State} (hst : HasForm st) :
    KeepsForm (execOpDiv e mode s w1 st) :=
    keepsForm_next (form_divOp hst)
theorem keepsForm_execOpMod {e : BitVec 7} {mode : BitVec 2} {s : BitVec 6} {w1 : BitVec 14} {st : State} (hst : HasForm st) :
    KeepsForm (execOpMod e mode s w1 st) :=
    keepsForm_next (form_divOp hst)
theorem keepsForm_execOpAndw {e : BitVec 7} {mode : BitVec 2} {s : BitVec 6} {w1 : BitVec 14} {st : State} (hst : HasForm st) :
    KeepsForm (execOpAndw e mode s w1 st) :=
    keepsForm_next (form_wordOp hst)
theorem keepsForm_execOpOrw {e : BitVec 7} {mode : BitVec 2} {s : BitVec 6} {w1 : BitVec 14} {st : State} (hst : HasForm st) :
    KeepsForm (execOpOrw e mode s w1 st) :=
    keepsForm_next (form_wordOp hst)
theorem keepsForm_execOpXorw {e : BitVec 7} {mode : BitVec 2} {s : BitVec 6} {w1 : BitVec 14} {st : State} (hst : HasForm st) :
    KeepsForm (execOpXorw e mode s w1 st) :=
    keepsForm_next (form_wordOp hst)
theorem keepsForm_execOpNeg {e : BitVec 7} {st : State} (hst : HasForm st) : KeepsForm (execOpNeg e st) := keepsForm_next (form_regOp hst)
theorem keepsForm_execOpCpl {e : BitVec 7} {st : State} (hst : HasForm st) : KeepsForm (execOpCpl e st) := keepsForm_next (form_regOp hst)
theorem keepsForm_execOpAddk {e : BitVec 7} {imm : BitVec 14} {st : State} (hst : HasForm st) : KeepsForm (execOpAddk e imm st) :=
    keepsForm_next (form_immOp hst)
theorem keepsForm_execOpAndk {e : BitVec 7} {imm : BitVec 14} {st : State} (hst : HasForm st) : KeepsForm (execOpAndk e imm st) :=
    keepsForm_next (form_immOp hst)
theorem keepsForm_execOpOrk {e : BitVec 7} {imm : BitVec 14} {st : State} (hst : HasForm st) : KeepsForm (execOpOrk e imm st) :=
    keepsForm_next (form_immOp hst)
theorem keepsForm_execOpXork {e : BitVec 7} {imm : BitVec 14} {st : State} (hst : HasForm st) : KeepsForm (execOpXork e imm st) :=
    keepsForm_next (form_immOp hst)
theorem keepsForm_execOpClrs {e : BitVec 7} {st : State} (hst : HasForm st) : KeepsForm (execOpClrs e st) := keepsForm_next (form_regOp hst)
theorem keepsForm_execOpShl {e : BitVec 7} {mode : BitVec 2} {s : BitVec 6} {w1 : BitVec 14} {st : State} (hst : HasForm st) :
    KeepsForm (execOpShl e mode s w1 st) :=
    keepsForm_next (form_shiftOp hst)
theorem keepsForm_execOpShr {e : BitVec 7} {mode : BitVec 2} {s : BitVec 6} {w1 : BitVec 14} {st : State} (hst : HasForm st) :
    KeepsForm (execOpShr e mode s w1 st) :=
    keepsForm_next (form_shiftOp hst)
theorem keepsForm_execOpSar {e : BitVec 7} {mode : BitVec 2} {s : BitVec 6} {w1 : BitVec 14} {st : State} (hst : HasForm st) :
    KeepsForm (execOpSar e mode s w1 st) :=
    keepsForm_next (form_shiftOp hst)
theorem keepsForm_execOpRol {e : BitVec 7} {mode : BitVec 2} {s : BitVec 6} {w1 : BitVec 14} {st : State} (hst : HasForm st) :
    KeepsForm (execOpRol e mode s w1 st) :=
    keepsForm_next (form_shiftOp hst)
theorem keepsForm_execOpRor {e : BitVec 7} {mode : BitVec 2} {s : BitVec 6} {w1 : BitVec 14} {st : State} (hst : HasForm st) :
    KeepsForm (execOpRor e mode s w1 st) :=
    keepsForm_next (form_shiftOp hst)
theorem keepsForm_execOpShlk {e : BitVec 7} {imm : BitVec 14} {st : State} (hst : HasForm st) : KeepsForm (execOpShlk e imm st) :=
    keepsForm_next (form_shiftImm hst)
theorem keepsForm_execOpShrk {e : BitVec 7} {imm : BitVec 14} {st : State} (hst : HasForm st) : KeepsForm (execOpShrk e imm st) :=
    keepsForm_next (form_shiftImm hst)
theorem keepsForm_execOpSark {e : BitVec 7} {imm : BitVec 14} {st : State} (hst : HasForm st) : KeepsForm (execOpSark e imm st) :=
    keepsForm_next (form_shiftImm hst)
theorem keepsForm_execOpRolk {e : BitVec 7} {imm : BitVec 14} {st : State} (hst : HasForm st) : KeepsForm (execOpRolk e imm st) :=
    keepsForm_next (form_shiftImm hst)
theorem keepsForm_execOpRork {e : BitVec 7} {imm : BitVec 14} {st : State} (hst : HasForm st) : KeepsForm (execOpRork e imm st) :=
    keepsForm_next (form_shiftImm hst)
theorem keepsForm_execOpFadd {e : BitVec 7} {mode : BitVec 2} {s : BitVec 6} {w1 : BitVec 14} {st : State} (hst : HasForm st) :
    KeepsForm (execOpFadd e mode s w1 st) :=
    keepsForm_next (form_wordOp hst)
theorem keepsForm_execOpFsub {e : BitVec 7} {mode : BitVec 2} {s : BitVec 6} {w1 : BitVec 14} {st : State} (hst : HasForm st) :
    KeepsForm (execOpFsub e mode s w1 st) :=
    keepsForm_next (form_wordOp hst)
theorem keepsForm_execOpFmul {e : BitVec 7} {mode : BitVec 2} {s : BitVec 6} {w1 : BitVec 14} {st : State} (hst : HasForm st) :
    KeepsForm (execOpFmul e mode s w1 st) :=
    keepsForm_next (form_wordOp hst)
theorem keepsForm_execOpFdiv {e : BitVec 7} {mode : BitVec 2} {s : BitVec 6} {w1 : BitVec 14} {st : State} (hst : HasForm st) :
    KeepsForm (execOpFdiv e mode s w1 st) :=
    keepsForm_next (form_wordOp hst)
theorem keepsForm_execOpFcmp {e : BitVec 7} {mode : BitVec 2} {s : BitVec 6} {w1 : BitVec 14} {st : State} (hst : HasForm st) :
    KeepsForm (execOpFcmp e mode s w1 st) :=
    keepsForm_next (form_cmpOp hst)
theorem keepsForm_execOpItof {e : BitVec 7} {st : State} (hst : HasForm st) : KeepsForm (execOpItof e st) := keepsForm_next (form_regOp hst)
theorem keepsForm_execOpFtoi {e : BitVec 7} {st : State} (hst : HasForm st) : KeepsForm (execOpFtoi e st) := keepsForm_next (form_regOp hst)
theorem keepsForm_execOpFneg {e : BitVec 7} {st : State} (hst : HasForm st) : KeepsForm (execOpFneg e st) := keepsForm_next (form_regOp hst)
theorem keepsForm_execOpFabs {e : BitVec 7} {st : State} (hst : HasForm st) : KeepsForm (execOpFabs e st) := keepsForm_next (form_regOp hst)
theorem keepsForm_execOpCmp {e : BitVec 7} {mode : BitVec 2} {s : BitVec 6} {w1 : BitVec 14} {st : State} (hst : HasForm st) :
    KeepsForm (execOpCmp e mode s w1 st) :=
    keepsForm_next (form_cmpOp hst)
theorem keepsForm_execOpCmpk {e : BitVec 7} {imm : BitVec 14} {st : State} (hst : HasForm st) : KeepsForm (execOpCmpk e imm st) :=
    keepsForm_next (form_immOp hst)
theorem keepsForm_execOpCnd {e : BitVec 7} {cc : BitVec 4} {st : State} (hst : HasForm st) : KeepsForm (execOpCnd e cc st) :=
    keepsForm_next (form_regOp hst)
theorem keepsForm_execOpTos {e : BitVec 7} {st : State} (hst : HasForm st) : KeepsForm (execOpTos e st) := keepsForm_next (form_regOp hst)
theorem keepsForm_execOpTdz {e : BitVec 7} {st : State} (hst : HasForm st) : KeepsForm (execOpTdz e st) := keepsForm_next (form_regOp hst)
theorem keepsForm_execOpTnv {e : BitVec 7} {st : State} (hst : HasForm st) : KeepsForm (execOpTnv e st) := keepsForm_next (form_regOp hst)
theorem keepsForm_execOpTnx {e : BitVec 7} {st : State} (hst : HasForm st) : KeepsForm (execOpTnx e st) := keepsForm_next (form_regOp hst)

/-! ### EngLoad -/

theorem form_loadOp {st : State} {e : Nat} {o : Opnd} {sp : Space} {f : Ctx → W → Ctx} (hst : HasForm st) : HasForm (st.loadOp e o sp f) :=
    form_issue hst
theorem form_storeOp {st : State} {e : Nat} {o : Opnd} {sp : Space} {f : Ctx → W} (hst : HasForm st) : HasForm (st.storeOp e o sp f) := form_issue hst
theorem keepsForm_execOpLda {e : BitVec 7} {mode : BitVec 2} {s : BitVec 6} {w1 : BitVec 14} {st : State} (hst : HasForm st) :
    KeepsForm (execOpLda e mode s w1 st) :=
    keepsForm_next (form_loadOp hst)
theorem keepsForm_execOpSta {e : BitVec 7} {mode : BitVec 2} {s : BitVec 6} {w1 : BitVec 14} {st : State} (hst : HasForm st) :
    KeepsForm (execOpSta e mode s w1 st) :=
    keepsForm_next (form_storeOp hst)
theorem keepsForm_execOpLdi {e : BitVec 7} {mode : BitVec 2} {s : BitVec 6} {w1 : BitVec 14} {st : State} (hst : HasForm st) :
    KeepsForm (execOpLdi e mode s w1 st) :=
    keepsForm_next (form_loadOp hst)
theorem keepsForm_execOpSti {e : BitVec 7} {mode : BitVec 2} {s : BitVec 6} {w1 : BitVec 14} {st : State} (hst : HasForm st) :
    KeepsForm (execOpSti e mode s w1 st) :=
    keepsForm_next (form_storeOp hst)
theorem keepsForm_execOpLdx {e : BitVec 7} {mode : BitVec 2} {s : BitVec 6} {w1 : BitVec 14} {st : State} (hst : HasForm st) :
    KeepsForm (execOpLdx e mode s w1 st) :=
    keepsForm_next (form_loadOp hst)
theorem keepsForm_execOpStx {e : BitVec 7} {mode : BitVec 2} {s : BitVec 6} {w1 : BitVec 14} {st : State} (hst : HasForm st) :
    KeepsForm (execOpStx e mode s w1 st) :=
    keepsForm_next (form_storeOp hst)
theorem keepsForm_execOpLdy {e : BitVec 7} {mode : BitVec 2} {s : BitVec 6} {w1 : BitVec 14} {st : State} (hst : HasForm st) :
    KeepsForm (execOpLdy e mode s w1 st) :=
    keepsForm_next (form_loadOp hst)
theorem keepsForm_execOpSty {e : BitVec 7} {mode : BitVec 2} {s : BitVec 6} {w1 : BitVec 14} {st : State} (hst : HasForm st) :
    KeepsForm (execOpSty e mode s w1 st) :=
    keepsForm_next (form_storeOp hst)
theorem keepsForm_execOpTax {e : BitVec 7} {st : State} (hst : HasForm st) : KeepsForm (execOpTax e st) := keepsForm_next (form_regOp hst)
theorem keepsForm_execOpTxa {e : BitVec 7} {st : State} (hst : HasForm st) : KeepsForm (execOpTxa e st) := keepsForm_next (form_regOp hst)
theorem keepsForm_execOpTay {e : BitVec 7} {st : State} (hst : HasForm st) : KeepsForm (execOpTay e st) := keepsForm_next (form_regOp hst)
theorem keepsForm_execOpTya {e : BitVec 7} {st : State} (hst : HasForm st) : KeepsForm (execOpTya e st) := keepsForm_next (form_regOp hst)
theorem keepsForm_execOpTxy {e : BitVec 7} {st : State} (hst : HasForm st) : KeepsForm (execOpTxy e st) := keepsForm_next (form_regOp hst)
theorem keepsForm_execOpTyx {e : BitVec 7} {st : State} (hst : HasForm st) : KeepsForm (execOpTyx e st) := keepsForm_next (form_regOp hst)
theorem keepsForm_execOpInx {e : BitVec 7} {st : State} (hst : HasForm st) : KeepsForm (execOpInx e st) := keepsForm_next (form_regOp hst)
theorem keepsForm_execOpDex {e : BitVec 7} {st : State} (hst : HasForm st) : KeepsForm (execOpDex e st) := keepsForm_next (form_regOp hst)
theorem keepsForm_execOpIny {e : BitVec 7} {st : State} (hst : HasForm st) : KeepsForm (execOpIny e st) := keepsForm_next (form_regOp hst)
theorem keepsForm_execOpDey {e : BitVec 7} {st : State} (hst : HasForm st) : KeepsForm (execOpDey e st) := keepsForm_next (form_regOp hst)
theorem keepsForm_execOpLdk {e : BitVec 7} {imm : BitVec 14} {st : State} (hst : HasForm st) : KeepsForm (execOpLdk e imm st) :=
    keepsForm_next (form_immOp hst)
theorem keepsForm_execOpLdks {e : BitVec 7} {imm : BitVec 14} {st : State} (hst : HasForm st) : KeepsForm (execOpLdks e imm st) :=
    keepsForm_next (form_immOp hst)
theorem keepsForm_execOpLxk {e : BitVec 7} {imm : BitVec 14} {st : State} (hst : HasForm st) : KeepsForm (execOpLxk e imm st) :=
    keepsForm_next (form_immOp hst)
theorem keepsForm_execOpLxks {e : BitVec 7} {imm : BitVec 14} {st : State} (hst : HasForm st) : KeepsForm (execOpLxks e imm st) :=
    keepsForm_next (form_immOp hst)
theorem keepsForm_execOpAxk {e : BitVec 7} {imm : BitVec 14} {st : State} (hst : HasForm st) : KeepsForm (execOpAxk e imm st) :=
    keepsForm_next (form_immOp hst)
theorem keepsForm_execOpLyk {e : BitVec 7} {imm : BitVec 14} {st : State} (hst : HasForm st) : KeepsForm (execOpLyk e imm st) :=
    keepsForm_next (form_immOp hst)
theorem keepsForm_execOpLyks {e : BitVec 7} {imm : BitVec 14} {st : State} (hst : HasForm st) : KeepsForm (execOpLyks e imm st) :=
    keepsForm_next (form_immOp hst)
theorem keepsForm_execOpAyk {e : BitVec 7} {imm : BitVec 14} {st : State} (hst : HasForm st) : KeepsForm (execOpAyk e imm st) :=
    keepsForm_next (form_immOp hst)

/-! ### EngJump -/

theorem form_call {st : State} {e w : Nat} {tgt : Ctx → Nat} (hst : HasForm st) : HasForm (st.call e w tgt) := form_issueNoSlot hst
theorem form_endPass {s : State} {p t : Nat} (hs : HasForm s) : HasForm (s.endPass p t) :=
    form_ite (form_offTask (form_setTask hs)) (form_freeEngine (form_addJob (form_setTState (form_setTask hs))))
theorem form_issueEnd {s : State} {e : Nat} (hs : HasForm s) : HasForm (s.issueEnd e) := by
  unfold State.issueEnd
  split
  · exact hs
  · split
    · exact form_trap hs
    · exact form_ite (form_trap hs) (form_endPass hs)
theorem keepsForm_execOpJmp {e : BitVec 7} {mode : BitVec 2} {s : BitVec 6} {w1 : BitVec 14} {st : State} (hst : HasForm st) :
    KeepsForm (execOpJmp e mode s w1 st) :=
    keepsForm_next (form_issueNoSlot hst)
theorem keepsForm_execOpJc {e : BitVec 7} {mode : BitVec 2} {s : BitVec 6} {w1 : BitVec 14} {st : State} (hst : HasForm st) :
    KeepsForm (execOpJc e mode s w1 st) :=
    keepsForm_next (form_issueNoSlot hst)
theorem keepsForm_execOpCall {e : BitVec 7} {mode : BitVec 2} {s : BitVec 6} {w1 : BitVec 14} {st : State} (hst : HasForm st) :
    KeepsForm (execOpCall e mode s w1 st) :=
    keepsForm_next (form_call hst)
theorem keepsForm_execOpRet {e : BitVec 7} {st : State} (hst : HasForm st) : KeepsForm (execOpRet e st) := keepsForm_next (form_issueNoSlot hst)
theorem keepsForm_execOpJmpx {e : BitVec 7} {st : State} (hst : HasForm st) : KeepsForm (execOpJmpx e st) := keepsForm_next (form_issueNoSlot hst)
theorem keepsForm_execOpCallx {e : BitVec 7} {st : State} (hst : HasForm st) : KeepsForm (execOpCallx e st) := keepsForm_next (form_call hst)
theorem keepsForm_execOpEnd {e : BitVec 7} {st : State} (hst : HasForm st) : KeepsForm (execOpEnd e st) := keepsForm_next (form_issueEnd hst)
theorem keepsForm_execOpNop {e : BitVec 7} {st : State} (hst : HasForm st) : KeepsForm (execOpNop e st) := keepsForm_next (form_regOp hst)

/-! ### Tasks -/

theorem form_startPass {s : State} {p t : Nat} {stamp relAt base : W64} (hs : HasForm s) : HasForm (s.startPass p t stamp relAt base) :=
    form_addJob (form_setTState (form_setTask (form_noteBegin hs)))
theorem form_startTb {s : State} {p : Nat} (hs : HasForm s) : HasForm (s.startTb p) := form_startPass hs
theorem form_becomeIdle {s : State} {p t : Nat} {g : W64} (hs : HasForm s) : HasForm (s.becomeIdle p t g) :=
    form_ite (form_ite (form_setTState hs) (form_startTb hs)) (form_setTState (form_setTask hs))
theorem form_kick {s : State} {e : Nat} (hs : HasForm s) : HasForm (s.kick e) := by
  refine form_ite hs ?_
  split
  · exact hs
  · exact form_ite (form_takeEngine hs) (form_setEng hs)
theorem form_kickAll {s : State} {p : Nat} (hs : HasForm s) : HasForm (s.kickAll p) := form_foldl _ (fun _ _ => form_kick) _ hs
theorem form_holdTask {s : State} {p t : Nat} (hs : HasForm s) : HasForm (s.holdTask p t) :=
    form_ite (form_setTState (form_setTask hs)) (form_ite (form_setTask hs) (form_ite (form_freezeTask hs) (form_ite (form_ite (form_setTask hs)
    (form_freeEngine (form_freezeTask hs))) hs)))
theorem form_enterHold {s : State} {p src : Nat} (hs : HasForm s) : HasForm (s.enterHold p src) :=
    form_mirrorMode (form_pdEvent (form_foldl _ (fun _ _ => form_holdTask) _ (form_setPart (form_setRf _ _ _ _ (form_setRf _ _ _ _ (form_freezeTime
    hs))))))
theorem form_resumeTime {s : State} {p : Nat} (hs : HasForm s) : HasForm (s.resumeTime p) := form_setReg64 _ _ hs
theorem form_runTask {s : State} {p t : Nat} (hs : HasForm s) : HasForm (s.runTask p t) :=
    form_ite (form_becomeIdle (form_setRf _ _ _ _ (form_setTask hs))) (form_setRf _ _ _ _ (form_setTask hs))
theorem form_enterRun {s : State} {p : Nat} (hs : HasForm s) : HasForm (s.enterRun p) :=
    form_mirrorMode (form_pdEvent (form_foldl _ (fun _ _ => form_runTask) _ (form_setPart (form_setRf _ _ _ _ (form_resumeTime (form_abandonCopy
    hs))))))
theorem form_failSave {s : State} {e p t : Nat} {words : List W} (hs : HasForm s) : HasForm (s.failSave e p t words) :=
    form_passFault (form_partFault (form_setTState (form_keepSave hs)))
theorem form_parkTask {s : State} {p t : Nat} (hs : HasForm s) : HasForm (s.parkTask p t) :=
    form_ite (form_setTState (form_saveCtx hs)) (form_failSave (form_ctxFault (form_saveCtx hs)))
theorem form_resumeTask {s : State} {p t : Nat} (hs : HasForm s) : HasForm (s.resumeTask p t) :=
    form_ite hs (form_ite (form_ite (form_ite (form_becomeIdle (form_setTask hs)) (form_setTState (form_setTask hs))) (form_ite (form_ite
    (form_takeEngine (form_setTask hs)) (form_parkTask (form_setTask hs))) (form_setTState (form_setTask hs)))) (form_ite (form_becomeIdle hs) hs))
theorem form_enterResume {s : State} {p : Nat} (hs : HasForm s) : HasForm (s.enterResume p) :=
    form_mirrorMode (form_pdEvent (form_kickAll (form_foldl _ (fun _ _ => form_resumeTask) _ (form_setPart (form_setRf _ _ _ _ (form_resumeTime
    hs))))))
theorem form_pdGuard {s : State} {src p off : Nat} {k : State → Nat → State} (hs : HasForm s) (hk : ∀ u0 x1, HasForm u0 → HasForm (k u0 x1)) :
    HasForm (s.pdGuard src p off k) :=
    form_ite hs (form_ite (form_refuse hs) (hk _ _ hs))
theorem form_pdCmd {s : State} {src p : Nat} {k : State → Nat → State} (hs : HasForm s) (hk : ∀ u0 x1, HasForm u0 → HasForm (k u0 x1)) :
    HasForm (s.pdCmd src p k) :=
    form_pdGuard hs (fun _ _ h1 => form_ite (form_setRf _ _ _ _ h1) (form_ite (form_endCmd h1) (hk _ _ h1)))
theorem form_await {s : State} {p : Nat} {c : PdCmd} (hs : HasForm s) : HasForm (s.await p c) := form_setPart (form_setRf _ _ _ _ hs)

/-! ### Clock -/

theorem form_merEvent {s : State} {bits : W} (hs : HasForm s) : HasForm (s.merEvent bits) := form_groupEvent hs
theorem form_setSrcValid {s : State} {src : Nat} {v : Bool} (hs : HasForm s) : HasForm (s.setSrcValid src v) :=
    form_with_ppsOut (form_setRf _ _ _ _ (form_setRf _ _ _ _ hs))
theorem form_rtcEvent {s : State} {bits : W} (hs : HasForm s) : HasForm (s.rtcEvent bits) := form_groupEvent hs
theorem form_measAbort {s : State} {cause : Nat} (hs : HasForm s) : HasForm (s.measAbort cause) := by
  unfold State.measAbort
  split
  · exact hs
  · exact form_rtcEvent (form_with_meas (form_setReg _ _ hs))
theorem form_measAbortMer {s : State} (hs : HasForm s) : HasForm s.measAbortMer := by
  unfold State.measAbortMer
  split
  · exact form_ite hs (form_measAbort hs)
  · exact hs
theorem form_stepTime {s : State} {d : Int} (hs : HasForm s) : HasForm (s.stepTime d) :=
    form_merEvent (form_measAbortMer (form_with_tasks_cans_trigEnd_shadow (form_foldl _ (fun _ _ h1 => form_setReg64 _ _ h1) _ (form_with_merMark
    (form_with_mer hs)))))
theorem form_endMer {s : State} {r : Nat} (hs : HasForm s) : HasForm (s.endMer r) := form_setRf _ _ _ _ (form_setRf _ _ _ _ hs)
theorem form_hostStep {s : State} (hs : HasForm s) : HasForm s.hostStep :=
    form_ite (form_endMer (form_setSrcValid (form_stepTime hs))) (form_endMer hs)
theorem form_merCmd {s : State} {src : Nat} {k : State → State} (hs : HasForm s) (hk : ∀ u0, HasForm u0 → HasForm (k u0)) :
    HasForm (s.merCmd src k) :=
    form_ite hs (form_ite (form_setRf _ _ _ _ hs) (hk _ hs))
theorem keepsForm_execMerStep {src : BitVec 10} {st : State} (hst : HasForm st) : KeepsForm (execMerStep src st) :=
    keepsForm_next (form_merCmd hst (fun _ => form_hostStep))
theorem form_seed {s : State} (hs : HasForm s) : HasForm s.seed :=
    form_ite (form_endMer (form_setSrcValid (form_with_mer (form_stepTime hs)))) (form_endMer hs)
theorem form_seedWait {s : State} (hs : HasForm s) : HasForm s.seedWait := form_ite (form_with_seedCmd (form_setRf _ _ _ _ hs)) (form_endMer hs)
theorem keepsForm_execMerSeed {src : BitVec 10} {st : State} (hst : HasForm st) : KeepsForm (execMerSeed src st) :=
    keepsForm_next (form_merCmd hst (fun _ => form_seedWait))
theorem keepsForm_execMeridianSeed {dt : Nat} {st : State} (hst : HasForm st) : KeepsForm (execMeridianSeed dt st) :=
    keepsForm_next (form_ite (form_ite (form_seed (form_with_seedDue_seedCmd (form_elapse hst))) (form_endMer (form_with_seedDue_seedCmd (form_elapse
    hst)))) (form_elapse hst))
theorem keepsForm_execMerFracWrite {src : BitVec 10} {data : W} {st : State} (hst : HasForm st) : KeepsForm (execMerFracWrite src data st) :=
    keepsForm_next (form_ite hst (form_ite (form_refuse hst) (form_setReg _ _ hst)))
theorem form_sendMer {s : State} {p kind : Nat} {b1to5 : List Byte} {rseq : Nat} {t1 t2 : W64} (hs : HasForm s) :
    HasForm (s.sendMer p kind b1to5 rseq t1 t2) :=
    form_ite (form_with_merSeq (form_emit hs)) hs
theorem form_sendSync {s : State} {ps : List Nat} {prio master steps : Nat} {ppsl : Bool} (hs : HasForm s) :
    HasForm (s.sendSync ps prio master steps ppsl) :=
    form_foldl _ (fun _ _ => form_sendMer) _ hs
theorem form_setLock {s : State} {v : Bool} (hs : HasForm s) : HasForm (s.setLock v) := form_ite hs (form_merEvent (form_setRf _ _ _ _ hs))
theorem form_refreshMer {s : State} (hs : HasForm s) : HasForm s.refreshMer :=
    form_ite (form_setRf _ _ _ _ (form_setRf _ _ _ _ (form_setRf _ _ _ _ hs))) (form_merEvent (form_with_merLock (form_setRf _ _ _ _ (form_setRf _ _ _
    _ (form_setRf _ _ _ _ hs)))))
theorem form_lockStep {s : State} {d : Int} (hs : HasForm s) : HasForm (s.lockStep d) :=
    form_ite (form_setLock (form_with_merLock hs)) (form_ite (form_setLock (form_with_merLock hs)) (form_with_merLock hs))
theorem form_freeFrac {s : State} (hs : HasForm s) : HasForm s.freeFrac := form_setReg _ _ (form_useFresh hs)
theorem form_servo {s : State} {d : Int} {valid : Bool} (hs : HasForm s) : HasForm (s.servo d valid) :=
    form_ite hs (form_ite (form_ite (form_setSrcValid (form_stepTime hs)) hs) (form_freeFrac hs))
theorem form_acceptSync {s : State} {p : Nat} {c : Cand} {t1 : W64} (hs : HasForm s) : HasForm (s.acceptSync p c t1) :=
    form_sendSync (form_servo (form_lockStep (form_setReg _ _ (form_advance _ hs))))
theorem form_merDisc {s : State} (hs : HasForm s) : HasForm s.merDisc := form_count _ hs
theorem keepsForm_execSync {port : BitVec 7} {prio : Byte} {master : BitVec 16} {steps : Byte} {valid ppsl : Bool} {t1 : W64} {dt : Nat} {st : State}
    (hst : HasForm st) :
    KeepsForm (execSync port prio master steps valid ppsl t1 dt st) :=
    keepsForm_next (form_ite (form_merDisc (form_elapse hst)) (form_ite (form_acceptSync (form_refreshMer (form_with_merCand (form_elapse hst))))
    (form_refreshMer (form_with_merCand (form_elapse hst)))))
theorem keepsForm_execSyncSend {dt : Nat} {st : State} (hst : HasForm st) : KeepsForm (execSyncSend dt st) :=
    keepsForm_next (form_ite (form_sendSync (form_refreshMer (form_elapse hst))) (form_refreshMer (form_elapse hst)))
theorem keepsForm_execSyncTimeout {dt : Nat} {st : State} (hst : HasForm st) : KeepsForm (execSyncTimeout dt st) :=
    keepsForm_next (form_refreshMer (form_ite (form_setLock (form_with_merLock (form_elapse hst))) (form_elapse hst)))
theorem keepsForm_execDreq {port : BitVec 7} {seq : BitVec 16} {dt : Nat} {st : State} (hst : HasForm st) : KeepsForm (execDreq port seq dt st) :=
    keepsForm_next (form_ite (form_merDisc (form_elapse hst)) (form_sendMer (form_elapse hst)))
theorem keepsForm_execDreqSend {port : BitVec 7} {dt : Nat} {st : State} (hst : HasForm st) : KeepsForm (execDreqSend port dt st) :=
    keepsForm_next (form_ite (form_with_merReq (form_sendMer (form_elapse hst))) (form_elapse hst))
theorem form_takeDelay {s : State} {p : Nat} {d : Int} (hs : HasForm s) : HasForm (s.takeDelay p d) :=
    form_ite (form_setReg _ _ (form_with_merDly hs)) hs
theorem keepsForm_execDresp {port : BitVec 7} {rseq : BitVec 16} {t1 t2 : W64} {dt : Nat} {st : State} (hst : HasForm st) :
    KeepsForm (execDresp port rseq t1 t2 dt st) := by
  refine keepsForm_next (form_ite (form_merDisc (form_elapse hst)) ?_)
  split
  · exact form_ite (form_takeDelay (form_with_merReq (form_elapse hst))) (form_elapse hst)
  · exact form_elapse hst
theorem keepsForm_execPpsOutRise {dt : Nat} {st : State} (hst : HasForm st) : KeepsForm (execPpsOutRise dt st) :=
    keepsForm_next (form_ite (form_with_ppsOut_ppsSec (form_elapse hst)) (form_elapse hst))
theorem keepsForm_execPpsOutFall {dt : Nat} {st : State} (hst : HasForm st) : KeepsForm (execPpsOutFall dt st) :=
    keepsForm_next (form_ite (form_with_ppsOut (form_elapse hst)) (form_elapse hst))
theorem keepsForm_execPpsInEdge {dt : Nat} {st : State} (hst : HasForm st) : KeepsForm (execPpsInEdge dt st) :=
    keepsForm_next (form_ite (form_elapse hst) (form_ite (form_ite (form_freeFrac (form_lockStep (form_merEvent (form_setReg64 _ _ (form_with_ppsAt
    (form_elapse hst)))))) (form_lockStep (form_merEvent (form_setReg64 _ _ (form_with_ppsAt (form_elapse hst)))))) (form_merEvent (form_setReg64 _ _
    (form_with_ppsAt (form_elapse hst))))))

/-! ### CanBus -/

theorem form_setCan {s : State} {n : Nat} {c : Can} (hs : HasForm s) : HasForm (s.setCan n c) := form_with_cans hs
theorem form_canEvent {s : State} {n : Nat} {bits : W} (hs : HasForm s) : HasForm (s.canEvent n bits) := form_groupEvent hs
theorem form_canJoin {s : State} {n : Nat} (hs : HasForm s) : HasForm (s.canJoin n) := form_setCan hs
theorem form_storeObj {s : State} {n k : Nat} {rec : List W} (hs : HasForm s) : HasForm (s.storeObj n k rec) :=
    form_ite (form_canEvent (form_setReg _ _ (form_foldl _ (fun _ _ h1 => form_setReg _ _ h1) _ hs))) (form_setReg _ _ (form_foldl _ (fun _ _ h1 =>
    form_setReg _ _ h1) _ hs))
theorem form_ackObj {s : State} {n k : Nat} (hs : HasForm s) : HasForm (s.ackObj n k) := form_setRf _ _ _ _ hs
theorem form_toObj {s : State} {n k : Nat} {rec : List W} (hs : HasForm s) : HasForm (s.toObj n k rec) := by
  unfold State.toObj
  split
  · exact form_ite (form_ite (form_setCan (form_useFresh hs)) (form_storeObj (form_useFresh hs))) (form_storeObj hs)
  · exact form_storeObj hs
theorem form_strain {s : State} {n : Nat} {id : Bool × Nat} {ctl : W} {data : List Byte} {sof : W64} (hs : HasForm s) :
    HasForm (s.strain n id ctl data sof) := by
  unfold State.strain
  split
  · exact form_count _ hs
  · exact form_ite hs (form_toObj hs)
theorem form_refMark {s : State} {n c : Nat} {sof : W64} (hs : HasForm s) : HasForm (s.refMark n c sof) :=
    form_setRf _ _ _ _ (form_setRf _ _ _ _ (form_setCan hs))
theorem form_refIn {s : State} {n : Nat} {id : Bool × Nat} {data : List Byte} {sof : W64} (hs : HasForm s) : HasForm (s.refIn n id data sof) :=
    form_ite (form_setCan (form_refMark hs)) (form_refMark hs)
theorem form_goodRx {s : State} {n : Nat} (hs : HasForm s) : HasForm (s.goodRx n) :=
    form_ite (form_canEvent (form_setRf _ _ _ _ (form_ite (form_setRf _ _ _ _ (form_useFresh hs)) (form_setRf _ _ _ _ hs)))) (form_ite (form_setRf _ _
    _ _ (form_useFresh hs)) (form_setRf _ _ _ _ hs))
theorem form_canDrive {s : State} {n : Nat} {o : Output} (hs : HasForm s) : HasForm (s.canDrive n o) := form_ite (form_emit hs) hs
theorem form_canRx {s : State} {n : Nat} {id ctl : W} {data : List Byte} {sof : W64} (hs : HasForm s) :
    HasForm (s.canRx n id ctl data sof) := by
  unfold State.canRx
  extract_lets s1 s2
  have hs1 : HasForm s1 := form_goodRx (form_count _ (form_canDrive hs))
  exact form_strain (form_ite (form_refIn hs1) hs1)
theorem keepsForm_execHeldFrameWrite {n : BitVec 4} {dt : Nat} {st : State} (hst : HasForm st) : KeepsForm (execHeldFrameWrite n dt st) := by
  refine keepsForm_next ?_
  split
  · exact form_storeObj (form_setCan (form_elapse hst))
  · exact form_elapse hst
theorem form_mbEnd {s : State} {n m err : Nat} (hs : HasForm s) : HasForm (s.mbEnd n m err) :=
    form_ite (form_canEvent (form_setRf _ _ _ _ (form_setRf _ _ _ _ hs))) (form_setRf _ _ _ _ (form_setRf _ _ _ _ hs))
theorem form_mbCancel {s : State} {n m : Nat} (hs : HasForm s) : HasForm (s.mbCancel n m) :=
    form_ite (form_setCan (form_setRf _ _ _ _ hs)) (form_ite (form_mbEnd (form_setRf _ _ _ _ hs)) (form_setRf _ _ _ _ hs))
theorem form_cancelAll {s : State} {n : Nat} (hs : HasForm s) : HasForm (s.cancelAll n) := form_foldl _ (fun _ _ => form_mbCancel) _ (form_setCan hs)
theorem form_mbRequest {s : State} {n m : Nat} (hs : HasForm s) : HasForm (s.mbRequest n m) :=
    form_ite (form_mbEnd hs) (form_ite (form_setRf _ _ _ _ hs) (form_setRf _ _ _ _ hs))
theorem form_mbLoad {s : State} {n m : Nat} {id : W} {rec : List W} (hs : HasForm s) : HasForm (s.mbLoad n m id rec) :=
    form_mbRequest (form_foldl _ (fun _ _ h1 => form_setReg _ _ h1) _ (form_setReg _ _ hs))
theorem form_dropFd {s : State} {n : Nat} (hs : HasForm s) : HasForm (s.dropFd n) := form_foldl _ (fun _ _ h1 => form_ite (form_mbEnd h1) h1) _ hs
theorem form_startMb {s : State} {n m delay : Nat} (hs : HasForm s) : HasForm (s.startMb n m delay) :=
    form_ite (form_setReg _ _ (form_setCan hs)) (form_setCan hs)
theorem keepsForm_execCanTransmitStart {n : BitVec 4} {delay : BitVec 8} {dt : Nat} {st : State} (hst : HasForm st) :
    KeepsForm (execCanTransmitStart n delay dt st) := by
  refine keepsForm_next (form_ite (form_ite (form_setCan (form_elapse hst)) ?_) (form_elapse hst))
  dsimp only
  split
  · exact form_startMb (form_dropFd (form_setCan (form_elapse hst)))
  · exact form_dropFd (form_setCan (form_elapse hst))
theorem form_goodTx {s : State} {n : Nat} (hs : HasForm s) : HasForm (s.goodTx n) :=
    form_ite (form_canEvent (form_setRf _ _ _ _ (form_setRf _ _ _ _ (form_count _ hs)))) (form_setRf _ _ _ _ (form_count _ hs))
theorem form_canOut {s : State} {n : Nat} {ws : List W} (hs : HasForm s) : HasForm (s.canOut n ws) := form_ite hs (form_emit hs)
theorem form_loopBack {s : State} {n : Nat} {id ctl : W} {data : List Byte} {sof : W64} (hs : HasForm s) : HasForm (s.loopBack n id ctl data sof) :=
    form_ite (form_strain (form_count _ hs)) hs
theorem form_sentMb {s : State} {n m : Nat} {sof : W64} (hs : HasForm s) : HasForm (s.sentMb n m sof) :=
    form_loopBack (form_setRf _ _ _ _ (form_mbEnd (form_canOut (form_goodTx hs))))
theorem form_sentRef {s : State} {n c : Nat} {sof : W64} (hs : HasForm s) : HasForm (s.sentRef n c sof) :=
    form_loopBack (form_setCan (form_refMark (form_canOut (form_goodTx hs))))
theorem keepsForm_execCanTransmitDone {n : BitVec 4} {ago : Nat} {dt : Nat} {st : State} (hst : HasForm st) :
    KeepsForm (execCanTransmitDone n ago dt st) := by
  refine keepsForm_next ?_
  split
  · exact form_elapse hst
  · refine form_ite (form_sentMb (form_setCan (form_elapse hst))) ?_
    split
    · exact form_sentRef (form_setCan (form_elapse hst))
    · exact form_setCan (form_elapse hst)
theorem form_failBus {s : State} {n : Nat} (hs : HasForm s) : HasForm (s.failBus n) := by
  unfold State.failBus
  split
  · exact hs
  · exact form_ite (form_setCan hs) (form_ite (form_mbEnd (form_setCan hs)) (form_ite (form_mbEnd (form_setCan hs)) (form_setCan hs)))
theorem form_setCounts {s : State} {n tec rec : Nat} (hs : HasForm s) : HasForm (s.setCounts n tec rec) :=
    form_ite (form_ite (form_setRf _ _ _ _ (form_count _ (form_setRf _ _ _ _ (form_setRf _ _ _ _ (form_setRf _ _ _ _ hs))))) (form_ite (form_setRf _ _
    _ _ (form_setRf _ _ _ _ (form_setRf _ _ _ _ (form_setRf _ _ _ _ hs)))) (form_setRf _ _ _ _ (form_setRf _ _ _ _ (form_setRf _ _ _ _ hs)))))
    (form_canEvent (form_ite (form_setRf _ _ _ _ (form_count _ (form_setRf _ _ _ _ (form_setRf _ _ _ _ (form_setRf _ _ _ _ hs))))) (form_ite
    (form_setRf _ _ _ _ (form_setRf _ _ _ _ (form_setRf _ _ _ _ (form_setRf _ _ _ _ hs)))) (form_setRf _ _ _ _ (form_setRf _ _ _ _ (form_setRf _ _ _ _
    hs))))))
theorem form_canStops {s : State} {n : Nat} (hs : HasForm s) : HasForm (s.canStops n) := form_canJoin (form_setRf _ _ _ _ (form_failBus hs))
theorem form_canError {s : State} {n code tecUp recUp : Nat} (hs : HasForm s) : HasForm (s.canError n code tecUp recUp) :=
    form_setCounts (form_count _ (form_canDrive (form_setRf _ _ _ _ (form_failBus hs))))
theorem keepsForm_execCanBusError {n : BitVec 4} {code : BitVec 4} {tecUp : BitVec 8} {recUp : BitVec 8} {dt : Nat} {st : State} (hst : HasForm st) :
    KeepsForm (execCanBusError n code tecUp recUp dt st) :=
    keepsForm_next (form_ite (form_ite (form_failBus (form_elapse hst)) (form_ite (form_canStops (form_elapse hst)) (form_canError (form_elapse
    hst)))) (form_elapse hst))
theorem keepsForm_execCanFrameReceived {n : BitVec 4} {id : W} {ctl : W} {data : List Byte} {ago : Nat} {dt : Nat} {st : State} (hst : HasForm st) :
    KeepsForm (execCanFrameReceived n id ctl data ago dt st) :=
    keepsForm_next (form_ite (form_elapse hst) (form_ite (form_canJoin (form_elapse hst)) (form_ite (form_ite (form_canStops (form_setCan (form_elapse
    hst))) (form_canError (form_setCan (form_elapse hst)))) (form_ite (form_setCan (form_elapse hst)) (form_canRx (form_setCan (form_elapse hst)))))))
theorem keepsForm_execBusOffRecoveryDone {n : BitVec 4} {st : State} (hst : HasForm st) : KeepsForm (execBusOffRecoveryDone n st) :=
    keepsForm_next (form_ite (form_setCounts (form_setRf _ _ _ _ hst)) hst)
theorem form_canReason {s : State} {n r : Nat} (hs : HasForm s) : HasForm (s.canReason n r) := form_setReg _ _ hs
theorem form_canCmd {s : State} {src n : Nat} {k : State → State} (hs : HasForm s) (hk : ∀ u0, HasForm u0 → HasForm (k u0)) :
    HasForm (s.canCmd src n k) :=
    form_ite hs (form_farWrite hs hk)
theorem form_canRecover {n : Nat} {s : State} (hs : HasForm s) : HasForm (s.canRecover n) :=
    form_ite (form_canReason (form_setRf _ _ _ _ hs)) (form_canReason hs)
theorem keepsForm_execCanRecover {src : BitVec 10} {n : BitVec 4} {st : State} (hst : HasForm st) : KeepsForm (execCanRecover src n st) :=
    keepsForm_next (form_canCmd hst (fun _ => form_canRecover))
theorem keepsForm_execCanAck {src : BitVec 10} {n : BitVec 4} {k : BitVec 9} {st : State} (hst : HasForm st) : KeepsForm (execCanAck src n k st) :=
    keepsForm_next (form_canCmd hst (fun _ h1 => form_ite (form_canReason (form_ackObj h1)) (form_canReason h1)))
theorem form_canReq {n m : Nat} {s : State} (hs : HasForm s) : HasForm (s.canReq n m) :=
    form_ite (form_canReason hs) (form_ite (form_canReason hs) (form_ite (form_canReason hs) (form_canReason (form_mbRequest hs))))
theorem keepsForm_execReqCmd {src : BitVec 10} {n : BitVec 4} {m : BitVec 9} {st : State} (hst : HasForm st) : KeepsForm (execReqCmd src n m st) :=
    keepsForm_next (form_canCmd hst (fun _ => form_canReq))
theorem keepsForm_execCancelCmd {src : BitVec 10} {n : BitVec 4} {m : BitVec 9} {st : State} (hst : HasForm st) :
    KeepsForm (execCancelCmd src n m st) :=
    keepsForm_next (form_canCmd hst (fun _ h1 => form_ite (form_canReason h1) (form_canReason (form_mbCancel h1))))
theorem keepsForm_execReferenceMessageDue {n : BitVec 4} {dt : Nat} {st : State} (hst : HasForm st) : KeepsForm (execReferenceMessageDue n dt st) :=
    keepsForm_next (form_ite (form_ite (form_setCan (form_elapse hst)) (form_setCan (form_elapse hst))) (form_elapse hst))
theorem keepsForm_execTtSyncLoss {n : BitVec 4} {dt : Nat} {st : State} (hst : HasForm st) : KeepsForm (execTtSyncLoss n dt st) :=
    keepsForm_next (form_ite (form_canEvent (form_setRf _ _ _ _ (form_elapse hst))) (form_elapse hst))
theorem keepsForm_execTriggerFire {n : BitVec 4} {m : BitVec 5} {dt : Nat} {st : State} (hst : HasForm st) : KeepsForm (execTriggerFire n m dt st) :=
    keepsForm_next (form_ite (form_with_trigEnd (form_setRf _ _ _ _ (form_elapse hst))) (form_elapse hst))
theorem keepsForm_execTriggerWindowEnd {n : BitVec 4} {m : BitVec 5} {dt : Nat} {st : State} (hst : HasForm st) :
    KeepsForm (execTriggerWindowEnd n m dt st) :=
    keepsForm_next (form_ite (form_mbEnd (form_elapse hst)) (form_elapse hst))

/-! ### Pair -/

theorem form_shadowStart {s : State} {p t : Nat} (hs : HasForm s) : HasForm (s.shadowStart p t) := by
  unfold State.shadowStart
  refine form_ite ?_ hs
  obtain ⟨stamp, hstamp⟩ : ∃ f, s.fullStamp p = f := ⟨_, rfl⟩
  obtain ⟨o, ho⟩ : ∃ o, (s.shad p t).vecs.head? = o := ⟨_, rfl⟩
  rewrite [hstamp, ho]
  split
  · exact hs
  · split
    · exact hs
    · exact form_setShad (form_startPass hs)
theorem form_followMode {s : State} {p m cause : Nat} (hs : HasForm s) : HasForm (s.followMode p m cause) :=
    form_ite hs (form_ite (form_stopPart hs) (form_ite (form_ite (form_setPstep (form_enterHold hs)) hs) (form_ite (form_ite (form_askResync
    (form_enterResume hs)) (form_ite (form_enterRun hs) hs)) hs)))
theorem form_modeNow {s : State} {p : Nat} (hs : HasForm s) : HasForm (s.modeNow p) := by
  unfold State.modeNow
  split
  · exact hs
  · exact form_ite hs (form_followMode (form_with_modeWait hs))
theorem form_finishPass {s : State} {p t : Nat} (hs : HasForm s) : HasForm (s.finishPass p t) :=
    form_ite (form_ite (form_endCmd (form_pdEvent (form_setRf _ _ _ _ (form_setTState (form_setTask hs))))) (form_setTState (form_setTask hs)))
    (form_ite (form_setTState hs) (form_becomeIdle hs))
theorem form_pendLines {s : State} {p : Nat} (hs : HasForm s) : HasForm (s.pendLines p) := form_setRf _ _ _ _ hs
theorem form_afterShadow {s : State} {p t : Nat} (hs : HasForm s) : HasForm (s.afterShadow p t) :=
    form_shadowStart (form_modeNow (form_pendLines (form_ite (form_finishPass hs) hs)))
theorem form_tryJudge {s : State} {p t : Nat} (hs : HasForm s) : HasForm (s.tryJudge p t) := form_ite (form_afterShadow (form_judge hs)) hs
theorem form_holdRole {s : State} {e : Nat} (hs : HasForm s) : HasForm (s.holdRole e) :=
    form_with_ru (form_ite (form_setReg _ _ (form_setRole (form_setRf _ _ _ _ hs))) (form_setRole (form_setRf _ _ _ _ hs)))
theorem form_endOwnSwap {s : State} (hs : HasForm s) : HasForm s.endOwnSwap := form_ite (form_ruEvent (form_setReg _ _ (form_with_ru hs))) hs
theorem form_takeLines {s : State} {p t : Nat} (hs : HasForm s) : HasForm (s.takeLines p t) :=
    form_setShad (form_foldl _ (fun _ _ h1 => form_ite h1 (form_foldl _ (fun _ _ => form_writeLine) _ h1)) _ hs)
theorem form_takeOutput {s : State} {p t : Nat} (hs : HasForm s) : HasForm (s.takeOutput p t) :=
    form_ite (form_finishPass (form_sendAll (form_setShad hs))) (form_setShad hs)
theorem form_takeRelease {s : State} {p t : Nat} (hs : HasForm s) : HasForm (s.takeRelease p t) := by
  unfold State.takeRelease
  split
  · exact hs
  · exact form_ite (form_setTask hs) (form_setTask (form_startPass hs))
theorem form_claimWon {s : State} {e : Nat} (hs : HasForm s) : HasForm (s.claimWon e) :=
    form_oneEvent (form_foldl _ (fun _ _ => form_setPstep) _ (form_foldl _ (fun _ _ => form_takeRelease) _ (form_foldl _ (fun _ _ => form_takeOutput)
    _ (form_foldl _ (fun _ _ => form_takeLines) _ (form_with_ruResync (form_endOwnSwap (form_holdRole hs)))))))
theorem form_swapTask {s : State} {p t : Nat} (hs : HasForm s) : HasForm (s.swapTask p t) :=
    form_ite (form_ite (form_finishPass (form_setShad hs)) (form_setShad hs)) (form_sendAll (form_setShad hs))
theorem form_swapWon {s : State} {e from_ : Nat} (hs : HasForm s) : HasForm (s.swapWon e from_) :=
    form_foldl _ (fun _ _ => form_swapTask) _ (form_oneEvent (form_ruEvent (form_count _ (form_endOwnSwap (form_holdRole (form_with_ru hs))))))
theorem form_trySwap {s : State} (hs : HasForm s) : HasForm s.trySwap := by
  unfold State.trySwap
  split
  · exact form_ite (form_swapWon hs) hs
  · exact hs
theorem form_swapDone {s : State} (hs : HasForm s) : HasForm s.swapDone :=
    form_ite (form_ruEvent (form_count _ (form_setReg _ _ (form_with_ru hs)))) hs
theorem keepsForm_execLeaseRenewal {dt : Nat} {st : State} (hst : HasForm st) : KeepsForm (execLeaseRenewal dt st) :=
    keepsForm_next (form_ite (form_sendLease (form_elapse hst)) (form_elapse hst))
theorem keepsForm_execLeaseExpiry {dt : Nat} {st : State} (hst : HasForm st) : KeepsForm (execLeaseExpiry dt st) :=
    keepsForm_next (form_ite (form_oneEvent (form_setRole (form_ruEvent (form_count _ (form_elapse hst))))) (form_elapse hst))
theorem keepsForm_execPartnerLeaseLapse {dt : Nat} {st : State} (hst : HasForm st) : KeepsForm (execPartnerLeaseLapse dt st) :=
    keepsForm_next (form_ite (form_lapsePeer (form_elapse hst)) (form_elapse hst))
theorem form_startClaim {s : State} (hs : HasForm s) : HasForm s.startClaim := form_sendLease (form_with_ru hs)
theorem keepsForm_execClaim {dt : Nat} {st : State} (hst : HasForm st) : KeepsForm (execClaim dt st) :=
    keepsForm_next (form_ite (form_elapse hst) (form_ite (form_startClaim (form_setRole (form_elapse hst))) (form_ite (form_startClaim (form_elapse
    hst)) (form_elapse hst))))
theorem keepsForm_execClaimRetry {dt : Nat} {st : State} (hst : HasForm st) : KeepsForm (execClaimRetry dt st) := by
  refine keepsForm_next (form_ite ?_ (form_elapse hst))
  split
  · exact form_sendLease (form_elapse hst)
  · exact form_elapse hst
theorem keepsForm_execClaimRoundTimeout {dt : Nat} {st : State} (hst : HasForm st) : KeepsForm (execClaimRoundTimeout dt st) := by
  refine keepsForm_next ?_
  split
  · exact form_ite (form_ruEvent (form_count _ (form_with_ru (form_sendLease (form_elapse hst))))) (form_elapse hst)
  · exact form_elapse hst
theorem form_ownGrant {s : State} {w epoch rnum : Nat} (hs : HasForm s) : HasForm (s.ownGrant w epoch rnum) := by
  unfold State.ownGrant
  split
  · exact form_ite (form_with_ru hs) (form_ite (form_ite (form_claimWon (form_ite (form_with_ru (form_with_ru hs)) (form_with_ru hs))) (form_ite
        (form_with_ru (form_with_ru hs)) (form_with_ru hs))) hs)
  · exact form_trySwap (form_with_ru hs)
theorem form_peerGrant {s : State} {w : Nat} (hs : HasForm s) : HasForm (s.peerGrant w) :=
    form_ite (form_ite (form_toSync (form_with_ru hs)) (form_ite (form_swapDone (form_with_ru hs)) (form_with_ru hs))) (form_with_ru hs)
theorem keepsForm_execGrant {widx : BitVec 3} {member : Bool} {pair epoch rnum high : BitVec 16} {dt : Nat} {st : State} (hst : HasForm st) :
    KeepsForm (execGrant widx member pair epoch rnum high dt st) :=
    keepsForm_next (form_ite (form_ite (form_noteEpoch (form_noteEpoch (form_ownGrant (form_elapse hst)))) (form_peerGrant (form_noteEpoch
    (form_noteEpoch (form_elapse hst))))) (form_elapse hst))
theorem keepsForm_execDeny {widx : BitVec 3} {member : Bool} {reason : BitVec 4} {pair epoch high : BitVec 16} {dt : Nat} {st : State} (hst : HasForm
    st) :
    KeepsForm (execDeny widx member reason pair epoch high dt st) :=
    keepsForm_next (form_ite (form_ite (form_ite (form_with_ru (form_noteEpoch (form_noteEpoch (form_elapse hst)))) (form_ite (form_sendLease
    (form_with_ru (form_noteEpoch (form_noteEpoch (form_elapse hst))))) (form_noteEpoch (form_noteEpoch (form_elapse hst))))) (form_noteEpoch
    (form_noteEpoch (form_elapse hst)))) (form_elapse hst))
theorem keepsForm_execInvec {p : BitVec 9} {t : BitVec 3} {stamp : W} {entries : List W} {dt : Nat} {st : State} (hst : HasForm st) :
    KeepsForm (execInvec p t stamp entries dt st) :=
    keepsForm_next (form_ite (form_shadowStart (form_setShad (form_elapse hst))) (form_elapse hst))
theorem keepsForm_execData {p : BitVec 9} {t : BitVec 3} {stamp : W} {lines : List (W × List Byte)} {dt : Nat} {st : State} (hst : HasForm st) :
    KeepsForm (execData p t stamp lines dt st) :=
    keepsForm_next (form_ite (form_tryJudge (form_pendLines (form_setShad (form_elapse hst)))) (form_elapse hst))
theorem keepsForm_execResult {p : BitVec 9} {t : BitVec 3} {stamp : W} {crc : W64} {lines : W} {outcome cause : Byte} {flags : BitVec 16} {dt : Nat}
    {st : State} (hst : HasForm st) :
    KeepsForm (execResult p t stamp crc lines outcome cause flags dt st) :=
    keepsForm_next (form_ite (form_tryJudge (form_setShad (form_elapse hst))) (form_elapse hst))
theorem keepsForm_execModeFrame {p : BitVec 9} {mode : BitVec 3} {cause : Byte} {tick : W64} {dt : Nat} {st : State} (hst : HasForm st) :
    KeepsForm (execModeFrame p mode cause tick dt st) :=
    keepsForm_next (form_ite (form_modeNow (form_with_modeWait (form_elapse hst))) (form_elapse hst))
theorem keepsForm_execEditFrame {p : BitVec 9} {stamp version : W} {dt : Nat} {st : State} (hst : HasForm st) :
    KeepsForm (execEditFrame p stamp version dt st) :=
    keepsForm_next (form_ite (form_ite (form_with_ruEdit (form_elapse hst)) (form_goLeft (form_elapse hst))) (form_elapse hst))
theorem keepsForm_execSwapFrame {boundary : W64} {epoch : BitVec 16} {dt : Nat} {st : State} (hst : HasForm st) :
    KeepsForm (execSwapFrame boundary epoch dt st) :=
    keepsForm_next (form_ite (form_trySwap (form_with_ru (form_elapse hst))) (form_elapse hst))
theorem form_serveResync {s : State} {p : Nat} (hs : HasForm s) : HasForm (s.serveResync p) :=
    form_with_ruResync (form_setPstep (form_forceLines (form_sendMirror hs)))
theorem keepsForm_execResyncFrame {part : BitVec 10} {dt : Nat} {st : State} (hst : HasForm st) : KeepsForm (execResyncFrame part dt st) :=
    keepsForm_next (form_ite (form_ruEvent (form_foldl _ (fun _ _ => form_serveResync) _ (form_elapse hst))) (form_elapse hst))
theorem form_yieldRole {s : State} {p : Nat} (hs : HasForm s) : HasForm (s.yieldRole p) := form_setPstep (form_sendLease (form_setRole hs))
theorem keepsForm_execVerdict {p : BitVec 9} {t : BitVec 3} {stamp : W} {result outcome _cause flags : Byte} {dt : Nat} {st : State} (hst : HasForm
    st) :
    KeepsForm (execVerdict p t stamp result outcome _cause flags dt st) := by
  refine keepsForm_next ?_
  split
  · exact form_ite (form_oneEvent (form_ite (form_yieldRole (form_ite (form_with_ru (form_ite (form_ruEvent (form_with_ru (form_elapse hst)))
        (form_with_ru (form_elapse hst)))) (form_ite (form_ruEvent (form_with_ru (form_elapse hst))) (form_with_ru (form_elapse hst))))) (form_ite
        (form_collect (form_ite (form_with_ru (form_ite (form_ruEvent (form_with_ru (form_elapse hst))) (form_with_ru (form_elapse hst)))) (form_ite
        (form_ruEvent (form_with_ru (form_elapse hst))) (form_with_ru (form_elapse hst))))) (form_ite (form_with_ru (form_ite (form_ruEvent
        (form_with_ru (form_elapse hst))) (form_with_ru (form_elapse hst)))) (form_ite (form_ruEvent (form_with_ru (form_elapse hst))) (form_with_ru
        (form_elapse hst))))))) (form_elapse hst)
  · exact form_elapse hst
theorem form_rejoinSteps {s : State} (hs : HasForm s) : HasForm s.rejoinSteps := by
  unfold State.rejoinSteps
  exact form_ite hs (form_ite (form_toSync hs) (form_ite (form_foldl _ (fun _ _ => form_askResync) _ hs) hs))
theorem form_stateFrame {s : State} {role epoch : Nat} {digest : W} (hs : HasForm s) : HasForm (s.stateFrame role epoch digest) :=
    form_ite (form_goLeft (form_with_ru (form_with_ru (form_refreshPair (form_noteEpoch (form_setRf _ _ _ _ (form_with_ru hs))))))) (form_ite
    (form_ite (form_toSync (form_with_ru (form_refreshPair (form_noteEpoch (form_setRf _ _ _ _ (form_with_ru hs)))))) (form_rejoinSteps (form_swapDone
    (form_with_ru (form_refreshPair (form_noteEpoch (form_setRf _ _ _ _ (form_with_ru hs)))))))) (form_with_ru (form_refreshPair (form_noteEpoch
    (form_setRf _ _ _ _ (form_with_ru hs))))))
theorem keepsForm_execStateFrame {role epoch : BitVec 16} {digest : W} {dt : Nat} {st : State} (hst : HasForm st) :
    KeepsForm (execStateFrame role epoch digest dt st) :=
    keepsForm_next (form_ite (form_stateFrame (form_elapse hst)) (form_elapse hst))
theorem keepsForm_execStateSend {dt : Nat} {st : State} (hst : HasForm st) : KeepsForm (execStateSend dt st) :=
    keepsForm_next (form_ite (form_sendMirror (form_elapse hst)) (form_elapse hst))
theorem keepsForm_execPtimeFrame {p : BitVec 9} {ptime mer : W64} {mode : Byte} {dt : Nat} {st : State} (hst : HasForm st) :
    KeepsForm (execPtimeFrame p ptime mer mode dt st) :=
    keepsForm_next (form_ite (form_ite (form_ite (form_setReg64 _ _ (form_elapse hst)) (form_ite (form_enterResume (form_setReg64 _ _ (form_elapse
    hst))) (form_ite (form_ite (form_with_modeWait (form_setReg64 _ _ (form_elapse hst))) (form_enterRun (form_setReg64 _ _ (form_elapse hst))))
    (form_elapse hst)))) (form_setReg64 _ _ (form_followMode (form_elapse hst)))) (form_elapse hst))
theorem form_incomplete {s : State} {p t : Nat} (hs : HasForm s) : HasForm (s.incomplete p t) :=
    form_ite (form_outOfStep (form_setShad (form_count _ hs))) (form_setShad (form_count _ hs))
theorem keepsForm_execPassIncomplete {p : BitVec 9} {t : BitVec 3} {dt : Nat} {st : State} (hst : HasForm st) :
    KeepsForm (execPassIncomplete p t dt st) :=
    keepsForm_next (form_ite (form_elapse hst) (form_ite (form_incomplete (form_setShad (form_elapse hst))) (form_ite (form_afterShadow
    (form_incomplete (form_setShad (form_sendVerdict (form_elapse hst))))) (form_elapse hst))))
theorem keepsForm_execVerdictTimeout {dt : Nat} {st : State} (hst : HasForm st) : KeepsForm (execVerdictTimeout dt st) := by
  refine keepsForm_next ?_
  split
  · exact form_ite (form_with_ru (form_elapse hst)) (form_elapse hst)
  · exact form_elapse hst
theorem form_endRu {s : State} {r : Nat} (hs : HasForm s) : HasForm (s.endRu r) := form_setReg _ _ hs
theorem form_busyRu {s : State} (hs : HasForm s) : HasForm s.busyRu := form_setRf _ _ _ _ hs
theorem form_beginSwap {s : State} (hs : HasForm s) : HasForm s.beginSwap := form_ite (form_with_ru (form_busyRu hs)) (form_ruEvent (form_endRu hs))
theorem keepsForm_execSwapTimer {dt : Nat} {st : State} (hst : HasForm st) : KeepsForm (execSwapTimer dt st) :=
    keepsForm_next (form_ite (form_beginSwap (form_with_ru (form_elapse hst))) (form_elapse hst))
theorem keepsForm_execSwapBoundary {dt : Nat} {st : State} (hst : HasForm st) : KeepsForm (execSwapBoundary dt st) :=
    keepsForm_next (form_ite (form_with_ru (form_sendLease (form_sendMirror (form_setRole (form_elapse hst))))) (form_elapse hst))
theorem keepsForm_execSwapBoundaryTimeout {dt : Nat} {st : State} (hst : HasForm st) : KeepsForm (execSwapBoundaryTimeout dt st) := by
  refine keepsForm_next ?_
  split
  · exact form_ite (form_ruEvent (form_endRu (form_with_ru (form_elapse hst)))) (form_elapse hst)
  · exact form_elapse hst
theorem keepsForm_execSwapActiveTimeout {dt : Nat} {st : State} (hst : HasForm st) : KeepsForm (execSwapActiveTimeout dt st) := by
  refine keepsForm_next ?_
  split
  · exact form_ite (form_ite (form_ruEvent (form_endRu (form_with_ru (form_elapse hst)))) (form_lapsePeer (form_ruEvent (form_endRu (form_with_ru
        (form_elapse hst)))))) (form_elapse hst)
  · exact form_elapse hst
theorem form_ruDo {s : State} {code : Nat} (hs : HasForm s) : HasForm (s.ruDo code) :=
    form_ite (form_beginSwap hs) (form_ite (form_ite (form_endRu (form_toSync hs)) (form_ite (form_endRu (form_askResync hs)) (form_endRu hs)))
    (form_ite (form_ite (form_endRu (form_setRole hs)) (form_endRu hs)) (form_ite (form_ite (form_endRu (form_sendLease (form_setRole hs))) (form_ite
    (form_endRu (form_goLeft hs)) (form_endRu hs))) (form_ite (form_ite (form_endRu (form_with_ru hs)) (form_endRu hs)) hs))))
theorem form_ruCmd {s : State} {src code : Nat} (hs : HasForm s) : HasForm (s.ruCmd src code) :=
    form_ite hs (form_ite (form_setRf _ _ _ _ hs) (form_ite (form_with_held (form_busyRu hs)) (form_ite (form_endRu hs) (form_ruDo hs))))
theorem keepsForm_execRuSwap {src : BitVec 10} {st : State} (hst : HasForm st) : KeepsForm (execRuSwap src st) := keepsForm_next (form_ruCmd hst)
theorem keepsForm_execRuResync {src : BitVec 10} {st : State} (hst : HasForm st) : KeepsForm (execRuResync src st) := keepsForm_next (form_ruCmd hst)
theorem keepsForm_execRejoin {src : BitVec 10} {st : State} (hst : HasForm st) : KeepsForm (execRejoin src st) := keepsForm_next (form_ruCmd hst)
theorem keepsForm_execLeaveCmd {src : BitVec 10} {st : State} (hst : HasForm st) : KeepsForm (execLeaveCmd src st) := keepsForm_next (form_ruCmd hst)
theorem keepsForm_execTakeCmd {src : BitVec 10} {st : State} (hst : HasForm st) : KeepsForm (execTakeCmd src st) := keepsForm_next (form_ruCmd hst)

/-! ### Partition -/

theorem form_preempt {s : State} {e k : Nat} (hs : HasForm s) : HasForm (s.preempt e k) :=
    form_ite (form_setTState (form_setEng (form_saveCtx hs))) (form_failSave (form_ctxFault (form_setEng (form_saveCtx hs))))
theorem keepsForm_execPreemption {e : BitVec 7} {st : State} (hst : HasForm st) : KeepsForm (execPreemption e st) := by
  refine keepsForm_next ?_
  split
  · exact form_ite (form_preempt hst) hst
  · exact hst
theorem form_beginStep {s : State} {e k : Nat} (hs : HasForm s) : HasForm (s.beginStep e k) := by
  unfold State.beginStep
  extract_lets p t _ s1
  have hs1 : HasForm s1 := form_setEng hs
  refine form_ite ?_ hs1
  split
  next s2 hr => exact form_setTask (form_of_restoreCtx hs1 hr)
  next => exact form_passFault (form_partFault (form_ctxFault (form_setEng hs1)))
theorem form_switchIn {s : State} {e k : Nat} (h : HasForm s) : HasForm (s.switchIn e k) := by
  unfold State.switchIn
  extract_lets p t
  refine form_ite (form_takeEngine h) (form_ite ?_ (form_ite (form_beginStep h) (form_freeEngine h)))
  split
  next s1 hr => exact form_takeEngine (form_of_restoreCtx h hr)
  next => exact form_freeEngine (form_passFault (form_partFault (form_ctxFault (form_setTState h))))
theorem keepsForm_execTaskSwitchDone {e : BitVec 7} {st : State} (hst : HasForm st) : KeepsForm (execTaskSwitchDone e st) := by
  refine keepsForm_next ?_
  split
  · exact form_switchIn hst
  · exact hst
theorem form_cmdRun {s : State} {p : Nat} (hs : HasForm s) : HasForm (s.cmdRun p) :=
    form_ite (form_endCmd hs) (form_ite (form_endCmd hs) (form_await hs))
theorem keepsForm_execPdRun {src : BitVec 10} {p : BitVec 9} {st : State} (hst : HasForm st) : KeepsForm (execPdRun src p st) :=
    keepsForm_next (form_pdCmd hst (fun _ _ => form_cmdRun))
theorem form_runApply {s : State} {p : Nat} (hs : HasForm s) : HasForm (s.runApply p) :=
    form_ite (form_ite (form_endCmd hs) (form_endCmd (form_enterRun hs))) hs
theorem keepsForm_execRunApply {p : BitVec 9} {dt : Nat} {st : State} (hst : HasForm st) : KeepsForm (execRunApply p dt st) :=
    keepsForm_next (form_runApply (form_elapse hst))
theorem form_cmdStop {s : State} {p : Nat} (hs : HasForm s) : HasForm (s.cmdStop p) :=
    form_ite (form_ite (form_await hs) (form_stopPart (form_await hs))) (form_endCmd hs)
theorem keepsForm_execPdStop {src : BitVec 10} {p : BitVec 9} {st : State} (hst : HasForm st) : KeepsForm (execPdStop src p st) :=
    keepsForm_next (form_pdCmd hst (fun _ _ => form_cmdStop))
theorem form_cmdHold {s : State} {p : Nat} (hs : HasForm s) : HasForm (s.cmdHold p) := by
  refine form_ite ?_ (form_endCmd hs)
  split
  · exact form_endCmd hs
  · exact form_ite (form_await hs) (form_endCmd (form_enterHold hs))
theorem keepsForm_execPdHold {src : BitVec 10} {p : BitVec 9} {st : State} (hst : HasForm st) : KeepsForm (execPdHold src p st) :=
    keepsForm_next (form_pdCmd hst (fun _ _ => form_cmdHold))
theorem form_cmdResume {s : State} {p : Nat} (hs : HasForm s) : HasForm (s.cmdResume p) := form_ite (form_await hs) (form_endCmd hs)
theorem keepsForm_execPdResume {src : BitVec 10} {p : BitVec 9} {st : State} (hst : HasForm st) : KeepsForm (execPdResume src p st) :=
    keepsForm_next (form_pdCmd hst (fun _ _ => form_cmdResume))
theorem keepsForm_execResumeApply {p : BitVec 9} {dt : Nat} {st : State} (hst : HasForm st) : KeepsForm (execResumeApply p dt st) :=
    keepsForm_next (form_ite (form_endCmd (form_enterResume (form_elapse hst))) (form_elapse hst))
theorem keepsForm_execBreakpointHit {e : BitVec 7} {st : State} (hst : HasForm st) : KeepsForm (execBreakpointHit e st) := by
  refine keepsForm_next ?_
  split
  · exact form_ite (form_enterHold hst) hst
  · exact hst
theorem form_askEngine {s : State} {p t : Nat} (hs : HasForm s) : HasForm (s.askEngine p t) := form_ite (form_beginStep hs) hs
theorem form_stepTask {s : State} {p t : Nat} (hs : HasForm s) : HasForm (s.stepTask p t) :=
    form_ite (form_ite (form_askEngine (form_setTask hs)) (form_setTask hs)) (form_setTask (form_startPass hs))
theorem form_cmdStep {arg : Nat} {s : State} {p : Nat} (hs : HasForm s) : HasForm (s.cmdStep arg p) := by
  refine form_ite (form_endCmd hs) ?_
  split
  · exact form_endCmd hs
  · exact form_ite (form_endCmd hs) (form_ite (form_endCmd hs) (form_ite (form_await hs) (form_stepTask (form_await hs))))
theorem form_wakeStep {s : State} {p : Nat} (hs : HasForm s) : HasForm (s.wakeStep p) := by
  unfold State.wakeStep
  split
  · exact form_ite (form_stepTask hs) hs
  · exact hs
theorem keepsForm_execPdStep {src : BitVec 10} {p : BitVec 9} {arg : Byte} {st : State} (hst : HasForm st) : KeepsForm (execPdStep src p arg st) :=
    keepsForm_next (form_pdCmd hst (fun _ _ => form_cmdStep))
theorem form_optWrite {src : Nat} {data : W} {s : State} {p : Nat} (hs : HasForm s) : HasForm (s.optWrite src data p) :=
    form_ite hs (form_ite (form_refuse hs) (form_setReg _ _ hs))
theorem keepsForm_execPdOptWrite {src : BitVec 10} {p : BitVec 9} {data : W} {st : State} (hst : HasForm st) :
    KeepsForm (execPdOptWrite src p data st) :=
    keepsForm_next (form_pdGuard hst (fun _ _ => form_optWrite))
theorem form_overrun {s : State} {p t : Nat} (hs : HasForm s) : HasForm (s.overrun p t) := by
  unfold State.overrun
  split
  · exact hs
  · exact form_ite (form_passFault (form_partFault (form_ite hs (form_setRf _ _ _ _ hs)))) hs
theorem keepsForm_execDeadlineOverrun {p : BitVec 9} {t : BitVec 4} {dt : Nat} {st : State} (hst : HasForm st) :
    KeepsForm (execDeadlineOverrun p t dt st) :=
    keepsForm_next (form_overrun (form_elapse hst))
theorem form_entryChanged {s : State} {p t : Nat} {was : Bool} {T ph : Nat} (hs : HasForm s) : HasForm (s.entryChanged p t was T ph) :=
    form_ite (form_ite (form_becomeIdle hs) hs) (form_ite (form_ite (form_setTState hs) hs) (form_ite (form_setTask hs) hs))
theorem form_applyEntry {s : State} {p t : Nat} (hs : HasForm s) : HasForm (s.applyEntry p t) := form_entryChanged (form_applyMany _ _ _ hs)
theorem form_dispatcherApply {s : State} (hs : HasForm s) : HasForm s.dispatcherApply := by
  refine form_ite ?_ hs
  split
  · exact form_setReg _ _ (form_setReg _ _ hs)
  · exact form_foldl _ (fun _ _ h1 => form_foldl _ (fun _ _ => form_applyEntry) _ h1) _ (form_setReg _ _ (form_setReg _ _ hs))
theorem keepsForm_execDispatcherCommitGo {src : BitVec 10} {st : State} (hst : HasForm st) : KeepsForm (execDispatcherCommitGo src st) :=
    keepsForm_next (form_ite hst (form_setRf _ _ _ _ hst))
theorem keepsForm_execDispatcherCommitApply {dt : Nat} {st : State} (hst : HasForm st) : KeepsForm (execDispatcherCommitApply dt st) :=
    keepsForm_next (form_dispatcherApply (form_elapse hst))
theorem keepsForm_execDtSwitch {src : BitVec 10} {st : State} (hst : HasForm st) : KeepsForm (execDtSwitch src st) :=
    keepsForm_next (form_ite hst (form_dtSwitch hst))
theorem keepsForm_execDtSwitchApply {dt : Nat} {st : State} (hst : HasForm st) : KeepsForm (execDtSwitchApply dt st) :=
    keepsForm_next (form_ite (form_dtApply (form_elapse hst)) (form_elapse hst))

/-! ### Mover -/

theorem form_movFault {s : State} {p i cause : Nat} {dis : Bool} (hs : HasForm s) : HasForm (s.movFault p i cause dis) :=
    form_collect (form_noteLocal (form_ite (form_setRf _ _ _ _ (form_ite (form_setReg _ _ (form_count _ (form_advance _ hs))) (form_count _
    (form_advance _ hs)))) (form_ite (form_setReg _ _ (form_count _ (form_advance _ hs))) (form_count _ (form_advance _ hs)))))
theorem form_movUnmapped {s : State} {p i : Nat} {key : Option Nat} (hs : HasForm s) : HasForm (s.movUnmapped p i key) := by
  refine form_movFault ?_
  split
  · exact form_entryFault hs
  · exact hs
theorem form_wrAll {s : State} {as : List Nat} {ws : List W} (hs : HasForm s) : HasForm (s.wrAll as ws) := form_wrCells hs
theorem form_slotError {s : State} {n : Nat} (hs : HasForm s) : HasForm (s.slotError n) := by
  unfold State.slotError
  split
  · exact hs
  · exact form_storeFault hs
theorem form_copyIn {s : State} {p i : Nat} {b : InBlock} (hs : HasForm s) : HasForm (s.copyIn p i b).1 := by
  refine form_ite_fst (form_movFault hs) (form_ite_fst (form_movFault (form_slotError (form_useFresh hs))) ?_)
  dsimp only
  split
  · exact form_ite (form_useFresh hs) hs
  · exact form_movUnmapped (form_ite (form_useFresh hs) hs)
  · exact form_movUnmapped (form_ite (form_useFresh hs) hs)
theorem form_copyFin {s : State} {p i : Nat} (hs : HasForm s) : HasForm (s.copyFin p i) := by
  unfold State.copyFin
  dsimp only
  refine form_ite (form_movFault hs) ?_
  split
  · exact form_ite (form_movFault (form_storeFault hs)) (form_wrMem _ _ hs)
  · exact form_movUnmapped hs
  · exact form_movUnmapped hs
theorem form_inputsDone {s : State} {p t : Nat} (hs : HasForm s) : HasForm (s.inputsDone p t) :=
    form_ite (form_ite (form_askEngine (form_setTState (form_setTask hs))) (form_setTState (form_setTask hs))) (form_ite (form_startIfFree
    (form_setTState hs)) (form_setTState hs))
theorem form_cuIn {s : State} {j : CuJob} {i : Nat} (hs : HasForm s) : HasForm (s.cuIn j i).1 := by
  unfold State.cuIn
  dsimp only
  split
  · exact form_setShad hs
  · exact form_pair_fst (form_copyIn hs)
theorem form_mkBlock {s : State} {i flags : Nat} {data : List Byte} (hs : HasForm s) : HasForm (s.mkBlock i flags data).1 := form_with_mseqs hs
theorem form_copyFout {s : State} {p i : Nat} (hs : HasForm s) : HasForm (s.copyFout p i) := by
  unfold State.copyFout
  dsimp only
  refine form_ite (form_movFault hs) ?_
  split
  · exact form_ite (form_movFault (form_storeFault hs)) (form_pass hs)
  · exact form_movUnmapped hs
  · exact form_movUnmapped hs
theorem form_buildOut {s : State} {p i : Nat} (hs : HasForm s) : HasForm (s.buildOut p i).1 := by
  unfold State.buildOut
  split
  · exact form_movFault hs
  · split
    · exact form_pair_fst (form_mkBlock hs)
    · exact form_movFault (form_storeFault hs)
    · exact form_movUnmapped hs
theorem form_cuOut {s : State} {j : CuJob} {i : Nat} (hs : HasForm s) : HasForm (s.cuOut j i).1 := by
  have hb : HasForm (s.buildOut j.p i).1 := form_buildOut hs
  unfold State.cuOut
  extract_lets k
  split
  next s1 b heq => rw [heq] at hb; exact form_with_lastOut hb
  next s1 heq => rw [heq] at hb; exact hb
theorem form_sendOut {s : State} {p t : Nat} {bs : List (Nat × Block)} (hs : HasForm s) : HasForm (s.sendOut p t bs) :=
    form_ite (form_ite (form_setShad hs) hs) (form_sendAll hs)
theorem form_passDone {s : State} {p t : Nat} (hs : HasForm s) : HasForm (s.passDone p t) :=
    form_ite (form_setReg _ _ (form_setReg _ _ (form_advance _ hs))) (form_setReg _ _ (form_advance _ hs))
theorem form_sendLines {s : State} {p t n f : Nat} {l : List (List Byte)} (h : HasForm s) : HasForm (s.sendLines p t n f l) := by
  induction f generalizing s l with
  | zero => exact h
  | succ f ih => exact form_ite h (ih (form_sendMirror h))
theorem form_capture {s0 : State} {p t : Nat} {crc : W64} (hs0 : HasForm s0) : HasForm (s0.capture p t crc) :=
    form_openVerdict (form_with_ruCap (form_setReg _ _ (form_sendResult (form_sendLines (form_sendInvec (form_setRf _ _ _ _ (form_ite (form_ruEvent
    (form_setPstep (form_with_ruResync (form_foldl _ (fun _ _ => form_with_dirty_ruForced) _ (form_foldl _ (fun _ _ h1 => form_ite (form_seeLine h1)
    h1) _ hs0))))) (form_foldl _ (fun _ _ => form_with_dirty_ruForced) _ (form_foldl _ (fun _ _ h1 => form_ite (form_seeLine h1) h1) _ hs0)))))))))
theorem form_cuStep {s : State} {j : CuJob} (hs : HasForm s) : HasForm (s.cuStep j).1 := by
  refine form_ite_fst (form_wrCells hs) ?_
  split
  · exact hs
  · exact form_ite_fst hs (form_ite_fst (form_movFault hs) (form_ite_fst (form_cuIn hs) (form_ite_fst (form_cuOut hs) (form_ite_fst (form_copyFin hs)
        (form_copyFout hs)))))
theorem form_cuRun {s : State} {j : CuJob} {n : Nat} (h : HasForm s) : HasForm (s.cuRun j n).1 := by
  induction n generalizing s j with
  | zero => exact h
  | succ n ih => exact form_ite_fst h (ih (form_cuStep h))
theorem form_finishOthers {s : State} {j : CuJob} (hs : HasForm s) : HasForm (s.finishOthers j) :=
    form_foldl _ (fun _ _ => form_wrCells) _ (form_with_cu hs)
theorem form_inputEnd {s : State} {j : CuJob} (hs : HasForm s) : HasForm (s.inputEnd j) :=
    form_inputsDone (form_ite (form_setShad hs) (form_ite (form_setShad hs) hs))
theorem form_outputEnd {s : State} {j : CuJob} (hs : HasForm s) : HasForm (s.outputEnd j) :=
    form_ite (form_tryJudge (form_setShad (form_passDone (form_sendOut hs)))) (form_finishPass (form_ite (form_capture (form_passDone (form_sendOut
    hs))) (form_passDone (form_sendOut hs))))
theorem form_cuCopy {s : State} {j : CuJob} {n : Nat} (hs : HasForm s) : HasForm (s.cuCopy j n) :=
    form_ite (form_ite (form_outputEnd (form_with_cu (form_cuRun (form_finishOthers hs)))) (form_inputEnd (form_with_cu (form_cuRun (form_finishOthers
    hs))))) (form_with_cu (form_cuRun (form_finishOthers hs)))
theorem form_cuAhead {s : State} (hs : HasForm s) : HasForm s.cuAhead := by
  refine form_foldl _ (fun _ _ h1 => ?_) _ hs
  split
  · exact form_cuCopy h1
  · exact h1
theorem form_cuTake {s : State} {out : Bool} {p t steps : Nat} (hs : HasForm s) : HasForm (s.cuTake out p t steps) := by
  unfold State.cuTake
  split
  · exact form_ite (form_cuCopy hs) hs
  · exact hs
theorem keepsForm_execInputCopyComplete {p : BitVec 9} {t : BitVec 4} {steps dt : Nat} {st : State} (hst : HasForm st) :
    KeepsForm (execInputCopyComplete p t steps dt st) :=
    keepsForm_next (form_cuTake (form_elapse hst))
theorem keepsForm_execOutputCopyComplete {p : BitVec 9} {t : BitVec 4} {steps dt : Nat} {st : State} (hst : HasForm st) :
    KeepsForm (execOutputCopyComplete p t steps dt st) :=
    keepsForm_next (form_cuTake (form_elapse hst))
theorem keepsForm_execStandbyBlockWaitEnd {p : BitVec 9} {t : BitVec 3} {dt : Nat} {st : State} (hst : HasForm st) :
    KeepsForm (execStandbyBlockWaitEnd p t dt st) := by
  refine keepsForm_next ?_
  split
  · exact form_ite (form_cuCopy (form_setShad (form_elapse hst))) (form_ite (form_cuCopy (form_setShad (form_elapse hst))) (form_elapse hst))
  · exact form_elapse hst
theorem form_releaseAt {s : State} {p t : Nat} {g : W64} (hs : HasForm s) : HasForm (s.releaseAt p t g) := form_startPass hs
theorem form_gridInstant {s0 : State} {p t : Nat} {g : W64} (hs0 : HasForm s0) : HasForm (s0.gridInstant p t g) :=
    form_ite (form_ite (form_modeNow hs0) hs0) (form_ite (form_shadowStart (form_ite (form_setShad (form_ite (form_modeNow hs0) hs0)) (form_ite
    (form_modeNow hs0) hs0))) (form_ite (form_ite (form_setTask (form_ite (form_modeNow hs0) hs0)) (form_releaseAt (form_ite (form_modeNow hs0) hs0)))
    (form_ite (form_setRf _ _ _ _ (form_ite (form_modeNow hs0) hs0)) (form_ite (form_modeNow hs0) hs0))))
theorem keepsForm_execTaskRelease {p : BitVec 9} {t : BitVec 3} {dt : Nat} {st : State} (hst : HasForm st) : KeepsForm (execTaskRelease p t dt st) :=
    keepsForm_next (form_ite (form_gridInstant (form_elapse hst)) (form_elapse hst))
theorem form_releaseDeferred {s : State} {p t : Nat} (hs : HasForm s) : HasForm (s.releaseDeferred p t) := by
  unfold State.releaseDeferred
  split
  · exact form_ite (form_releaseAt (form_setTask hs)) (form_setTask hs)
  · exact hs
theorem keepsForm_execMirrorCaptureEnd {p : BitVec 9} {t : BitVec 3} {dt : Nat} {st : State} (hst : HasForm st) :
    KeepsForm (execMirrorCaptureEnd p t dt st) :=
    keepsForm_next (form_ite (form_ite (form_with_ruCap (form_elapse hst)) (form_releaseDeferred (form_with_ruCap (form_elapse hst)))) (form_elapse
    hst))
theorem form_stopChannels {s : State} {p hi lo : Nat} (hs : HasForm s) : HasForm (s.stopChannels p hi lo) :=
    form_foldl _ (fun _ _ h1 => form_ite (form_ite (form_pass h1) (form_ite (form_pass h1) h1)) h1) _ hs
theorem keepsForm_execStopComplete {p : BitVec 9} {dt : Nat} {st : State} (hst : HasForm st) : KeepsForm (execStopComplete p dt st) :=
    keepsForm_next (form_ite (form_ite (form_endCmd (form_setPart (form_ite (form_stopChannels (form_elapse hst)) (form_stopChannels (form_elapse
    hst))))) (form_setPart (form_ite (form_stopChannels (form_elapse hst)) (form_stopChannels (form_elapse hst))))) (form_elapse hst))
theorem form_stopData {s : State} {p i code : Nat} (hs : HasForm s) : HasForm (s.stopData p i code).1 := by
  refine form_ite_fst ?_ (form_ite_fst ?_ hs)
  · split
    · exact form_useFresh hs
    · exact hs
  · split
    · exact hs
    · exact form_movFault (form_storeFault hs)
    · exact form_movFault (form_entryFault hs)
    · exact form_movFault hs
theorem form_sendIdle {s : State} {p t flags : Nat} {held safe : Bool} {mk : State → Nat → Option (State × List Byte)} (hs : HasForm s)
    (hmk : ∀ u i d, HasForm u → mk u i = some d → HasForm d.1) : HasForm (s.sendIdle p t flags held safe mk) := by
  unfold State.sendIdle
  extract_lets r
  have hr : HasForm r.1 := by
    refine form_foldl_fst _ (fun u i hu => form_ite_fst hu (form_ite_fst (form_pair_fst (form_movFault hu)) ?_)) _ hs
    split
    · exact form_pair_fst (form_movFault hu)
    · split
      next => exact hu
      next d hd => exact form_pair_fst (form_mkBlock (hmk _ _ _ hu hd))
  exact form_ite hr (form_sendAll hr)
theorem keepsForm_execStopSending {p : BitVec 9} {t : BitVec 3} {dt : Nat} {st : State} (hst : HasForm st) :
    KeepsForm (execStopSending p t dt st) := by
  refine keepsForm_next (form_ite (form_sendIdle (form_cuAhead (form_elapse hst)) fun u i d hu hd => ?_) (form_elapse hst))
  cases hd
  exact form_stopData hu
theorem keepsForm_execHeldSending {p : BitVec 9} {t : BitVec 3} {dt : Nat} {st : State} (hst : HasForm st) :
    KeepsForm (execHeldSending p t dt st) := by
  refine keepsForm_next (form_ite (form_sendIdle (form_cuAhead (form_elapse hst)) fun u i d hu hd => ?_) (form_elapse hst))
  split at hd
  · cases hd
  · cases hd
    exact hu

/-! ### Services -/

theorem form_sysFail {s : State} {n : Nat} (hs : HasForm s) : HasForm (sysFail s n).1 := hs
theorem form_sysOk {s : State} (hs : HasForm s) : HasForm (sysOk s).1 := hs
theorem form_sys {s : State} {e : Nat} {k : State → Nat → Nat → Ctx → State × (Ctx → Ctx)} (hs : HasForm s) (hk : ∀ u0 x1 x2 x3, HasForm u0 → HasForm
    (k u0 x1 x2 x3).1) :
    HasForm (s.sys e k) := by
  unfold State.sys
  split
  · exact hs
  · dsimp only
    split
    · exact form_trap hs
    · exact form_ite (form_trap hs) (form_atBoundary (form_setTask (hk _ _ _ _ hs)))
theorem form_badEntry {s : State} {key : Option Nat} (hs : HasForm s) : HasForm (s.badEntry key) := by
  unfold State.badEntry
  split
  · exact form_entryFault hs
  · exact hs
theorem keepsForm_execOpTrel {e : BitVec 7} {st : State} (hst : HasForm st) : KeepsForm (execOpTrel e st) :=
    keepsForm_next (form_sys hst (fun _ _ _ _ h1 => h1))
theorem keepsForm_execOpTmerl {e : BitVec 7} {st : State} (hst : HasForm st) : KeepsForm (execOpTmerl e st) :=
    keepsForm_next (form_sys hst (fun _ _ _ _ h1 => h1))
theorem keepsForm_execOpTmerh {e : BitVec 7} {st : State} (hst : HasForm st) : KeepsForm (execOpTmerh e st) :=
    keepsForm_next (form_sys hst (fun _ _ _ _ h1 => h1))
theorem keepsForm_execOpTcyc {e : BitVec 7} {st : State} (hst : HasForm st) : KeepsForm (execOpTcyc e st) :=
    keepsForm_next (form_sys hst (fun _ _ _ _ h1 => h1))
theorem form_sysCanrd {s : State} {p : Nat} {c : Ctx} (hs : HasForm s) : HasForm (s.sysCanrd p c).1 := by
  refine form_ite_fst (form_sysFail hs) (form_ite_fst (form_sysFail hs) (form_ite_fst (form_sysFail hs) ?_))
  split
  · exact form_sysFail (form_badEntry hs)
  · exact form_ackObj (form_with_objCopy (form_wrAll hs))
theorem keepsForm_execOpCanrd {e : BitVec 7} {st : State} (hst : HasForm st) : KeepsForm (execOpCanrd e st) :=
    keepsForm_next (form_sys hst (fun _ _ _ _ => form_sysCanrd))
theorem form_sysCantx {s : State} {p : Nat} {c : Ctx} (hs : HasForm s) : HasForm (s.sysCantx p c).1 := by
  refine form_ite_fst (form_sysFail hs) (form_ite_fst (form_sysFail hs) (form_ite_fst (form_sysFail hs) (form_ite_fst (form_sysFail hs) ?_)))
  split
  · exact form_sysFail (form_badEntry hs)
  · split
    · exact form_sysFail (form_storeFault hs)
    · exact form_ite_fst (form_sysOk (form_foldl _ (fun _ _ h1 => form_setReg _ _ h1) _ (form_setReg _ _ hs))) (form_sysOk (form_mbLoad hs))
theorem keepsForm_execOpCantx {e : BitVec 7} {st : State} (hst : HasForm st) : KeepsForm (execOpCantx e st) :=
    keepsForm_next (form_sys hst (fun _ _ _ _ => form_sysCantx))
theorem keepsForm_execOpCanst {e : BitVec 7} {st : State} (hst : HasForm st) : KeepsForm (execOpCanst e st) :=
    keepsForm_next (form_sys hst (fun _ _ _ _ h1 => form_ite_fst (form_sysFail h1) (form_ite_fst (form_sysFail h1) h1)))
theorem form_sysMov {s : State} {p i : Nat} {key : Option Nat} (hs : HasForm s) : HasForm (s.sysMov p i key).1 := form_sysFail (form_movUnmapped hs)
theorem form_sysImgrq {s : State} {p : Nat} {c : Ctx} (hs : HasForm s) : HasForm (s.sysImgrq p c).1 := by
  refine form_ite_fst (form_sysFail hs) (form_ite_fst (form_sysFail hs) ?_)
  split
  · exact form_sysFail hs
  · refine form_ite_fst (form_sysFail (form_movFault hs)) (form_ite_fst (form_sysFail (form_movFault hs)) (form_ite_fst (form_sysFail (form_movFault
        (form_slotError (form_useFresh hs)))) ?_))
    dsimp only
    split
    · exact form_sysOk (form_wrAll (form_ite (form_useFresh hs) hs))
    · exact form_sysMov hs
    · exact form_sysMov hs
theorem keepsForm_execOpImgrq {e : BitVec 7} {st : State} (hst : HasForm st) : KeepsForm (execOpImgrq e st) :=
    keepsForm_next (form_sys hst (fun _ _ _ _ h1 => form_sysImgrq (form_cuAhead h1)))
theorem form_sysImgwr {s : State} {p : Nat} {c : Ctx} (hs : HasForm s) : HasForm (s.sysImgwr p c).1 := by
  refine form_ite_fst (form_sysFail hs) (form_ite_fst (form_sysFail hs) (form_ite_fst (form_sysFail hs) (form_ite_fst (form_sysFail (form_movFault
      hs)) ?_)))
  split
  · exact form_sysFail (form_movFault hs)
  · split
    · exact form_sysMov hs
    · exact form_sysFail (form_movFault (form_storeFault hs))
    · exact form_sysOk (form_ite (form_mkBlock hs) (form_sendAll (form_mkBlock hs)))
theorem keepsForm_execOpImgwr {e : BitVec 7} {st : State} (hst : HasForm st) : KeepsForm (execOpImgwr e st) :=
    keepsForm_next (form_sys hst (fun _ _ _ _ h1 => form_sysImgwr (form_cuAhead h1)))
theorem keepsForm_execOpIrq {e : BitVec 7} {st : State} (hst : HasForm st) : KeepsForm (execOpIrq e st) :=
    keepsForm_next (form_sys hst (fun _ _ _ _ h1 => form_sysOk (form_sendVec h1)))
theorem keepsForm_execOpBrk {e : BitVec 7} {st : State} (hst : HasForm st) : KeepsForm (execOpBrk e st) :=
    keepsForm_next (form_sys hst (fun _ _ _ _ h1 => form_ite (form_enterHold h1) h1))

/-! ### Lanes -/

theorem form_setLane {s : State} {n bits cause : Nat} {up : Bool} (hs : HasForm s) : HasForm (s.setLane n bits cause up) := form_setReg _ _ hs
theorem form_flushPort {s : State} {p : Nat} (hs : HasForm s) : HasForm (s.flushPort p) := form_foldl _ (fun _ _ => form_flushQueue) _ hs
theorem form_markLanes {s : State} {p : Nat} {up : Bool} (hs : HasForm s) : HasForm (s.markLanes p up) :=
    form_foldl _ (fun _ _ h1 => form_setRf _ _ _ _ h1) _ hs
theorem form_portDown {s : State} {p n code : Nat} (hs : HasForm s) : HasForm (s.portDown p n code) :=
    form_ite (form_collect (form_swEvent (form_setReg _ _ (form_markLanes (form_setPort (form_flushPort hs)))))) (form_setReg _ _ (form_markLanes
    (form_setPort (form_flushPort hs))))
theorem form_portRise {s : State} {p w : Nat} (hs : HasForm s) : HasForm (s.portRise p w) :=
    form_ite (form_setReg _ _ (form_markLanes hs)) (form_swEvent (form_setReg _ _ (form_markLanes hs)))
theorem form_portLook {s : State} {p : Nat} (hs : HasForm s) : HasForm (s.portLook p) :=
    form_ite (form_ite (form_portDown hs) hs) (form_ite (form_ite (form_portDown (form_foldl _ (fun _ _ h1 => form_setRf _ _ _ _ h1) _ hs))
    (form_setRf _ _ _ _ (form_foldl _ (fun _ _ h1 => form_setRf _ _ _ _ h1) _ hs))) (form_ite (form_portRise (form_foldl _ (fun _ _ h1 => form_setRf _
    _ _ _ h1) _ hs)) (form_setRf _ _ _ _ (form_foldl _ (fun _ _ h1 => form_ite (form_setRf _ _ _ _ h1) h1) _ hs))))
theorem form_laneFails {s : State} {n code : Nat} (hs : HasForm s) : HasForm (s.laneFails n code) := by
  unfold State.laneFails
  split
  · exact hs
  · exact form_ite (form_ite (form_collect (form_setRf _ _ _ _ (form_setPort (form_flushPort hs)))) (form_setRf _ _ _ _ (form_setPort (form_flushPort
        hs)))) (form_portDown hs)
theorem form_applyLnMode {s : State} {n : Nat} {data : W} (hs : HasForm s) : HasForm (s.applyLnMode n data) := by
  unfold State.applyLnMode
  dsimp only
  split
  · exact form_setLane (form_setReg _ _ hs)
  · exact form_portLook (form_portDown (form_setLane (form_setReg _ _ hs)))
theorem keepsForm_execLnModeWrite {src : BitVec 10} {lane : BitVec 7} {data : W} {st : State} (hst : HasForm st) :
    KeepsForm (execLnModeWrite src lane data st) :=
    keepsForm_next (form_ite hst (form_ite (form_refuse hst) (form_ite (form_refuse hst) (form_ite (form_refuse hst) (form_setRf _ _ _ _
    (form_applyLnMode hst))))))
theorem keepsForm_execLaneLinkUp {lane : BitVec 7} {st : State} (hst : HasForm st) : KeepsForm (execLaneLinkUp lane st) := by
  refine keepsForm_next (form_ite hst ?_)
  dsimp only
  split
  · exact form_portLook (form_setLane hst)
  · exact form_setLane hst
theorem keepsForm_execLaneSignalLoss {lane : BitVec 7} {cause : BitVec 8} {st : State} (hst : HasForm st) :
    KeepsForm (execLaneSignalLoss lane cause st) :=
    keepsForm_next (form_ite hst (form_laneFails (form_setLane hst)))
theorem keepsForm_execLanePllLoss {lane : BitVec 7} {st : State} (hst : HasForm st) : KeepsForm (execLanePllLoss lane st) := by
  refine keepsForm_next (form_ite hst ?_)
  dsimp only
  split
  · exact form_ite (form_laneFails (form_setLane hst)) (form_collect (form_setLane hst))
  · exact form_collect (form_setLane hst)
theorem form_carryOn {s : State} {p n k : Nat} (hs : HasForm s) : HasForm (s.carryOn p n k) := form_foldl _ (fun _ _ h1 => form_setRf _ _ _ _ h1) _ hs
theorem keepsForm_execPortReform {port : BitVec 7} {st : State} (hst : HasForm st) : KeepsForm (execPortReform port st) := by
  refine keepsForm_next (form_ite ?_ hst)
  split
  · exact form_setReg _ _ (form_carryOn (form_setPort hst))
  · exact form_portDown hst
theorem keepsForm_execPreemptVerified {port : BitVec 7} {st : State} (hst : HasForm st) : KeepsForm (execPreemptVerified port st) :=
    keepsForm_next (form_ite (form_setRf _ _ _ _ hst) hst)

/-! ### NetRx -/

theorem form_setRx {s : State} {p : Nat} {r : Option Rx} (hs : HasForm s) : HasForm (s.setRx p r) := form_with_rx hs
theorem form_mapRx {s : State} {g : Rx → Rx} (hs : HasForm s) : HasForm (s.mapRx g) := form_with_rx hs
theorem form_forwardTo {s : State} {p : Nat} {d : List Byte} {maxLen q : Nat} (hs : HasForm s) : HasForm (s.forwardTo p d maxLen q) :=
    form_ite hs (form_enqueue hs)
theorem form_forwardSpan {s : State} {p i : Nat} {h : SpanHdr} {body : List Byte} (hs : HasForm s) : HasForm (s.forwardSpan p i h body) :=
    form_ite hs (form_foldl _ (fun _ _ => form_forwardTo) _ hs)
theorem form_forwardVlan {s : State} {p : Nat} {head : List Byte} (hs : HasForm s) : HasForm (s.forwardVlan p head).1 :=
    form_ite_fst (form_foldl _ (fun _ _ => form_forwardTo) _ hs) (form_count _ hs)
theorem form_spanHeaderIn {s : State} {p : Nat} {head : List Byte} (hs : HasForm s) : HasForm (s.spanHeaderIn p head) := by
  refine form_ite (form_setRx (form_count _ hs)) (form_ite (form_setRx hs) ?_)
  split
  · exact form_setRx (form_count _ hs)
  · exact form_ite (form_setRx (form_count _ hs)) (form_setRx (form_forwardSpan hs))
theorem form_headerIn {s : State} {p : Nat} {head : List Byte} (hs : HasForm s) : HasForm (s.headerIn p head) :=
    form_ite (form_setRx (form_count _ hs)) (form_ite (form_ite (form_setRx hs) (form_setRx (form_count _ hs))) (form_ite (form_spanHeaderIn hs)
    (form_setRx (form_forwardVlan hs))))
theorem keepsForm_execFrameHeaderReceived {port : BitVec 7} {head : List Byte} {dt : Nat} {st : State} (hst : HasForm st) :
    KeepsForm (execFrameHeaderReceived port head dt st) :=
    keepsForm_next (form_ite (form_headerIn (form_elapse hst)) (form_elapse hst))
theorem form_finishCopy {s : State} {q : Nat} {f : QFrame} {more : List Byte} {ok : Bool} (hs : HasForm s) : HasForm (s.finishCopy q f more ok).1 :=
    form_ite_fst (form_setDepth hs) (form_ite_fst (form_dropCopy hs) (form_setDepth (form_dropCopy hs)))
theorem form_finishList {p q : Nat} {more : List Byte} {ok : Bool} {fs : List QFrame} {s : State} (h : HasForm s) :
    HasForm (State.finishList p more ok q fs s).1 := by
  induction fs generalizing s with
  | nil => exact h
  | cons f fs ih => exact ih (form_ite_fst (form_finishCopy h) h)
theorem form_sendFrame {s : State} {p q : Nat} {f : QFrame} (hs : HasForm s) : HasForm (s.sendFrame p q f) :=
    form_emit (form_setReg _ _ (form_advance _ (form_setFrames (form_setDepth hs))))
theorem form_endCut {s : State} {p o : Nat} (hs : HasForm s) : HasForm (s.endCut p o) := by
  unfold State.endCut
  split
  · refine form_ite ?_ hs
    dsimp only
    split
    · exact form_ite (form_setPort hs) (form_sendFrame (form_setPort hs))
    · exact form_setPort hs
  · exact hs
theorem form_finishCopies {s : State} {p : Nat} {more : List Byte} {ok : Bool} (hs : HasForm s) : HasForm (s.finishCopies p more ok) :=
    form_foldl _ (fun _ _ => form_endCut) _ (form_foldl _ (fun _ _ h1 => form_setFrames (form_finishList h1)) _ hs)
theorem form_clearWindow {s : State} {i : Nat} (hs : HasForm s) : HasForm (s.clearWindow i) := form_with_win (form_setRf _ _ _ _ hs)
theorem form_fenceReset {s : State} {k : Nat} (hs : HasForm s) : HasForm (s.fenceReset k) :=
    form_foldl _ (fun _ _ h1 => form_setRf _ _ _ _ h1) _ (form_foldl _ (fun _ _ => form_clearWindow) _ hs)
theorem form_fence {s : State} {k : Nat} {h : SpanHdr} {old : W × W} (hs : HasForm s) : HasForm (s.fence k h old).1 :=
    form_ite_fst (form_swEvent (form_count _ hs)) (form_ite_fst (form_ite (form_setReg _ _ hs) hs) (form_ite_fst hs (form_ite_fst (form_ite
    (form_fenceReset (form_ite (form_setReg _ _ hs) hs)) hs) (form_swEvent (form_count _ hs)))))
theorem form_window {s : State} {i q : Nat} (hs : HasForm s) : HasForm (s.window i q).1 :=
    form_ite_fst (form_with_win_accepted (form_setRf _ _ _ _ (form_setRf _ _ _ _ hs))) (form_ite_fst (form_count _ hs) (form_ite_fst
    (form_with_win_accepted (form_setRf _ _ _ _ (form_setRf _ _ _ _ (form_setReg _ _ hs)))) (form_ite_fst (form_count _ hs) (form_ite_fst
    (form_with_win_accepted (form_setRf _ _ _ _ (form_setRf _ _ _ _ hs))) (form_count _ hs)))))
theorem form_deliver {s : State} {r : Rx} {h : SpanHdr} {b : Block} {now : Bool} (hs : HasForm s) : HasForm (s.deliver r h b now) :=
    form_ite (form_takeBlock hs) hs
theorem form_localSteps {s : State} {r : Rx} {h : SpanHdr} {payload : List Byte} {ahead : Nat} (hs : HasForm s) :
    HasForm (s.localSteps r h payload ahead) :=
    form_ite hs (form_ite (form_ite_fst (form_window (form_ite_fst (form_fence hs) hs)) (form_ite_fst (form_fence hs) hs)) (form_foldl _ (fun _ _ =>
    form_deliver) _ (form_ite (form_ite_fst (form_window (form_ite_fst (form_fence hs) hs)) (form_ite_fst (form_fence hs) hs)) (form_count _
    (form_ite_fst (form_window (form_ite_fst (form_fence hs) hs)) (form_ite_fst (form_fence hs) hs))))))
theorem form_mirrorEpoch {s : State} {p : Nat} {h : SpanHdr} (hs : HasForm s) : HasForm (s.mirrorEpoch p h) := form_ite (form_noteEpoch hs) hs
theorem form_endIn {s : State} {p : Nat} {r : Rx} {tail : List Byte} {ahead : Nat} (hs : HasForm s) : HasForm (s.endIn p r tail ahead) :=
    form_ite (form_setRx hs) (form_ite (form_count _ (form_ite (form_debit (form_finishCopies (form_setRx hs))) (form_finishCopies (form_setRx hs))))
    (form_ite (form_localSteps (form_ite (form_debit (form_finishCopies (form_setRx hs))) (form_finishCopies (form_setRx hs)))) (form_mirrorEpoch
    (form_ite (form_debit (form_finishCopies (form_setRx hs))) (form_finishCopies (form_setRx hs))))))
theorem keepsForm_execFrameEndReceived {port : BitVec 7} {tail : List Byte} {ahead dt : Nat} {st : State} (hst : HasForm st) :
    KeepsForm (execFrameEndReceived port tail ahead dt st) := by
  refine keepsForm_next ?_
  split
  · exact form_ite (form_elapse hst) (form_endIn (form_elapse hst))
  · exact form_elapse hst
theorem keepsForm_execStreamWindowTimeout {stream : BitVec 16} {dt : Nat} {st : State} (hst : HasForm st) :
    KeepsForm (execStreamWindowTimeout stream dt st) :=
    keepsForm_next (form_ite (form_clearWindow (form_elapse hst)) (form_elapse hst))
theorem form_startFrame {s : State} {p q : Nat} (hs : HasForm s) : HasForm (s.startFrame p q) := by
  unfold State.startFrame
  split
  · exact hs
  · dsimp only
    split
    · exact form_setPort (form_with_qTurn hs)
    · exact form_sendFrame (form_ite (form_setPort (form_with_qTurn hs)) (form_setPort (form_with_qTurn hs)))
theorem form_transmit {s : State} {p : Nat} (hs : HasForm s) : HasForm (s.transmit p) := by
  refine form_ite hs ?_
  split
  · exact hs
  · exact form_ite (form_ite (form_startFrame hs) hs) (form_startFrame hs)
theorem keepsForm_execPortTransmit {port : BitVec 7} {dt : Nat} {st : State} (hst : HasForm st) : KeepsForm (execPortTransmit port dt st) :=
    keepsForm_next (form_transmit (form_elapse hst))
theorem keepsForm_execGateEntryChange {port : BitVec 7} {dt : Nat} {st : State} (hst : HasForm st) : KeepsForm (execGateEntryChange port dt st) := by
  refine keepsForm_next (form_ite (form_elapse hst) ?_)
  split <;> exact form_ite (form_setPort (form_elapse hst)) (form_elapse hst)

/-! ### Owners -/

theorem form_setWait {s : State} {a : Nat} {w : Option W} (hs : HasForm s) : HasForm (s.setWait a w) := form_with_ownWait hs
theorem form_pokeBit {s : State} {p bit : Nat} {v : Bool} (hs : HasForm s) : HasForm (s.pokeBit p bit v) := by
  unfold State.pokeBit
  split
  · exact form_poke hs
  · exact form_seeWord hs
theorem form_clearQueue {s : State} {q : Nat} (hs : HasForm s) : HasForm (s.clearQueue q) := form_setReg _ _ (form_setReg _ _ (form_flushQueue hs))
theorem form_clearObj {s : State} {n k : Nat} (hs : HasForm s) : HasForm (s.clearObj n k) :=
    form_setCan (form_setRf _ _ _ _ (form_setReg _ _ (form_foldl _ (fun _ _ h1 => form_setReg _ _ h1) _ hs)))
theorem form_clearMb {s : State} {n m : Nat} (hs : HasForm s) : HasForm (s.clearMb n m) :=
    form_foldl _ (fun _ _ h1 => form_setReg _ _ h1) _ (form_setReg _ _ (form_mbCancel hs))
theorem form_clearFio {s : State} {n : Nat} (hs : HasForm s) : HasForm (s.clearFio n) := by
  unfold State.clearFio
  dsimp only
  split
  · exact form_dclrChan (form_command hs)
  · exact form_foldl _ (fun _ _ h1 => form_ite (form_pokeBit h1) h1) _ (form_dclrChan (form_command hs))
theorem form_clearOwned {s : State} {a : Nat} (hs : HasForm s) : HasForm (s.clearOwned a) :=
    form_ite (form_clearQueue hs) (form_ite (form_clearFio hs) (form_ite (form_clearObj hs) (form_clearMb hs)))
theorem form_refreshPool {s : State} (hs : HasForm s) : HasForm s.refreshPool := form_setReg _ _ hs
theorem form_writeQueue {s : State} {q : Nat} {ws : List W} (hs : HasForm s) : HasForm (s.writeQueue q ws) :=
    form_refreshPool (form_foldl _ (fun _ _ h1 => form_setReg _ _ h1) _ (form_ite (form_flushQueue hs) hs))
theorem form_finishMove {s : State} {a : Nat} {w : W} (hs : HasForm s) : HasForm (s.finishMove a w) :=
    form_ite (form_writeQueue (form_foldl _ (fun _ _ => form_setWait) _ hs)) (form_setReg _ _ (form_setWait hs))
theorem form_moveOne {s : State} {at_ : Nat → Bool} {a : Nat} (hs : HasForm s) : HasForm (s.moveOne at_ a) := by
  unfold State.moveOne
  split
  · exact hs
  · split
    · exact form_finishMove hs
    · exact form_ite (form_finishMove (form_clearOwned hs)) hs
    · exact form_ite (form_finishMove hs) (form_ite (form_ite (form_finishMove (form_clearOwned hs)) (form_setReg _ _ (form_clearOwned hs))) hs)
theorem form_moveBlock {s : State} {lo hi : Nat} (hs : HasForm s) : HasForm (s.moveBlock lo hi) := form_foldl _ (fun _ _ => form_moveOne) _ hs
theorem form_movePart {s : State} {p : Nat} (hs : HasForm s) : HasForm (s.movePart p) := form_foldl _ (fun _ _ => form_moveOne) _ hs
theorem form_releaseAll {s : State} {p : Nat} (hs : HasForm s) : HasForm (s.releaseAll p) :=
    form_foldl _ (fun _ _ h1 => form_ite (form_setReg _ _ (form_clearOwned h1)) h1) _ hs

/-! ### NetTables -/

theorem form_forgetSlot {s : State} {n : Nat} (hs : HasForm s) : HasForm (s.forgetSlot n) := form_with_slotBuf_slotOld_slotT_slotWait_slotPage hs
theorem form_freeSlot {s : State} {n : Nat} (hs : HasForm s) : HasForm (s.freeSlot n) := by
  unfold State.freeSlot
  split
  · exact hs
  · exact form_ite (form_leaveOwner (form_forgetSlot hs)) (form_forgetSlot hs)
theorem form_of_allocSlot {s r : State} {n m : Nat} (hs : HasForm s) (hr : s.allocSlot n m = some r) : HasForm r := by
  rw [State.allocSlot] at hr
  split at hr
  · cases hr
  · cases hr
    exact form_with_slotPage_slotT (form_ite (form_setPage hs) hs)
/-- One slot after the other; a slot that finds no page ends it. -/
theorem form_of_allocSlots {f : Option State → Nat → Option State} (hf : ∀ s n r, HasForm s → f (some s) n = some r → HasForm r)
    (hnone : ∀ n, f none n = none) (l : List Nat) {s r : State} (h : HasForm s) (hr : l.foldl f (some s) = some r) : HasForm r := by
  induction l generalizing s with
  | nil => cases hr; exact h
  | cons n l ih =>
    rw [List.foldl_cons] at hr
    cases ho : f (some s) n with
    | none => rw [ho, List.foldl_fixed' hnone] at hr; cases hr
    | some u => rw [ho] at hr; exact ih (hf _ _ _ h ho) hr
theorem form_of_slotsFollow {s old r : State} (h : HasForm s) (hr : s.slotsFollow old = some r) : HasForm r := by
  unfold State.slotsFollow at hr
  refine form_of_allocSlots (fun u n v hu hv => ?_) (fun _ => rfl) _ (form_foldl _ (fun _ _ hu => ?_) _ h) hr
  · dsimp only at hv
    split at hv
    · exact form_of_allocSlot hu hv
    · cases hv; exact hu
  · exact form_ite (form_freeSlot (form_setReg _ _ (form_setReg _ _ (form_setRf _ _ _ _ hu)))) hu
theorem form_portOff {s : State} {p : Nat} (hs : HasForm s) : HasForm (s.portOff p) :=
    form_ite (form_swEvent (form_setReg _ _ (form_markLanes (form_setPort (form_flushPort hs))))) hs
theorem form_portsFollow {s old : State} (hs : HasForm s) : HasForm (s.portsFollow old) :=
    form_foldl _ (fun _ _ h1 => form_ite (form_ite (form_portLook h1) (form_portOff h1)) (form_setRf _ _ _ _ (form_ite (form_portLook h1)
    (form_portOff h1)))) _ hs
theorem form_entriesFollow {s : State} (hs : HasForm s) : HasForm s.entriesFollow :=
    form_mapRx (form_foldl _ (fun _ _ h1 => form_setRf _ _ _ _ h1) _ (form_foldl _ (fun _ _ h1 => form_with_bucket_seqs (form_clearWindow h1)) _ hs))
theorem form_swTake {s : State} (h : HasForm s) : HasForm s.swTake := by
  unfold State.swTake
  extract_lets as s1 s2 gone s3
  have hs1 : HasForm s1 := form_foldl _ (fun _ _ hu => form_ite (form_with_gateNew hu) (form_applyPnd _ hu)) _ h
  have hs2 : HasForm s2 := by
    cases ho : s1.slotsFollow s with
    | none => simp only [s2, ho, Option.getD_none]; exact hs1
    | some r => simp only [s2, ho, Option.getD_some]; exact form_of_slotsFollow hs1 ho
  exact form_untouch (form_entriesFollow (form_portsFollow (form_mapRx hs2)))
theorem form_swApply {s : State} (hs : HasForm s) : HasForm s.swApply := by
  refine form_ite ?_ hs
  dsimp only
  split
  · exact form_swEvent (form_setReg _ _ (form_setReg _ _ hs))
  · exact form_swEvent (form_setReg _ _ (form_swTake (form_setReg _ _ hs)))
theorem keepsForm_execSwitchCommitGo {src : BitVec 10} {st : State} (hst : HasForm st) : KeepsForm (execSwitchCommitGo src st) :=
    keepsForm_next (form_ite hst (form_setRf _ _ _ _ hst))
theorem keepsForm_execSwitchCommitApply {dt : Nat} {st : State} (hst : HasForm st) : KeepsForm (execSwitchCommitApply dt st) :=
    keepsForm_next (form_ite (form_swApply (form_elapse hst)) (form_elapse hst))
theorem form_gateApply {s : State} {p : Nat} (hs : HasForm s) : HasForm (s.gateApply p) := by
  refine form_foldl _ (fun _ _ h1 => ?_) _ hs
  split
  · exact form_with_gateNew (form_setReg _ _ h1)
  · exact h1
theorem keepsForm_execGateListApply {port : BitVec 7} {dt : Nat} {st : State} (hst : HasForm st) : KeepsForm (execGateListApply port dt st) :=
    keepsForm_next (form_gateApply (form_elapse hst))
theorem form_queueTake {s : State} {q : Nat} (hs : HasForm s) : HasForm (s.queueTake q) :=
    form_ite (form_writeQueue (form_foldl _ (fun _ _ => form_setWait) _ hs)) (form_foldl _ (fun _ _ => form_setWait) _ hs)
theorem form_queueApply {s : State} (hs : HasForm s) : HasForm s.queueApply :=
    form_ite (form_ite (form_setReg _ _ (form_setReg _ _ hs)) (form_untouch (form_moveBlock (form_foldl _ (fun _ _ => form_queueTake) _ (form_setReg _
    _ (form_setReg _ _ hs)))))) hs
theorem keepsForm_execQueueCommitGo {src : BitVec 10} {st : State} (hst : HasForm st) : KeepsForm (execQueueCommitGo src st) :=
    keepsForm_next (form_ite hst (form_setRf _ _ _ _ hst))
theorem keepsForm_execQueueCommitApply {dt : Nat} {st : State} (hst : HasForm st) : KeepsForm (execQueueCommitApply dt st) :=
    keepsForm_next (form_ite (form_queueApply (form_elapse hst)) (form_elapse hst))

/-! ### Station -/

theorem form_stiWrite {s : State} {b : Nat} {w : W} (hs : HasForm s) : HasForm (s.stiWrite b w) := by
  unfold State.stiWrite
  split
  · exact form_wrMem _ _ hs
  · exact hs
theorem form_devFault {s : State} {i : Nat} {dis : Bool} (hs : HasForm s) : HasForm (s.devFault i dis) :=
    form_collect (form_ite (form_setRf _ _ _ _ (form_count _ hs)) (form_count _ hs))
theorem form_collectDev {s : State} {i : Nat} (hs : HasForm s) : HasForm (s.collectDev i) := by
  refine form_ite ?_ (form_ite (form_stiWrite hs) (form_ite (form_ackObj (form_with_objCopy (form_foldl _ (fun _ _ => form_stiWrite) _ hs))) hs))
  split
  · exact form_ite (form_devFault (form_storeFault hs)) (form_wrMem _ _ hs)
  · exact hs
theorem form_packDev {s : State} {g : Nat} {r : List (Nat × Block)} {i : Nat} (hs : HasForm s) : HasForm (s.packDev g r i).1 := by
  unfold State.packDev
  dsimp only
  split
  · exact hs
  · split
    · exact form_devFault (form_storeFault hs)
    · exact form_pair_fst (form_mkBlock hs)
theorem form_sfout {s : State} {g i : Nat} (hs : HasForm s) : HasForm (s.sfout g i) :=
    form_ite (form_ite (form_pass hs) (form_ite (form_pass hs) hs)) (form_pass hs)
theorem form_scantxLoad {s : State} {i : Nat} {d : List Byte} (hs : HasForm s) : HasForm (s.scantxLoad i d) := form_ite hs (form_mbLoad hs)
theorem form_scantx {s : State} {g i : Nat} (hs : HasForm s) : HasForm (s.scantx g i) := by
  refine form_ite (form_ite ?_ hs) (form_ite (form_scantxLoad hs) hs)
  dsimp only
  split
  · exact form_devFault (form_storeFault hs)
  · exact form_scantxLoad hs
theorem form_applyDev {s : State} {g i : Nat} (hs : HasForm s) : HasForm (s.applyDev g i) :=
    form_ite (form_devFault (form_slotError (form_useFresh hs))) (form_ite (form_sfout (form_ite (form_useFresh hs) hs)) (form_scantx (form_ite
    (form_useFresh hs) hs)))
theorem form_stationTick {s : State} {g : Nat} (hs : HasForm s) : HasForm (s.stationTick g) :=
    form_with_sgTick (form_advance _ (form_foldl _ (fun _ _ => form_applyDev) _ (form_sendAll (form_foldl_fst _ (fun _ _ => form_packDev) _
    (form_foldl _ (fun _ _ => form_collectDev) _ (form_foldl _ (fun _ _ h1 => form_ite (form_devFault h1) h1) _ hs))))))
theorem keepsForm_execStationTick {g : BitVec 4} {dt : Nat} {st : State} (hst : HasForm st) : KeepsForm (execStationTick g dt st) :=
    keepsForm_next (form_ite (form_stationTick (form_elapse hst)) (form_elapse hst))
theorem keepsForm_execHeartbeatSend {dt : Nat} {st : State} (hst : HasForm st) : KeepsForm (execHeartbeatSend dt st) :=
    keepsForm_next (form_ite (form_with_hbLink_hbSent (form_elapse hst)) (form_elapse hst))
theorem form_movCandidate {s : State} (hs : HasForm s) : HasForm s.movCandidate := form_applyRange _ _ (form_applyRange _ _ hs)
theorem form_stiTake {s : State} (hs : HasForm s) : HasForm s.stiTake :=
    form_ite hs (form_with_stiPages (form_foldl _ (fun _ _ => form_setPage) _ (form_foldl _ (fun _ _ => form_leaveOwner) _ hs)))
theorem form_descsFollow {s : State} {f n : Nat} (hs : HasForm s) : HasForm (s.descsFollow f n) :=
    form_foldl _ (fun _ _ h1 => form_ite (form_with_mseqs_lastOut (form_setRf _ _ _ _ h1)) h1) _ hs
theorem form_movApply {s : State} (hs : HasForm s) : HasForm s.movApply :=
    form_ite (form_ite (form_setReg _ _ (form_setReg _ _ hs)) (form_untouch (form_untouch (form_descsFollow (form_stiTake (form_movCandidate
    (form_setReg _ _ (form_setReg _ _ hs)))))))) hs
theorem keepsForm_execMoverCommitGo {src : BitVec 10} {st : State} (hst : HasForm st) : KeepsForm (execMoverCommitGo src st) :=
    keepsForm_next (form_ite hst (form_setRf _ _ _ _ hst))
theorem keepsForm_execMoverCommitApply {dt : Nat} {st : State} (hst : HasForm st) : KeepsForm (execMoverCommitApply dt st) :=
    keepsForm_next (form_movApply (form_elapse hst))
theorem keepsForm_execMovDevRangeWrite {src : BitVec 10} {data : W} {st : State} (hst : HasForm st) : KeepsForm (execMovDevRangeWrite src data st) :=
    keepsForm_next (form_ite hst (form_ite (form_refuse hst) (form_ite (form_refuse hst) (form_with_touched (form_setPnd _ _ hst)))))

/-! ### Edit -/

theorem form_wakeTb {s : State} {p : Nat} (hs : HasForm s) : HasForm (s.wakeTb p) :=
    form_wakeStep (form_ite (form_ite (form_startTb hs) (form_setTState hs)) hs)
theorem form_editEnd {s : State} {p r : Nat} {bits : W} (hs : HasForm s) : HasForm (s.editEnd p r bits) :=
    form_pdEvent (form_setPart (form_with_ruEdit (form_setRf _ _ _ _ (form_setReg _ _ hs))))
theorem form_editRefuse {s : State} {p r : Nat} (hs : HasForm s) : HasForm (s.editRefuse p r) := form_wakeTb (form_editEnd hs)
theorem form_commitGo {s : State} {src p : Nat} (hs : HasForm s) : HasForm (s.commitGo src p) := by
  refine form_ite hs (form_ite (form_refuse hs) (form_ite hs (form_ite (form_setPart (form_setReg _ _ hs)) (form_editRefuse (form_ite ?_ (form_setReg
      _ _ hs))))))
  split
  · exact form_entryFault (form_setReg _ _ hs)
  · exact form_setReg _ _ hs
theorem keepsForm_execEditCommitGo {src : BitVec 10} {p : BitVec 9} {st : State} (hst : HasForm st) : KeepsForm (execEditCommitGo src p st) :=
    keepsForm_next (form_commitGo hst)
theorem form_migrateOne {s : State} {p : Nat} {m : Move} (hs : HasForm s) : HasForm (s.migrateOne p m).1 := by
  unfold State.migrateOne
  split
  · exact form_badEntry hs
  · split
    · exact form_storeFault hs
    · split
      · exact form_badEntry hs
      · exact form_wrAll hs
theorem form_readMove {s : State} {p k : Nat} (hs : HasForm s) : HasForm (s.readMove p k).1 := by
  unfold State.readMove
  split
  · exact form_badEntry hs
  · split
    · exact form_storeFault hs
    · exact hs
theorem form_migrateAll {s : State} {p n k : Nat} (h : HasForm s) : HasForm (s.migrateAll p n k).1 := by
  induction n generalizing s k with
  | zero => exact h
  | succ n ih =>
    have hm : HasForm (s.readMove p k).1 := form_readMove h
    unfold State.migrateAll
    split
    next s1 heq => rw [heq] at hm; exact hm
    next s1 m heq =>
      rw [heq] at hm
      exact form_ite_fst (ih (form_migrateOne hm)) (form_migrateOne hm)
theorem form_beginPause {s : State} {p len : Nat} {fault : Bool} (hs : HasForm s) : HasForm (s.beginPause p len fault) := form_setPart hs
theorem form_boundary {s : State} {p : Nat} (h : HasForm s) : HasForm (s.boundary p) := by
  have hm : HasForm (s.migrateAll p (s.migCount p) 0).1 := form_migrateAll h
  unfold State.boundary
  split
  next s1 heq => rw [heq] at hm; exact form_beginPause (form_useFresh hm)
  next s1 ms heq => rw [heq] at hm; exact form_beginPause hm
theorem keepsForm_execEditBoundary {p : BitVec 9} {dt : Nat} {st : State} (hst : HasForm st) : KeepsForm (execEditBoundary p dt st) :=
    keepsForm_next (form_ite (form_boundary (form_elapse hst)) (form_elapse hst))
theorem form_applyMap {s : State} {p : Nat} (hs : HasForm s) : HasForm (s.applyMap p) := form_with_trA_trBad hs
theorem form_countMapped {s : State} {p : Nat} (hs : HasForm s) : HasForm (s.countMapped p) := form_setReg _ _ (form_setReg _ _ hs)
theorem form_settlePages {s : State} {p : Nat} (hs : HasForm s) : HasForm (s.settlePages p) :=
    form_foldl _ (fun _ _ => form_leaveOwner) _ (form_foldl _ (fun _ _ h1 => form_setRf _ _ _ _ h1) _ hs)
theorem form_applyDescriptor {s : State} {p : Nat} (hs : HasForm s) : HasForm (s.applyDescriptor p) :=
    form_untouch (form_descsFollow (form_applyRange _ _ (form_applyRange _ _ (form_applyRange _ _ hs))))
theorem form_mirrorEdit {s : State} {p : Nat} (hs : HasForm s) : HasForm (s.mirrorEdit p) := form_ite (form_sendMirror hs) hs
theorem form_applyEdit {s : State} {p : Nat} (hs : HasForm s) : HasForm (s.applyEdit p) :=
    form_mirrorEdit (form_editEnd (form_setRf _ _ _ _ (form_movePart (form_countMapped (form_applyDescriptor (form_settlePages (form_applyMap
    (form_abandonCopy hs))))))))
theorem form_failEdit {s : State} {p : Nat} (hs : HasForm s) : HasForm (s.failEdit p) :=
    form_editEnd (form_collect (form_noteLocal (form_foldl _ (fun _ _ h1 => form_clearPage _ _ h1) _ hs)))
theorem form_afterPause {s : State} {p : Nat} (hs : HasForm s) : HasForm (s.afterPause p) := by
  unfold State.afterPause
  dsimp only
  split
  · exact form_ite (form_stopPart (form_wakeTb (form_foldl _ (fun _ _ h1 => form_ite h1 (form_shadowStart (form_releaseDeferred h1))) _ hs)))
        (form_wakeTb (form_foldl _ (fun _ _ h1 => form_ite h1 (form_shadowStart (form_releaseDeferred h1))) _ hs))
  · split
    · exact form_endCmd (form_wakeTb (form_foldl _ (fun _ _ h1 => form_ite h1 (form_shadowStart (form_releaseDeferred h1))) _ hs))
    · exact form_ite (form_endCmd (form_enterHold (form_wakeTb (form_foldl _ (fun _ _ h1 => form_ite h1 (form_shadowStart (form_releaseDeferred h1)))
          _ hs)))) (form_endCmd (form_wakeTb (form_foldl _ (fun _ _ h1 => form_ite h1 (form_shadowStart (form_releaseDeferred h1))) _ hs)))
  · exact form_wakeTb (form_foldl _ (fun _ _ h1 => form_ite h1 (form_shadowStart (form_releaseDeferred h1))) _ hs)
theorem form_endPause {s : State} {p clk : Nat} {fault : Bool} (hs : HasForm s) : HasForm (s.endPause p clk fault) :=
    form_afterPause (form_ite (form_failEdit (form_setReg _ _ hs)) (form_applyEdit (form_setReg _ _ hs)))
theorem keepsForm_execBoundaryPauseEnd {p : BitVec 9} {dt : Nat} {st : State} (hst : HasForm st) : KeepsForm (execBoundaryPauseEnd p dt st) := by
  refine keepsForm_next ?_
  split
  · exact form_ite (form_endPause (form_elapse hst)) (form_elapse hst)
  · exact form_elapse hst
theorem keepsForm_execEditTimeout {p : BitVec 9} {dt : Nat} {st : State} (hst : HasForm st) : KeepsForm (execEditTimeout p dt st) := by
  refine keepsForm_next ?_
  split
  · exact form_ite (form_editRefuse (form_elapse hst)) (form_elapse hst)
  · exact form_elapse hst

/-! ### NvArray -/

theorem form_putNv {s : State} {n : Nat} {bs : List Byte} (hs : HasForm s) : HasForm (s.putNv n bs) := form_with_nv_nvBad hs
theorem form_eraseNv {s : State} {n : Nat} (hs : HasForm s) : HasForm (s.eraseNv n) := form_with_nv_nvBad hs
theorem form_putNvPages {s : State} {n k : Nat} {bs : List Byte} (h : HasForm s) : HasForm (s.putNvPages n bs k) := by
  induction k generalizing s n bs with
  | zero => exact h
  | succ k ih => exact ih (form_putNv h)

/-! ### EventRec -/

theorem form_evrEvent {s : State} {bits : W} (hs : HasForm s) : HasForm (s.evrEvent bits) := form_groupEvent hs
theorem form_setBkt {s : State} {code : Nat} {v : Nat × Nat} (hs : HasForm s) : HasForm (s.setBkt code v) := form_with_evBkt hs
theorem form_setStage {s : State} {l : List EvStored} (hs : HasForm s) : HasForm (s.setStage l) := form_setRf _ _ _ _ (form_with_evStage hs)
theorem form_admission {s : State} {code sev origin part : Nat} {body : List W} (hs : HasForm s) :
    HasForm (s.admission code sev origin part body).1 :=
    form_ite_fst (form_count _ hs) (form_ite_fst (form_count _ (form_setBkt hs)) (form_ite_fst (form_count _ hs) (form_setStage (form_setBkt hs))))
theorem keepsForm_execEventAdmission {st : State} (hst : HasForm st) : KeepsForm (execEventAdmission st) := by
  refine keepsForm_next (form_ite hst ?_)
  split
  · exact hst
  · exact form_admission (form_with_evPass hst)
theorem keepsForm_execTokenRefill {code : BitVec 16} {st : State} (hst : HasForm st) : KeepsForm (execTokenRefill code st) :=
    keepsForm_next (form_ite (form_setBkt hst) hst)
theorem form_sysEvrec {s : State} {p : Nat} {c : Ctx} (hs : HasForm s) : HasForm (s.sysEvrec p c).1 := by
  refine form_ite_fst (form_sysFail hs) (form_ite_fst (form_sysFail hs) ?_)
  split
  · exact form_sysFail (form_badEntry hs)
  · split
    · exact form_sysFail (form_storeFault hs)
    · exact form_ite_fst (form_sysFail hs) (form_ite_fst (form_sysOk (form_admission hs)) (form_sysFail (form_admission hs)))
theorem keepsForm_execOpEvrec {e : BitVec 7} {st : State} (hst : HasForm st) : KeepsForm (execOpEvrec e st) :=
    keepsForm_next (form_sys hst (fun _ _ _ _ => form_sysEvrec))
theorem form_setStore {s : State} {l : List EvStored} (hs : HasForm s) : HasForm (s.setStore l) :=
    form_setReg _ _ (form_setReg _ _ (form_with_evStore_evUnw hs))
theorem form_place {s : State} {r : EvStored} (hs : HasForm s) : HasForm (s.place r) :=
    form_ite (form_evrEvent (form_count _ hs)) (form_with_evBuf_evUnw (form_setStore (form_foldl _ (fun _ _ => form_evrEvent) _ hs)))
theorem form_queuePage {s : State} {n : Nat} (hs : HasForm s) : HasForm (s.queuePage n) := form_setRf _ _ _ _ (form_with_nvQ hs)
theorem form_flushBuf {s : State} (hs : HasForm s) : HasForm s.flushBuf := form_ite hs (form_queuePage (form_with_evBuf hs))
theorem form_losePage {s : State} {n : Nat} (hs : HasForm s) : HasForm (s.losePage n) := form_setReg _ _ (form_with_evUnw_evLost (form_setStore hs))
theorem form_drain {n : Nat} {s : State} (h : HasForm s) : HasForm (State.drain n s) := by
  induction n generalizing s with
  | zero => exact h
  | succ n ih =>
    unfold State.drain
    split
    · exact h
    next r l _ =>
      have hp : HasForm ((s.setStage l).place r) := form_place (form_setStage h)
      exact form_ite (form_queuePage (form_with_evBuf hp)) (ih hp)
theorem keepsForm_execEventPageWrite {st : State} (hst : HasForm st) : KeepsForm (execEventPageWrite st) :=
    keepsForm_next (form_ite hst (form_drain hst))
theorem keepsForm_execEventBufferTimeout {st : State} (hst : HasForm st) : KeepsForm (execEventBufferTimeout st) :=
    keepsForm_next (form_ite hst (form_flushBuf hst))
theorem form_evrDone {s : State} {r : Nat} (hs : HasForm s) : HasForm (s.evrDone r) := form_setRf _ _ _ _ hs
theorem form_freezeDone {s : State} (hs : HasForm s) : HasForm s.freezeDone :=
    form_ite (form_with_evAccess (form_evrEvent (form_setRf _ _ _ _ hs))) hs
theorem form_freezeBy {s : State} {src : Nat} (hs : HasForm s) : HasForm (s.freezeBy src) :=
    form_freezeDone (form_setRf _ _ _ _ (form_setRf _ _ _ _ (form_flushBuf hs)))
theorem form_unfreezeNow {s : State} (hs : HasForm s) : HasForm s.unfreezeNow :=
    form_ite (form_evrEvent (form_setRf _ _ _ _ hs)) (form_setRf _ _ _ _ hs)
theorem form_evFreeze {s : State} {src : Nat} (hs : HasForm s) : HasForm (s.evFreeze src).1 := form_ite_fst hs (form_ite_fst hs (form_freezeBy hs))
theorem form_evUnfreeze {s : State} {src : Nat} (hs : HasForm s) : HasForm (s.evUnfreeze src).1 := form_ite_fst (form_unfreezeNow hs) hs
theorem form_evClear {s : State} {src : Nat} (hs : HasForm s) : HasForm (s.evClear src).1 :=
    form_ite_fst hs (form_ite_fst hs (form_unfreezeNow (form_evrEvent (form_place (form_setStore (form_with_nvQ_evBuf_evUnw hs))))))
theorem keepsForm_execEvrFreeze {src : BitVec 10} {st : State} (hst : HasForm st) : KeepsForm (execEvrFreeze src st) :=
    keepsForm_next (form_farWrite hst (fun _ h1 => form_evrDone (form_evFreeze h1)))
theorem keepsForm_execEvrUnfreeze {src : BitVec 10} {st : State} (hst : HasForm st) : KeepsForm (execEvrUnfreeze src st) :=
    keepsForm_next (form_farWrite hst (fun _ h1 => form_evrDone (form_evUnfreeze h1)))
theorem keepsForm_execEvrClear {src : BitVec 10} {st : State} (hst : HasForm st) : KeepsForm (execEvrClear src st) :=
    keepsForm_next (form_farWrite hst (fun _ h1 => form_evrDone (form_evClear h1)))
theorem keepsForm_execFreezeTimeout {dt : Nat} {st : State} (hst : HasForm st) : KeepsForm (execFreezeTimeout dt st) :=
    keepsForm_next (form_ite (form_unfreezeNow (form_elapse hst)) (form_elapse hst))
theorem form_loadWindow {s : State} {src k : Nat} {r : EvStored} (hs : HasForm s) : HasForm (s.loadWindow src k r) :=
    form_with_evAccess (form_foldl _ (fun _ _ h1 => form_setRegFor _ _ _ h1) _ (form_foldl _ (fun _ _ h1 => form_setRegFor _ _ _ h1) _ (form_setRegFor
    _ _ _ hs)))
theorem keepsForm_execEvrRdIdxWrite {src : BitVec 10} {data : W} {st : State} (hst : HasForm st) : KeepsForm (execEvrRdIdxWrite src data st) := by
  refine keepsForm_next (form_farWrite hst (fun _ h1 => ?_))
  split
  · exact form_ite (form_loadWindow h1) (form_refuse h1)
  · exact form_refuse h1

/-! ### Nv -/

theorem form_saveCounters {s : State} (hs : HasForm s) : HasForm s.saveCounters := form_with_cntSaved hs
theorem keepsForm_execOperatingHour {dt : Nat} {st : State} (hst : HasForm st) : KeepsForm (execOperatingHour dt st) :=
    keepsForm_next (form_saveCounters (form_setReg _ _ (form_setRf _ _ _ _ (form_with_opAt (form_elapse hst)))))
theorem form_nvDone {s : State} {r : Nat} (hs : HasForm s) : HasForm (s.nvDone r) := form_setRf _ _ _ _ (form_setRf _ _ _ _ hs)
theorem form_setNvBuf {s : State} {bs : List Byte} (hs : HasForm s) : HasForm (s.setNvBuf bs) := form_foldl _ (fun _ _ h1 => form_setReg _ _ h1) _ hs
theorem form_nvCommand {s : State} {src : Nat} {k : State → State} (hs : HasForm s) (hk : ∀ u0, HasForm u0 → HasForm (k u0)) :
    HasForm (s.nvCommand src k) :=
    form_farWrite hs (fun _ h1 => form_ite (form_setRf _ _ _ _ h1) (form_ite (form_setRf _ _ _ _ h1) (form_ite (form_setRf _ _ _ _ h1) (hk _ h1))))
theorem form_nvRead {found : Nat} {st : State} (hst : HasForm st) : HasForm (st.nvRead found) := by
  refine form_ite (form_nvDone hst) (form_ite (form_nvDone hst) (form_ite (form_collect (form_nvDone (form_count _ (form_setNvBuf (form_ite
      (form_count _ hst) (form_ite (form_with_nvBad hst) hst)))))) (form_ite (form_nvDone (form_setNvBuf (form_useFresh (form_ite (form_count _ hst)
      (form_ite (form_with_nvBad hst) hst))))) ?_)))
  split <;> exact form_nvDone (form_setNvBuf (form_ite (form_count _ hst) (form_ite (form_with_nvBad hst) hst)))
theorem keepsForm_execNvRead {src : BitVec 10} {found : BitVec 2} {st : State} (hst : HasForm st) : KeepsForm (execNvRead src found st) :=
    keepsForm_next (form_nvCommand hst (fun _ => form_nvRead))
theorem form_showArray {s : State} (hs : HasForm s) : HasForm s.showArray := form_setRf _ _ _ _ hs
theorem form_nvQueue {s : State} {e : Nat × List Byte × Nat} (hs : HasForm s) : HasForm (s.nvQueue e) := form_setRf _ _ _ _ (form_with_nvQ hs)
theorem keepsForm_execNvWrite {src : BitVec 10} {st : State} (hst : HasForm st) : KeepsForm (execNvWrite src st) :=
    keepsForm_next (form_nvCommand hst (fun _ h1 => form_ite (form_nvDone h1) (form_setRf _ _ _ _ (form_nvQueue h1))))
theorem keepsForm_execNvPageWriteDone {ok : Bool} {st : State} (hst : HasForm st) : KeepsForm (execNvPageWriteDone ok st) := by
  refine keepsForm_next ?_
  split
  · exact hst
  · exact form_ite (form_nvDone (form_ite (form_ite (form_with_evUnw (form_showArray (form_with_nvQ hst))) (form_collect (form_losePage
        (form_showArray (form_with_nvQ hst))))) (form_ite (form_putNv (form_showArray (form_with_nvQ hst))) (form_collect (form_eraseNv
        (form_showArray (form_with_nvQ hst))))))) (form_ite (form_freezeDone (form_ite (form_ite (form_with_evUnw (form_showArray (form_with_nvQ
        hst))) (form_collect (form_losePage (form_showArray (form_with_nvQ hst))))) (form_ite (form_putNv (form_showArray (form_with_nvQ hst)))
        (form_collect (form_eraseNv (form_showArray (form_with_nvQ hst))))))) (form_ite (form_ite (form_with_evUnw (form_showArray (form_with_nvQ
        hst))) (form_collect (form_losePage (form_showArray (form_with_nvQ hst))))) (form_ite (form_putNv (form_showArray (form_with_nvQ hst)))
        (form_collect (form_eraseNv (form_showArray (form_with_nvQ hst)))))))
theorem form_beginSave {s : State} {kind : Nat} (hs : HasForm s) : HasForm (s.beginSave kind) := form_showArray (form_with_cadSaving hs)
theorem keepsForm_execCadsave {src : BitVec 10} {st : State} (hst : HasForm st) : KeepsForm (execCadsave src st) :=
    keepsForm_next (form_nvCommand hst (fun _ h1 => form_ite (form_nvDone h1) (form_ite (form_nvDone h1) (form_setRf _ _ _ _ (form_beginSave h1)))))
theorem keepsForm_execAutosave {dt : Nat} {st : State} (hst : HasForm st) : KeepsForm (execAutosave dt st) :=
    keepsForm_next (form_ite (form_elapse hst) (form_beginSave (form_elapse hst)))
theorem form_pfResume {s : State} (hs : HasForm s) : HasForm s.pfResume := form_ite (form_with_evPass_pfHold_evLost hs) hs
theorem keepsForm_execCaddySaveDone {dt : Nat} {st : State} (hst : HasForm st) : KeepsForm (execCaddySaveDone dt st) := by
  refine keepsForm_next ?_
  split
  · exact form_elapse hst
  · exact form_ite (form_nvDone (form_showArray (form_setRf _ _ _ _ (form_saveCounters (form_setReg _ _ (form_with_cadSaving_cadSaved_cadLast
        (form_elapse hst))))))) (form_ite (form_pfResume (form_setRf _ _ _ _ (form_showArray (form_setRf _ _ _ _ (form_saveCounters (form_setReg _ _
        (form_with_cadSaving_cadSaved_cadLast (form_elapse hst)))))))) (form_showArray (form_setRf _ _ _ _ (form_saveCounters (form_setReg _ _
        (form_with_cadSaving_cadSaved_cadLast (form_elapse hst)))))))
theorem keepsForm_execPowerFail {st : State} (hst : HasForm st) : KeepsForm (execPowerFail st) := by
  refine keepsForm_next (form_ite (form_with_pfLow hst) (form_setRf _ _ _ _ (form_beginSave (form_setReg _ _ (form_with_evBuf_evUnw_evLost
      (form_unfreezeNow (form_setStore (form_setStage (form_ite (form_nvDone (form_setRf _ _ _ _ (form_with_nvQ_pfLow_pfHold ?_))) (form_setRf _ _ _ _
      (form_with_nvQ_pfLow_pfHold ?_)))))))))))
  · split
    · exact hst
    · exact form_ite (form_eraseNv hst) hst
  · split
    · exact hst
    · exact form_ite (form_eraseNv hst) hst
theorem keepsForm_execPowerFailWithdrawn {st : State} (hst : HasForm st) : KeepsForm (execPowerFailWithdrawn st) :=
    keepsForm_next (form_pfResume (form_with_pfLow hst))
theorem form_cadAlloc {s : State} {src p : Nat} {data : W} (hs : HasForm s) : HasForm (s.cadAlloc src p data) :=
    form_ite (form_refuse hs) (form_setReg _ _ (form_foldl _ (fun _ _ h1 => form_setReg _ _ h1) _ hs))
theorem keepsForm_execCadAllocWrite {src : BitVec 10} {p : BitVec 9} {data : W} {st : State} (hst : HasForm st) :
    KeepsForm (execCadAllocWrite src p data st) :=
    keepsForm_next (form_farWrite hst (fun _ h1 => form_ite (form_cadAlloc h1) h1))
theorem keepsForm_execOpCadrd {e : BitVec 7} {st : State} (hst : HasForm st) : KeepsForm (execOpCadrd e st) := by
  refine keepsForm_next (form_sys hst (fun _ _ _ _ h1 => ?_))
  split
  · exact form_sysFail h1
  · exact h1
theorem keepsForm_execOpCadwr {e : BitVec 7} {st : State} (hst : HasForm st) : KeepsForm (execOpCadwr e st) := by
  refine keepsForm_next (form_sys hst (fun _ _ _ _ h1 => form_ite_fst (form_sysFail h1) ?_))
  split
  · exact form_sysFail h1
  · exact form_sysOk (form_setReg _ _ h1)

/-! ### Pages -/

theorem form_endTr {s : State} {r : Nat} (hs : HasForm s) : HasForm (s.endTr r) := form_setReg _ _ hs
theorem form_trCreate {s : State} (hs : HasForm s) : HasForm s.trCreate :=
    form_ite (form_endTr hs) (form_ite (form_endTr hs) (form_endTr (form_pdEvent (form_setRf _ _ _ _ (form_setReg64 _ _ (form_clearPart _ hs))))))
theorem form_dropCaddy {s : State} {p : Nat} (hs : HasForm s) : HasForm (s.dropCaddy p) :=
    form_setReg _ _ (form_foldl _ (fun _ _ h1 => form_setReg _ _ h1) _ hs)
theorem form_removePart {s : State} {p : Nat} (hs : HasForm s) : HasForm (s.removePart p) :=
    form_dropCaddy (form_clearPart _ (form_releaseAll (form_foldl _ (fun _ _ => form_leaveOwner) _ (form_with_retCopy hs))))
theorem form_trRemove {s : State} (hs : HasForm s) : HasForm s.trRemove :=
    form_ite (form_endTr hs) (form_ite (form_endTr hs) (form_ite (form_endTr hs) (form_endTr (form_removePart hs))))
theorem form_trStage {s : State} (hs : HasForm s) : HasForm s.trStage :=
    form_ite (form_endTr hs) (form_ite (form_endTr hs) (form_ite (form_endTr hs) (form_ite (form_endTr hs) (form_endTr (form_setReg _ _ (form_foldl _
    (fun _ _ => form_setPage) _ hs))))))
theorem form_trUnstage {s : State} (hs : HasForm s) : HasForm s.trUnstage :=
    form_ite (form_endTr hs) (form_ite (form_endTr hs) (form_ite (form_endTr hs) (form_endTr (form_foldl _ (fun _ _ => form_toZeroing) _ hs))))
theorem form_trRetclr {s : State} {src : Nat} (hs : HasForm s) : HasForm (s.trRetclr src) :=
    form_ite (form_endTr hs) (form_ite (form_endTr hs) (form_ite (form_endTr hs) (form_endTr (form_with_retList (form_toZeroing hs)))))
theorem form_trDo {s : State} {src c : Nat} (hs : HasForm s) : HasForm (s.trDo src c) :=
    form_ite (form_trCreate hs) (form_ite (form_trRemove hs) (form_ite (form_trStage hs) (form_ite (form_trUnstage hs) (form_trRetclr hs))))
theorem form_trCmd {s : State} {src c : Nat} (hs : HasForm s) : HasForm (s.trCmd src c) :=
    form_ite hs (form_ite (form_setRf _ _ _ _ hs) (form_ite (form_with_held (form_setRf _ _ _ _ hs)) (form_ite (form_endTr hs) (form_trDo hs))))
theorem keepsForm_execCreate {src : BitVec 10} {st : State} (hst : HasForm st) : KeepsForm (execCreate src st) := keepsForm_next (form_trCmd hst)
theorem keepsForm_execRemove {src : BitVec 10} {st : State} (hst : HasForm st) : KeepsForm (execRemove src st) := keepsForm_next (form_trCmd hst)
theorem keepsForm_execStage {src : BitVec 10} {st : State} (hst : HasForm st) : KeepsForm (execStage src st) := keepsForm_next (form_trCmd hst)
theorem keepsForm_execUnstage {src : BitVec 10} {st : State} (hst : HasForm st) : KeepsForm (execUnstage src st) := keepsForm_next (form_trCmd hst)
theorem keepsForm_execRetclr {src : BitVec 10} {st : State} (hst : HasForm st) : KeepsForm (execRetclr src st) := keepsForm_next (form_trCmd hst)
theorem form_zeroHead {s : State} (hs : HasForm s) : HasForm s.zeroHead := by
  unfold State.zeroHead
  split
  · exact hs
  · exact form_with_zeroQ (form_setPage (form_clearPage _ _ hs))
theorem keepsForm_execPageZeroed {dt : Nat} {st : State} (hst : HasForm st) : KeepsForm (execPageZeroed dt st) :=
    keepsForm_next (form_ite (form_zeroHead (form_elapse hst)) (form_elapse hst))
theorem form_entryWrite {s : State} {src i : Nat} {d : W} (hs : HasForm s) : HasForm (s.entryWrite src i d) :=
    form_ite hs (form_ite (form_refuse hs) (form_ite (form_refuse hs) (form_ite (form_refuse hs) (form_setEntP hs))))
theorem keepsForm_execTrEntryWrite {src : BitVec 10} {idx : BitVec 12} {data : W} {st : State} (hst : HasForm st) :
    KeepsForm (execTrEntryWrite src idx data st) :=
    keepsForm_next (form_entryWrite hst)
theorem form_rangeWrite {s : State} {src p : Nat} {d : W} (hs : HasForm s) : HasForm (s.rangeWrite src p d) :=
    form_ite hs (form_ite (form_refuse hs) (form_ite (form_refuse hs) (form_ite (form_refuse hs) (form_setPnd _ _ hs))))
theorem keepsForm_execPdMovRangeWrite {src : BitVec 10} {p : BitVec 9} {data : W} {st : State} (hst : HasForm st) :
    KeepsForm (execPdMovRangeWrite src p data st) :=
    keepsForm_next (form_rangeWrite hst)
theorem form_zeroingBad {s : State} {k n : Nat} (hs : HasForm s) : HasForm (s.zeroingBad k n) := form_ite (form_with_zeroQ (form_retireNow hs)) hs
theorem form_scrubWord {s : State} {a found : Nat} (hs : HasForm s) : HasForm (s.scrubWord a found) :=
    form_ite (form_collect hs) (form_ite (form_zeroingBad (form_storeFault (form_setBad hs))) hs)
theorem form_scrubEntry {s : State} {key found : Nat} (hs : HasForm s) : HasForm (s.scrubEntry key found) :=
    form_ite (form_collect hs) (form_ite (form_entryFault hs) hs)
theorem keepsForm_execScrub {a : BitVec 28} {found : BitVec 2} {st : State} (hst : HasForm st) : KeepsForm (execScrub a found st) :=
    keepsForm_next (form_ite (form_scrubWord hst) (form_ite (form_scrubEntry hst) hst))
theorem form_startRetire {s : State} {k n : Nat} (hs : HasForm s) : HasForm (s.startRetire k n) := by
  unfold State.startRetire
  dsimp only
  split
  · exact hs
  · exact form_ite (form_with_retCopy (form_setPage hs)) hs
theorem form_moveSlot {s : State} {i g : Nat} (hs : HasForm s) : HasForm (s.moveSlot i g) :=
    form_with_slotBuf_slotOld_slotWait_slotPage (form_setReg _ _ (form_setRf _ _ _ _ hs))
theorem form_retireDevice {s : State} {k n : Nat} (hs : HasForm s) : HasForm (s.retireDevice k n) := by
  refine form_ite (form_retireNow hs) ?_
  split
  · exact hs
  · exact form_with_stiPages (form_retireNow (form_foldl _ (fun _ _ => form_moveSlot) _ (form_setPage hs)))
theorem form_retirePage {s : State} {k n : Nat} (hs : HasForm s) : HasForm (s.retirePage k n) :=
    form_ite (form_ite (form_startRetire hs) (form_ite (form_retireDevice hs) hs)) hs
theorem keepsForm_execPageRetirement {k : BitVec 2} {n : BitVec 14} {dt : Nat} {st : State} (hst : HasForm st) :
    KeepsForm (execPageRetirement k n dt st) :=
    keepsForm_next (form_ite (form_retirePage (form_elapse hst)) (form_elapse hst))
theorem form_copyPage {s : State} {k n f : Nat} (hs : HasForm s) : HasForm (s.copyPage k n f) := form_foldl _ (fun _ _ h1 => form_wrMem _ _ h1) _ hs
theorem form_switchEntry {s : State} {p k n f : Nat} (hs : HasForm s) : HasForm (s.switchEntry p k n f) :=
    form_foldl _ (fun _ _ h1 => form_setEntP (form_setEntA h1)) _ hs
theorem form_endRetire {s : State} (hs : HasForm s) : HasForm s.endRetire := by
  unfold State.endRetire
  split
  · exact hs
  · exact form_ite (form_abandonCopy hs) (form_with_retCopy (form_retireNow (form_switchEntry (form_copyPage hs))))
theorem keepsForm_execRetirementCopyDone {dt : Nat} {st : State} (hst : HasForm st) : KeepsForm (execRetirementCopyDone dt st) :=
    keepsForm_next (form_ite (form_endRetire (form_elapse hst)) (form_elapse hst))

/-! ### SafetyUnit -/

theorem form_setSfc {s : State} {f ch : Nat} {c : SfChan} (hs : HasForm s) : HasForm (s.setSfc f ch c) := form_with_sf hs
theorem form_setSq {s : State} {n : Nat} {q : Sq} (hs : HasForm s) : HasForm (s.setSq n q) := form_with_sq hs
theorem form_sfEvent {s : State} {bits : W} {idx : Nat} (hs : HasForm s) : HasForm (s.sfEvent bits idx) :=
    form_groupEvent (form_ite (form_setRf _ _ _ _ hs) hs)
theorem form_sfReport {s : State} {f : Nat} (hs : HasForm s) : HasForm (s.sfReport f) :=
    form_ite (form_ite (form_count _ (form_setRf _ _ _ _ (form_setRf _ _ _ _ (form_setReg _ _ hs)))) (form_setRf _ _ _ _ (form_setRf _ _ _ _
    (form_setReg _ _ hs)))) (form_sfEvent (form_ite (form_count _ (form_setRf _ _ _ _ (form_setRf _ _ _ _ (form_setReg _ _ hs)))) (form_setRf _ _ _ _
    (form_setRf _ _ _ _ (form_setReg _ _ hs)))))
theorem form_sfReports {s : State} (hs : HasForm s) : HasForm s.sfReports := form_foldl _ (fun _ _ => form_sfReport) _ hs
theorem form_sqFail {s : State} {n cause : Nat} (hs : HasForm s) : HasForm (s.sqFail n cause) :=
    form_sfEvent (form_setRf _ _ _ _ (form_setRf _ _ _ _ (form_setSq hs)))
theorem form_sqStep {s : State} {n : Nat} {pa pb : SqPins} (hs : HasForm s) : HasForm (s.sqStep n pa pb) :=
    form_ite (form_setRf _ _ _ _ (form_setRf _ _ _ _ hs)) (form_ite (form_sqFail (form_setRf _ _ _ _ (form_setRf _ _ _ _ hs))) (form_setRf _ _ _ _
    (form_setSq (form_setRf _ _ _ _ (form_setRf _ _ _ _ hs)))))
theorem form_openAll {s : State} (hs : HasForm s) : HasForm s.openAll :=
    form_foldl _ (fun _ _ h1 => form_ite h1 (form_setRf _ _ _ _ (form_setSq h1))) _ hs
theorem form_openLow {s : State} (hs : HasForm s) : HasForm s.openLow := form_with_sq hs
theorem form_openHigh {s : State} (hs : HasForm s) : HasForm s.openHigh := form_with_sq hs
theorem form_evalFn {sa sb : List W} {pu : List Pulse} {s : State} {f : Nat} (hs : HasForm s) : HasForm (s.evalFn sa sb pu f) :=
    form_ite hs (form_ite (form_sfEvent (form_ite (form_count _ (form_setSfc (form_setSfc (form_with_sfPress hs)))) (form_setSfc (form_setSfc
    (form_with_sfPress hs))))) (form_ite (form_count _ (form_setSfc (form_setSfc (form_with_sfPress hs)))) (form_setSfc (form_setSfc
    (form_with_sfPress hs)))))
theorem form_sfForce {s : State} {chs : List Nat} {st cause : Nat} {pend all : Bool} (hs : HasForm s) : HasForm (s.sfForce chs st cause pend all) :=
    form_sfReports (form_foldl _ (fun _ _ h1 => form_ite (form_foldl _ (fun _ _ => form_setSfc) _ h1) h1) _ hs)
theorem form_sfFatal {s : State} {chs srcs : List Nat} {code : Nat} (hs : HasForm s) : HasForm (s.sfFatal chs srcs code) :=
    form_foldl_fst _ (fun _ _ => form_collectIn) _ (form_with_sfDiff (form_sfEvent (form_setRf _ _ _ _ (form_ite (form_openAll (form_sfForce hs))
    (form_openLow (form_sfForce hs))))))
theorem form_sfJoin {s : State} (hs : HasForm s) : HasForm s.sfJoin := form_foldl _ (fun _ _ h1 => form_ite (form_setSfc h1) h1) _ hs
theorem form_sfPublish {s : State} (hs : HasForm s) : HasForm s.sfPublish := form_with_sfWord_sfScnt hs
theorem form_evaluate {s : State} {sa sb : List W} {pa pb : List SqPins} {pu : List Pulse} (hs : HasForm s) : HasForm (s.evaluate sa sb pa pb pu) :=
    form_ite (form_sfPublish (form_ite (form_sfFatal (form_ite (form_sfEvent (form_setRf _ _ _ _ (form_sfJoin hs))) hs)) (form_sfFatal (form_ite
    (form_sfEvent (form_setRf _ _ _ _ (form_sfJoin hs))) hs)))) (form_sfPublish (form_sfReports (form_foldl _ (fun _ _ => form_sqStep) _
    (form_with_sfDiff (form_with_sfReq (form_foldl _ (fun _ _ => form_evalFn) _ (form_ite (form_sfEvent (form_setRf _ _ _ _ (form_sfJoin hs)))
    hs)))))))
theorem keepsForm_execSafetyEvaluation {sa sb : List W} {pinsA pinsB : List SqPins} {pulses : List Pulse} {dt : Nat} {st : State} (hst : HasForm st) :
    KeepsForm (execSafetyEvaluation sa sb pinsA pinsB pulses dt st) :=
    keepsForm_next (form_ite (form_evaluate (form_elapse hst)) (form_elapse hst))
theorem keepsForm_execSampleIntervalFault {st : State} (hst : HasForm st) : KeepsForm (execSampleIntervalFault st) :=
    keepsForm_next (form_ite (form_sfFatal (form_openLow hst)) hst)
theorem keepsForm_execChannelALost {st : State} (hst : HasForm st) : KeepsForm (execChannelALost st) :=
    keepsForm_next (form_ite (form_ite (form_openHigh (form_sfForce (form_setRf _ _ _ _ hst))) (form_sfEvent (form_openHigh (form_sfForce (form_setRf
    _ _ _ _ hst))))) hst)
theorem keepsForm_execDarkTestHigh {n : BitVec 3} {st : State} (hst : HasForm st) : KeepsForm (execDarkTestHigh n st) :=
    keepsForm_next (form_ite (form_setRf _ _ _ _ (form_setSq hst)) hst)
theorem keepsForm_execDarkTestLow {n : BitVec 3} {st : State} (hst : HasForm st) : KeepsForm (execDarkTestLow n st) :=
    keepsForm_next (form_ite (form_setRf _ _ _ _ (form_setSq hst)) hst)
theorem keepsForm_execDarkTestEnd {n : BitVec 3} {pinsA pinsB : SqPins} {st : State} (hst : HasForm st) :
    KeepsForm (execDarkTestEnd n pinsA pinsB st) :=
    keepsForm_next (form_ite hst (form_ite (form_sqFail hst) (form_setRf _ _ _ _ (form_setSq hst))))
theorem keepsForm_execSqOverload {n : BitVec 3} {thermal : Bool} {st : State} (hst : HasForm st) : KeepsForm (execSqOverload n thermal st) :=
    keepsForm_next (form_ite (form_sqFail hst) hst)
theorem keepsForm_execSqlEnableLost {n : BitVec 3} {st : State} (hst : HasForm st) : KeepsForm (execSqlEnableLost n st) :=
    keepsForm_next (form_setSq hst)
theorem form_sfDone {s : State} {r : Nat} (hs : HasForm s) : HasForm (s.sfDone r) := form_setReg _ _ hs
theorem form_sfCommand {s : State} {src : Nat} {k : State → State} (hs : HasForm s) (hk : ∀ u0, HasForm u0 → HasForm (k u0)) :
    HasForm (s.sfCommand src k) :=
    form_ite hs (form_farWrite hs (fun _ h1 => form_ite (form_setRf _ _ _ _ h1) (form_ite (form_setRf _ _ _ _ h1) (hk _ h1))))
theorem form_sfActivate {s : State} (hs : HasForm s) : HasForm s.sfActivate := form_sfEvent (form_setRf _ _ _ _ (form_sfForce (form_with_sf hs)))
theorem keepsForm_execSfStart {src : BitVec 10} {st : State} (hst : HasForm st) : KeepsForm (execSfStart src st) :=
    keepsForm_next (form_sfCommand hst (fun _ h1 => form_ite (form_sfDone h1) (form_sfDone (form_with_sfStop (form_sfActivate h1)))))
theorem keepsForm_execSfStopCmd {src : BitVec 10} {st : State} (hst : HasForm st) : KeepsForm (execSfStopCmd src st) :=
    keepsForm_next (form_sfCommand hst (fun _ h1 => form_ite (form_sfDone h1) (form_sfDone (form_sfEvent (form_setRf _ _ _ _ (form_foldl _ (fun _ _ h2
    => form_ite h2 (form_setRf _ _ _ _ (form_setSq h2))) _ (form_with_sfReq_sfStop (form_sfForce h1))))))))
theorem keepsForm_execSfApply {src : BitVec 10} {st : State} (hst : HasForm st) : KeepsForm (execSfApply src st) := by
  refine keepsForm_next (form_sfCommand hst (fun _ h1 => form_ite (form_sfDone h1) (form_ite (form_sfDone h1) ?_)))
  split
  · exact form_setReg _ _ h1
  · exact form_ite (form_setReg _ _ h1) (form_sfDone h1)
theorem keepsForm_execSfReset {src : BitVec 10} {st : State} (hst : HasForm st) : KeepsForm (execSfReset src st) :=
    keepsForm_next (form_sfCommand hst (fun _ h1 => form_ite (form_sfDone (form_sfEvent h1)) (form_ite (form_sfDone h1) (form_sfDone (form_with_sfReq
    h1)))))
theorem keepsForm_execSfOclr {src : BitVec 10} {st : State} (hst : HasForm st) : KeepsForm (execSfOclr src st) :=
    keepsForm_next (form_sfCommand hst (fun _ h1 => form_ite (form_sfDone h1) (form_sfDone (form_setRf _ _ _ _ (form_setRf _ _ _ _ (form_setSq
    h1))))))
theorem form_sfClaim {s : State} {n : Nat} (hs : HasForm s) : HasForm (s.sfClaim n) :=
    form_ite (form_reportIn (form_drivePin (form_setChan (form_setRf _ _ _ _ (form_setRf _ _ _ _ (form_setRf _ _ _ _ (form_setRf _ _ _ _ (form_setReg
    _ _ hs)))))))) (form_setRf _ _ _ _ hs)
theorem form_sfTp {s : State} {t : Nat} (hs : HasForm s) : HasForm (s.sfTp t) := form_ite (form_tpTake (form_setPnd _ _ (form_setReg _ _ hs))) hs
theorem form_sfPeriod {s : State} (hs : HasForm s) : HasForm s.sfPeriod := form_setPnd _ _ (form_tpPeriod hs)
theorem form_sfLoad {s : State} {w : Nat → W} (hs : HasForm s) : HasForm (s.sfLoad w) :=
    form_sfEvent (form_sfReports (form_setRf _ _ _ _ (form_setRf _ _ _ _ (form_setReg _ _ (form_setReg _ _ (form_foldl _ (fun _ _ => form_sfTp) _
    (form_sfPeriod (form_foldl _ (fun _ _ => form_sfClaim) _ (form_with_sf_sfSet_sfDiff_sfReq_sfPress hs)))))))))
theorem keepsForm_execSetTakesEffect {nvOk : Bool} {dt : Nat} {st : State} (hst : HasForm st) : KeepsForm (execSetTakesEffect nvOk dt st) :=
    keepsForm_next (form_ite (form_elapse hst) (form_ite (form_sfDone (form_elapse hst)) (form_sfDone (form_sfLoad (form_putNvPages (form_putNvPages
    (form_elapse hst)))))))
theorem form_sfReload {s : State} (hs : HasForm s) : HasForm s.sfReload := by
  unfold State.sfReload
  split
  · exact hs
  · exact form_ite (form_sfLoad hs) (form_sfActivate (form_sfLoad hs))
theorem keepsForm_execOpSfrd {e : BitVec 7} {st : State} (hst : HasForm st) : KeepsForm (execOpSfrd e st) :=
    keepsForm_next (form_sys hst (fun _ _ _ _ h1 => form_ite_fst (form_sysFail h1) h1))
theorem keepsForm_execOpSfrst {e : BitVec 7} {st : State} (hst : HasForm st) : KeepsForm (execOpSfrst e st) :=
    keepsForm_next (form_sys hst (fun _ _ _ _ h1 => form_ite_fst (form_sysFail h1) (form_ite_fst (form_sysOk h1) (form_ite_fst (form_sysFail h1)
    (form_ite_fst (form_sysFail (form_sfEvent h1)) (form_ite_fst (form_sysFail h1) (form_sysOk (form_with_sfReq h1))))))))

/-! ### Resets -/

theorem form_endGrant {s : State} {src : Nat} (hs : HasForm s) : HasForm (s.endGrant src) :=
    form_with_auEnd (form_setRegFor _ _ _ (form_ite (form_setRf _ _ _ _ hs) hs))
theorem form_endSession {s : State} (hs : HasForm s) : HasForm s.endSession :=
    form_with_parts_spLast_spReply (form_ite (form_unfreezeNow (form_setReg _ _ (form_endGrant hs))) (form_setReg _ _ (form_endGrant hs)))
theorem form_resetEndpoint {s : State} (hs : HasForm s) : HasForm s.resetEndpoint :=
    form_with_latch_fnMask_vecMask_vecPend_vfEnable_numVfs (form_endGrant hs)
theorem form_resetVf {s : State} {k : Nat} (hs : HasForm s) : HasForm (s.resetVf k) := form_with_latch_fnMask_vecMask_vecPend (form_zeroRegs _ hs)
theorem form_applyRetired {s : State} (hs : HasForm s) : HasForm s.applyRetired := form_foldl _ (fun _ _ h1 => form_ite (form_setPage h1) h1) _ hs
theorem form_waitAfter {s : State} {role : Nat} (hs : HasForm s) : HasForm (s.waitAfter role) := form_ite hs (form_with_ru (form_setRf _ _ _ _ hs))
theorem form_cold {s : State} {b : Nat} (hs : HasForm s) : HasForm (s.cold b) := by
  unfold State.cold
  extract_lets u s0 cause k r
  have hu : HasForm u := form_measAbortMer hs
  have hs0 : HasForm s0 := by
    simp only [s0]
    split
    · exact hu
    · exact form_ite (form_eraseNv hu) hu
  have hr : Canonical r := ⟨rfl, FMap.wf_filter _ hs0.2.1, FMap.wf_filter _ hs0.2.2⟩
  exact form_waitAfter (form_applyRetired (form_noteReset _ (form_setReg _ _ (form_setRf _ _ _ _ hr))))
theorem form_resetL {s : State} (h : HasForm s) : HasForm s.resetL := by
  unfold State.resetL
  extract_lets s0 failed k r r1
  have hs0 : HasForm s0 := form_endGrant (form_endSession (form_measAbortMer h))
  have hr : Canonical r := ⟨FMap.wf_filter _ hs0.1, FMap.wf_filter _ hs0.2.1, rfl⟩
  have hr1 : HasForm r1 := form_setReg _ _ (form_foldl _ (fun _ _ => form_setReg _ _) _ hr)
  exact form_waitAfter (form_forceCause (form_causeEnds
    (form_foldl _ (fun _ _ => form_setRf _ _ _ _) _ (form_openLow (form_applyRetired hr1)))))
theorem form_warm {s : State} {b : Nat} (hs : HasForm s) : HasForm (s.warm b) := form_noteReset _ (form_resetL hs)
theorem form_faultStop {s : State} {p : Nat} (hs : HasForm s) : HasForm (s.faultStop p) :=
    form_foldl _ (fun _ _ => form_passFault) _ (form_stopPart hs)
theorem form_haltEngine {s : State} {e : Nat} (hs : HasForm s) : HasForm (s.haltEngine e) :=
    form_foldl _ (fun _ _ => form_faultStop) _ (form_setEng (form_with_engRst hs))
theorem form_resetEngine {s : State} {e : Nat} (hs : HasForm s) : HasForm (s.resetEngine e) :=
    form_setReg _ _ (form_with_wdgReq_wdgExp (form_haltEngine (form_setRf _ _ _ _ (form_noteReset _ hs))))
theorem form_markBlock {s : State} {lo hi code : Nat} {v : Bool} (hs : HasForm s) : HasForm (s.markBlock lo hi code v) := by
  unfold State.markBlock
  split
  · exact form_setRf _ _ _ _ hs
  · exact form_setRf _ _ _ _ hs
  · exact hs
theorem form_dropPosted {s : State} {b : Nat} (hs : HasForm s) : HasForm (s.dropPosted b) := by
  unfold State.dropPosted
  split
  · exact form_refuse (form_setRf _ _ _ _ (form_with_posted hs))
  · exact hs
theorem form_resetCanRegs {s : State} {n : Nat} (hs : HasForm s) : HasForm (s.resetCanRegs n) :=
    form_foldl _ (fun _ _ h1 => form_setRf _ _ _ _ h1) _ (form_setReg _ _ (form_zeroRegs _ hs))
theorem form_resetCan {s : State} {n : Nat} (hs : HasForm s) : HasForm (s.resetCan n) :=
    form_setRf _ _ _ _ (form_resetCanRegs (form_setCounts (form_setCan (form_cancelAll (form_zeroRegs _ (form_dropPosted hs))))))
theorem form_dropCopies {s : State} (hs : HasForm s) : HasForm s.dropCopies := form_foldl _ (fun _ _ => form_wrCells) _ (form_with_cu hs)
theorem form_blockEffect {s : State} {code : Nat} (hs : HasForm s) : HasForm (s.blockEffect code) := by
  refine form_ite (form_resetCan hs) (form_ite (form_foldl _ (fun _ _ => form_faultStop) _ (form_foldl _ (fun _ _ h1 => ?_) _ (form_dropCopies hs)))
      (form_ite (form_endSession hs) (form_ite (form_resetEndpoint hs) (form_ite (form_with_lines (form_foldl _ (fun _ _ h1 => ?_) _ hs)) hs))))
  · split
    · exact form_endPause h1
    · exact h1
  · dsimp only
    split
    · exact form_ite (form_portDown (form_setRf _ _ _ _ (form_setLane (form_dropPosted h1)))) (form_with_lines (form_portDown (form_setRf _ _ _ _
          (form_setLane (form_dropPosted h1)))))
    · exact form_setRf _ _ _ _ (form_setLane (form_dropPosted h1))
theorem form_resetBlock {s : State} {code : Nat} (hs : HasForm s) : HasForm (s.resetBlock code) :=
    form_blockEffect (form_with_blkRst (form_markBlock (form_noteReset _ hs)))
theorem form_restartBlock {s : State} {code : Nat} (hs : HasForm s) : HasForm (s.restartBlock code) :=
    form_ite (form_canJoin (form_setRf _ _ _ _ (form_with_blkRst hs))) (form_ite (form_with_hbSent (form_with_blkRst hs)) (form_ite (form_foldl _ (fun
    _ _ h1 => form_setRf _ _ _ _ h1) _ (form_with_blkRst hs)) (form_with_blkRst hs)))
theorem keepsForm_execBlockResetRelease {code : BitVec 10} {dt : Nat} {st : State} (hst : HasForm st) :
    KeepsForm (execBlockResetRelease code dt st) :=
    keepsForm_next (form_ite (form_restartBlock (form_elapse hst)) (form_elapse hst))
theorem form_dropPending {s : State} {p : Nat} (hs : HasForm s) : HasForm (s.dropPending p) :=
    form_foldl _ (fun _ _ h1 => form_ite h1 (form_setPnd _ _ h1)) _ (form_with_trP hs)
theorem form_settleEdit {s : State} {p : Nat} (hs : HasForm s) : HasForm (s.settleEdit p) := by
  unfold State.settleEdit
  split
  · exact form_endPause hs
  · exact form_ite (form_dropPending (form_setPart (form_setRf _ _ _ _ (form_with_ruEdit hs)))) hs
theorem form_zeroCtx {s : State} {p t : Nat} (hs : HasForm s) : HasForm (s.zeroCtx p t) := form_foldl _ (fun _ _ => form_pokeAt) _ hs
theorem form_clearTask {s : State} {p t : Nat} (hs : HasForm s) : HasForm (s.clearTask p t) :=
    form_setReg _ _ (form_setReg _ _ (form_setReg _ _ (form_setRf _ _ _ _ (form_setTask (form_zeroCtx hs)))))
theorem form_resetPart {s : State} {p : Nat} (hs : HasForm s) : HasForm (s.resetPart p) :=
    form_zeroRegs _ (form_foldl _ (fun _ _ h1 => form_setPnd _ _ (form_setRf _ _ _ _ h1)) _ (form_foldl _ (fun _ _ => form_clearTask) _ (form_ite
    (form_stopPart (form_settleEdit hs)) (form_settleEdit hs))))
theorem form_rstDone {s : State} {r : Nat} (hs : HasForm s) : HasForm (s.rstDone r) := form_setReg _ _ hs
theorem form_rstCmd {s : State} {src : Nat} {k : State → State} (hs : HasForm s) (hk : ∀ u0, HasForm u0 → HasForm (k u0)) :
    HasForm (s.rstCmd src k) :=
    form_ite hs (hk _ hs)
theorem keepsForm_execCold {src : BitVec 10} {st : State} (hst : HasForm st) : KeepsForm (execCold src st) :=
    keepsForm_next (form_rstCmd hst (fun _ h1 => form_ite (form_cold h1) (form_rstDone h1)))
theorem keepsForm_execWarm {src : BitVec 10} {st : State} (hst : HasForm st) : KeepsForm (execWarm src st) :=
    keepsForm_next (form_rstCmd hst (fun _ h1 => form_ite (form_warm h1) (form_rstDone h1)))
theorem keepsForm_execEngineCmd {src : BitVec 10} {arg : BitVec 10} {st : State} (hst : HasForm st) : KeepsForm (execEngineCmd src arg st) :=
    keepsForm_next (form_rstCmd hst (fun _ h1 => form_ite (form_rstDone h1) (form_rstDone (form_resetEngine h1))))
theorem keepsForm_execBlockCmd {src : BitVec 10} {arg : BitVec 10} {st : State} (hst : HasForm st) : KeepsForm (execBlockCmd src arg st) :=
    keepsForm_next (form_rstCmd hst (fun _ h1 => form_ite (form_rstDone (form_resetBlock h1)) (form_rstDone h1)))
theorem keepsForm_execBlockhold {src : BitVec 10} {arg : BitVec 10} {st : State} (hst : HasForm st) : KeepsForm (execBlockhold src arg st) :=
    keepsForm_next (form_rstCmd hst (fun _ h1 => form_ite (form_rstDone (form_markBlock (form_resetBlock h1))) (form_rstDone h1)))
theorem keepsForm_execBlockrel {src : BitVec 10} {arg : BitVec 10} {st : State} (hst : HasForm st) : KeepsForm (execBlockrel src arg st) :=
    keepsForm_next (form_rstCmd hst (fun _ h1 => form_ite (form_rstDone h1) (form_ite (form_rstDone h1) (form_rstDone (form_markBlock h1)))))
theorem keepsForm_execPartitionCmd {src : BitVec 10} {arg : BitVec 10} {st : State} (hst : HasForm st) : KeepsForm (execPartitionCmd src arg st) :=
    keepsForm_next (form_rstCmd hst (fun _ h1 => form_ite (form_rstDone h1) (form_ite (form_rstDone h1) (form_rstDone (form_resetPart (form_setReg _ _
    (form_noteReset _ h1)))))))
theorem form_loseRtc {s : State} (h : HasForm s) : HasForm s.loseRtc :=
    (⟨h.1, FMap.wf_filter _ h.2.1, FMap.wf_filter _ h.2.2⟩ : Canonical s.loseRtc)
theorem keepsForm_execVaoPowerOn {vbat : Bool} {st : State} (hst : HasForm st) : KeepsForm (execVaoPowerOn vbat st) :=
    keepsForm_next (form_with_lpg (form_cold (form_ite hst (form_loseRtc hst))))
theorem keepsForm_execVaoBrownout {st : State} (hst : HasForm st) : KeepsForm (execVaoBrownout st) := keepsForm_next (form_cold hst)
theorem keepsForm_execResetN {ns : Nat} {st : State} (hst : HasForm st) : KeepsForm (execResetN ns st) :=
    keepsForm_next (form_ite (form_cold hst) (form_ite hst (form_ite (form_cold (form_useFresh hst)) (form_useFresh hst))))
theorem keepsForm_execLdiePowerGood {dt : Nat} {st : State} (hst : HasForm st) : KeepsForm (execLdiePowerGood dt st) :=
    keepsForm_next (form_with_lpg (form_elapse hst))
theorem keepsForm_execLdiePowerGoodLoss {st : State} (hst : HasForm st) : KeepsForm (execLdiePowerGoodLoss st) :=
    keepsForm_next (form_with_lpg (form_warm hst))
theorem keepsForm_execPciePerst {st : State} (hst : HasForm st) : KeepsForm (execPciePerst st) := keepsForm_next (form_resetBlock hst)
theorem keepsForm_execVfFlr {k : BitVec 10} {st : State} (hst : HasForm st) : KeepsForm (execVfFlr k st) :=
    keepsForm_next (form_ite (form_resetVf hst) hst)
theorem keepsForm_execPf0Reset {st : State} (hst : HasForm st) : KeepsForm (execPf0Reset st) := keepsForm_next (form_resetBlock hst)

/-! ### AuthUnit -/

theorem form_giveGrant {s : State} {src n r : Nat} (hs : HasForm s) : HasForm (s.giveGrant src n r) :=
    form_with_auSlot_auEnd (form_ite (form_setRf _ _ _ _ (form_setRegFor _ _ _ hs)) (form_setRegFor _ _ _ hs))
theorem form_auChallenge {s : State} {src slot rights : Nat} (hs : HasForm s) : HasForm (s.auChallenge src slot rights).1 :=
    form_ite_fst hs (form_ite_fst hs (form_ite_fst hs (form_with_auExch (form_foldl _ (fun _ _ h1 => form_setRegFor _ _ _ h1) _ (form_useFresh hs)))))
theorem form_auFail {s : State} (hs : HasForm s) : HasForm s.auFail :=
    form_ite (form_with_auFails_auLevel_auLock (form_passEvent (form_passEvent (form_with_auExch hs)))) (form_with_auFails (form_passEvent
    (form_with_auExch hs)))
theorem form_auResponse {s : State} {src : Nat} {mac : List Byte} (hs : HasForm s) : HasForm (s.auResponse src mac).1 := by
  unfold State.auResponse
  split
  · exact hs
  · refine form_ite_fst hs ?_
    split
    · exact form_auFail hs
    · exact form_ite_fst (form_giveGrant (form_with_auFails_auLevel_auExch hs)) (form_auFail hs)
theorem form_auDone {src : Nat} {r : State × Nat} (hr : HasForm r.1) : HasForm (State.auDone src r) := form_setRegFor _ _ _ hr
theorem form_auCmd {s : State} {src : Nat} {k : State → State × Nat} (hs : HasForm s) (hk : ∀ u0, HasForm u0 → HasForm (k u0).1) :
    HasForm (s.auCmd src k) :=
    form_farWrite hs (fun _ h1 => form_auDone (hk _ h1))
theorem form_cmdChallenge {src : Nat} {s : State} (hs : HasForm s) : HasForm (s.cmdChallenge src).1 := form_auChallenge hs
theorem form_cmdResponse {src : Nat} {s : State} (hs : HasForm s) : HasForm (s.cmdResponse src).1 := form_auResponse hs
theorem form_cmdRelinquish {src : Nat} {s : State} (hs : HasForm s) : HasForm (s.cmdRelinquish src).1 := form_endGrant hs
theorem keepsForm_execAuChallenge {st : State} (hst : HasForm st) : KeepsForm (execAuChallenge st) :=
    keepsForm_next (form_auCmd hst (fun _ => form_cmdChallenge))
theorem keepsForm_execAuResponse {st : State} (hst : HasForm st) : KeepsForm (execAuResponse st) :=
    keepsForm_next (form_auCmd hst (fun _ => form_cmdResponse))
theorem keepsForm_execAuRelinquish {st : State} (hst : HasForm st) : KeepsForm (execAuRelinquish st) :=
    keepsForm_next (form_auCmd hst (fun _ => form_cmdRelinquish))
theorem form_slotChanged {s : State} {n : Nat} (hs : HasForm s) : HasForm (s.slotChanged n) :=
    form_ite (form_with_auExch (form_ite (form_endGrant (form_ite (form_endGrant hs) hs)) (form_ite (form_endGrant hs) hs))) (form_ite (form_endGrant
    (form_ite (form_endGrant hs) hs)) (form_ite (form_endGrant hs) hs))
theorem form_keyset {src : Nat} {s : State} (hs : HasForm s) : HasForm (s.keyset src).1 :=
    form_ite_fst hs (form_ite_fst hs (form_ite_fst hs (form_slotChanged (form_setReg _ _ (form_zeroRegs _ (form_with_auKeys_auWrites hs))))))
theorem form_keyclr {src : Nat} {s : State} (hs : HasForm s) : HasForm (s.keyclr src).1 :=
    form_ite_fst hs (form_ite_fst hs (form_slotChanged (form_setReg _ _ (form_with_auKeys hs))))
theorem keepsForm_execKeyset {src : BitVec 10} {st : State} (hst : HasForm st) : KeepsForm (execKeyset src st) :=
    keepsForm_next (form_auCmd hst (fun _ => form_keyset))
theorem keepsForm_execKeyclr {src : BitVec 10} {st : State} (hst : HasForm st) : KeepsForm (execKeyclr src st) :=
    keepsForm_next (form_auCmd hst (fun _ => form_keyclr))
theorem keepsForm_execExchangeTimeout {dt : Nat} {st : State} (hst : HasForm st) : KeepsForm (execExchangeTimeout dt st) := by
  refine keepsForm_next ?_
  split
  · exact form_ite (form_with_auExch (form_elapse hst)) (form_elapse hst)
  · exact form_elapse hst
theorem keepsForm_execGrantExpiry {sp : Bool} {dt : Nat} {st : State} (hst : HasForm st) : KeepsForm (execGrantExpiry sp dt st) :=
    keepsForm_next (form_ite (form_endGrant (form_elapse hst)) (form_elapse hst))
theorem keepsForm_execLockoutEnd {dt : Nat} {st : State} (hst : HasForm st) : KeepsForm (execLockoutEnd dt st) := by
  refine keepsForm_next ?_
  split
  · exact form_ite (form_with_auLock (form_elapse hst)) (form_elapse hst)
  · exact form_elapse hst

/-! ### Strobes -/

theorem form_takeSnap {s : State} {lo hi : Nat} (hs : HasForm s) : HasForm (s.takeSnap lo hi) := form_foldl _ (fun _ _ => form_with_snap) _ hs
theorem form_dropSnap {s : State} {lo hi : Nat} (hs : HasForm s) : HasForm (s.dropSnap lo hi) := form_with_snap hs
theorem form_applySnap {s : State} {a : Nat} (hs : HasForm s) : HasForm (s.applySnap a) := form_setReg _ _ hs
theorem form_endStrobe {s : State} {b : Nat} (hs : HasForm s) : HasForm (s.endStrobe b) := form_setRf _ _ _ _ (form_dropSnap hs)
theorem form_updateWrite {s : State} {src : Nat} {data : W} (hs : HasForm s) : HasForm (s.updateWrite src data) :=
    form_ite hs (form_ite (form_refuse hs) (form_ite (form_refuse hs) (form_foldl _ (fun _ _ h1 => form_setRf _ _ _ _ (form_takeSnap h1)) _ hs)))
theorem keepsForm_execUpdateFio {src : BitVec 10} {data : W} {st : State} (hst : HasForm st) : KeepsForm (execUpdateFio src data st) :=
    keepsForm_next (form_updateWrite hst)
theorem keepsForm_execUpdateCan {src : BitVec 10} {n : BitVec 4} {data : W} {st : State} (hst : HasForm st) :
    KeepsForm (execUpdateCan src n data st) :=
    keepsForm_next (form_updateWrite hst)
theorem keepsForm_execUpdateWdg {src : BitVec 10} {data : W} {st : State} (hst : HasForm st) : KeepsForm (execUpdateWdg src data st) :=
    keepsForm_next (form_updateWrite hst)
theorem keepsForm_execUpdateRtc {src : BitVec 10} {data : W} {st : State} (hst : HasForm st) : KeepsForm (execUpdateRtc src data st) :=
    keepsForm_next (form_updateWrite hst)
theorem form_ownSnap {s : State} {a : Nat} (hs : HasForm s) : HasForm (s.ownSnap a) := form_ite (form_setReg _ _ (form_setWait hs)) (form_setWait hs)
theorem form_fioCfgSnap {s : State} {n : Nat} (hs : HasForm s) : HasForm (s.fioCfgSnap n) :=
    form_ite (form_reportIn (form_drivePin (form_setRf _ _ _ _ (form_setChan (form_applySnap hs))))) (form_ite (form_drivePin (form_setChan
    (form_applySnap hs))) (form_ite (form_drivePin (form_setChan (form_applySnap hs))) (form_reportIn (form_applySnap hs))))
theorem form_fioApply {s : State} (hs : HasForm s) : HasForm s.fioApply :=
    form_ite (form_endStrobe (form_moveBlock (form_foldl _ (fun _ _ => form_reportIn) _ (form_foldl _ (fun _ _ h1 => form_tpTake (form_applySnap h1))
    _ (form_ite (form_foldl _ (fun _ _ h1 => form_ownSnap (form_fioCfgSnap h1)) _ (form_applySnap hs)) (form_tpPeriod (form_foldl _ (fun _ _ h1 =>
    form_ownSnap (form_fioCfgSnap h1)) _ (form_applySnap hs)))))))) hs
theorem keepsForm_execFioStrobeApply {dt : Nat} {st : State} (hst : HasForm st) : KeepsForm (execFioStrobeApply dt st) :=
    keepsForm_next (form_fioApply (form_elapse hst))
theorem form_canTake {s : State} {n : Nat} (hs : HasForm s) : HasForm (s.canTake n) :=
    form_ite (form_cancelAll (form_ite (form_setCan (form_setRf _ _ _ _ (form_setReg _ _ (form_setRf _ _ _ _ (form_foldl _ (fun _ _ => form_applySnap)
    _ (form_foldl _ (fun _ _ h1 => form_applySnap (form_applySnap h1)) _ (form_foldl _ (fun _ _ h1 => form_setRf _ _ _ _ (form_applySnap h1)) _
    (form_moveBlock (form_foldl _ (fun _ _ => form_ownSnap) _ (form_foldl _ (fun _ _ => form_ownSnap) _ hs)))))))))) (form_setReg _ _ (form_setRf _ _
    _ _ (form_foldl _ (fun _ _ => form_applySnap) _ (form_foldl _ (fun _ _ h1 => form_applySnap (form_applySnap h1)) _ (form_foldl _ (fun _ _ h1 =>
    form_setRf _ _ _ _ (form_applySnap h1)) _ (form_moveBlock (form_foldl _ (fun _ _ => form_ownSnap) _ (form_foldl _ (fun _ _ => form_ownSnap) _
    hs)))))))))) (form_ite (form_canJoin (form_ite (form_setCan (form_setRf _ _ _ _ (form_setReg _ _ (form_setRf _ _ _ _ (form_foldl _ (fun _ _ =>
    form_applySnap) _ (form_foldl _ (fun _ _ h1 => form_applySnap (form_applySnap h1)) _ (form_foldl _ (fun _ _ h1 => form_setRf _ _ _ _
    (form_applySnap h1)) _ (form_moveBlock (form_foldl _ (fun _ _ => form_ownSnap) _ (form_foldl _ (fun _ _ => form_ownSnap) _ hs))))))))))
    (form_setReg _ _ (form_setRf _ _ _ _ (form_foldl _ (fun _ _ => form_applySnap) _ (form_foldl _ (fun _ _ h1 => form_applySnap (form_applySnap h1))
    _ (form_foldl _ (fun _ _ h1 => form_setRf _ _ _ _ (form_applySnap h1)) _ (form_moveBlock (form_foldl _ (fun _ _ => form_ownSnap) _ (form_foldl _
    (fun _ _ => form_ownSnap) _ hs)))))))))) (form_ite (form_setCan (form_setRf _ _ _ _ (form_setReg _ _ (form_setRf _ _ _ _ (form_foldl _ (fun _ _ =>
    form_applySnap) _ (form_foldl _ (fun _ _ h1 => form_applySnap (form_applySnap h1)) _ (form_foldl _ (fun _ _ h1 => form_setRf _ _ _ _
    (form_applySnap h1)) _ (form_moveBlock (form_foldl _ (fun _ _ => form_ownSnap) _ (form_foldl _ (fun _ _ => form_ownSnap) _ hs))))))))))
    (form_setReg _ _ (form_setRf _ _ _ _ (form_foldl _ (fun _ _ => form_applySnap) _ (form_foldl _ (fun _ _ h1 => form_applySnap (form_applySnap h1))
    _ (form_foldl _ (fun _ _ h1 => form_setRf _ _ _ _ (form_applySnap h1)) _ (form_moveBlock (form_foldl _ (fun _ _ => form_ownSnap) _ (form_foldl _
    (fun _ _ => form_ownSnap) _ hs))))))))))
theorem form_canApply {s : State} {n : Nat} (hs : HasForm s) : HasForm (s.canApply n) :=
    form_ite (form_endStrobe (form_ite (form_canTake hs) (form_canEvent (form_ite (form_setReg _ _ (form_setReg _ _ hs)) (form_setReg _ _ hs))))) hs
theorem keepsForm_execCanStrobeApply {n : BitVec 4} {dt : Nat} {st : State} (hst : HasForm st) : KeepsForm (execCanStrobeApply n dt st) :=
    keepsForm_next (form_canApply (form_elapse hst))

/-! ### Rtc -/

theorem form_setTicks {s : State} {t : Nat} (hs : HasForm s) : HasForm (s.setTicks t) := form_with_rtcSec_rtcSub hs
theorem form_foldDone {s : State} (hs : HasForm s) : HasForm s.foldDone := by
  unfold State.foldDone
  split
  · exact form_ite (form_with_rtcFold (form_setRf _ _ _ _ hs)) hs
  · exact hs
theorem form_atTick {s : State} {sub : BitVec 15} (hs : HasForm s) : HasForm (s.atTick sub) := form_foldDone (form_with_rtcSub hs)
theorem form_calStep {s : State} {n : Int} (hs : HasForm s) : HasForm (s.calStep n) :=
    form_ite (form_with_rtcFold (form_setRf _ _ _ _ (form_setRf _ _ _ _ (form_setTicks hs)))) (form_ite (form_with_rtcFold (form_setRf _ _ _ _
    (form_setTicks hs))) (form_foldDone (form_setTicks hs)))
theorem form_rtcReason {s : State} {r : Nat} (hs : HasForm s) : HasForm (s.rtcReason r) := form_setReg _ _ hs
theorem form_rtcCmd {s : State} {src : Nat} {k : State → State} (hs : HasForm s) (hk : ∀ u0, HasForm u0 → HasForm (k u0)) :
    HasForm (s.rtcCmd src k) :=
    form_farWrite hs (fun _ h1 => form_ite (form_rtcReason h1) (hk _ h1))
theorem form_setSlew {s : State} {r : Int} (hs : HasForm s) : HasForm (s.setSlew r) := form_setRf _ _ _ _ (form_setReg _ _ hs)
theorem form_rtcLoad {s : State} (hs : HasForm s) : HasForm s.rtcLoad :=
    form_oneEvent (form_rtcEvent (form_rtcReason (form_setRf _ _ _ _ (form_setRf _ _ _ _ (form_setSlew (form_setRf _ _ _ _
    (form_with_rtcSec_rtcSub_rtcFold_rtcSetDue (form_measAbort hs))))))))
theorem form_rtcSet {s : State} (hs : HasForm s) : HasForm s.rtcSet :=
    form_ite (form_rtcReason hs) (form_ite (form_rtcLoad hs) (form_with_rtcSetDue hs))
theorem keepsForm_execRtcSet {src : BitVec 10} {st : State} (hst : HasForm st) : KeepsForm (execRtcSet src st) :=
    keepsForm_next (form_rtcCmd hst (fun _ => form_rtcSet))
theorem form_rtcCorr {s : State} (hs : HasForm s) : HasForm s.rtcCorr :=
    form_ite (form_rtcReason hs) (form_ite (form_setSlew (form_rtcReason (form_measAbort hs))) (form_oneEvent (form_rtcEvent (form_calStep
    (form_setSlew (form_rtcReason (form_measAbort hs)))))))
theorem keepsForm_execCorr {src : BitVec 10} {sub : BitVec 15} {st : State} (hst : HasForm st) : KeepsForm (execCorr src sub st) :=
    keepsForm_next (form_rtcCmd hst (fun _ h1 => form_rtcCorr (form_atTick h1)))
theorem form_dstCmd {s : State} {fwd : Bool} (hs : HasForm s) : HasForm (s.dstCmd fwd) :=
    form_ite (form_rtcReason hs) (form_ite (form_rtcReason hs) (form_ite (form_rtcReason hs) (form_ite (form_rtcReason hs) (form_with_rtcDst
    (form_rtcReason (form_measAbort hs))))))
theorem keepsForm_execDstfwd {src : BitVec 10} {st : State} (hst : HasForm st) : KeepsForm (execDstfwd src st) :=
    keepsForm_next (form_rtcCmd hst (fun _ => form_dstCmd))
theorem keepsForm_execDstback {src : BitVec 10} {st : State} (hst : HasForm st) : KeepsForm (execDstback src st) :=
    keepsForm_next (form_rtcCmd hst (fun _ => form_dstCmd))
theorem form_measShow {s : State} {secs st : Nat} (hs : HasForm s) : HasForm (s.measShow secs st) := form_setReg _ _ hs
theorem form_measStart {s : State} (hs : HasForm s) : HasForm s.measStart :=
    form_ite (form_rtcReason hs) (form_ite (form_rtcReason hs) (form_with_meas (form_measShow (form_rtcReason hs))))
theorem keepsForm_execMeasCmd {src : BitVec 10} {st : State} (hst : HasForm st) : KeepsForm (execMeasCmd src st) :=
    keepsForm_next (form_rtcCmd hst (fun _ => form_measStart))
theorem keepsForm_execMeasstop {src : BitVec 10} {st : State} (hst : HasForm st) : KeepsForm (execMeasstop src st) :=
    keepsForm_next (form_rtcCmd hst (fun _ h1 => form_rtcReason (form_measAbort h1)))
theorem form_measDone {s : State} {m : Meas} (hs : HasForm s) : HasForm (s.measDone m) :=
    form_rtcEvent (form_with_meas (form_measShow (form_ite (form_setReg _ _ hs) (form_setReg _ _ (form_useFresh hs)))))
theorem keepsForm_execMeasComplete {dt : Nat} {st : State} (hst : HasForm st) : KeepsForm (execMeasComplete dt st) := by
  refine keepsForm_next ?_
  split
  · exact form_ite (form_measDone (form_elapse hst)) (form_elapse hst)
  · exact form_elapse hst
theorem keepsForm_execMainsCrossing {e dt : Nat} {st : State} (hst : HasForm st) : KeepsForm (execMainsCrossing e dt st) := by
  refine keepsForm_next ?_
  split
  · exact form_ite (form_elapse hst) (form_ite (form_with_meas (form_elapse hst)) (form_with_meas (form_measShow (form_elapse hst))))
  · exact form_elapse hst
theorem keepsForm_execMainsTimeout {dt : Nat} {st : State} (hst : HasForm st) : KeepsForm (execMainsTimeout dt st) := by
  refine keepsForm_next ?_
  split
  · exact form_ite (form_measAbort (form_elapse hst)) (form_elapse hst)
  · exact form_elapse hst
theorem form_alarms {s : State} (hs : HasForm s) : HasForm s.alarms := form_ite hs (form_rtcEvent hs)
theorem form_nextSecond {s : State} (hs : HasForm s) : HasForm s.nextSecond := by
  generalize hf : State.nextSecond = f
  delta State.nextSecond at hf
  subst hf
  beta_reduce
  extract_lets u
  have hu : HasForm u := form_foldDone (form_calStep (form_with_rtcSub hs))
  clear_value u
  split
  · exact hu
  · exact form_rtcEvent (form_calStep (form_setRf _ _ _ _ (form_setReg _ _ (form_with_rtcDst hu))))
theorem form_measTick {s : State} (hs : HasForm s) : HasForm s.measTick := by
  unfold State.measTick
  split
  · exact form_ite hs (form_ite (form_with_meas hs) (form_with_meas (form_measShow hs)))
  · exact hs
theorem keepsForm_execRtcSecondBoundary {dt : Nat} {st : State} (hst : HasForm st) : KeepsForm (execRtcSecondBoundary dt st) :=
    keepsForm_next (form_ite (form_alarms (form_measTick (form_nextSecond (form_elapse hst)))) (form_elapse hst))
theorem keepsForm_execSlewStep {sub : BitVec 15} {st : State} (hst : HasForm st) : KeepsForm (execSlewStep sub st) :=
    keepsForm_next (form_ite hst (form_ite (form_setSlew (form_foldDone (form_with_rtcSub (form_atTick hst)))) (form_setSlew (form_with_rtcSub
    (form_atTick hst)))))
theorem keepsForm_execCrystalStop {st : State} (hst : HasForm st) : KeepsForm (execCrystalStop st) :=
    keepsForm_next (form_rtcEvent (form_setRf _ _ _ _ (form_setRf _ _ _ _ (form_with_rtcRun (form_measAbort hst)))))
theorem keepsForm_execCrystalResume {st : State} (hst : HasForm st) : KeepsForm (execCrystalResume st) :=
    keepsForm_next (form_ite hst (form_ite (form_rtcLoad (form_with_rtcSec_rtcSub_rtcRun hst)) (form_with_rtcSec_rtcSub_rtcRun hst)))
theorem form_rtcApply {s : State} (hs : HasForm s) : HasForm s.rtcApply :=
    form_ite (form_endStrobe (form_foldl _ (fun _ _ => form_applySnap) _ (form_measAbort hs))) hs
theorem keepsForm_execRtcStrobeApply {dt : Nat} {st : State} (hst : HasForm st) : KeepsForm (execRtcStrobeApply dt st) :=
    keepsForm_next (form_rtcApply (form_elapse hst))

/-! ### Dump -/

theorem form_passDump {s : State} {page : List Byte} (hs : HasForm s) : HasForm (s.passDump page) := by
  refine form_showArray (form_with_dumpPend ?_)
  split
  · exact hs
  · exact form_ite (form_freezeDone (form_with_nvQ (form_losePage hs))) (form_ite (form_nvDone (form_with_nvQ (form_eraseNv hs))) (form_with_nvQ
        (form_eraseNv hs)))
theorem form_countDump {s : State} (hs : HasForm s) : HasForm s.countDump := form_saveCounters (form_setReg _ _ hs)
theorem form_readAreas {s : State} (hs : HasForm s) : HasForm s.readAreas :=
    form_foldl _ (fun _ _ h1 => form_foldl _ (fun _ _ h2 => form_foldl _ (fun _ _ => form_seeWord) _ h2) _ h1) _ hs
theorem form_sequence {s : State} (hs : HasForm s) : HasForm s.sequence := by
  unfold State.sequence
  exact form_passDump (form_setReg _ _ (form_wrBytes _ _ (form_wrBytes _ _ (form_wrBytes _ _ (form_countDump hs)))))
theorem form_writeSections {s : State} {sec6 : List Byte} (hs : HasForm s) : HasForm (s.writeSections sec6) :=
    form_wrBytes _ _ (form_wrBytes _ _ (form_wrBytes _ _ (form_wrBytes _ _ (form_wrBytes _ _ (form_wrBytes _ _ hs)))))
theorem form_finishDump {s : State} {sec6 : List Byte} (hs : HasForm s) : HasForm (s.finishDump sec6) := form_setReg _ _ (form_wrBytes _ _ hs)

/-! ### Watchdog -/

theorem form_wdgBegin {s : State} {ch : Nat} (hs : HasForm s) : HasForm (s.wdgBegin ch) :=
    form_with_wdgAt_wdgReq (form_ite (form_setReg _ _ (form_setRf _ _ _ _ hs)) hs)
theorem form_wdgRelease {s : State} {ch : Nat} (hs : HasForm s) : HasForm (s.wdgRelease ch) :=
    form_wdgBegin (form_setReg _ _ (form_setPnd _ _ (form_setReg _ _ hs)))
theorem form_saveToEngine {s : State} {e : Nat} (hs : HasForm s) : HasForm (s.saveToEngine e) := by
  unfold State.saveToEngine
  split
  · exact hs
  · exact form_foldl _ (fun _ _ h1 => form_setReg _ _ h1) _ hs
theorem form_wdgExpire {s : State} {ch : Nat} {p : W} (hs : HasForm s) : HasForm (s.wdgExpire ch p) :=
    form_collect (form_ite (form_setReg _ _ (form_setReg _ _ (form_setReg _ _ (form_with_wdgExp (form_groupEvent (form_ite (form_setRf _ _ _ _
    (form_setReg _ _ (form_setRf _ _ _ _ hs))) (form_setReg _ _ (form_setRf _ _ _ _ hs)))))))) (form_haltEngine (form_saveToEngine (form_with_wdgExp
    (form_groupEvent (form_ite (form_setRf _ _ _ _ (form_setReg _ _ (form_setRf _ _ _ _ hs))) (form_setReg _ _ (form_setRf _ _ _ _ hs))))))))
theorem form_wdgService {s : State} {ch : Nat} {p : W} (hs : HasForm s) : HasForm (s.wdgService ch p) :=
    form_ite hs (form_ite (form_wdgExpire hs) (form_ite (form_with_wdgSvc (form_wdgBegin hs)) (form_wdgBegin hs)))
theorem keepsForm_execWatchdogWindowOpen {ch : BitVec 8} {dt : Nat} {st : State} (hst : HasForm st) : KeepsForm (execWatchdogWindowOpen ch dt st) :=
    keepsForm_next (form_ite (form_with_wdgReq (form_elapse hst)) (form_elapse hst))
theorem keepsForm_execEngineWatchdogAnswer {e : BitVec 7} {dt : Nat} {st : State} (hst : HasForm st) : KeepsForm (execEngineWatchdogAnswer e dt st) :=
    keepsForm_next (form_ite (form_wdgService (form_elapse hst)) (form_elapse hst))
theorem keepsForm_execWdgSsvc {n : BitVec 1} {key : BitVec 16} {p : W} {dt : Nat} {st : State} (hst : HasForm st) :
    KeepsForm (execWdgSsvc n key p dt st) :=
    keepsForm_next (form_ite (form_elapse hst) (form_ite (form_wdgService (form_elapse hst)) (form_ite (form_wdgExpire (form_elapse hst)) (form_elapse
    hst))))
theorem keepsForm_execWatchdogExpiry {ch : BitVec 8} {p : W} {dt : Nat} {st : State} (hst : HasForm st) : KeepsForm (execWatchdogExpiry ch p dt st) :=
    keepsForm_next (form_ite (form_wdgExpire (form_elapse hst)) (form_elapse hst))
theorem keepsForm_execHardTimerExpiry {ch : BitVec 8} {dt : Nat} {st : State} (hst : HasForm st) : KeepsForm (execHardTimerExpiry ch dt st) :=
    keepsForm_next (form_ite (form_elapse hst) (form_ite (form_ite (form_noteReset _ (form_warm (form_elapse hst))) (form_warm (form_elapse hst)))
    (form_resetEngine (form_elapse hst))))
theorem keepsForm_execEngineResetRelease {e : BitVec 7} {dt : Nat} {st : State} (hst : HasForm st) : KeepsForm (execEngineResetRelease e dt st) :=
    keepsForm_next (form_ite (form_wdgRelease (form_with_engRst (form_elapse hst))) (form_elapse hst))
theorem form_wdgArm {s : State} {ch : Nat} (hs : HasForm s) : HasForm (s.wdgArm ch) := form_ite (form_setRf _ _ _ _ (form_setRf _ _ _ _ hs)) hs
theorem keepsForm_execWdgStrobeApply {dt : Nat} {st : State} (hst : HasForm st) : KeepsForm (execWdgStrobeApply dt st) :=
    keepsForm_next (form_ite (form_endStrobe (form_foldl _ (fun _ _ => form_wdgArm) _ (form_elapse hst))) (form_elapse hst))

/-! ### Faults -/

theorem form_keepOff {s : State} {n : Nat} (hs : HasForm s) : HasForm (s.keepOff n) := form_with_fioHeld hs
theorem form_supFail {s : State} (hs : HasForm s) : HasForm s.supFail :=
    form_foldl _ (fun _ _ h1 => form_ite (form_endRu h1) (form_endTr h1)) _ (form_setRf _ _ _ _ (form_with_supRun_mgmt_held hs))
theorem form_showFdie {s : State} (hs : HasForm s) : HasForm s.showFdie := form_setReg _ _ (form_setRf _ _ _ _ (form_setRf _ _ _ _ hs))
theorem form_dropTrial {s : State} (hs : HasForm s) : HasForm s.dropTrial := form_showFdie (form_with_slots_fRec hs)
theorem form_isolate {s : State} {src code unit item nth : Nat} (hs : HasForm s) : HasForm (s.isolate src code unit item nth) := by
  refine form_ite (form_supFail hs) (form_ite (form_ite (form_retirePage (form_markRetp _ hs)) hs) (form_ite (form_ite (form_entryFault hs) hs)
      (form_ite (form_ite (form_movFault hs) hs) (form_ite (form_with_dtBad hs) (form_ite (form_ite (form_setRf _ _ _ _ hs) (form_setRf _ _ _ _ hs))
      (form_ite ?_ (form_ite (form_flushQueue hs) (form_ite (form_merEvent (form_setRf _ _ _ _ (form_with_merLock hs))) (form_ite (form_ite
      (form_resetBlock hs) hs) (form_ite (form_resetBlock hs) (form_ite (form_resetBlock hs) (form_ite (form_stopPart hs) (form_ite (form_ite
      (form_dropTrial (form_with_nvBlock hs)) (form_with_nvBlock hs)) (form_ite (form_ite (form_keepOff (form_forceChan hs)) hs) (form_ite (form_ite
      (form_setReg _ _ hs) hs) (form_ite (form_ite (form_resetEngine hs) hs) (form_ite (form_ite (form_laneFails (form_setLane hs)) hs)
      hs)))))))))))))))))
  split
  · exact hs
  · exact form_setFrames (form_setDepth hs)
theorem form_fatalReset {s : State} (hs : HasForm s) : HasForm s.fatalReset := form_ite (form_warm hs) hs
theorem form_lateSup {s : State} (hs : HasForm s) : HasForm s.lateSup := form_ite (form_fatalReset hs) hs
theorem form_contain {s : State} {src code unit item nth : Nat} (hs : HasForm s) : HasForm (s.contain src code unit item nth) :=
    form_ite (form_lateSup (form_isolate hs)) (form_isolate hs)
theorem form_assertLine {s : State} {same : Bool} {src cls code unit item nth : Nat} (hs : HasForm s) :
    HasForm (s.assertLine same src cls code unit item nth) :=
    form_ite (form_contain (form_with_lines (form_collectIn hs))) (form_with_lines (form_collectIn hs))
theorem keepsForm_execFaultEvent {src : BitVec 6} {cls : BitVec 2} {code : BitVec 8} {unit : BitVec 16} {item : BitVec 17} {nth : Nat} {same : Bool}
    {st : State} (hst : HasForm st) :
    KeepsForm (execFaultEvent src cls code unit item nth same st) :=
    keepsForm_next (form_ite (form_with_lines hst) (form_ite (form_assertLine hst) hst))
theorem keepsForm_execSupervisorLockstepFail {st : State} (hst : HasForm st) : KeepsForm (execSupervisorLockstepFail st) :=
    keepsForm_next (form_contain (form_collect hst))
theorem keepsForm_execSupplyOutOfRange {st : State} (hst : HasForm st) : KeepsForm (execSupplyOutOfRange st) := keepsForm_next (form_collect hst)
theorem form_notePrev {s : State} {src cause : Nat} (hs : HasForm s) : HasForm (s.notePrev src cause) := form_ite hs (form_setReg _ _ hs)
theorem form_makeSafe {s : State} {b : Nat} (hs : HasForm s) : HasForm (s.makeSafe b) := form_openAll (form_forceCause hs)
theorem keepsForm_execFatalLineAsserted {st : State} (hst : HasForm st) : KeepsForm (execFatalLineAsserted st) :=
    keepsForm_next (form_ite (form_notePrev (form_makeSafe (form_with_fatalLine hst))) hst)
theorem keepsForm_execCollectorStateMessage {st : State} (hst : HasForm st) : KeepsForm (execCollectorStateMessage st) :=
    keepsForm_next (form_ite hst (form_with_colSent_fltMsg hst))
theorem keepsForm_execAliveLineTimeout {st : State} (hst : HasForm st) : KeepsForm (execAliveLineTimeout st) :=
    keepsForm_next (form_warm (form_passDump (form_countDump (form_notePrev (form_makeSafe (form_with_aliveStop hst))))))
theorem keepsForm_execRootPllLoss {st : State} (hst : HasForm st) : KeepsForm (execRootPllLoss st) :=
    keepsForm_next (form_with_supRun_clkStop (form_openLow hst))
theorem form_holdOff {s : State} {n : Nat} (hs : HasForm s) : HasForm (s.holdOff n) := form_drivePin (form_setChan (form_keepOff hs))
theorem keepsForm_execRcOscillatorFail {st : State} (hst : HasForm st) : KeepsForm (execRcOscillatorFail st) :=
    keepsForm_next (form_ite (form_collect (form_isolate (form_collect (form_ite (form_foldl _ (fun _ _ => form_holdOff) _ (form_openAll hst)) hst))))
    (form_isolate (form_collect (form_ite (form_foldl _ (fun _ _ => form_holdOff) _ (form_openAll hst)) hst))))
theorem keepsForm_execDieLinkDown {st : State} (hst : HasForm st) : KeepsForm (execDieLinkDown st) :=
    keepsForm_next (form_assertLine (form_with_hbLink (form_foldl _ (fun _ _ h1 => form_setRf _ _ _ _ h1) _ hst)))
theorem keepsForm_execDieLinkRestored {st : State} (hst : HasForm st) : KeepsForm (execDieLinkRestored st) :=
    keepsForm_next (form_foldl _ (fun _ _ h1 => form_setRf _ _ _ _ h1) _ (form_with_lines hst))
theorem keepsForm_execDumpSequencerDone {st : State} (hst : HasForm st) : KeepsForm (execDumpSequencerDone st) :=
    keepsForm_next (form_ite (form_ite (form_fatalReset (form_sequence hst)) (form_sequence hst)) hst)
theorem keepsForm_execDumpPageWritten {st : State} (hst : HasForm st) : KeepsForm (execDumpPageWritten st) := by
  refine keepsForm_next ?_
  split
  · exact hst
  · exact form_showArray (form_foldl _ (fun _ _ => form_eraseNv) _ (form_with_dumpPend_dumpNew (form_putNvPages hst)))
theorem keepsForm_execDumpComplete {sec6 : List Byte} {last : Bool} {st : State} (hst : HasForm st) : KeepsForm (execDumpComplete sec6 last st) :=
    keepsForm_next (form_ite (form_ite (form_fatalReset (form_finishDump (form_ite (form_setReg _ _ (form_writeSections (form_readAreas hst))) hst)))
    (form_ite (form_setReg _ _ (form_writeSections (form_readAreas hst))) hst)) hst)
theorem keepsForm_execFatalResetTimeout {st : State} (hst : HasForm st) : KeepsForm (execFatalResetTimeout st) := keepsForm_next (form_fatalReset hst)
theorem keepsForm_execEngineBist {src : BitVec 10} {e : BitVec 7} {st : State} (hst : HasForm st) : KeepsForm (execEngineBist src e st) :=
    keepsForm_next (form_ite hst (form_ite hst (form_ite (form_setReg _ _ hst) (form_setReg _ _ hst))))
theorem keepsForm_execBistDone {e : BitVec 7} {pass : Bool} {st : State} (hst : HasForm st) : KeepsForm (execBistDone e pass st) :=
    keepsForm_next (form_ite hst (form_ite (form_setReg _ _ hst) (form_resetEngine (form_collect (form_setReg _ _ hst)))))

/-! ### Witness -/

theorem form_witSet {s : State} {k : Nat} {m : Bool} {e len : Nat} (hs : HasForm s) : HasForm (s.witSet k m e len) :=
    form_with_witX (form_setReg _ _ hs)
theorem form_setWitHigh {s : State} {k e : Nat} (hs : HasForm s) : HasForm (s.setWitHigh k e) := form_setReg _ _ hs
theorem form_witSend {s : State} {k op : Nat} {m : Bool} {reason rnum len : Nat} (hs : HasForm s) : HasForm (s.witSend k op m reason rnum len) := by
  unfold State.witSend
  dsimp only
  split
  · exact form_ite (form_originate hs) hs
  · exact hs
theorem form_witness {s : State} {m : Bool} {pair rnum len : Nat} {k : State → Nat → State} (hs : HasForm s) (hk : ∀ u0 x1, HasForm u0 → HasForm (k u0
    x1)) :
    HasForm (s.witness m pair rnum len k) := by
  unfold State.witness
  split
  · exact form_ite hs (form_count _ hs)
  · exact form_ite (form_witSend hs) (form_ite (form_witSend hs) (hk _ _ hs))
theorem keepsForm_execWitnessRequest {member : Bool} {pair epoch rnum len : BitVec 16} {dt : Nat} {st : State} (hst : HasForm st) :
    KeepsForm (execWitnessRequest member pair epoch rnum len dt st) :=
    keepsForm_next (form_witness (form_elapse hst) (fun _ _ h1 => form_ite (form_witSend (form_witSet h1)) (form_witSend h1)))
theorem keepsForm_execWitnessClaim {member : Bool} {pair epoch rnum len : BitVec 16} {dt : Nat} {st : State} (hst : HasForm st) :
    KeepsForm (execWitnessClaim member pair epoch rnum len dt st) :=
    keepsForm_next (form_witness (form_elapse hst) (fun _ _ h1 => form_ite (form_witSend h1) (form_ite (form_witSend (form_witSet (form_setWitHigh
    h1))) (form_witSend h1))))
theorem keepsForm_execWitnessRelease {member : Bool} {pair epoch rnum len : BitVec 16} {dt : Nat} {st : State} (hst : HasForm st) :
    KeepsForm (execWitnessRelease member pair epoch rnum len dt st) :=
    keepsForm_next (form_witness (form_elapse hst) (fun _ _ h1 => form_ite (form_setRf _ _ _ _ h1) h1))
theorem keepsForm_execWitnessHandover {member succ : Bool} {pair epoch rnum len : BitVec 16} {dt : Nat} {st : State} (hst : HasForm st) :
    KeepsForm (execWitnessHandover member succ pair epoch rnum len dt st) :=
    keepsForm_next (form_witness (form_elapse hst) (fun _ _ h1 => form_ite (form_witSend (form_witSet (form_setWitHigh h1))) h1))
theorem form_witHush {s : State} {k : Nat} (hs : HasForm s) : HasForm (s.witHush k) := form_with_witX_witQuiet (form_setReg _ _ hs)
theorem keepsForm_execWitnessQuietEnd {k : BitVec 4} {dt : Nat} {st : State} (hst : HasForm st) : KeepsForm (execWitnessQuietEnd k dt st) :=
    keepsForm_next (form_ite (form_with_witQuiet (form_setRf _ _ _ _ (form_elapse hst))) (form_elapse hst))

/-! ### Boot -/

theorem keepsForm_execFdiePorRelease {st : State} (hst : HasForm st) : KeepsForm (execFdiePorRelease st) :=
    keepsForm_next (form_ite (form_setRf _ _ _ _ (form_with_fPh hst)) hst)
theorem keepsForm_execNvRecallDone {st : State} (hst : HasForm st) : KeepsForm (execNvRecallDone st) :=
    keepsForm_next (form_ite (form_setRf _ _ _ _ (form_with_nvBlock_fPh hst)) hst)
theorem keepsForm_execOptionBytesRead {st : State} (hst : HasForm st) : KeepsForm (execOptionBytesRead st) :=
    keepsForm_next (form_ite (form_setReg _ _ (form_with_fPh_opt_bootFault hst)) hst)
theorem form_recallCounters {s : State} (hs : HasForm s) : HasForm s.recallCounters :=
    form_saveCounters (form_with_opAt (form_setReg _ _ (form_setReg _ _ (form_setReg _ _ (form_setReg _ _ hs)))))
theorem form_recallCaddy {s : State} (hs : HasForm s) : HasForm s.recallCaddy := by
  unfold State.recallCaddy
  split
  · exact form_with_evLost (form_setReg _ _ (form_foldl _ (fun _ _ h1 => form_setReg _ _ h1) _ hs))
  · exact form_setRf _ _ _ _ hs
theorem form_recallKeys {s : State} (hs : HasForm s) : HasForm s.recallKeys := by
  refine form_with_auLock (form_foldl _ (fun _ _ hu => ?_) _ hs)
  split
  · exact form_setReg _ _ hu
  · exact hu
theorem form_noteRecall {s : State} (hs : HasForm s) : HasForm s.noteRecall := form_with_evPass_evLost hs
theorem keepsForm_execFdieBootComplete {st : State} (hst : HasForm st) : KeepsForm (execFdieBootComplete st) :=
    keepsForm_next (form_ite (form_noteRecall (form_ite (form_sfReload (form_setStore (form_recallKeys (form_recallCaddy (form_recallCounters
    (form_with_fPh hst)))))) (form_setStore (form_recallKeys (form_recallCaddy (form_recallCounters (form_with_fPh hst))))))) hst)
theorem form_noteBoot {s : State} (hs : HasForm s) : HasForm s.noteBoot := form_ite (form_with_rstNote (form_passEvent hs)) hs
theorem form_releaseL {s : State} {us : W} (hs : HasForm s) : HasForm (s.releaseL us) := by
  unfold State.releaseL
  dsimp only
  split
  · exact form_collect (form_noteBoot (form_foldl _ (fun _ _ => form_witHush) _ (form_causeEnds (form_causeEnds (form_foldl _ (fun _ _ =>
        form_wdgRelease) _ (form_foldl _ (fun _ _ h1 => form_setReg _ _ h1) _ (form_setReg _ _
        (form_with_mer_seedDue_coldRst_bootFault_aliveStop_clkStop hs))))))))
  · exact form_noteBoot (form_foldl _ (fun _ _ => form_witHush) _ (form_causeEnds (form_causeEnds (form_foldl _ (fun _ _ => form_wdgRelease) _
        (form_foldl _ (fun _ _ h1 => form_setReg _ _ h1) _ (form_setReg _ _ (form_with_mer_seedDue_coldRst_bootFault_aliveStop_clkStop hs)))))))
theorem keepsForm_execRootPllLocked {us : W} {st : State} (hst : HasForm st) : KeepsForm (execRootPllLocked us st) :=
    keepsForm_next (form_ite (form_releaseL hst) hst)
theorem keepsForm_execResetTimeTestsDone {pass : Bool} {us : W} {st : State} (hst : HasForm st) : KeepsForm (execResetTimeTestsDone pass us st) :=
    keepsForm_next (form_ite hst (form_ite (form_with_bootFails (form_setReg _ _ (form_setReg _ _ hst))) (form_with_bootFails_rstNote (form_resetL
    (form_passDump (form_countDump hst))))))
theorem keepsForm_execFcoreRestartDone {st : State} (hst : HasForm st) : KeepsForm (execFcoreRestartDone st) :=
    keepsForm_next (form_ite (form_with_nvBlock hst) hst)

/-! ### EngTimer -/

theorem form_blockOp {st : State} {e n extra : Nat} {o : Opnd} {f : Nat → Nat → Bool → List W → List W × Bool} (hst : HasForm st) :
    HasForm (st.blockOp e n extra o f) :=
    form_issue hst
theorem form_timerOp {st : State} {e : Nat} {o : Opnd} {f : Tmr → W → Bool → Tmr} (hst : HasForm st) : HasForm (st.timerOp e o f) := form_blockOp hst
theorem form_counterOp {st : State} {e : Nat} {o : Opnd} {f : Ctr → Bool → Ctr} {out : Ctr → Bool → Bool} (hst : HasForm st) :
    HasForm (st.counterOp e o f out) :=
    form_blockOp hst
theorem keepsForm_execOpTon {e : BitVec 7} {mode : BitVec 2} {s : BitVec 6} {w1 : BitVec 14} {st : State} (hst : HasForm st) :
    KeepsForm (execOpTon e mode s w1 st) :=
    keepsForm_next (form_timerOp hst)
theorem keepsForm_execOpTof {e : BitVec 7} {mode : BitVec 2} {s : BitVec 6} {w1 : BitVec 14} {st : State} (hst : HasForm st) :
    KeepsForm (execOpTof e mode s w1 st) :=
    keepsForm_next (form_timerOp hst)
theorem keepsForm_execOpTp {e : BitVec 7} {mode : BitVec 2} {s : BitVec 6} {w1 : BitVec 14} {st : State} (hst : HasForm st) :
    KeepsForm (execOpTp e mode s w1 st) :=
    keepsForm_next (form_timerOp hst)
theorem keepsForm_execOpTrs {e : BitVec 7} {mode : BitVec 2} {s : BitVec 6} {w1 : BitVec 14} {st : State} (hst : HasForm st) :
    KeepsForm (execOpTrs e mode s w1 st) :=
    keepsForm_next (form_blockOp hst)
theorem keepsForm_execOpCtu {e : BitVec 7} {mode : BitVec 2} {s : BitVec 6} {w1 : BitVec 14} {st : State} (hst : HasForm st) :
    KeepsForm (execOpCtu e mode s w1 st) :=
    keepsForm_next (form_counterOp hst)
theorem keepsForm_execOpCtd {e : BitVec 7} {mode : BitVec 2} {s : BitVec 6} {w1 : BitVec 14} {st : State} (hst : HasForm st) :
    KeepsForm (execOpCtd e mode s w1 st) :=
    keepsForm_next (form_counterOp hst)
theorem keepsForm_execOpCrs {e : BitVec 7} {mode : BitVec 2} {s : BitVec 6} {w1 : BitVec 14} {st : State} (hst : HasForm st) :
    KeepsForm (execOpCrs e mode s w1 st) :=
    keepsForm_next (form_counterOp hst)
theorem keepsForm_execOpCld {e : BitVec 7} {mode : BitVec 2} {s : BitVec 6} {w1 : BitVec 14} {st : State} (hst : HasForm st) :
    KeepsForm (execOpCld e mode s w1 st) :=
    keepsForm_next (form_counterOp hst)

/-! ### PairCfg -/

theorem form_ruCandidate {s : State} (hs : HasForm s) : HasForm s.ruCandidate := form_applyRange _ _ hs
theorem form_stepsFollow {s old : State} (hs : HasForm s) : HasForm (s.stepsFollow old) :=
    form_foldl _ (fun _ _ h1 => form_ite (form_ite h1 (form_setReg _ _ h1)) (form_setReg _ _ h1)) _ hs
theorem form_roleFollows {s old : State} (hs : HasForm s) : HasForm (s.roleFollows old) :=
    form_ite (form_ite (form_with_ru hs) (form_setRole (form_with_ru (form_with_ru hs)))) (form_ite (form_with_ru_shadow_ruForced_ruResync
    (form_setRole (form_with_ru hs))) (form_with_ru hs))
theorem form_rangesFollow {s old : State} (hs : HasForm s) : HasForm (s.rangesFollow old) :=
    form_ite (form_foldl _ (fun _ _ h1 => form_with_ruResync (form_setPstep (form_forceLines h1))) _ hs) (form_ite (form_foldl _ (fun _ _ =>
    form_outOfStep) _ hs) hs)
theorem form_ruApply {s : State} (hs : HasForm s) : HasForm s.ruApply :=
    form_ite (form_ite (form_ruEvent (form_setReg _ _ (form_setReg _ _ hs))) (form_ruEvent (form_untouch (form_refreshPair (form_rangesFollow
    (form_roleFollows (form_stepsFollow (form_foldl _ (fun _ _ => form_witHush) _ (form_ruCandidate (form_ite (form_sendLease (form_setReg _ _
    (form_setReg _ _ hs))) (form_setReg _ _ (form_setReg _ _ hs)))))))))))) hs
theorem keepsForm_execRuCommitGo {src : BitVec 10} {st : State} (hst : HasForm st) : KeepsForm (execRuCommitGo src st) :=
    keepsForm_next (form_ite hst (form_setRf _ _ _ _ hst))
theorem keepsForm_execRuCommitApply {dt : Nat} {st : State} (hst : HasForm st) : KeepsForm (execRuCommitApply dt st) :=
    keepsForm_next (form_ite (form_oneEvent (form_ruApply (form_elapse hst))) (form_elapse hst))

/-! ### Session -/

theorem form_reply {s : State} {op status : Nat} {body : List Byte} (hs : HasForm s) : HasForm (s.reply op status body) := form_emit hs
theorem form_spHeard {s : State} (hs : HasForm s) : HasForm s.spHeard := form_setRf _ _ _ _ hs
theorem form_serveAny {s : State} {op : Nat} {k : State → State} (hs : HasForm s) (hk : ∀ u0, HasForm u0 → HasForm (k u0)) :
    HasForm (s.serveAny op k) :=
    form_ite hs (form_ite (form_reply (form_spHeard hs)) (form_ite (form_reply (form_spHeard hs)) (hk _ (form_spHeard hs))))
theorem form_execute {s : State} {seq op : Nat} {k : State → Answer} (hs : HasForm s) (hk : ∀ u0, HasForm u0 → HasForm (k u0).1) :
    HasForm (s.execute seq op k) :=
    form_with_spLast_spReply (form_reply (hk _ hs))
theorem form_serve {s : State} {sess seq : BitVec 16} {op : Nat} {k : State → Answer} (hs : HasForm s) (hk : ∀ u0, HasForm u0 → HasForm (k u0).1) :
    HasForm (s.serve sess seq op k) := by
  refine form_serveAny (form_ite (form_with_spAt hs) hs) (fun _ h1 => form_ite (form_reply h1) (form_ite ?_ (form_ite (form_execute h1 hk) (form_reply
      h1))))
  split <;> exact form_reply h1
theorem form_serveR {s : State} {r : Nat} {sess seq : BitVec 16} {op : Nat} {k : State → Answer} (hs : HasForm s) (hk : ∀ u0, HasForm u0 → HasForm (k
    u0).1) :
    HasForm (s.serveR r sess seq op k) :=
    form_serve hs (fun _ h1 => form_ite_fst (hk _ h1) h1)
theorem form_spOpen {s : State} {peer : BitVec 48} (hs : HasForm s) : HasForm (s.spOpen peer) :=
    form_serveAny hs (fun _ h1 => form_ite (form_reply h1) (form_reply (form_setReg _ _ (form_with_spPeer_spLast_spAt_spReply (form_useFresh
    (form_endSession h1))))))
theorem keepsForm_execOpenSession {peer : BitVec 48} {st : State} (hst : HasForm st) : KeepsForm (execOpenSession peer st) :=
    keepsForm_next (form_spOpen hst)
theorem keepsForm_execCloseSession {sess : BitVec 16} {seq : BitVec 16} {st : State} (hst : HasForm st) : KeepsForm (execCloseSession sess seq st) :=
    keepsForm_next (form_serve hst (fun _ => form_endSession))
theorem keepsForm_execSessionTimeout {dt : Nat} {st : State} (hst : HasForm st) : KeepsForm (execSessionTimeout dt st) :=
    keepsForm_next (form_ite (form_endSession (form_elapse hst)) (form_elapse hst))
theorem keepsForm_execIdentify {st : State} (hst : HasForm st) : KeepsForm (execIdentify st) :=
    keepsForm_next (form_serveAny hst (fun _ => form_reply))
theorem keepsForm_execSpFrameDiscard {st : State} (hst : HasForm st) : KeepsForm (execSpFrameDiscard st) :=
    keepsForm_next (form_ite (form_count _ (form_spHeard hst)) hst)
theorem keepsForm_execSpCfgWrite {src : BitVec 10} {data : W} {up : Bool} {st : State} (hst : HasForm st) :
    KeepsForm (execSpCfgWrite src data up st) :=
    keepsForm_next (form_ite hst (form_setRf _ _ _ _ (form_setReg _ _ hst)))
theorem keepsForm_execSpMacWrite {src : BitVec 10} {hi : Bool} {data : W} {st : State} (hst : HasForm st) :
    KeepsForm (execSpMacWrite src hi data st) :=
    keepsForm_next (form_ite hst (form_endSession (form_ite (form_setReg _ _ hst) (form_setReg _ _ hst))))
theorem form_challengeReply {r : State × Nat} (hr : HasForm r.1) : HasForm (State.challengeReply r).1 :=
    form_ite_fst (form_pair_fst hr) (form_ite_fst (form_pair_fst hr) (form_ite_fst (form_pair_fst hr) (form_pair_fst hr)))
theorem keepsForm_execSpChallenge {sess seq : BitVec 16} {slot : Byte} {rights : BitVec 16} {st : State} (hst : HasForm st) :
    KeepsForm (execSpChallenge sess seq slot rights st) :=
    keepsForm_next (form_serve hst (fun _ h1 => form_challengeReply (form_auChallenge h1)))
theorem keepsForm_execSpResponse {sess seq : BitVec 16} {mac : BitVec 128} {st : State} (hst : HasForm st) :
    KeepsForm (execSpResponse sess seq mac st) :=
    keepsForm_next (form_serve hst (fun _ h1 => form_ite_fst (form_pair_fst (form_auResponse h1)) (form_pair_fst (form_auResponse h1))))
theorem keepsForm_execSpRelinquish {sess seq : BitVec 16} {st : State} (hst : HasForm st) : KeepsForm (execSpRelinquish sess seq st) :=
    keepsForm_next (form_serve hst (fun _ => form_endGrant))

/-! ### Update -/

theorem form_setImg {s : State} {n : Nat} {m : Option Img} (hs : HasForm s) : HasForm (s.setImg n m) := form_with_slots hs
theorem form_showSlots {s : State} (hs : HasForm s) : HasForm s.showSlots :=
    form_showFdie (form_setRf _ _ _ _ (form_setRf _ _ _ _ (form_setRf _ _ _ _ (form_setReg _ _ (form_setReg _ _ (form_setReg _ _ hs))))))
theorem form_updReason {s : State} {r : Nat} (hs : HasForm s) : HasForm (s.updReason r) := form_setRf _ _ _ _ (form_showSlots hs)
theorem form_updOk {s : State} {body : List Byte} (hs : HasForm s) : HasForm (s.updOk body).1 := form_updReason hs
theorem form_updNo {s : State} {status r : Nat} (hs : HasForm s) : HasForm (s.updNo status r).1 := form_updReason hs
theorem form_xbegin {kind : Nat} {cart : List Byte} {s : State} (hs : HasForm s) : HasForm (s.xbegin kind cart).1 :=
    form_ite_fst hs (form_ite_fst (form_updNo hs) (form_ite_fst (form_updNo hs) (form_updOk (form_with_xfer (form_setImg hs)))))
theorem form_xdata {off : Nat} {data : List Byte} {s : State} (hs : HasForm s) : HasForm (s.xdata off data).1 := by
  refine form_ite_fst hs ?_
  split
  · exact form_updNo hs
  · exact form_ite_fst (form_updNo hs) (form_ite_fst (form_updNo hs) (form_updOk (form_with_xfer hs)))
theorem form_xend {s : State} (hs : HasForm s) : HasForm s.xend.1 := by
  unfold State.xend
  split
  · exact form_updNo hs
  · exact form_ite_fst (form_updOk (form_setImg (form_with_xfer hs))) (form_updNo (form_with_xfer hs))
theorem keepsForm_execXbegin {sess seq : BitVec 16} {kind : Byte} {cart : List Byte} {st : State} (hst : HasForm st) :
    KeepsForm (execXbegin sess seq kind cart st) :=
    keepsForm_next (form_serveR hst (fun _ => form_xbegin))
theorem keepsForm_execXdata {sess seq : BitVec 16} {off : W} {data : List Byte} {st : State} (hst : HasForm st) :
    KeepsForm (execXdata sess seq off data st) :=
    keepsForm_next (form_serveR hst (fun _ => form_xdata))
theorem keepsForm_execXend {sess seq : BitVec 16} {st : State} (hst : HasForm st) : KeepsForm (execXend sess seq st) :=
    keepsForm_next (form_serveR hst (fun _ => form_xend))
theorem form_noteFallback {s : State} (hs : HasForm s) : HasForm s.noteFallback := form_passEvent hs
theorem form_runImage {s : State} {n : Nat} (hs : HasForm s) : HasForm (s.runImage n) :=
    form_showSlots (form_setRf _ _ _ _ (form_setRf _ _ _ _ (form_setRf _ _ _ _ (form_setReg _ _ (form_with_supRun_mgmt hs)))))
theorem form_bootImage {s : State} (hs : HasForm s) : HasForm s.bootImage :=
    form_ite (form_runImage (form_ite (form_ite (form_noteFallback (form_with_bootRec hs)) (form_with_bootRec hs)) hs)) (form_ite (form_runImage
    (form_noteFallback (form_with_bootRec (form_ite (form_ite (form_noteFallback (form_with_bootRec hs)) (form_with_bootRec hs)) hs)))) (form_runImage
    (form_passEvent (form_ite (form_ite (form_noteFallback (form_with_bootRec hs)) (form_with_bootRec hs)) hs))))
theorem keepsForm_execFirmwareLoaded {us7 us8 : W} {dt : Nat} {st : State} (hst : HasForm st) : KeepsForm (execFirmwareLoaded us7 us8 dt st) :=
    keepsForm_next (form_ite (form_elapse hst) (form_bootImage (form_setReg _ _ (form_setReg _ _ (form_setReg _ _ (form_elapse hst))))))
theorem form_beginMgmt {s : State} (hs : HasForm s) : HasForm s.beginMgmt :=
    form_setRf _ _ _ _ (form_with_supRun_mgmt (form_wdgBegin (form_setRf _ _ _ _ (form_setRf _ _ _ _ (form_wdgBegin (form_setRf _ _ _ _ (form_setRf _
    _ _ _ hs)))))))
theorem form_beginFPause {s : State} (hs : HasForm s) : HasForm s.beginFPause := form_with_fPause_nvBlock hs
theorem form_activate {kind : Nat} {s : State} (hs : HasForm s) : HasForm (s.activate kind).1 := by
  refine form_ite_fst hs ?_
  split
  · exact form_updNo hs
  · exact form_ite_fst (form_updNo hs) (form_ite_fst (form_updNo hs) (form_ite_fst (form_beginMgmt (form_updOk (form_with_bootRec (form_passEvent
        hs)))) (form_beginFPause (form_updOk (form_with_fRec (form_passEvent hs))))))
theorem form_confirm {kind : Nat} {s : State} (hs : HasForm s) : HasForm (s.confirm kind).1 :=
    form_ite_fst hs (form_ite_fst (form_updNo hs) (form_ite_fst (form_updNo hs) (form_ite_fst (form_updOk (form_with_bootRec (form_passEvent hs)))
    (form_updOk (form_with_fRec (form_passEvent hs))))))
theorem form_fallback {kind : Nat} {s : State} (hs : HasForm s) : HasForm (s.fallback kind).1 :=
    form_ite_fst hs (form_ite_fst (form_updNo hs) (form_ite_fst (form_updNo hs) (form_ite_fst (form_beginMgmt (form_updOk (form_with_bootRec
    (form_noteFallback hs)))) (form_beginFPause (form_updOk (form_dropTrial (form_noteFallback hs)))))))
theorem keepsForm_execActivate {sess seq : BitVec 16} {kind : Byte} {st : State} (hst : HasForm st) : KeepsForm (execActivate sess seq kind st) :=
    keepsForm_next (form_serveR hst (fun _ => form_activate))
theorem keepsForm_execConfirm {sess seq : BitVec 16} {kind : Byte} {st : State} (hst : HasForm st) : KeepsForm (execConfirm sess seq kind st) :=
    keepsForm_next (form_serveR hst (fun _ => form_confirm))
theorem keepsForm_execFallback {sess seq : BitVec 16} {kind : Byte} {st : State} (hst : HasForm st) : KeepsForm (execFallback sess seq kind st) :=
    keepsForm_next (form_serveR hst (fun _ => form_fallback))
theorem form_serveHeld {s : State} {e : Bool × Nat} (hs : HasForm s) : HasForm (s.serveHeld e) := form_ite (form_ruDo hs) (form_trDo hs)
theorem keepsForm_execManagementPauseEnd {dt : Nat} {st : State} (hst : HasForm st) : KeepsForm (execManagementPauseEnd dt st) :=
    keepsForm_next (form_ite (form_foldl _ (fun _ _ => form_serveHeld) _ (form_bootImage (form_with_held (form_elapse hst)))) (form_elapse hst))
theorem keepsForm_execSettingsConversionDone {dt : Nat} {st : State} (hst : HasForm st) : KeepsForm (execSettingsConversionDone dt st) :=
    keepsForm_next (form_ite (form_showSlots (form_setRf _ _ _ _ (form_with_bootRec (form_elapse hst)))) (form_elapse hst))
theorem keepsForm_execFdieUpdatePauseEnd {dt : Nat} {st : State} (hst : HasForm st) : KeepsForm (execFdieUpdatePauseEnd dt st) :=
    keepsForm_next (form_ite (form_showFdie (form_foldl _ (fun _ _ => form_command) _ (form_with_fioLink_fPause_nvBlock (form_elapse hst))))
    (form_elapse hst))
theorem form_optwr {w8 wc w10 : W} {s : State} (hs : HasForm s) : HasForm (s.optwr w8 wc w10).1 :=
    form_ite_fst hs (form_ite_fst hs (form_ite_fst hs (form_nvQueue (form_nvQueue hs))))
theorem keepsForm_execOptwr {sess seq : BitVec 16} {w8 wc w10 : W} {st : State} (hst : HasForm st) : KeepsForm (execOptwr sess seq w8 wc w10 st) :=
    keepsForm_next (form_serveR hst (fun _ => form_optwr))

/-! ### HostRegs -/

theorem form_deny {s : State} {src a c : Nat} (hs : HasForm s) : HasForm (s.deny src a c) := form_refuse hs
theorem form_clearGroup {s : State} {a : Nat} {d : W} (hs : HasForm s) : HasForm (s.clearGroup a d) := form_ite (form_zeroRegs _ hs) hs
theorem form_seqWrite {s : State} {src a : Nat} {d : W} (hs : HasForm s) : HasForm (s.seqWrite src a d) := by
  unfold State.seqWrite
  split
  · exact form_farWrite hs (fun _ => form_clearGroup)
  · exact form_clearGroup hs
theorem form_surveyCapture {s : State} {fdie : Bool} (hs : HasForm s) : HasForm (s.surveyCapture fdie) := form_with_survey hs
theorem form_surveyStart {s : State} {src : Nat} (hs : HasForm s) : HasForm (s.surveyStart src) :=
    form_ite (form_deny hs) (form_setReg _ _ (form_setReg64 _ _ (form_surveyCapture hs)))
theorem form_surveyEnd {s : State} (hs : HasForm s) : HasForm s.surveyEnd :=
    form_ite hs (form_ite (form_setRf _ _ _ _ hs) (form_setRf _ _ _ _ (form_surveyCapture hs)))
theorem form_coded {s : State} {src a code n : Nat} {k : State → State} (hs : HasForm s) (hk : ∀ u0, HasForm u0 → HasForm (k u0)) :
    HasForm (s.coded src a code n k) :=
    form_ite hs (form_ite (form_deny hs) (hk _ hs))
theorem form_rstWrite {s : State} {o : BitVec 10} {d : W} (hs : HasForm s) : HasForm (s.rstWrite o d) := by
  refine form_coded hs (fun _ h1 => form_ran h1 ?_)
  split
  · exact keepsForm_execCold h1
  · exact keepsForm_execWarm h1
  · exact keepsForm_execEngineCmd h1
  · exact keepsForm_execBlockCmd h1
  · exact keepsForm_execBlockhold h1
  · exact keepsForm_execBlockrel h1
  · exact keepsForm_execPartitionCmd h1
theorem form_pdWrite {s : State} {o : BitVec 10} {p : Nat} {d : W} (hs : HasForm s) : HasForm (s.pdWrite o p d) := by
  refine form_coded hs (fun _ h1 => form_ran h1 ?_)
  split
  · exact keepsForm_execPdRun h1
  · exact keepsForm_execPdStop h1
  · exact keepsForm_execPdHold h1
  · exact keepsForm_execPdResume h1
  · exact keepsForm_execPdStep h1
theorem form_goWrite {s : State} {o : BitVec 10} {a : Nat} (hs : HasForm s) : HasForm (s.goWrite o a) :=
    form_ran hs (keepsForm_ite (keepsForm_execRuCommitGo hs) (keepsForm_ite (keepsForm_execDispatcherCommitGo hs) (keepsForm_ite
    (keepsForm_execMoverCommitGo hs) (keepsForm_ite (keepsForm_execDtSwitch hs) (keepsForm_ite (keepsForm_execSwitchCommitGo hs) (keepsForm_ite
    (keepsForm_execQueueCommitGo hs) (keepsForm_ite (keepsForm_execEditCommitGo hs) (keepsForm_execEngineBist hs))))))))
theorem form_cmdWrite {s : State} {src a : Nat} {d : W} (hs : HasForm s) : HasForm (s.cmdWrite src a d) :=
    form_ite (form_updateWrite hs) (form_ite (form_ite (form_surveyStart hs) hs) (form_ite (form_rstWrite hs) (form_ite (form_deny hs) (form_ite
    (form_coded hs (fun _ h1 => form_ran h1 (keepsForm_ite (keepsForm_execMerStep h1) (keepsForm_execMerSeed h1)))) (form_ite (form_coded hs (fun _ =>
    form_ruCmd)) (form_ite (form_coded hs (fun _ => form_trCmd)) (form_ite (form_pdWrite hs) (form_ite (form_goWrite hs) hs))))))))
theorem form_rwSet {s : State} {a : Nat} {d : W} (hs : HasForm s) : HasForm (s.rwSet a d) := form_setReg _ _ hs
theorem form_rwWrite {s : State} {src a : Nat} {d : W} (hs : HasForm s) : HasForm (s.rwWrite src a d) :=
    form_ite (form_deny hs) (form_ite (form_ran hs (keepsForm_execMerFracWrite hs)) (form_ite (form_with_ppsOut (form_rwSet hs)) (form_ite
    (form_refreshMer (form_rwSet hs)) (form_ite (form_ran hs (keepsForm_execSpMacWrite hs)) (form_ite (form_ran hs (keepsForm_execSpCfgWrite hs))
    (form_ite (form_ran hs (keepsForm_execPdOptWrite hs)) (form_ite (form_setRegFor _ _ _ hs) (form_ite (form_with_dtBad (form_rwSet hs)) (form_rwSet
    hs)))))))))
theorem form_pendWrite {s : State} {src a : Nat} {d : W} (hs : HasForm s) : HasForm (s.pendWrite src a d) :=
    form_ite (form_ran hs (keepsForm_execTrEntryWrite hs)) (form_ite (form_ran hs (keepsForm_execPdMovRangeWrite hs)) (form_ite (form_ran hs
    (keepsForm_execMovDevRangeWrite hs)) (form_ite (form_deny hs) (form_ite (form_deny hs) (form_ite (form_setPnd _ _ hs) (form_with_touched
    (form_setPnd _ _ hs)))))))
theorem form_postWrite {s : State} {src a : Nat} {d : W} (hs : HasForm s) : HasForm (s.postWrite src a d) := by
  unfold State.postWrite
  split
  · exact hs
  · exact form_ite hs (form_ite hs (form_ite (form_deny hs) (form_ite (form_deny hs) (form_ite (form_deny hs) (form_with_posted (form_setRf _ _ _ _
        hs))))))
theorem form_farCommand {s : State} {src a : Nat} {d : W} {sub : BitVec 15} {found : BitVec 2} (hs : HasForm s) :
    HasForm (s.farCommand src a d sub found) := by
  refine form_ran hs (keepsForm_ite ?_ (keepsForm_ite ?_ (keepsForm_ite ?_ (keepsForm_ite ?_ (keepsForm_ite (keepsForm_ite (keepsForm_execFioRecover
      hs) (keepsForm_execDclr hs)) (keepsForm_ite ?_ ?_))))))
  · split
    · exact keepsForm_execRtcSet hs
    · exact keepsForm_execCorr hs
    · exact keepsForm_execDstfwd hs
    · exact keepsForm_execDstback hs
    · exact keepsForm_execMeasCmd hs
    · exact keepsForm_execMeasstop hs
  · split
    · exact keepsForm_execNvRead hs
    · exact keepsForm_execNvWrite hs
    · exact keepsForm_execCadsave hs
  · split
    · exact keepsForm_execEvrFreeze hs
    · exact keepsForm_execEvrUnfreeze hs
    · exact keepsForm_execEvrClear hs
  · split
    · exact keepsForm_next (form_auCmd hs (fun _ => form_cmdChallenge))
    · exact keepsForm_next (form_auCmd hs (fun _ => form_cmdResponse))
    · exact keepsForm_next (form_auCmd hs (fun _ => form_cmdRelinquish))
    · exact keepsForm_execKeyset hs
    · exact keepsForm_execKeyclr hs
  · split
    · exact keepsForm_execSfStart hs
    · exact keepsForm_execSfStopCmd hs
    · exact keepsForm_execSfApply hs
    · exact keepsForm_execSfReset hs
    · exact keepsForm_execSfOclr hs
  · split
    · exact keepsForm_execCanRecover hs
    · exact keepsForm_execCanAck hs
    · exact keepsForm_execReqCmd hs
    · exact keepsForm_execCancelCmd hs
theorem form_farApply {s : State} {src a : Nat} {d : W} {sub : BitVec 15} {found : BitVec 2} (hs : HasForm s) :
    HasForm (s.farApply src a d sub found) :=
    form_ite (form_farCommand hs) (form_ite (form_deny hs) (form_ite (form_ran hs (keepsForm_execCadAllocWrite hs)) (form_ite (form_ran hs
    (keepsForm_execEvrRdIdxWrite hs)) (form_ite (form_ran hs (keepsForm_execFioHostcmdWrite hs)) (form_ite (form_ran hs (keepsForm_execLnModeWrite
    hs)) (form_ite (form_setRegFor _ _ _ hs) (form_setReg _ _ hs)))))))
theorem form_settle {s : State} {b : Nat} {sub : BitVec 15} {found : BitVec 2} (hs : HasForm s) : HasForm (s.settle b sub found) := by
  refine form_ite hs ?_
  split
  · exact form_setRf _ _ _ _ (form_farApply (form_setRf _ _ _ _ (form_with_posted hs)))
  · exact form_setRf _ _ _ _ hs
theorem form_regWrite {s : State} {src a : Nat} {d : W} (hs : HasForm s) : HasForm (s.regWrite src a d) := by
  refine form_ite hs ?_
  split
  · exact hs
  · exact form_ite (form_deny hs) (form_ite (form_seqWrite hs) (form_ite (form_postWrite hs) (form_ite (form_cmdWrite hs) (form_ite (form_rwWrite hs)
        (form_ite (form_pendWrite hs) (form_ite (form_deny hs) hs))))))

/-! ### HostReads -/

theorem form_served {s : State} {src a : Nat} (hs : HasForm s) : HasForm (s.served src a).1 := by
  unfold State.served
  split
  · exact form_with_latch hs
  · split
    · exact form_with_latch hs
    · exact form_ite (form_setRf _ _ _ _ hs) hs
theorem form_farRead {s0 : State} {src a b : Nat} {sub : BitVec 15} (hs0 : HasForm s0) : HasForm (s0.farRead src a b sub).1 :=
    form_ite_fst (form_deny (form_settle hs0)) (form_ite_fst (form_ite_fst (form_served (form_with_evAccess (form_settle hs0))) (form_deny
    (form_settle hs0))) (form_ite_fst (form_deny (form_settle hs0)) (form_served (form_settle hs0))))
theorem form_readReg {s : State} {src a : Nat} {sub : BitVec 15} (hs : HasForm s) : HasForm (s.readReg src a sub).1 := by
  refine form_ite_fst hs (form_ite_fst hs ?_)
  split
  · exact form_ite_fst (form_served hs) (form_farRead hs)
  · exact form_served hs
theorem form_read0 {s : State} {src off : Nat} {sub : BitVec 15} (hs : HasForm s) : HasForm (s.read0 src off sub).1 :=
    form_ite_fst (form_readReg hs) (form_ite_fst (form_pair_fst (form_readReg hs)) (form_ite_fst hs (form_ite_fst hs hs)))
theorem form_fetchWord {s : State} {a : Nat} {k : State → State} (hs : HasForm s) (hk : ∀ u0, HasForm u0 → HasForm (k u0)) :
    HasForm (s.fetchWord a k).1 :=
    form_ite_fst (hk _ (form_storeFault hs)) hs
theorem form_read2 {s : State} {src a : Nat} (hs : HasForm s) : HasForm (s.read2 src a).1 :=
    form_ite_fst hs (form_ite_fst (form_refuse hs) (form_ite_fst (form_useFresh hs) (form_pair_fst (form_fetchWord hs (fun _ => form_refuse)))))
theorem form_vfRefuse {s : State} {src off c : Nat} (hs : HasForm s) : HasForm (s.vfRefuse src off c) := form_refuse hs
theorem form_imageLoc {s : State} {src p off w : Nat} (hs : HasForm s) : HasForm (s.imageLoc src p off w).1 := by
  unfold State.imageLoc
  split
  · exact hs
  · exact form_vfRefuse hs
  · exact form_vfRefuse (form_entryFault hs)
theorem form_readImageWord {s : State} {src p off w : Nat} (h : HasForm s) : HasForm (s.readImageWord src p off w).1 := by
  have hl : HasForm (s.imageLoc src p off w).1 := form_imageLoc h
  unfold State.readImageWord
  split
  next s1 a heq => rw [heq] at hl; exact form_fetchWord hl (fun _ => form_vfRefuse)
  next s1 heq => rw [heq] at hl; exact hl
theorem form_readVf {s : State} {src vf off : Nat} (hs : HasForm s) : HasForm (s.readVf src vf off).1 :=
    form_ite_fst hs (form_ite_fst hs (form_ite_fst (form_vfRefuse hs) (form_ite_fst (form_ite_fst hs (form_served hs)) (form_ite_fst
    (form_readImageWord hs) (form_pair_fst (form_readImageWord hs))))))
theorem form_readWhole {rd : State → Nat → Got} {s : State} {l : List Nat} (hrd : ∀ u o, HasForm u → HasForm (rd u o).1)
    (h : HasForm s) : HasForm (readWhole rd s l).1 := by
  induction l generalizing s with
  | nil => exact h
  | cons o l ih =>
    have ho : HasForm (rd s o).1 := hrd s o h
    unfold readWhole
    split
    next s1 heq => rw [heq] at ho; exact ho
    next s1 w heq => rw [heq] at ho; exact ih ho
theorem form_readAll {rd : State → Nat → Got} {s : State} {l : List Nat} (hrd : ∀ u o, HasForm u → HasForm (rd u o).1)
    (h : HasForm s) : HasForm (readAll rd s l).1 := by
  induction l generalizing s with
  | nil => exact h
  | cons o l ih => exact ih (hrd s o h)
theorem form_readBytes {rd : State → Nat → Got} {whole : Bool} {s : State} {off n : Nat} (hrd : ∀ u0 x1, HasForm u0 → HasForm (rd u0 x1).1) (hs :
    HasForm s) :
    HasForm (readBytes rd whole s off n).1 :=
    form_ite_fst (form_pair_fst (form_readWhole hrd hs)) (form_pair_fst (form_readAll hrd hs))
theorem form_hostRead {s : State} {src : Nat} {bar2 : Bool} {off n : Nat} {sub : BitVec 15} (hs : HasForm s) :
    HasForm (s.hostRead src bar2 off n sub) :=
    form_ite hs (form_ite (form_emit (form_refuse hs)) (form_emit (form_readBytes (fun _ _ h1 => form_ite_fst (form_readVf h1) (form_ite_fst
    (form_read2 h1) (form_read0 h1))) hs)))

/-! ### HostAccess -/

theorem form_refile {s t : State} {src a off : Nat} (ht : HasForm t) : HasForm (s.refile t src a off) := form_ite (form_setReg _ _ ht) ht
theorem form_aliasWrite {s : State} {src x : Nat} {v : Bool} (hs : HasForm s) : HasForm (s.aliasWrite src x v) := by
  unfold State.aliasWrite
  dsimp only
  split
  · exact hs
  · exact form_ite hs (form_ite (form_refuse hs) (form_ite (form_refile (form_regWrite hs)) (form_ite (form_refile (form_regWrite hs)) hs)))
theorem form_write0 {s : State} {src off : Nat} {d : W} (hs : HasForm s) : HasForm (s.write0 src off d) :=
    form_ite (form_regWrite hs) (form_ite (form_aliasWrite hs) hs)
theorem form_putWord {s : State} {o off : Nat} {data : List Byte} (hs : HasForm s) : HasForm (s.putWord o off data) :=
    form_ite (form_storeFault hs) (form_wrMem _ _ hs)
theorem form_putWords {s : State} {off : Nat} {data : List Byte} {k : State → State} (hs : HasForm s) (hk : ∀ u0, HasForm u0 → HasForm (k u0)) :
    HasForm (s.putWords off data k) := by
  unfold State.putWords
  dsimp only
  split
  · exact hk _ (form_storeFault hs)
  · exact form_foldl _ (fun _ _ => form_putWord) _ hs
theorem form_write2 {s : State} {src off : Nat} {data : List Byte} (hs : HasForm s) : HasForm (s.write2 src off data) := by
  refine form_ite hs ?_
  split
  · exact form_refuse hs
  · exact form_putWords hs (fun _ => form_refuse)
theorem form_imageWrite {s : State} {src vf off : Nat} {data : List Byte} (hs : HasForm s) : HasForm (s.imageWrite src vf off data) := by
  unfold State.imageWrite
  extract_lets p
  have hl : HasForm (s.imageLoc src p off ((off - 0x80000) / 4)).1 := form_imageLoc hs
  refine form_ite (form_vfRefuse hs) ?_
  split
  next s1 heq => rw [heq] at hl; exact hl
  next s1 a heq => rw [heq] at hl; exact form_putWords hl (fun _ => form_vfRefuse)
theorem form_imageAlias {s : State} {src vf x : Nat} {v : Bool} (h : HasForm s) : HasForm (s.imageAlias src vf x v) := by
  unfold State.imageAlias
  extract_lets p off
  have hl : HasForm (s.imageLoc src p off ((aliasOf x).1 / 4)).1 := form_imageLoc h
  refine form_ite (form_vfRefuse h) ?_
  split
  next s1 heq => rw [heq] at hl; exact hl
  next s1 a heq => rw [heq] at hl; exact form_ite (form_vfRefuse (form_storeFault hl)) (form_wrMem _ _ hl)
theorem form_writeVf {s : State} {src vf off : Nat} {d : W} (hs : HasForm s) : HasForm (s.writeVf src vf off d) :=
    form_ite hs (form_ite hs (form_ite (form_imageWrite hs) (form_ite (form_imageAlias hs) (form_ite (form_vfRefuse hs) (form_ite (form_refile
    (form_regWrite hs)) hs)))))
theorem form_write1 {s : State} {src off : Nat} {d : W} (hs : HasForm s) : HasForm (s.write1 src off d) :=
    form_ite hs (form_ite (form_writeVf hs) (form_write0 hs))
theorem keepsForm_execRegisterWrite {src : BitVec 10} {off : BitVec 28} {size : BitVec 4} {full : Bool} {data : W64} {st : State} (hst : HasForm st) :
    KeepsForm (execRegisterWrite src off size full data st) :=
    keepsForm_next (form_ite hst (form_ite (form_refuse hst) (form_ite (form_write1 hst) (form_write1 (form_write1 hst)))))
theorem keepsForm_execRegisterRead {src : BitVec 10} {bar2 : Bool} {off : BitVec 28} {len : BitVec 13} {st : State} (hst : HasForm st) :
    KeepsForm (execRegisterRead src bar2 off len st) :=
    keepsForm_next (form_hostRead hst)
theorem keepsForm_execCounterLowRead {src : BitVec 10} {off : BitVec 28} {st : State} (hst : HasForm st) :
    KeepsForm (execCounterLowRead src off st) :=
    keepsForm_next (form_hostRead hst)
theorem keepsForm_execRwpWrite {src : BitVec 10} {off : BitVec 28} {data : W} {st : State} (hst : HasForm st) :
    KeepsForm (execRwpWrite src off data st) :=
    keepsForm_next (form_ite hst (form_write1 hst))
theorem keepsForm_execRwpApplied {inst : BitVec 8} {sub : BitVec 15} {found : BitVec 2} {dt : Nat} {st : State} (hst : HasForm st) :
    KeepsForm (execRwpApplied inst sub found dt st) :=
    keepsForm_next (form_settle (form_elapse hst))
theorem keepsForm_execFarReadComplete {src : BitVec 10} {off : BitVec 28} {sub : BitVec 15} {st : State} (hst : HasForm st) :
    KeepsForm (execFarReadComplete src off sub st) :=
    keepsForm_next (form_hostRead (form_ite (form_atTick hst) hst))
theorem keepsForm_execSeqWrite {src : BitVec 10} {off : BitVec 28} {data : W} {st : State} (hst : HasForm st) :
    KeepsForm (execSeqWrite src off data st) :=
    keepsForm_next (form_write1 hst)
theorem keepsForm_execSurvey {src : BitVec 10} {st : State} (hst : HasForm st) : KeepsForm (execSurvey src st) :=
    keepsForm_next (form_ite hst (form_surveyStart hst))
theorem keepsForm_execSurveyFdieCapture {dt : Nat} {st : State} (hst : HasForm st) : KeepsForm (execSurveyFdieCapture dt st) :=
    keepsForm_next (form_surveyEnd (form_elapse hst))
theorem keepsForm_execAliasWrite {src : BitVec 10} {off : BitVec 28} {bit : Bool} {st : State} (hst : HasForm st) :
    KeepsForm (execAliasWrite src off bit st) :=
    keepsForm_next (form_write1 hst)
theorem keepsForm_execStoreWindowWrite {off : BitVec 28} {data : List Byte} {st : State} (hst : HasForm st) :
    KeepsForm (execStoreWindowWrite off data st) :=
    keepsForm_next (form_ite (form_write2 hst) hst)
theorem keepsForm_execImageWindowWrite {vf : BitVec 10} {off : BitVec 28} {data : List Byte} {st : State} (hst : HasForm st) :
    KeepsForm (execImageWindowWrite vf off data st) :=
    keepsForm_next (form_ite (form_imageWrite hst) hst)
theorem form_flushVec {s : State} {f v : Nat} (hs : HasForm s) : HasForm (s.flushVec f v) := form_ite (form_sendVec (form_with_vecPend hs)) hs
theorem form_maskVec {s : State} {f kind v : Nat} {mask : Bool} (hs : HasForm s) : HasForm (s.maskVec f kind v mask) :=
    form_ite (form_foldl _ (fun _ _ => form_flushVec) _ (form_with_fnMask hs)) (form_ite (form_flushVec (form_with_vecMask hs)) hs)
theorem form_setVfs {s : State} {fn kind n : Nat} {on : Bool} (hs : HasForm s) : HasForm (s.setVfs fn kind n on) :=
    form_ite (form_with_vfEnable_numVfs hs) hs
theorem keepsForm_execConfigurationRequest {fn : BitVec 10} {ready : Bool} {msix : BitVec 2} {vec : BitVec 11} {mask : Bool} {st : State} (hst :
    HasForm st) :
    KeepsForm (execConfigurationRequest fn ready msix vec mask st) :=
    keepsForm_next (form_ite (form_ite hst (form_emit (form_setVfs (form_maskVec hst)))) (form_emit hst))

/-! ### ServicePort -/

theorem form_refusedReply {s : State} {cause done : Nat} (hs : HasForm s) : HasForm (refusedReply s cause done).1 := hs
theorem form_spGet {s : State} {space fn o : Nat} (hs : HasForm s) : HasForm (s.spGet space fn o).1 :=
    form_ite_fst (form_read0 hs) (form_ite_fst (form_read2 hs) (form_readVf hs))
theorem form_spGets {space fn : Nat} {s : State} {l : List Nat} (h : HasForm s) : HasForm (spGets space fn s l).1 := by
  induction l generalizing s with
  | nil => exact h
  | cons o l ih =>
    unfold spGets
    extract_lets g
    have hg : HasForm g.1 := form_spGet h
    split
    · exact ih hg
    · exact hg
theorem form_spPut {s : State} {space fn o off : Nat} {data : List Byte} (hs : HasForm s) : HasForm (s.spPut space fn o off data) :=
    form_ite (form_write0 hs) (form_ite (form_write2 hs) (form_ite (form_imageWrite hs) (form_writeVf hs)))
theorem form_spWait {s : State} {space o : Nat} (hs : HasForm s) : HasForm (s.spWait space o) := by
  refine form_ite ?_ hs
  split
  · exact form_settle hs
  · exact hs
theorem form_spPuts {space fn off : Nat} {data : List Byte} {s : State} {first : Bool} {l : List Nat} (h : HasForm s) :
    HasForm (spPuts space fn off data s first l).1 := by
  induction l generalizing s first with
  | nil => exact h
  | cons o l ih =>
    unfold spPuts
    extract_lets s0 t
    have ht : HasForm t := form_spPut (form_ite h (form_spWait h))
    split
    · exact ht
    · exact ih ht
theorem form_spSize {s : State} {off : Nat} (hs : HasForm s) : HasForm (s.spSize off).1 := form_refusedReply (form_refuse hs)
theorem keepsForm_execSpRead {sess seq : BitVec 16} {space : Byte} {fn : BitVec 16} {off : W} {count : BitVec 16} {st : State} (hst : HasForm st) :
    KeepsForm (execSpRead sess seq space fn off count st) := by
  refine keepsForm_next (form_serve hst (fun _ h1 => form_ite_fst h1 (form_ite_fst (form_spSize h1) ?_)))
  dsimp only
  split
  · exact form_refusedReply (form_spGets h1)
  · exact form_pair_fst (form_spGets h1)
theorem keepsForm_execSpWrite {sess seq : BitVec 16} {space : Byte} {fn : BitVec 16} {off : W} {data : List Byte} {st : State} (hst : HasForm st) :
    KeepsForm (execSpWrite sess seq space fn off data st) := by
  refine keepsForm_next (form_serveR hst (fun _ h1 => form_ite_fst h1 (form_ite_fst (form_spSize h1) ?_)))
  dsimp only
  split
  · exact form_refusedReply (form_spPuts h1)
  · exact form_pair_fst (form_spPuts h1)
theorem form_evReply {r : State × Nat} {body : State → List Byte} (hr : HasForm r.1) : HasForm (evReply r body).1 :=
    form_ite_fst (form_pair_fst hr) (form_pair_fst hr)
theorem keepsForm_execEvfreeze {sess seq : BitVec 16} {st : State} (hst : HasForm st) : KeepsForm (execEvfreeze sess seq st) :=
    keepsForm_next (form_serve hst (fun _ h1 => form_evReply (form_evFreeze h1)))
theorem keepsForm_execEvread {sess seq : BitVec 16} {k : BitVec 16} {st : State} (hst : HasForm st) : KeepsForm (execEvread sess seq k st) := by
  refine keepsForm_next (form_serve hst (fun _ h1 => form_ite_fst (form_refusedReply h1) ?_))
  split
  · exact form_with_evAccess h1
  · exact form_refusedReply (form_with_evAccess h1)
theorem keepsForm_execEvunfreeze {sess seq : BitVec 16} {st : State} (hst : HasForm st) : KeepsForm (execEvunfreeze sess seq st) :=
    keepsForm_next (form_serve hst (fun _ h1 => form_evReply (form_evUnfreeze h1)))
theorem keepsForm_execEvclear {sess seq : BitVec 16} {st : State} (hst : HasForm st) : KeepsForm (execEvclear sess seq st) :=
    keepsForm_next (form_serveR hst (fun _ h1 => form_evReply (form_evClear h1)))
theorem keepsForm_execDumpread {sess seq : BitVec 16} {source : Byte} {off : W} {count : BitVec 16} {st : State} (hst : HasForm st) :
    KeepsForm (execDumpread sess seq source off count st) := by
  refine keepsForm_next (form_serve hst (fun _ h1 => form_ite_fst h1 (form_ite_fst (form_foldl _ (fun _ _ h2 => form_ite (form_storeFault h2) h2) _
      h1) ?_)))
  split <;> exact h1
theorem form_debug {s : State} {sess seq : BitVec 16} {op : Nat} {part : BitVec 16} {k : State → Nat → Answer} (hs : HasForm s) (hk : ∀ u0 x1, HasForm
    u0 → HasForm (k u0 x1).1) :
    HasForm (s.debug sess seq op part k) :=
    form_serveR hs (fun _ h1 => form_ite_fst h1 (hk _ _ h1))
theorem keepsForm_execSpHold {sess seq : BitVec 16} {part : BitVec 16} {st : State} (hst : HasForm st) : KeepsForm (execSpHold sess seq part st) :=
    keepsForm_next (form_debug hst (fun _ _ h1 => form_ran h1 (keepsForm_execPdHold h1)))
theorem keepsForm_execSpResume {sess seq : BitVec 16} {part : BitVec 16} {st : State} (hst : HasForm st) :
    KeepsForm (execSpResume sess seq part st) :=
    keepsForm_next (form_debug hst (fun _ _ h1 => form_ran h1 (keepsForm_execPdResume h1)))
theorem keepsForm_execSpStep {sess seq : BitVec 16} {part : BitVec 16} {task : Byte} {st : State} (hst : HasForm st) :
    KeepsForm (execSpStep sess seq part task st) :=
    keepsForm_next (form_debug hst (fun _ _ h1 => form_ran h1 (keepsForm_execPdStep h1)))
theorem keepsForm_execBrkset {sess seq : BitVec 16} {part : BitVec 16} {index : Byte} {addr : BitVec 24} {st : State} (hst : HasForm st) :
    KeepsForm (execBrkset sess seq part index addr st) :=
    keepsForm_next (form_debug hst (fun _ _ h1 => form_ite_fst h1 (form_ite_fst h1 (form_setPart h1))))
theorem keepsForm_execBrkclr {sess seq : BitVec 16} {part : BitVec 16} {index : Byte} {st : State} (hst : HasForm st) :
    KeepsForm (execBrkclr sess seq part index st) :=
    keepsForm_next (form_debug hst (fun _ _ h1 => form_ite_fst h1 (form_setPart h1)))

/-! ### Dispatch -/

theorem keepsForm_exec {i : Instr} {s : State} (hs : HasForm s) : KeepsForm (exec i s) := by
  unfold exec
  split; exacts [keepsForm_execRegisterWrite hs, keepsForm_execCounterLowRead hs, keepsForm_execVfFlr hs, keepsForm_execPf0Reset hs,
      keepsForm_execPciePerst hs, keepsForm_execStoreWindowWrite hs, keepsForm_execImageWindowWrite hs, keepsForm_execRwpWrite hs,
      keepsForm_execRwpApplied hs, keepsForm_execFarReadComplete hs, keepsForm_execSeqWrite hs, keepsForm_execUpdateFio hs, keepsForm_execUpdateCan
      hs, keepsForm_execUpdateWdg hs, keepsForm_execUpdateRtc hs, keepsForm_execFioStrobeApply hs, keepsForm_execCanStrobeApply hs,
      keepsForm_execWdgStrobeApply hs, keepsForm_execRtcStrobeApply hs, keepsForm_execSurvey hs, keepsForm_execSurveyFdieCapture hs,
      keepsForm_execAliasWrite hs, keepsForm_execOpLd hs, keepsForm_execOpLdn hs, keepsForm_execOpAnd hs, keepsForm_execOpAndn hs, keepsForm_execOpOr
      hs, keepsForm_execOpOrn hs, keepsForm_execOpXor hs, keepsForm_execOpXorn hs, keepsForm_execOpSt hs, keepsForm_execOpStn hs, keepsForm_execOpSet
      hs, keepsForm_execOpRst hs, keepsForm_execOpNot hs, keepsForm_execOpSetl hs, keepsForm_execOpClrl hs, keepsForm_execOpBpsh hs,
      keepsForm_execOpBrd hs, keepsForm_execOpBrda hs, keepsForm_execOpBrdo hs, keepsForm_execOpBpop hs, keepsForm_execOpBppa hs, keepsForm_execOpBppo
      hs, keepsForm_execOpBdrp hs, keepsForm_execOpLra hs, keepsForm_execOpAlr hs, keepsForm_execOpEdp hs, keepsForm_execOpEdn hs, keepsForm_execOpTon
      hs, keepsForm_execOpTof hs, keepsForm_execOpTp hs, keepsForm_execOpTrs hs, keepsForm_execOpCtu hs, keepsForm_execOpCtd hs, keepsForm_execOpCrs
      hs, keepsForm_execOpCld hs, keepsForm_execOpAdd hs, keepsForm_execOpSub hs, keepsForm_execOpAdc hs, keepsForm_execOpSbc hs, keepsForm_execOpMul
      hs, keepsForm_execOpDiv hs, keepsForm_execOpMod hs, keepsForm_execOpAndw hs, keepsForm_execOpOrw hs, keepsForm_execOpXorw hs,
      keepsForm_execOpNeg hs, keepsForm_execOpCpl hs, keepsForm_execOpAddk hs, keepsForm_execOpAndk hs, keepsForm_execOpOrk hs, keepsForm_execOpXork
      hs, keepsForm_execOpClrs hs, keepsForm_execOpShl hs, keepsForm_execOpShr hs, keepsForm_execOpSar hs, keepsForm_execOpRol hs, keepsForm_execOpRor
      hs, keepsForm_execOpShlk hs, keepsForm_execOpShrk hs, keepsForm_execOpSark hs, keepsForm_execOpRolk hs, keepsForm_execOpRork hs,
      keepsForm_execOpFadd hs, keepsForm_execOpFsub hs, keepsForm_execOpFmul hs, keepsForm_execOpFdiv hs, keepsForm_execOpFcmp hs,
      keepsForm_execOpItof hs, keepsForm_execOpFtoi hs, keepsForm_execOpFneg hs, keepsForm_execOpFabs hs, keepsForm_execOpCmp hs, keepsForm_execOpCmpk
      hs, keepsForm_execOpCnd hs, keepsForm_execOpTos hs, keepsForm_execOpTdz hs, keepsForm_execOpTnv hs, keepsForm_execOpTnx hs, keepsForm_execOpJmp
      hs, keepsForm_execOpJc hs, keepsForm_execOpCall hs, keepsForm_execOpRet hs, keepsForm_execOpJmpx hs, keepsForm_execOpCallx hs,
      keepsForm_execOpEnd hs, keepsForm_execOpNop hs, keepsForm_execOpLda hs, keepsForm_execOpSta hs, keepsForm_execOpLdi hs, keepsForm_execOpSti hs,
      keepsForm_execOpLdx hs, keepsForm_execOpStx hs, keepsForm_execOpLdy hs, keepsForm_execOpSty hs, keepsForm_execOpTax hs, keepsForm_execOpTxa hs,
      keepsForm_execOpTay hs, keepsForm_execOpTya hs, keepsForm_execOpTxy hs, keepsForm_execOpTyx hs, keepsForm_execOpInx hs, keepsForm_execOpDex hs,
      keepsForm_execOpIny hs, keepsForm_execOpDey hs, keepsForm_execOpLdk hs, keepsForm_execOpLdks hs, keepsForm_execOpLxk hs, keepsForm_execOpLxks
      hs, keepsForm_execOpAxk hs, keepsForm_execOpLyk hs, keepsForm_execOpLyks hs, keepsForm_execOpAyk hs, keepsForm_execOpTrel hs,
      keepsForm_execOpTmerl hs, keepsForm_execOpTmerh hs, keepsForm_execOpTcyc hs, keepsForm_execOpCanrd hs, keepsForm_execOpCantx hs,
      keepsForm_execOpCanst hs, keepsForm_execOpCadrd hs, keepsForm_execOpCadwr hs, keepsForm_execOpEvrec hs, keepsForm_execOpImgrq hs,
      keepsForm_execOpImgwr hs, keepsForm_execOpIrq hs, keepsForm_execOpSfrd hs, keepsForm_execOpSfrst hs, keepsForm_execOpBrk hs,
      keepsForm_execOpCustomer hs, keepsForm_execOpIllegal hs, keepsForm_execPreemption hs, keepsForm_execTaskSwitchDone hs, keepsForm_execDtSwitch
      hs, keepsForm_execDtSwitchApply hs, keepsForm_execTaskRelease hs, keepsForm_execInputCopyComplete hs, keepsForm_execOutputCopyComplete hs,
      keepsForm_execDeadlineOverrun hs, keepsForm_execPdRun hs, keepsForm_execRunApply hs, keepsForm_execPdStop hs, keepsForm_execStopComplete hs,
      keepsForm_execStopSending hs, keepsForm_execPdHold hs, keepsForm_execHeldSending hs, keepsForm_execBreakpointHit hs, keepsForm_execPdResume hs,
      keepsForm_execResumeApply hs, keepsForm_execPdStep hs, keepsForm_execPdOptWrite hs, keepsForm_execDispatcherCommitGo hs,
      keepsForm_execDispatcherCommitApply hs, keepsForm_execEditCommitGo hs, keepsForm_execEditBoundary hs, keepsForm_execBoundaryPauseEnd hs,
      keepsForm_execEditTimeout hs, keepsForm_execCreate hs, keepsForm_execRemove hs, keepsForm_execStage hs, keepsForm_execUnstage hs,
      keepsForm_execRetclr hs, keepsForm_execPageZeroed hs, keepsForm_execTrEntryWrite hs, keepsForm_execPdMovRangeWrite hs, keepsForm_execScrub hs,
      keepsForm_execPageRetirement hs, keepsForm_execRetirementCopyDone hs, keepsForm_execLnModeWrite hs, keepsForm_execLaneLinkUp hs,
      keepsForm_execLaneSignalLoss hs, keepsForm_execPortReform hs, keepsForm_execPreemptVerified hs, keepsForm_execPortTransmit hs,
      keepsForm_execGateEntryChange hs, keepsForm_execFrameHeaderReceived hs, keepsForm_execFrameEndReceived hs, keepsForm_execHeldSlotWrite hs,
      keepsForm_execStreamWindowTimeout hs, keepsForm_execSwitchCommitGo hs, keepsForm_execSwitchCommitApply hs, keepsForm_execGateListApply hs,
      keepsForm_execQueueCommitGo hs, keepsForm_execQueueCommitApply hs, keepsForm_execMoverCommitGo hs, keepsForm_execMoverCommitApply hs,
      keepsForm_execMovDevRangeWrite hs, keepsForm_execStationTick hs, keepsForm_execHeartbeatSend hs, keepsForm_execRuCommitGo hs,
      keepsForm_execRuCommitApply hs, keepsForm_execLeaseRenewal hs, keepsForm_execLeaseExpiry hs, keepsForm_execWitnessRequest hs,
      keepsForm_execWitnessClaim hs, keepsForm_execWitnessRelease hs, keepsForm_execWitnessHandover hs, keepsForm_execWitnessQuietEnd hs,
      keepsForm_execGrant hs, keepsForm_execDeny hs, keepsForm_execPartnerLeaseLapse hs, keepsForm_execClaim hs, keepsForm_execClaimRetry hs,
      keepsForm_execClaimRoundTimeout hs, keepsForm_execMirrorCaptureEnd hs, keepsForm_execInvec hs, keepsForm_execData hs, keepsForm_execResult hs,
      keepsForm_execModeFrame hs, keepsForm_execEditFrame hs, keepsForm_execSwapFrame hs, keepsForm_execResyncFrame hs, keepsForm_execVerdict hs,
      keepsForm_execStateFrame hs, keepsForm_execStateSend hs, keepsForm_execPtimeFrame hs, keepsForm_execStandbyBlockWaitEnd hs,
      keepsForm_execPassIncomplete hs, keepsForm_execVerdictTimeout hs, keepsForm_execSwapTimer hs, keepsForm_execSwapBoundary hs,
      keepsForm_execSwapBoundaryTimeout hs, keepsForm_execSwapActiveTimeout hs, keepsForm_execRuSwap hs, keepsForm_execRuResync hs,
      keepsForm_execRejoin hs, keepsForm_execLeaveCmd hs, keepsForm_execTakeCmd hs, keepsForm_execMeridianSeed hs, keepsForm_execMerStep hs,
      keepsForm_execMerSeed hs, keepsForm_execMerFracWrite hs, keepsForm_execSync hs, keepsForm_execSyncSend hs, keepsForm_execDreq hs,
      keepsForm_execDresp hs, keepsForm_execDreqSend hs, keepsForm_execSyncTimeout hs, keepsForm_execPpsOutRise hs, keepsForm_execPpsOutFall hs,
      keepsForm_execPpsInEdge hs, keepsForm_execRtcSecondBoundary hs, keepsForm_execRtcSet hs, keepsForm_execCorr hs, keepsForm_execDstfwd hs,
      keepsForm_execDstback hs, keepsForm_execMeasCmd hs, keepsForm_execMeasstop hs, keepsForm_execMeasComplete hs, keepsForm_execMainsCrossing hs,
      keepsForm_execMainsTimeout hs, keepsForm_execSlewStep hs, keepsForm_execCrystalStop hs, keepsForm_execCrystalResume hs,
      keepsForm_execFioInputSettled hs, keepsForm_execFioOutputCommand hs, keepsForm_execFioHostcmdWrite hs, keepsForm_execCurrentLimit hs,
      keepsForm_execOverloadTrip hs, keepsForm_execThermalShutdown hs, keepsForm_execOutputRestart hs, keepsForm_execOpenLoad hs,
      keepsForm_execShortToSupply hs, keepsForm_execGroupUndervoltage hs, keepsForm_execGroupOvervoltage hs, keepsForm_execGroupOvercurrent hs,
      keepsForm_execGroupConditionEnd hs, keepsForm_execTpPulseStart hs, keepsForm_execTpPulseEnd hs, keepsForm_execCrossShortCheck hs,
      keepsForm_execTpOverload hs, keepsForm_execTpRetry hs, keepsForm_execHeartbeatReceived hs, keepsForm_execHeartbeatTimeout hs,
      keepsForm_execFioRecover hs, keepsForm_execDclr hs, keepsForm_execSqlEnableLost hs, keepsForm_execFatalLineAsserted hs,
      keepsForm_execAliveLineTimeout hs, keepsForm_execRootPllLoss hs, keepsForm_execLanePllLoss hs, keepsForm_execSupervisorLockstepFail hs,
      keepsForm_execSafetyEvaluation hs, keepsForm_execSampleIntervalFault hs, keepsForm_execChannelALost hs, keepsForm_execDarkTestHigh hs,
      keepsForm_execDarkTestLow hs, keepsForm_execDarkTestEnd hs, keepsForm_execSqOverload hs, keepsForm_execSfStart hs, keepsForm_execSfStopCmd hs,
      keepsForm_execSfApply hs, keepsForm_execSetTakesEffect hs, keepsForm_execSfReset hs, keepsForm_execSfOclr hs, keepsForm_execCanRecover hs,
      keepsForm_execCanAck hs, keepsForm_execReqCmd hs, keepsForm_execCancelCmd hs, keepsForm_execCanFrameReceived hs, keepsForm_execHeldFrameWrite
      hs, keepsForm_execCanTransmitStart hs, keepsForm_execCanTransmitDone hs, keepsForm_execCanBusError hs, keepsForm_execBusOffRecoveryDone hs,
      keepsForm_execReferenceMessageDue hs, keepsForm_execTtSyncLoss hs, keepsForm_execTriggerFire hs, keepsForm_execTriggerWindowEnd hs,
      keepsForm_execFaultEvent hs, keepsForm_execCollectorStateMessage hs, keepsForm_execDumpSequencerDone hs, keepsForm_execDumpPageWritten hs,
      keepsForm_execDumpComplete hs, keepsForm_execFatalResetTimeout hs, keepsForm_execRcOscillatorFail hs, keepsForm_execDieLinkDown hs,
      keepsForm_execSupplyOutOfRange hs, keepsForm_execEngineBist hs, keepsForm_execBistDone hs, keepsForm_execVaoPowerOn hs,
      keepsForm_execVaoBrownout hs, keepsForm_execResetN hs, keepsForm_execLdiePowerGood hs, keepsForm_execLdiePowerGoodLoss hs, keepsForm_execCold
      hs, keepsForm_execWarm hs, keepsForm_execEngineCmd hs, keepsForm_execBlockCmd hs, keepsForm_execBlockhold hs, keepsForm_execBlockrel hs,
      keepsForm_execPartitionCmd hs, keepsForm_execEngineResetRelease hs, keepsForm_execBlockResetRelease hs, keepsForm_execFdiePorRelease hs,
      keepsForm_execNvRecallDone hs, keepsForm_execOptionBytesRead hs, keepsForm_execFdieBootComplete hs, keepsForm_execRootPllLocked hs,
      keepsForm_execResetTimeTestsDone hs, keepsForm_execFirmwareLoaded hs, keepsForm_execWatchdogWindowOpen hs, keepsForm_execEngineWatchdogAnswer
      hs, keepsForm_execWdgSsvc hs, keepsForm_execWatchdogExpiry hs, keepsForm_execHardTimerExpiry hs, keepsForm_execNvRead hs, keepsForm_execNvWrite
      hs, keepsForm_execCadsave hs, keepsForm_execNvPageWriteDone hs, keepsForm_execOperatingHour hs, keepsForm_execAutosave hs,
      keepsForm_execCaddySaveDone hs, keepsForm_execPowerFail hs, keepsForm_execPowerFailWithdrawn hs, keepsForm_execCadAllocWrite hs,
      keepsForm_execEventAdmission hs, keepsForm_execTokenRefill hs, keepsForm_execEventPageWrite hs, keepsForm_execEventBufferTimeout hs,
      keepsForm_execEvrFreeze hs, keepsForm_execEvrUnfreeze hs, keepsForm_execEvrClear hs, keepsForm_execFreezeTimeout hs, keepsForm_execEvrRdIdxWrite
      hs, keepsForm_execIdentify hs, keepsForm_execOpenSession hs, keepsForm_execCloseSession hs, keepsForm_execSessionTimeout hs,
      keepsForm_execSpChallenge hs, keepsForm_execSpResponse hs, keepsForm_execSpRelinquish hs, keepsForm_execSpRead hs, keepsForm_execSpWrite hs,
      keepsForm_execXbegin hs, keepsForm_execXdata hs, keepsForm_execXend hs, keepsForm_execActivate hs, keepsForm_execConfirm hs,
      keepsForm_execFallback hs, keepsForm_execOptwr hs, keepsForm_execEvfreeze hs, keepsForm_execEvread hs, keepsForm_execEvunfreeze hs,
      keepsForm_execEvclear hs, keepsForm_execDumpread hs, keepsForm_execSpHold hs, keepsForm_execSpResume hs, keepsForm_execSpStep hs,
      keepsForm_execBrkset hs, keepsForm_execBrkclr hs, keepsForm_execAuChallenge hs, keepsForm_execAuResponse hs, keepsForm_execAuRelinquish hs,
      keepsForm_execKeyset hs, keepsForm_execKeyclr hs, keepsForm_execExchangeTimeout hs, keepsForm_execGrantExpiry hs, keepsForm_execLockoutEnd hs,
      keepsForm_execManagementPauseEnd hs, keepsForm_execSettingsConversionDone hs, keepsForm_execFdieUpdatePauseEnd hs,
      keepsForm_execFcoreRestartDone hs, keepsForm_execSpCfgWrite hs, keepsForm_execSpMacWrite hs, keepsForm_execRegisterRead hs,
      keepsForm_execConfigurationRequest hs, keepsForm_execDieLinkRestored hs, keepsForm_execSpFrameDiscard hs]

/-! ### The step -/

theorem keepsForm_step {s : State} (hs : HasForm s) : KeepsForm (step s) := by
  cases hp : s.pending with
  | nil =>
    rw [step_nil hp]
    exact keepsForm_next (form_elapse hs)
  | cons c rest =>
    rw [step_cons hp]
    exact keepsForm_exec (form_with_pending hs)

/-- Settles O2: every command's meaning is built from operations that keep the form. `witness_StepKeepsCanonicalForm` meets the premises. -/
theorem stepKeepsCanonicalForm : Obligations.StepKeepsCanonicalForm := fun _ t hs hstep => keepsForm_step hs t hstep

end Sys2Proof.Machine
end
